-- ==== Sys2Proof/Word.lean ====
section
/-! DEFINITION. The word types of the module: 64-bit register words and bytes (R15), and the integers between them. -/

namespace Sys2Proof

/-- A byte (R10). -/
abbrev Byte := BitVec 8

/-- A 64-bit register or memory word (R15). -/
abbrev Word := BitVec 64

/-- A 32-bit value: an FP32 number, a vector lane or a scale register. -/
abbrev Word32 := BitVec 32

end Sys2Proof
end

