-- ==== Sys2Proof/Syntax.lean ====
section
/-! DEFINITION. Syntax: the commands of the Trador T24 module, one constructor of `Instr` for each row of
spec/opcode_table.json, and the data that commands carry. A row of a core instruction carries the core that issues
it and bits 55:0 of the 64-bit word the core fetched at its program counter (R84); the constructor fixes OPCODE
(and, for RLD, RST, RATOM and RRED, the OP field of Tables 9.1 and 9.2). A row of a packet carries the whole packet
(R265); the constructor fixes MSG_TYPE. A row of an Igrin command carries the message bytes of Table 13.9 or the
packet that holds them (R428, R429); the constructor fixes COMMAND. -/

namespace Sys2Proof

/-- A logical core: tile 0–23 and core 0–63 (Table 0.6, R9). -/
structure CoreRef where
  tile : Fin 24
  core : Fin 64
  deriving DecidableEq, Repr

/-- Who makes a register access or sends a command (R428, R431): a fabric source by module and tile, the service
port, the keeper itself, a SYSTEM kernel, or the service firmware. -/
inductive Requester where
  | fabric (module : BitVec 14) (tile : BitVec 5)
  | servicePort
  | keeper
  | systemKernel (tile : Fin 24) (core : Fin 64)
  | firmware
  deriving DecidableEq, Repr

/-- A Yostad packet: the eight little-endian header words of Table 8.3 and the payload bytes, pad included. -/
structure Packet where
  w0 : BitVec 64
  w1 : BitVec 64
  w2 : BitVec 64
  w3 : BitVec 64
  w4 : BitVec 64
  w5 : BitVec 64
  w6 : BitVec 64
  w7 : BitVec 64
  payload : List (BitVec 8)
  deriving DecidableEq, Repr

/-- The eight staged words of a residency, admission or region command (Tables 6.8, 7.14; words 0–3 of R326). -/
structure CmdDesc where
  w0 : BitVec 64
  w1 : BitVec 64
  w2 : BitVec 64
  w3 : BitVec 64
  w4 : BitVec 64
  w5 : BitVec 64
  w6 : BitVec 64
  w7 : BitVec 64
  deriving DecidableEq, Repr

/-- An Igrin message: its bytes over the service port, or the MANAGEMENT packet that carries it (R428, R429). -/
inductive IgrinIn where
  | port (bytes : List (BitVec 8))
  | packet (p : Packet)
  deriving DecidableEq, Repr

/-- What a slice access does with its 128-byte line (R157, R158). -/
inductive SliceOp where
  | read
  | writeLine (data : List (BitVec 8))
  | writePart (off : Fin 128) (data : List (BitVec 8))
  deriving DecidableEq, Repr

/-- The symbols of the 160-symbol codeword that arrive in error on an access, with their error pattern (R161). -/
abbrev SymbolErrors := List (Fin 160 × BitVec 8)

/-- The command lanes that fail on an access: none, one (corrected) or two and more (R156). -/
abbrev CommandLanes := List (Fin 64)

/-- What a running retraining finds (R165, R167): the lanes whose eye fails, by layer and lane, and whether the
erased layer passes its pattern test. -/
structure RetrainResult where
  failedLanes : List (Fin 16 × BitVec 7)
  patternOk : Bool
  deriving DecidableEq, Repr

/-- A flow as one end names it (R275): the other module and tile, the class (0 management, 1 request, 2 forward,
3 reply), and the group of a multicast flow (R292). -/
structure FlowKey where
  peerModule : BitVec 14
  peerTile : BitVec 5
  cls : BitVec 2
  group : Option (BitVec 12)
  deriving DecidableEq, Repr

/-- Flits received on one virtual channel, from its reserved credits or from the shared pool (R263, R270); on VC0, from
the half kept for replies when `pool` is true. -/
structure FlitCount where
  vc : Fin 16
  pool : Bool
  n : Nat
  deriving DecidableEq, Repr

/-- The link-control flit of Table 8.2. -/
structure LinkControl where
  superframe : BitVec 16
  flags : BitVec 8
  retShared : BitVec 16
  sentShared : BitVec 16
  ret : List (BitVec 16)
  sent : List (BitVec 16)
  deriving DecidableEq, Repr

/-- The largest values that the calibration steps of MEASURE find (R237). -/
structure MeasureFound where
  stepNs : Nat
  rerunNs : Nat
  opMaxNs : Nat
  deriving DecidableEq, Repr

/-- The samples of one housekeeping round (Table 12.3) and the converter's validity bit of each channel. -/
structure HkSample where
  value : List (BitVec 16)
  valid : BitVec 64
  deriving DecidableEq, Repr

/-- The one action of a placement hint (R211). -/
inductive HintAction where
  | prefer (tile : Fin 24) (core : Fin 64)
  | prefetch
  | evict
  deriving DecidableEq, Repr

/-- A placement hint (R211): an address space, a first page, a page count and one action. -/
structure Hint where
  space : BitVec 12
  vpn : BitVec 32
  pages : Nat
  action : HintAction
  deriving DecidableEq, Repr

/-- The counters block that a CNT_CLEAR clears (R459). -/
inductive CounterBlock where
  | core (at_ : CoreRef)
  | tile (t : Fin 24)
  | hearth
  deriving DecidableEq, Repr

/-- What a serving tile reads in the engine descriptor of an engine: the items of Table 11.8 (`gridOk`: the frequencies are those of
R256), and what UCIe offers: the rates and widths at which the link trains, the modules of the link and the streaming protocol (R30, R383,
R384). -/
structure EngineDesc where
  vendor : BitVec 16
  product : BitVec 16
  strands : BitVec 8
  wavelengths : BitVec 8
  gridOk : Bool
  pam4At32 : Bool
  framedByModule : Bool
  txSpares : BitVec 8
  rxSpares : BitVec 8
  biasMonitors : BitVec 8
  reach : BitVec 16
  trains32 : Bool
  trains16 : Bool
  x64 : Bool
  x32 : Bool
  modules : BitVec 8
  streaming : Bool
  deriving DecidableEq, Repr

/-- The contents of the starter flash of Table 13.3: two copies, and two copies of each record. -/
structure FlashImage where
  copyA : List (BitVec 8)
  copyB : List (BitVec 8)
  counter0 : List (BitVec 8)
  counter1 : List (BitVec 8)
  sparing0 : List (BitVec 8)
  sparing1 : List (BitVec 8)
  trip0 : List (BitVec 8)
  trip1 : List (BitVec 8)
  deriving DecidableEq, Repr

/-- A die-to-die link, named by a tile and an edge (north, east, south, west), that fails training at 32 GT/s, or whose lane repair fails
(Table 1.2). -/
structure D2dTrain where
  tile : Fin 24
  edge : Fin 4
  slow : Bool
  narrow : Bool
  deriving DecidableEq, Repr

/-- The JESD216 parameters of a flash device that bear on R420: its size in MiB, 64 KiB erase, 4-byte addresses, and the clock in MHz up to
which it advertises 1-4-4 fast reads with them (0: none). -/
structure FlashParams where
  mib : BitVec 16
  erase64 : Bool
  addr4 : Bool
  fast144 : BitVec 9
  deriving DecidableEq, Repr

/-- What the start-up sequence meets outside the module's own state (Table 13.7): the check of the one-time store,
the flash's JESD216 parameters (R420; none: it reports none), the flash on the carrier (none: as it was), the reference, the address straps, the
tiles that fail a step (cause of TILE_OUT), the die-to-die links that train reduced, the lanes whose eye fails in training (Table 5.5),
the temperatures in 1/16 °C of the stacks that do not start inside the write window (R171), and the engine descriptors. -/
structure StartEnv where
  otpOk : Bool
  sfdp : Option FlashParams
  flash : Option FlashImage
  refGood : Bool
  addr0 : Bool
  addr1 : Bool
  tileFail : List (Fin 24 × Fin 4)
  d2dReduced : List D2dTrain
  failedLanes : List (CoreRef × Fin 16 × BitVec 7)
  stackTemp : List (Fin 24 × BitVec 16)
  engines : List (Fin 20 × EngineDesc)
  deriving DecidableEq, Repr

/-- The signals whose fall acts as a reset (R481). -/
inductive ResetPin where
  | resetN
  | pwrGood
  deriving DecidableEq, Repr

/-- How a test bake ends (R375): the spare's output agrees with the original's, differs from it, or the spare falls behind. -/
inductive BakeEnd where
  | agrees
  | differs
  | behind
  deriving DecidableEq, Repr

/-- The instructions that IEEE 1149.1 makes mandatory here (R479), and any other. -/
inductive JtagIns where
  | bypass
  | samplePreload
  | extest
  | idcode
  | other (code : BitVec 8)
  deriving DecidableEq, Repr

/-- The levels of the signal pins of the service connector, in the order of Table 15.6: bits 0–16 are SMB_CLK, SMB_DAT, SMB_ALERT_N,
SMB_ADDR0, SMB_ADDR1, REFCLK_P, REFCLK_N, PWR_GOOD, RESET_N, THERM_TRIP_N, EMERG_THROTTLE_N, SPI_CLK, SPI_CS_N and SPI_IO0–SPI_IO3. The
test access port's own five pins and the supplies are none of them. DESIGN CHOICE (log entry 115). -/
abbrev PinLevels := BitVec 17

/-- An instruction scan of the test access ports: an instruction for each of the 25, the hearth's first, the boundary-scan word that is
shifted in, and the levels of the connector's pins. -/
structure JtagScan where
  chain : List JtagIns
  shift : PinLevels
  levels : PinLevels
  deriving DecidableEq, Repr

/-- A request of the service firmware for registers, with its code (Table 13.1). -/
structure RegRequest where
  code : BitVec 8
  addrs : List (BitVec 64)
  deriving DecidableEq, Repr

/-- What is found with a block of a collective: the strand that brought it, when its packet comes from another module, and the adder whose
output mismatches, if any (R349): 0–3 die-to-die north, east, south, west, 4 and 5 crust of the lower and higher engine, 6 bench-side. -/
structure CollFault where
  strand : Fin 160
  adder : Option (Fin 7)
  deriving DecidableEq, Repr

/-- The commands of the module, one constructor for each row of the table of operations and events. -/
inductive Instr where
  /-- REGISTER_WRITE (R17): A write to a register that has no row of its own; reserved encodings, unmapped offsets and level-of-control checks decide whether it takes effect. -/
  | registerWrite (rq : Requester) (addr : BitVec 64) (val : BitVec 64)
  /-- PASS (R55): The PASS instruction reads a pass descriptor from the bench, validates it, enqueues it with its write locks and returns a ticket. -/
  | kPass (at_ : CoreRef) (w : BitVec 56)
  /-- PASS_DESC_SUBMIT (R78): A write of word 7 of PASS_DESC submits the requester's eight staged words as one pass descriptor and clears the staging buffer. -/
  | passDescSubmit (rq : Requester) (at_ : CoreRef) (array : Fin 2) (word7 : BitVec 64)
  /-- PASS_ACTIVATE (R69): A queued pass becomes active once the earlier drains it depends on have ended, and the core takes the generator snapshot. -/
  | passActivate (at_ : CoreRef) (array : Fin 2)
  /-- DRAIN_BEGIN (R51): A pass ends its K cycles: the accumulators switch, the drain starts and the bench locks end. -/
  | drainBegin (at_ : CoreRef) (array : Fin 2)
  /-- PASS_COMPLETE (R79): A drain ends; the pass frees its queue entry, ends its scale locks and posts its completion with OK or SATURATED. -/
  | passComplete (at_ : CoreRef) (array : Fin 2)
  /-- RESIDUE_MISMATCH (R74): A cell detects a residue mismatch; the active pass is stopped and re-issued, or on a second mismatch the array goes out of service. -/
  | residueMismatch (at_ : CoreRef) (array : Fin 2) (row : Fin 64) (col : Fin 64)
  /-- STOP (R70): A write of STOP in PASS_CTRL stops, discards and re-issues the array's active pass. -/
  | passStop (rq : Requester) (at_ : CoreRef) (array : Fin 2)
  /-- FLUSH (R70): A write of FLUSH in PASS_CTRL ends the array's active and queued passes with WITHDRAWN. -/
  | passFlush (rq : Requester) (at_ : CoreRef) (array : Fin 2)
  /-- ARRAY_DISABLE (R80): A write of 0 to an array's enable bit takes the array out of service with steps 1-3 of R74. -/
  | arrayDisable (rq : Requester) (at_ : CoreRef) (array : Fin 2)
  /-- ARRAY_ENABLE (R80): A write of 1 to an array's enable bit returns an array that a write of 0 took out. -/
  | arrayEnable (rq : Requester) (at_ : CoreRef) (array : Fin 2)
  /-- THROTTLE_STEP_TIMEOUT (R70): Eight microseconds after an ordinary throttle request, passes still active are stopped and the step takes effect. -/
  | throttleStepTimeout (tile : Fin 24) (group : Fin 4)
  /-- CLOCK_CHANGE_COMPLETE (R394): A group's PLL reaches its new frequency, the clock restarts and stopped passes re-issue. -/
  | clockChangeComplete (tile : Fin 24) (group : Fin 4)
  /-- KERNEL_START (R82): The core starts a kernel: it loads the argument registers, clears the state, seeds the generator and issues at ENTRY. -/
  | kernelStart (at_ : CoreRef)
  /-- NOP (R87): No operation. -/
  | kNop (at_ : CoreRef) (w : BitVec 56)
  /-- ADD (R87): Writes the 64-bit sum of two general registers. -/
  | kAdd (at_ : CoreRef) (w : BitVec 56)
  /-- SUB (R87): Writes the 64-bit difference of two general registers. -/
  | kSub (at_ : CoreRef) (w : BitVec 56)
  /-- MUL (R87): Writes the low 64 bits of a product. -/
  | kMul (at_ : CoreRef) (w : BitVec 56)
  /-- MULHU (R87): Writes the high 64 bits of an unsigned product. -/
  | kMulhu (at_ : CoreRef) (w : BitVec 56)
  /-- AND (R87): Writes the bitwise AND of two general registers. -/
  | kAnd (at_ : CoreRef) (w : BitVec 56)
  /-- OR (R87): Writes the bitwise OR of two general registers. -/
  | kOr (at_ : CoreRef) (w : BitVec 56)
  /-- XOR (R87): Writes the bitwise XOR of two general registers. -/
  | kXor (at_ : CoreRef) (w : BitVec 56)
  /-- SHL (R87): Writes a register shifted left by a register amount. -/
  | kShl (at_ : CoreRef) (w : BitVec 56)
  /-- SHR (R87): Writes a register shifted logically right by a register amount. -/
  | kShr (at_ : CoreRef) (w : BitVec 56)
  /-- SRA (R87): Writes a register shifted arithmetically right by a register amount. -/
  | kSra (at_ : CoreRef) (w : BitVec 56)
  /-- MIN (R87): Writes the signed minimum of two registers. -/
  | kMin (at_ : CoreRef) (w : BitVec 56)
  /-- MAX (R87): Writes the signed maximum of two registers. -/
  | kMax (at_ : CoreRef) (w : BitVec 56)
  /-- SEL (R87): Selects one of two registers by a predicate. -/
  | kSel (at_ : CoreRef) (w : BitVec 56)
  /-- CLZ (R87): Writes the count of leading zero bits of a register. -/
  | kClz (at_ : CoreRef) (w : BitVec 56)
  /-- POPC (R87): Writes the count of one bits of a register. -/
  | kPopc (at_ : CoreRef) (w : BitVec 56)
  /-- ADDI (R87): Adds a sign-extended immediate. -/
  | kAddi (at_ : CoreRef) (w : BitVec 56)
  /-- ANDI (R87): ANDs a zero-extended immediate. -/
  | kAndi (at_ : CoreRef) (w : BitVec 56)
  /-- ORI (R87): ORs a zero-extended immediate. -/
  | kOri (at_ : CoreRef) (w : BitVec 56)
  /-- XORI (R87): XORs a zero-extended immediate. -/
  | kXori (at_ : CoreRef) (w : BitVec 56)
  /-- SHLI (R87): Shifts a register left by an immediate. -/
  | kShli (at_ : CoreRef) (w : BitVec 56)
  /-- SHRI (R87): Shifts a register logically right by an immediate. -/
  | kShri (at_ : CoreRef) (w : BitVec 56)
  /-- SRAI (R87): Shifts a register arithmetically right by an immediate. -/
  | kSrai (at_ : CoreRef) (w : BitVec 56)
  /-- MULI (R87): Multiplies a register by an immediate. -/
  | kMuli (at_ : CoreRef) (w : BitVec 56)
  /-- LI (R87): Loads a sign-extended immediate. -/
  | kLi (at_ : CoreRef) (w : BitVec 56)
  /-- LIH (R87): Loads an immediate into the high 32 bits of a register. -/
  | kLih (at_ : CoreRef) (w : BitVec 56)
  /-- CMPEQ (R87): Sets a predicate when two registers are equal. -/
  | kCmpeq (at_ : CoreRef) (w : BitVec 56)
  /-- CMPLT (R87): Sets a predicate on a signed less-than comparison. -/
  | kCmplt (at_ : CoreRef) (w : BitVec 56)
  /-- CMPLTU (R87): Sets a predicate on an unsigned less-than comparison. -/
  | kCmpltu (at_ : CoreRef) (w : BitVec 56)
  /-- CMPEQI (R87): Sets a predicate when a register equals an immediate. -/
  | kCmpeqi (at_ : CoreRef) (w : BitVec 56)
  /-- CMPLTI (R87): Sets a predicate when a register is below an immediate, signed. -/
  | kCmplti (at_ : CoreRef) (w : BitVec 56)
  /-- PAND (R87): ANDs two predicates. -/
  | kPand (at_ : CoreRef) (w : BitVec 56)
  /-- POR (R87): ORs two predicates. -/
  | kPor (at_ : CoreRef) (w : BitVec 56)
  /-- PNOT (R87): Inverts a predicate. -/
  | kPnot (at_ : CoreRef) (w : BitVec 56)
  /-- BR (R87): Branches by a displacement. -/
  | kBr (at_ : CoreRef) (w : BitVec 56)
  /-- CALL (R87): Writes a link register and branches. -/
  | kCall (at_ : CoreRef) (w : BitVec 56)
  /-- JR (R87): Jumps to the address in a register. -/
  | kJr (at_ : CoreRef) (w : BitVec 56)
  /-- LOOP (R87): Decrements a counter register and branches while it is nonzero. -/
  | kLoop (at_ : CoreRef) (w : BitVec 56)
  /-- END (R105): Ends the kernel: issue stops, and issued work is allowed to finish. -/
  | kEnd (at_ : CoreRef) (w : BitVec 56)
  /-- LD (R90): Loads bench bytes, zero-extended. -/
  | kLd (at_ : CoreRef) (w : BitVec 56)
  /-- LDS (R90): Loads bench bytes, sign-extended. -/
  | kLds (at_ : CoreRef) (w : BitVec 56)
  /-- ST (R99): Stores bytes to the bench, subject to write locks. -/
  | kSt (at_ : CoreRef) (w : BitVec 56)
  /-- LDC (R90): Loads bytes from the constant section. -/
  | kLdc (at_ : CoreRef) (w : BitVec 56)
  /-- RLD_LOAD (R301): Issues a remote load of a tin virtual address, zero-extended. -/
  | kRldLoad (at_ : CoreRef) (w : BitVec 56)
  /-- RLD_LOAD_SIGNED (R301): Issues a remote load of a tin virtual address, sign-extended. -/
  | kRldLoadSigned (at_ : CoreRef) (w : BitVec 56)
  /-- RST_STORE (R301): Issues a remote store to a tin virtual address. -/
  | kRstStore (at_ : CoreRef) (w : BitVec 56)
  /-- RST_MCAST_STORE (R323): Issues a multicast store to every member of a group. -/
  | kRstMcastStore (at_ : CoreRef) (w : BitVec 56)
  /-- RATOM_ADD (R301): Issues a remote atomic add that returns the old value. -/
  | kRatomAdd (at_ : CoreRef) (w : BitVec 56)
  /-- RATOM_AND (R301): Issues a remote atomic AND. -/
  | kRatomAnd (at_ : CoreRef) (w : BitVec 56)
  /-- RATOM_OR (R301): Issues a remote atomic OR. -/
  | kRatomOr (at_ : CoreRef) (w : BitVec 56)
  /-- RATOM_XOR (R301): Issues a remote atomic XOR. -/
  | kRatomXor (at_ : CoreRef) (w : BitVec 56)
  /-- RATOM_MIN (R301): Issues a remote atomic signed minimum. -/
  | kRatomMin (at_ : CoreRef) (w : BitVec 56)
  /-- RATOM_MAX (R301): Issues a remote atomic signed maximum. -/
  | kRatomMax (at_ : CoreRef) (w : BitVec 56)
  /-- RATOM_MINU (R301): Issues a remote atomic unsigned minimum. -/
  | kRatomMinu (at_ : CoreRef) (w : BitVec 56)
  /-- RATOM_MAXU (R301): Issues a remote atomic unsigned maximum. -/
  | kRatomMaxu (at_ : CoreRef) (w : BitVec 56)
  /-- RATOM_SWAP (R301): Issues a remote atomic swap. -/
  | kRatomSwap (at_ : CoreRef) (w : BitVec 56)
  /-- RATOM_CAS (R301): Issues a remote compare-and-swap. -/
  | kRatomCas (at_ : CoreRef) (w : BitVec 56)
  /-- RATOM_FADD (R301): Issues a remote atomic FP32 add that returns the old value. -/
  | kRatomFadd (at_ : CoreRef) (w : BitVec 56)
  /-- RRED_ADD (R301): Issues a reduce-into-remote integer add. -/
  | kRredAdd (at_ : CoreRef) (w : BitVec 56)
  /-- RRED_AND (R301): Issues a reduce-into-remote AND. -/
  | kRredAnd (at_ : CoreRef) (w : BitVec 56)
  /-- RRED_OR (R301): Issues a reduce-into-remote OR. -/
  | kRredOr (at_ : CoreRef) (w : BitVec 56)
  /-- RRED_XOR (R301): Issues a reduce-into-remote XOR. -/
  | kRredXor (at_ : CoreRef) (w : BitVec 56)
  /-- RRED_MIN (R301): Issues a reduce-into-remote signed minimum. -/
  | kRredMin (at_ : CoreRef) (w : BitVec 56)
  /-- RRED_MAX (R301): Issues a reduce-into-remote signed maximum. -/
  | kRredMax (at_ : CoreRef) (w : BitVec 56)
  /-- RRED_MINU (R301): Issues a reduce-into-remote unsigned minimum. -/
  | kRredMinu (at_ : CoreRef) (w : BitVec 56)
  /-- RRED_MAXU (R301): Issues a reduce-into-remote unsigned maximum. -/
  | kRredMaxu (at_ : CoreRef) (w : BitVec 56)
  /-- RRED_FADD_RED (R301): Issues a reduce-into-remote FP32 add. -/
  | kRredFaddRed (at_ : CoreRef) (w : BitVec 56)
  /-- VADD (R89): Adds vectors lane by lane. -/
  | kVadd (at_ : CoreRef) (w : BitVec 56)
  /-- VSUB (R89): Subtracts vectors lane by lane. -/
  | kVsub (at_ : CoreRef) (w : BitVec 56)
  /-- VMUL (R89): Multiplies vectors lane by lane. -/
  | kVmul (at_ : CoreRef) (w : BitVec 56)
  /-- VFMA (R89): Performs a fused multiply-add lane by lane. -/
  | kVfma (at_ : CoreRef) (w : BitVec 56)
  /-- VMAX (R89): Takes the lane-wise maximum. -/
  | kVmax (at_ : CoreRef) (w : BitVec 56)
  /-- VMIN (R89): Takes the lane-wise minimum. -/
  | kVmin (at_ : CoreRef) (w : BitVec 56)
  /-- VEXP2 (R89): Computes the correctly rounded exp2 of each lane. -/
  | kVexp2 (at_ : CoreRef) (w : BitVec 56)
  /-- VRCP (R89): Computes the correctly rounded reciprocal of each lane. -/
  | kVrcp (at_ : CoreRef) (w : BitVec 56)
  /-- VRSQRT (R89): Computes the correctly rounded reciprocal square root of each lane. -/
  | kVrsqrt (at_ : CoreRef) (w : BitVec 56)
  /-- VCMPLT (R89): Performs a signalling less-than comparison per lane. -/
  | kVcmplt (at_ : CoreRef) (w : BitVec 56)
  /-- VSEL (R87): Selects lanes by a mask vector. -/
  | kVsel (at_ : CoreRef) (w : BitVec 56)
  /-- VBCAST (R87): Broadcasts a general register into every lane. -/
  | kVbcast (at_ : CoreRef) (w : BitVec 56)
  /-- VRMAX (R89): Writes the maximum over all lanes to a general register. -/
  | kVrmax (at_ : CoreRef) (w : BitVec 56)
  /-- VRSUM (R89): Writes the pairwise tree sum of all lanes to a general register. -/
  | kVrsum (at_ : CoreRef) (w : BitVec 56)
  /-- VMOV (R87): Copies a vector register. -/
  | kVmov (at_ : CoreRef) (w : BitVec 56)
  /-- VCVTI (R89): Converts FP32 to signed integer with saturation. -/
  | kVcvti (at_ : CoreRef) (w : BitVec 56)
  /-- VCVTF (R89): Converts signed integer to FP32. -/
  | kVcvtf (at_ : CoreRef) (w : BitVec 56)
  /-- VEXTR (R116): Extracts one lane into a general register. -/
  | kVextr (at_ : CoreRef) (w : BitVec 56)
  /-- VINS (R116): Inserts a general register into one lane. -/
  | kVins (at_ : CoreRef) (w : BitVec 56)
  /-- VAND (R87): ANDs vectors bitwise. -/
  | kVand (at_ : CoreRef) (w : BitVec 56)
  /-- KLD (R87): Reads a scale register. -/
  | kKld (at_ : CoreRef) (w : BitVec 56)
  /-- KST (R134): Writes a scale register within the kernel's write window, waiting on scale locks. -/
  | kKst (at_ : CoreRef) (w : BitVec 56)
  /-- VKLD (R87): Reads 64 consecutive scale registers into a vector. -/
  | kVkld (at_ : CoreRef) (w : BitVec 56)
  /-- VKST (R134): Writes 64 consecutive scale registers from a vector. -/
  | kVkst (at_ : CoreRef) (w : BitVec 56)
  /-- VLD (R90): Loads 256 bench bytes into a vector register. -/
  | kVld (at_ : CoreRef) (w : BitVec 56)
  /-- VST (R99): Stores a vector register to 256 bench bytes. -/
  | kVst (at_ : CoreRef) (w : BitVec 56)
  /-- VLDQ (R132): Loads 64 narrow elements with their block scales and widens them to FP32. -/
  | kVldq (at_ : CoreRef) (w : BitVec 56)
  /-- VSTQ (R132): Converts a vector to a narrow format and stores its elements and block shifts. -/
  | kVstq (at_ : CoreRef) (w : BitVec 56)
  /-- MOVE (R96): Issues a move descriptor to the move engine and returns a ticket. -/
  | kMove (at_ : CoreRef) (w : BitVec 56)
  /-- MOVE_COMPLETE (R97): A move ends; its code is held for WAIT, NOTIFY sets a wake bit and a failure raises MOVE_FAILED. -/
  | moveComplete (at_ : CoreRef) (ticket : BitVec 64)
  /-- CRUMB (R332): Issues a crumb descriptor to the crumb engine for a group round. -/
  | kCrumb (at_ : CoreRef) (w : BitVec 56)
  /-- LINKOP (R346): Issues a link-adder descriptor, locks its ranges and starts a collective step. -/
  | kLinkop (at_ : CoreRef) (w : BitVec 56)
  /-- WAIT (R93): Waits for a class up to a ticket and writes the merged code. -/
  | kWait (at_ : CoreRef) (w : BitVec 56)
  /-- WAIT_UNBLOCK (R93): A blocked WAIT returns once every operation up to its ticket has ended. -/
  | waitUnblock (at_ : CoreRef)
  /-- POLL (R93): Tests a ticket without waiting and sets a predicate. -/
  | kPoll (at_ : CoreRef) (w : BitVec 56)
  /-- FENCE (R102): Waits until every earlier operation of the masked classes has ended. -/
  | kFence (at_ : CoreRef) (w : BitVec 56)
  /-- FENCE_UNBLOCK (R102): A blocked FENCE returns when the last masked operation ends. -/
  | fenceUnblock (at_ : CoreRef)
  /-- YIELD (R108): A yield point at which the kernel may be pre-empted. -/
  | kYield (at_ : CoreRef) (w : BitVec 56)
  /-- WAITWAKE (R98): Waits for a masked wake-pending bit; also a yield point. -/
  | kWaitwake (at_ : CoreRef) (w : BitVec 56)
  /-- WAITWAKE_UNBLOCK (R98): A blocked WAITWAKE returns when a masked wake bit is set, and clears it. -/
  | waitwakeUnblock (at_ : CoreRef)
  /-- RSR (R103): Reads a special register. -/
  | kRsr (at_ : CoreRef) (w : BitVec 56)
  /-- WSR (R103): Writes a writable special register. -/
  | kWsr (at_ : CoreRef) (w : BitVec 56)
  /-- GEO (R115): Reads a geometry register of the local tile. -/
  | kGeo (at_ : CoreRef) (w : BitVec 56)
  /-- ABORT (R104): Takes the ABORT trap and records its immediate. -/
  | kAbort (at_ : CoreRef) (w : BitVec 56)
  /-- BRK (R107): Halts the kernel for the debugger while a DEBUG enable is in force; otherwise traps. -/
  | kBrk (at_ : CoreRef) (w : BitVec 56)
  /-- TRAP (R104): An instruction meets a trap cause; the kernel stops, passes are flushed and unstarted moves are cancelled. -/
  | kTrap (at_ : CoreRef) (w : BitVec 64)
  /-- GAP_EXCEEDED (R110): The cycle count since the last yield point exceeds MAX_YIELD_GAP and the kernel traps. -/
  | gapExceeded (at_ : CoreRef)
  /-- KERNEL_END_COMPLETE (R105): After END or a trap, outstanding work has ended; locks are released and the end is reported to the dispatcher with one code. -/
  | kernelEndComplete (at_ : CoreRef)
  /-- PREEMPT_SAVE_COMPLETE (R109): The save record is written and the core reports the save to the dispatcher. -/
  | preemptSaveComplete (at_ : CoreRef)
  /-- RESUME (R109): On the dispatcher's order, the core restores a save record and continues after the yield point. -/
  | resumeKernel (at_ : CoreRef) (slot : Fin 15)
  /-- AMAX_CFG_WRITE (R150): A write of a tracker's configuration clears its state, or is held until the next kernel end or save. -/
  | amaxCfgWrite (rq : Requester) (at_ : CoreRef) (tracker : Fin 256) (val : BitVec 64)
  /-- SCALE_K_WRITE (R135): A control-space write of a scale register waits on scale locks and is then applied. -/
  | scaleKWrite (rq : Requester) (at_ : CoreRef) (n : Fin 4096) (val : BitVec 32)
  /-- LOCK_WAIT_TIMEOUT (R68): A remote or register-path write that waits on a lock for 32 µs ends with RETRY_LATER. -/
  | lockWaitTimeout (at_ : CoreRef)
  /-- WIDE_CHARGE_WINDOW_END (R148): A window of 1,024 steps ends; a tin whose charges exceed its allowance twice in a row is pinned wide. -/
  | wideChargeWindowEnd (tin : BitVec 12)
  /-- SLICE_ACCESS (R158): The slice controller performs one line access in its slot and decodes it with the symbol code. -/
  | sliceAccess (tile : Fin 24) (slice : Fin 64) (line : BitVec 24) (op : SliceOp) (errs : SymbolErrors) (cmd : CommandLanes)
  /-- REFRESH_COMMAND (R168): A scheduled refresh command of a slice occupies its fixed slots. -/
  | refreshCommand (tile : Fin 24) (slice : Fin 64)
  /-- SELF_REFRESH_ENTRY (R170): After 10 µs without access while the core sleeps, the slice enters self-refresh. -/
  | selfRefreshEntry (tile : Fin 24) (slice : Fin 64)
  /-- SCRUB_READ (R175): The scrubber reads the next line in an idle or reserved slot. -/
  | scrubRead (tile : Fin 24) (slice : Fin 64) (errs : SymbolErrors)
  /-- SCRUB_WRITEBACK (R175): A corrected scrub line is written back in the next idle slot. -/
  | scrubWriteback (tile : Fin 24) (slice : Fin 64)
  /-- FULL_RETRAINING (R167): START 1 in SLICE_TRAIN_CTRL takes a lease and retrains a slice. -/
  | fullRetraining (rq : Requester) (tile : Fin 24) (slice : Fin 64)
  /-- SPARE_SWITCH_IN (R167): START 2 in SLICE_TRAIN_CTRL switches a spare lane in for a named lane. -/
  | spareSwitchIn (rq : Requester) (tile : Fin 24) (slice : Fin 64) (layer : Fin 16) (lane : BitVec 7)
  /-- SLICE_RETRAIN_DONE (R167): A running retraining ends, records RESULT and releases its lease. -/
  | sliceRetrainDone (tile : Fin 24) (slice : Fin 64) (result : RetrainResult)
  /-- STACK_CTRL_WRITE (R183): A write to the slot shares of the stack is checked and applied at the next frame. -/
  | stackCtrlWrite (rq : Requester) (tile : Fin 24) (val : BitVec 64)
  /-- HELD_WRITE_TIMEOUT (R172): A remote write that waits 32 µs for a held-write queue entry ends with RETRY_LATER. -/
  | heldWriteTimeout (tile : Fin 24) (slice : Fin 64)
  /-- PAGE_FILL_COMPLETE (R191): The page mover finishes filling a frame; the entry becomes PAGE and waiting accesses proceed. -/
  | pageFillComplete (tile : Fin 24) (xfer : Nat) (badShards : Nat)
  /-- INVALIDATION_ROUND_COMPLETE (R195): Every tile has acknowledged an invalidation round, and the frame may be reused. -/
  | invalidationRoundComplete (tile : Fin 24)
  /-- PAGE_MOVE_COMPLETE (R207): The page mover writes the last line of a moved page, and the entry is switched to the new frame. -/
  | pageMoveComplete (tile : Fin 24) (xfer : Nat) (readable : Bool)
  /-- MOVE_HOLD_TIMEOUT (R208): A page move that waits 32 µs on a write hold is rolled back and queued again. -/
  | moveHoldTimeout (tile : Fin 24) (xfer : Nat)
  /-- BACKGROUND_COMPACTION (R202): The residency manager compacts a slice whose free aligned runs fall below LOW_RUNS. -/
  | backgroundCompaction (tile : Fin 24) (slice : Fin 64)
  /-- HINT_APPLY (R211): The residency manager applies or drops a queued placement hint within its limits. -/
  | hintApply (tile : Fin 24)
  /-- CREATE_SPACE (R204): Creates an empty address space and sets its quota. -/
  | resCreateSpace (rq : Requester) (tile : Fin 24) (desc : CmdDesc)
  /-- DESTROY_SPACE (R204): Withdraws an address space and frees its frames and tables. -/
  | resDestroySpace (rq : Requester) (tile : Fin 24) (desc : CmdDesc)
  /-- SET_QUOTA (R200): Sets the frame quota of an address space in every tile. -/
  | resSetQuota (rq : Requester) (tile : Fin 24) (desc : CmdDesc)
  /-- MAP (R205): Maps a range as ABSENT with a fill code and permissions. -/
  | resMap (rq : Requester) (tile : Fin 24) (desc : CmdDesc)
  /-- UNMAP (R205): Unmaps a range, runs an invalidation round and frees its frames. -/
  | resUnmap (rq : Requester) (tile : Fin 24) (desc : CmdDesc)
  /-- PROTECT (R205): Replaces the permissions of a range and runs an invalidation round. -/
  | resProtect (rq : Requester) (tile : Fin 24) (desc : CmdDesc)
  /-- PIN (R204): Makes a range resident and sets PINNED. -/
  | resPin (rq : Requester) (tile : Fin 24) (desc : CmdDesc)
  /-- UNPIN (R204): Clears PINNED on a range. -/
  | resUnpin (rq : Requester) (tile : Fin 24) (desc : CmdDesc)
  /-- PREFETCH (R204): Makes every ABSENT page of a range resident. -/
  | resPrefetch (rq : Requester) (tile : Fin 24) (desc : CmdDesc)
  /-- EVICT (R201): Evicts every evictable page of a range. -/
  | resEvict (rq : Requester) (tile : Fin 24) (desc : CmdDesc)
  /-- MIGRATE (R204): Moves the resident pages of a range to a placement. -/
  | resMigrate (rq : Requester) (tile : Fin 24) (desc : CmdDesc)
  /-- GRANT (R204): Grants or revokes one shared segment for an address space. -/
  | resGrant (rq : Requester) (tile : Fin 24) (desc : CmdDesc)
  /-- ENCODE (R215): Encodes a range into a new erasure-coded shard set. -/
  | resEncode (rq : Requester) (tile : Fin 24) (desc : CmdDesc)
  /-- REBUILD (R390): Rebuilds one shard of a stripe into a new location. -/
  | resRebuild (rq : Requester) (tile : Fin 24) (desc : CmdDesc)
  /-- VERIFY (R204): Reads every valid shard of a set and checks its CRC-32C. -/
  | resVerify (rq : Requester) (tile : Fin 24) (desc : CmdDesc)
  /-- OPEN (R222): An admission OPEN request is validated and decided by the admission test; on acceptance a stream entry is written. -/
  | openStream (pkt : Packet)
  /-- STEP (R223): An admission STEP request makes the next step of an interactive stream due. -/
  | stepStream (pkt : Packet)
  /-- CLOSE (R223): An admission CLOSE request closes a stream once its outstanding step completes. -/
  | closeReq (pkt : Packet)
  /-- BEAT_BOUNDARY (R244): A slot's beat ends, and the slot releases one batch job of its due steps. -/
  | beatBoundary (slot : Fin 64)
  /-- OPERATOR_START (R231): A dispatcher starts the next operator of a job on its cores once earlier operators and trip reports are in, running wide re-runs first. -/
  | operatorStart (tile : Fin 24)
  /-- JOB_END (R247): A job ends on every core; the dispatcher merges the codes and sends one completion per position. -/
  | jobEnd (job : BitVec 32)
  /-- TIN_DRAIN_TIMEOUT (R252): A withdrawing tin's drain reaches 1.5 s, and its remaining jobs end under R106. -/
  | tinDrainTimeout (tin : BitVec 12)
  /-- SET_TIN (R219): Admission command that makes a tin ACTIVE or updates its entry. -/
  | admSetTin (rq : Requester) (desc : CmdDesc)
  /-- WITHDRAW_TIN (R252): Admission command that withdraws a tin and drains its work. -/
  | admWithdrawTin (rq : Requester) (desc : CmdDesc)
  /-- REGISTER_KERNEL (R230): Admission command that validates a kernel image and pins its range. -/
  | admRegisterKernel (rq : Requester) (desc : CmdDesc)
  /-- LOAD_MODEL (R229): Admission command that binds a model slot to a serving space, a plan and a tile mask. -/
  | admLoadModel (rq : Requester) (desc : CmdDesc)
  /-- UNLOAD_MODEL (R254): Admission command that unloads a model slot with no open streams. -/
  | admUnloadModel (rq : Requester) (desc : CmdDesc)
  /-- LOAD_ROW (R236): Admission command that loads the priced fields of a bake-time row. -/
  | admLoadRow (rq : Requester) (desc : CmdDesc)
  /-- MEASURE (R237): Admission command that runs calibration steps and records measured costs. -/
  | measure (rq : Requester) (desc : CmdDesc) (found : MeasureFound)
  /-- ADM_UNPIN (R243): Admission UNPIN command that removes a wide pin, or every pin, of a tin. -/
  | admUnpin (rq : Requester) (desc : CmdDesc)
  /-- CLOSE_STREAM (R223): Admission command that closes a stream as a CLOSE request does. -/
  | admCloseStream (rq : Requester) (desc : CmdDesc)
  /-- ADM_CTRL_WRITE (R253): A write of the admission controls, refused with CONFLICT when it would overload a group. -/
  | admCtrlWrite (rq : Requester) (val : BitVec 64)
  /-- DISP_CTRL_WRITE (R251): A write of DEEPEST_STATE, refused when it deepens the state while streams are accepted. -/
  | dispCtrlWrite (rq : Requester) (tile : Fin 24) (val : BitVec 64)
  /-- FEC_CODEWORD (R260): A strand receiver decodes one RS codeword; an uncorrectable one discards its packets. -/
  | fecCodeword (strand : Fin 160) (corrected : Nat) (flits : List FlitCount) (lost : Option Nat)
  /-- STRAND_ERROR_RETRAIN (R260): A strand exceeds 1,000 uncorrectable codewords in a second, and retrains or goes FAILED. -/
  | strandErrorRetrain (strand : Fin 160)
  /-- LINK_CONTROL_FLIT (R263): A link-control flit updates XOFF and credits and returns lost flits. -/
  | linkControlFlit (strand : Fin 160) (flit : LinkControl)
  /-- EGRESS_PACKET_END (R271): A packet ends at an egress, and the egress picks the next packet by the priority order. -/
  | egressPacketEnd (strand : Fin 160)
  /-- ACK (R278): An ACK frees acknowledged packets; with RESET it ends the flow's unacknowledged operations. -/
  | ackPacket (pkt : Packet)
  /-- ACK_DELAY_EXPIRE (R278): ACK_US passes after a packet's arrival and the receiver sends an ACK. -/
  | ackDelayExpire (tile : Fin 25) (flow : FlowKey)
  /-- RETRANSMIT_TIMEOUT (R280): A flow packet is unacknowledged 30 µs after its last send and is re-sent, or given up as undeliverable. -/
  | retransmitTimeout (tile : Fin 25) (flow : FlowKey)
  /-- FLOW_STATE_EXPIRE (R277): An idle flow's send or receive state is discarded after its idle time. -/
  | flowStateExpire (tile : Fin 25) (flow : FlowKey) (send : Bool)
  /-- MOVE_WRITE (R308): A target receives a bulk write message, checks it and writes the data. -/
  | moveWriteMsg (pkt : Packet)
  /-- MOVE_READ (R308): A target receives a bulk read request and answers with MOVE_DATA. -/
  | moveReadMsg (pkt : Packet)
  /-- MOVE_DATA (R97): The reply data of a bulk read arrives at the requester. -/
  | moveDataMsg (pkt : Packet)
  /-- MOVE_DONE (R97): The completion of a bulk write message arrives at the requester. -/
  | moveDoneMsg (pkt : Packet)
  /-- RESIDENCY (R196): A residency manager's management message asks for a remote frame and region. -/
  | residencyMsg (pkt : Packet)
  /-- RESIDENCY_REPLY (R196): The answer to a residency message arrives. -/
  | residencyReplyMsg (pkt : Packet)
  /-- MANAGEMENT_REPLY (R463): A subscriber's answer to an event notice arrives. -/
  | managementReplyMsg (pkt : Packet)
  /-- ROUTE_SWAP (R295): SWAP in ROUTE_CTRL checks the inactive bank and starts a swap with a hold notice. -/
  | routeSwap (rq : Requester)
  /-- SWAP_DRAINED (R296): Every endpoint reports the affected routes drained; the new bank becomes active and held packets are released. -/
  | swapDrained
  /-- GROUP_WITHDRAW (R293): A write of GROUP_WITHDRAW disables a multicast group. -/
  | groupWithdraw (rq : Requester) (group : BitVec 12)
  /-- MCAST_DRAIN_TIMEOUT (R293): A multicast group's 128 µs drain bound ends its unacknowledged packets with WITHDRAWN. -/
  | mcastDrainTimeout
  /-- CIRCUIT_ENTRY_WRITE (R288): A write of a circuit entry is checked against the strand's reserved rate. -/
  | circuitEntryWrite (rq : Requester) (tile : Fin 24) (entry : Fin 256) (val : BitVec 64)
  /-- STRAND_WITHDRAW (R381): ENABLE 0 in STRAND_CTRL removes the strand from routing and drains it. -/
  | strandWithdraw (rq : Requester) (strand : Fin 160)
  /-- STRAND_ENABLE (R381): ENABLE 1 in STRAND_CTRL returns a strand to training. -/
  | strandEnable (rq : Requester) (strand : Fin 160)
  /-- STRAND_RETRAIN (R258): RETRAIN in STRAND_CTRL retrains the strand. -/
  | strandRetrain (rq : Requester) (strand : Fin 160)
  /-- STRAND_DRAIN_TIMEOUT (R381): After 50 µs a withdrawn strand's transmitter goes dark. -/
  | strandDrainTimeout (strand : Fin 160)
  /-- STRAND_TRAINED (R258): A strand finishes training and comes UP, or FAILED for length. -/
  | strandTrained (strand : Fin 160) (roundTripNs : Nat)
  /-- LASER_FAILURE (R257): A dark or over-biased laser fails; the spare takes over, or the strands degrade or fail. -/
  | laserFailure (engine : Fin 20) (laser : Fin 16)
  /-- LOAD (R308): A home receives a remote LOAD request, checks it and replies with the value. -/
  | remLoad (pkt : Packet)
  /-- STORE (R308): A home receives a remote STORE, checks it, applies it and replies DONE. -/
  | remStore (pkt : Packet)
  /-- ATOMIC (R308): A home receives an ATOMIC, reserves a result-cache entry, applies it and replies with the old value. -/
  | remAtomic (pkt : Packet)
  /-- REDUCE (R308): A home receives a REDUCE, applies it and replies DONE. -/
  | remReduce (pkt : Packet)
  /-- MCAST_STORE (R323): A member module receives a multicast store, applies it and replies DONE. -/
  | remMcastStore (pkt : Packet)
  /-- LOAD_REPLY (R316): A load reply arrives and ends the RLD with its code and value. -/
  | loadReply (pkt : Packet)
  /-- DONE (R316): A DONE reply arrives and ends a store or reduction, or one member of a multicast store. -/
  | doneReply (pkt : Packet)
  /-- ATOMIC_REPLY (R316): An atomic reply arrives and ends the RATOM with the old value. -/
  | atomicReply (pkt : Packet)
  /-- REMOTE_REPLY_TIMEOUT (R316): No reply has arrived 128 µs after the first send, and the operation ends by Table 9.9. -/
  | remoteReplyTimeout (tile : Fin 24) (txn : BitVec 32)
  /-- TARGET_WAIT_TIMEOUT (R308): A request waits past 100 µs at the target and is answered with RETRY_LATER. -/
  | targetWaitTimeout (tile : Fin 24)
  /-- ARC_ENTRY_EXPIRE (R315): An atomic result cache entry expires 200 µs after its application. -/
  | arcEntryExpire (tile : Fin 24)
  /-- LINE_BUFFER_WRITEBACK (R320): A line buffer idle for 2 µs writes its line back to the slice. -/
  | lineBufferWriteback (tile : Fin 24) (slice : Fin 64) (line : BitVec 24)
  /-- REGION_OPEN (R309): Region command OPEN writes a region entry and exports its frames. -/
  | regionOpen (rq : Requester) (tile : Fin 24) (desc : CmdDesc)
  /-- REGION_CLOSE (R310): Region command CLOSE sets CLOSING so that new requests are refused. -/
  | regionClose (rq : Requester) (tile : Fin 24) (desc : CmdDesc)
  /-- REGION_CLOSE_COMPLETE (R310): In-flight operations finish; the region is cleared and unexported frames are released. -/
  | regionCloseComplete (tile : Fin 24) (region : BitVec 14)
  /-- IMPORT (R309): Region command that writes an import entry. -/
  | importEntry (rq : Requester) (tile : Fin 24) (desc : CmdDesc)
  /-- UNIMPORT (R309): Region command that clears an import entry. -/
  | unimportEntry (rq : Requester) (tile : Fin 24) (desc : CmdDesc)
  /-- GROUP_ENTRY_WRITE (R328): A write of word 3 of a collective group entry validates it, computes HASH and reserves crumb slots. -/
  | groupEntryWrite (rq : Requester) (group : Fin 1024) (word3 : BitVec 64)
  /-- GROUP_ENTRY_CLEAR (R329): Clearing VALID disables a collective group with a 200 µs drain bound. -/
  | groupEntryClear (rq : Requester) (group : Fin 1024)
  /-- COLLECTIVE_DRAIN_TIMEOUT (R329): At the group's drain bound, rounds and link-adder steps still in flight end with WITHDRAWN. -/
  | collectiveDrainTimeout (group : Fin 1024)
  /-- CRUMB_RACK (R335): A member's module value arrives for the rack fold. -/
  | crumbRack (pkt : Packet)
  /-- CRUMB_HALL (R335): A rack value arrives for the hall fold. -/
  | crumbHall (pkt : Packet)
  /-- CRUMB_NACK (R338): A NACK asks this origin to send its value of a round again. -/
  | crumbNack (pkt : Packet)
  /-- CRUMB_ABORT (R340): An abort ends the round at this member with its code and is forwarded once. -/
  | crumbAbort (pkt : Packet)
  /-- CRUMB_NACK_TIMER (R338): A fold still lacks an input after NACK_US, and NACKs are sent. -/
  | crumbNackTimer (group : Fin 1024) (kind : Fin 2)
  /-- CRUMB_ROUND_TIMEOUT (R339): A round has not completed within WAIT_US; it ends with TIMEOUT and the group is marked FAILED. -/
  | crumbRoundTimeout (group : Fin 1024) (kind : Fin 2)
  /-- COLL_DATA (R358): A collective data packet is checked, and its blocks are added at a combining point or forwarded. `found`
names the adder that finds an output mismatch in the sum of the packet's first block (R349). -/
  | collData (pkt : Packet) (found : CollFault)
  /-- COLL_RAW (R356): A gather or all-to-all packet's words are written into the locked output. -/
  | collRaw (pkt : Packet)
  /-- COLL_NACK (R349): A down-phase NACK makes the sender re-send a block from WORK. -/
  | collNack (pkt : Packet)
  /-- LATE_INPUT_TIMEOUT (R351): A combining point lacks an input at LATE_US; it clears bit 1, or omits the input in deadline-and-divisor mode. -/
  | lateInputTimeout (tile : Fin 24) (group : Fin 1024)
  /-- LINK_STEP_END (R347): A link-adder step ends after its commit and down phase, and decodes into OUT with one code. -/
  | linkStepEnd (tile : Fin 24) (group : Fin 1024)
  /-- LINK_ADDER_WITHDRAW (R24): ENABLE 0 in LINK_CTRL withdraws the tile's link adders. -/
  | linkAdderWithdraw (rq : Requester) (tile : Fin 24)
  /-- SUSPECT_CLEAR (R342): Clearing a SUSPECT_MAP bit unmarks the module and forgets its count. -/
  | suspectClear (rq : Requester) (word : Fin 256) (mask : BitVec 64)
  /-- HELLO (R364): A HELLO or HELLO reply is received and answered or recorded for discovery. -/
  | hello (strand : Fin 160) (pkt : Packet)
  /-- HELLO_TIMER (R364): A strand's HELLO interval expires and it sends a HELLO. -/
  | helloTimer (strand : Fin 160)
  /-- PEER_LOST (R369): A strand misses three HELLO replies in a row; it leaves UP and the partner is reported. -/
  | peerLost (strand : Fin 160)
  /-- DISCOVERY_END (R366): Discovery ends; the module decides its coordinates and writes routing bank A. -/
  | discoveryEnd
  /-- RETIRE (R371): SPARE_CMD RETIRE shifts a position out, or turns the spare Off. -/
  | retire (rq : Requester) (tile : Fin 24) (group : Fin 4) (target : BitVec 6)
  /-- SHIFT_COPY_COMPLETE (R372): The lockstep copy ends; slice columns are switched, RETIRED_POS is set and the cores resume. -/
  | shiftCopyComplete (tile : Fin 24) (group : Fin 4)
  /-- RESTORE (R372): SPARE_CMD RESTORE shifts cores back down and returns the spare. -/
  | restore (rq : Requester) (tile : Fin 24) (group : Fin 4) (target : BitVec 6)
  /-- WITHDRAW (R379): SPARE_CMD WITHDRAW disables a logical core with a 2 ms drain bound. -/
  | withdrawCore (rq : Requester) (at_ : CoreRef)
  /-- RETURN (R379): SPARE_CMD RETURN zeroes the bench and returns a core to service. -/
  | returnCore (rq : Requester) (at_ : CoreRef)
  /-- CORE_DRAIN_TIMEOUT (R379): At the 2 ms bound, a withdrawn core's running kernel ends with WITHDRAWN. -/
  | coreDrainTimeout (at_ : CoreRef)
  /-- TEST_BAKE_COMPARE (R375): The spare finishes a test bake and compares its output with the original's. -/
  | testBakeCompare (tile : Fin 24) (group : Fin 4) (result : BakeEnd)
  /-- ENGINE_WITHDRAW (R382): ENABLE 0 in ENGINE_CTRL withdraws all strands of an engine and darkens its lasers. -/
  | engineWithdraw (rq : Requester) (engine : Fin 20)
  /-- ENGINE_ENABLE (R382): ENABLE 1 in ENGINE_CTRL retrains an engine and its strands. -/
  | engineEnable (rq : Requester) (engine : Fin 20)
  /-- ENGINE_RETRAIN (R382): RETRAIN in ENGINE_CTRL retrains the engine and its strands. -/
  | engineRetrain (rq : Requester) (engine : Fin 20)
  /-- LEASE_GRANT (R387): A waiting lease request is granted when the overlapping held lease ends. -/
  | leaseGrant
  /-- LEASE_WAIT_TIMEOUT (R387): A lease request that waits 100 ms ends with CONFLICT. -/
  | leaseWaitTimeout
  /-- LEASE_RETRY (R387): An automatic activity refused a lease asks again after 10 ms. -/
  | leaseRetry
  /-- LEASE_EXPIRED (R385): An explicit lease reaches its time and ends with an event. -/
  | leaseExpired (leaseId : BitVec 16)
  /-- SPARING_RECORD_RETRY (R374): The keeper retries writing the sparing record every 60 s. -/
  | sparingRecordRetry
  /-- TILE_OUT (R388): A tile of a serving group leaves service, and its groups' streams end with WITHDRAWN. -/
  | tileOut (tile : Fin 24)
  /-- HOUSEKEEPING_ROUND (R400): Each millisecond the round samples every channel, runs the thermal model and the governor, and publishes the results. -/
  | housekeepingRound (sample : HkSample)
  /-- EMERG_THROTTLE_ASSERT (R407): The emergency-throttle input is asserted and every group goes to EMERG_MHZ. -/
  | emergThrottleAssert
  /-- EMERG_THROTTLE_DEASSERT (R406): The emergency-throttle input deasserts, and the condition clears at the next round. -/
  | emergThrottleDeassert
  /-- REFERENCE_LOST (R395): The reference is missing for 10 µs or leaves its range; the hearth switches to its oscillator and enters emergency. -/
  | referenceLost (measured10kHz : Nat)
  /-- REFERENCE_RESTORED (R395): The reference has been good for 10 ms; the PLLs relock and the emergency clears. -/
  | referenceRestored
  /-- NAP_ENTRY (R397): A group idle for NAP_AFTER_US enters Nap. -/
  | napEntry (tile : Fin 24) (group : Fin 4)
  /-- SLEEP_ENTRY (R397): A group in Nap for SLEEP_AFTER_US enters Sleep. -/
  | sleepEntry (tile : Fin 24) (group : Fin 4)
  /-- GROUP_WAKE (R398): A dispatcher order or an access starts waking a group from Nap or Sleep. -/
  | groupWake (tile : Fin 24) (group : Fin 4)
  /-- WAKE_COMPLETE (R399): A waking group reaches Run and waiting accesses proceed. -/
  | wakeComplete (tile : Fin 24) (group : Fin 4)
  /-- GOV_CTRL_WRITE (R409): A write of the governor's limits is checked and applied at the next round. -/
  | govCtrlWrite (rq : Requester) (val : BitVec 64)
  /-- INPUT_POWER_RISE (R470): The 48 V input rises through 38.0 V and the always-on domain starts. -/
  | inputPowerRise (millivolts : Nat)
  /-- INPUT_LOSS_STOP (R470): The input stays below 36.0 V for 100 µs and every domain loses power. -/
  | inputLossStop
  /-- RESET_RELEASE (R425): PWR_GOOD and RESET_N go high; the straps are read and the start-up sequence runs. -/
  | resetRelease (env : StartEnv)
  /-- RESET_ASSERT (R481): RESET_N low or PWR_GOOD low for 1 µs acts as a RESET_MODULE of mode 0. -/
  | resetAssert (pin : ResetPin)
  /-- IDENTIFY (R434): Igrin command that returns the module's identity. -/
  | igIdentify (src : IgrinIn)
  /-- REG_READ (R435): Igrin command that reads up to 64 registers or bench words. -/
  | igRegRead (src : IgrinIn)
  /-- REG_WRITE (R435): Igrin command that writes up to 60 registers or bench words in order. -/
  | igRegWrite (src : IgrinIn)
  /-- LEASE_TAKE (R436): Igrin command that requests an explicit maintenance lease. -/
  | igLeaseTake (src : IgrinIn)
  /-- LEASE_RELEASE (R436): Igrin command that releases an explicit lease. -/
  | igLeaseRelease (src : IgrinIn)
  /-- EXPERT_ENABLE (R433): Critical Igrin command that opens the expert level in named functions for a time. -/
  | igExpertEnable (src : IgrinIn)
  /-- EXPERT_DISABLE (R433): Igrin command that ends one or all expert enables. -/
  | igExpertDisable (src : IgrinIn)
  /-- EXPERT_ENABLE_EXPIRE (R433): An expert enable's time runs out and it ends. -/
  | expertEnableExpire (index : Fin 4)
  /-- STARTER_BEGIN (R446): Critical Igrin command that opens a starter write session. -/
  | igStarterBegin (src : IgrinIn)
  /-- STARTER_DATA (R446): Igrin command that writes the next bytes of the starter image. -/
  | igStarterData (src : IgrinIn)
  /-- STARTER_COMMIT (R446): Igrin command that verifies the written copy and ends the session. -/
  | igStarterCommit (src : IgrinIn)
  /-- STARTER_SESSION_TIMEOUT (R446): A session idle for 60 s ends and its lease is released. -/
  | starterSessionTimeout
  /-- SYSTEM_LOAD (R434): Critical Igrin command that registers a SYSTEM kernel image. -/
  | igSystemLoad (src : IgrinIn)
  /-- ROLLOVER (R445): Critical Igrin command that programs the next key generation of a slot. -/
  | igRollover (src : IgrinIn)
  /-- PROVISION (R444): Service-port command that programs the owner and recovery keys. -/
  | igProvision (src : IgrinIn)
  /-- RESET_MODULE (R437): Critical Igrin command that restarts the module or enters hearth-only recovery. -/
  | igResetModule (src : IgrinIn)
  /-- RATE_LIMIT_EXPIRE (R440): A key slot's 1 s rate limit ends. -/
  | rateLimitExpire (slot : Fin 4)
  /-- READ_REGISTERS (R417): Service firmware request that reads up to 32 basic-level registers. -/
  | readRegisters (req : RegRequest)
  /-- READ_EVENTS (R417): Service firmware request that returns up to 8 log records. -/
  | readEvents (pos : BitVec 32) (count : Fin 9)
  /-- POST_EVENT (R449): Service firmware request that raises a FIRMWARE_POSTED event. -/
  | postEvent (word2 : BitVec 64) (word3 : BitVec 64)
  /-- SUBMIT_HINT (R211): Service firmware request that places a hint in a tile's queue. -/
  | submitHint (tile : Fin 24) (hint : Hint)
  /-- HEARTBEAT (R418): Service firmware request that restarts the watchdog. -/
  | heartbeat
  /-- HEARTBEAT_TIMEOUT (R418): A late heartbeat makes the keeper restart or halt the service firmware. -/
  | heartbeatTimeout
  /-- GUARD_VIOLATION (R417): The guard refuses a service core's access and counts it. -/
  | guardViolation (serviceCore : Fin 4) (write : Bool) (addr : BitVec 48)
  /-- SMBUS_STATUS_READ (R429): A Read Byte of code 0x22 returns REPLY_READY and BUSY. -/
  | smbusStatusRead
  /-- SMBUS_REPLY_READ (R429): Block Reads of code 0x21 return the fragments of the pending reply. -/
  | smbusReplyRead
  /-- SMBUS_ALERT_RESPONSE (R462): The module answers the Alert Response Address with its own address. -/
  | smbusAlertResponse
  /-- EVENT_LOG_TAKE (R452): The hearth takes one staged record into the log by round robin and stamps it. -/
  | eventLogTake
  /-- COUNTERS_CLEAR (R459): CLEAR in CNT_CLEAR zeroes every statistics counter of the block. -/
  | countersClear (rq : Requester) (block : CounterBlock)
  /-- ALERT_CLEAR (R462): An RW1C write to ALERT_STATUS clears bits, and deasserts the alert when none remain. -/
  | alertClear (rq : Requester) (mask : BitVec 64)
  /-- TRANSIT_PACKET (R285): A whole packet arrives at an intermediate module on a phase-1 VC, or as a VC1 crumb or a multicast copy at a delegate; the module turns it to phase 2 or VC1, routes it once and sends it on an up strand. -/
  | transitPacket (strand : Fin 160) (pkt : Packet)
  /-- SMBUS_BLOCK_WRITE (R429): A Block Write of command code 0x20 on the service port stores one fragment, discards an out-of-order or interrupted message and any unread reply, or is NACKed on a PEC error. -/
  | smbusBlockWrite (frag : BitVec 8) (bytes : List (BitVec 8)) (pecOk : Bool)
  /-- JTAG_INSTRUCTION (R480): An instruction loaded through the JTAG pins takes effect: EXTEST drives pins only while RESET_N is low, and a non-mandatory instruction without a DEBUG enable of the service port runs as BYPASS. -/
  | jtagInstruction (scan : JtagScan)
  /-- LASER_TAKEOVER_COMPLETE (R257): The transmit spare laser finishes taking over a failed wavelength, and the engine's strands carry flits again. -/
  | laserTakeoverComplete (engine : Fin 20)
  /-- DIE_TO_DIE_LINK_DOWN (R264): A die-to-die link stops carrying flits, the tile sets its D2D_DOWN bit and raises a fault at compute level 6. -/
  | dieToDieLinkDown (tile : Fin 24) (edge : Fin 4)
  deriving DecidableEq, Repr

end Sys2Proof
end

