-- ==== Sys2Proof/Decode.lean ====
section
/-! DEFINITION. Decode: the module takes commands, not instruction words, and spec/opcode_table.json gives no row any
bits, so no word spells a command. A core instruction's 64-bit word is an operand of its row (R84). -/

namespace Sys2Proof

/-- The command that a word spells by the bits of the table: none, since no row has bits. DESIGN CHOICE (log entry 6). -/
def decodeTableWord (_nbits _w : Nat) : Option Instr := none

end Sys2Proof
end

