-- ==== Sys2Proof/Config.lean ====
section
/-! DEFINITION. Config: what one implementation fixes and the free values the manual leaves open. None has a body,
so no proof can see its value. Each is named in a row of notes/assumptions. -/

namespace Sys2Proof

/-- Free value: the n-th random choice of the module (R285 routes, R375 sampling). DESIGN CHOICE (log entries 10, 11, 53). -/
opaque Config.rand : Nat → Nat

/-- Free value: stall cycles of the n-th issued instruction beyond its issue cycle (Table 3.3, R65, R86). DESIGN CHOICE (log entries 10, 12). -/
opaque Config.stall : Nat → Nat

/-- Free value: the stall bits 27:26 and 11:10 of PASS_QUEUE_STATUS in the last cycle. DESIGN CHOICE (log entry 10). -/
opaque Config.stallBits : Nat → BitVec 4

/-- The module's DEVICE_ID (R419): programmed in the one-time store at manufacture. DESIGN CHOICE (log entry 13). -/
opaque Config.deviceId : BitVec 64

/-- The estimate in µW that a tile agent makes of a round's array cycles and slice accesses (R401). DESIGN CHOICE (log entry 95). -/
opaque Config.activityPower : Nat → Nat → Nat

/-- The die revision of a tile, or of the hearth as tile 30: REV_LETTER in bits 7:4, REV_DIGIT in bits 3:0 (R4). DESIGN CHOICE (log entry 13). -/
opaque Config.dieRevision : Nat → BitVec 8

/-- Whether a UCIe vendor and product are Mileivos's own (R383 gives no codes). DESIGN CHOICE (log entry 13). -/
opaque Config.ownEngine : BitVec 16 → BitVec 16 → Bool

/-- VERIFY_HASH 0: the hash burnt at manufacture (R419). DESIGN CHOICE (log entry 13). -/
opaque Config.verifyHash : List Byte

/-- THETA_BOND (bits 23:12) and THETA_LAYER (bits 11:0) in the fuses of a tile (MODEL_CFG). DESIGN CHOICE (log entry 13). -/
opaque Config.theta : Nat → BitVec 24

/-- The laser-bias limit of an engine in units of 10 µA (R404). DESIGN CHOICE (log entries 13, 130). -/
opaque Config.biasLimit : Nat → Nat

/-- Free value: a result the manual states no value for, by the counter of free values. DESIGN CHOICE (log entry 10). -/
opaque Config.free64 : Nat → BitVec 64

/-- The TYPE of the event that records a Completed condition (R22), and of the one that carries a received code of the range
0x10–0xFF (R23): Table 14.2 lists neither. DESIGN CHOICE (log entry 152). -/
opaque Config.conditionType : BitVec 8 → BitVec 16
opaque Config.receivedType : BitVec 16

/-- Whether a bit of a generation's counter thermometer of a key slot fails to program (R440). DESIGN CHOICE (log entry 111). -/
opaque Config.bitFails : Nat → Nat → Nat → Bool

/-- Whether the vector unit sets invalid for infinity × zero plus a quiet NaN, which IEEE 754 leaves to it (R89). DESIGN CHOICE (log entry 17). -/
opaque Config.fmaInvalid : Bool

/-- Whether an accumulator that holds −0 keeps its sign when a zero sum is added to it (R124 gives no sign). DESIGN CHOICE (log entry 16). -/
opaque Config.negZeroAcc : Bool

end Sys2Proof
end

