-- ==== Sys2Proof/Machine/State.lean ====
section
/-! DEFINITION. State: every piece of state the manual gives the module, as plain data, the reasons a step can stop,
and `State.reset`, the module right after power-on. A table of sparse content is a `Tab`: a list of key and value in
ascending key order, an unlisted key reading as the default its reader names. The operations on it are in Ops.lean. -/

namespace Sys2Proof.Machine

/-- A sparse table in ascending key order. -/
abbrev Tab (α : Type) := List (Nat × α)

/-- A completion and status code (Table 0.8). -/
inductive Code where
  | ok | rejected | withdrawn | timeout | poisoned | unknownOutcome | keyFault | conflict
  | retryLater | mismatch | forfeit | wideRerun | saturated | droppedOverflow | suspect | lockedOut
  deriving DecidableEq, Repr

/-- The reasons the machine stops with a fault. -/
inductive Fault where
  /-- Raised by INPUT_POWER_RISE above the absolute maximum of R484 (Table 15.9): the manual gives no behaviour
  beyond the ratings. Safe: the model stops. -/
  | beyondRatings
  deriving DecidableEq, Repr

/-- The reasons the machine gives a command no meaning. -/
inductive Refusal where
  /-- Raised by the dispatch of a command that the model gives no meaning. Safe: the model stops. -/
  | notModelled (mnemonic : String)
  /-- Raised by JTAG_INSTRUCTION for a private instruction while a DEBUG enable is in force: R480 opens it and
  gives it no effect. Safe: the model stops. -/
  | jtagPrivate
  deriving DecidableEq, Repr

/-- A statistics counter (R457). -/
structure Counter where
  value : BitVec 48
  overflow : Bool
  deriving DecidableEq, Repr

/-- An event as it is staged: the fields of Table 14.1 that its raiser fixes. -/
structure EvRec where
  srcTile : Nat
  srcCore : Nat
  firmware : Bool
  type : Nat
  code : Code
  side : Nat
  level : Nat
  cls : Nat
  w2 : Word
  w3 : Word
  deriving DecidableEq, Repr

/-- A logged record: its four words (R448). -/
structure LogRec where
  w0 : Word
  w1 : Word
  w2 : Word
  w3 : Word
  deriving DecidableEq, Repr

/-- The eight staged words of one requester for one descriptor window (R78, R203, R253, R326). The window is named by
the global physical address (without MODULE) of its word 0. -/
structure Staging where
  who : Requester
  window : Nat
  words : CmdDesc
  deriving DecidableEq, Repr

/-- Where a pass stands in its queue (R55, R70). -/
inductive PassStage where
  | queued | active | draining | saved
  deriving DecidableEq, Repr

/-- What the cells hold at the end of a pass's K cycles (R51, R124): the accumulator of cell (i, j) at key 64·i + j,
the accumulator-saturated marks, and the tallies of replaced inputs (R123, R125). -/
structure PassAcc where
  acc : Tab Word32
  sat : Tab Bool
  invalid : Nat
  tally : Nat
  rows : BitVec 64
  deriving DecidableEq, Repr

/-- One entry of a pass queue. `cls` is the array that the program named (R74); `ticket` is none for a pass that a
register write submitted; `fresh` says that R60's forwarding is still open to it, and once its K cycles have ended that no shift has
come since; `cut` says that pre-emption stopped it
while it was active, so that its resumption re-issues it (Table 2.9). -/
structure PassEntry where
  desc : CmdDesc
  seq : Nat
  cls : Nat
  ticket : Option Nat
  stage : PassStage
  reissued : Bool
  mismatches : Nat
  fresh : Bool
  snapshot : Option Word
  acc : Option PassAcc
  savedSlot : Option Nat
  cut : Bool
  deriving DecidableEq, Repr

/-- One matrix array: its queue, whether it is out of service and whether a write of 0 took it out (R74, R80). -/
structure ArrayState where
  queue : List PassEntry
  out : Bool
  outByWrite : Bool
  deriving DecidableEq, Repr

/-- An amax tracker (R136–R141, AMAX_CFG, AMAX_STATE). -/
structure Tracker where
  cfg : Word
  held : Option Word
  pendingAmax : Word32
  tripped : Bool
  tripUnder : Bool
  pending : Bool
  widePending : Bool
  deferred : Bool
  hist : List Word32
  commitSeq : BitVec 16
  satPending : Nat
  convPending : Nat
  satRows : BitVec 64
  deriving DecidableEq, Repr

/-- One work class of a kernel (R92): issued and retired counts, tickets outstanding, and codes of operations ended
that no WAIT or POLL has reported. -/
structure Tickets where
  issued : Nat
  retired : Nat
  live : List Nat
  held : List (Nat × Code)
  deriving DecidableEq, Repr

/-- What blocks the scalar unit (R93, R98, R102). -/
inductive Blocked where
  | wait (d cls ticket : Nat)
  | fence (mask : Nat)
  | waitwake (d mask : Nat)
  deriving DecidableEq, Repr

/-- A trap cause (Table 3.9). -/
inductive Cause where
  | illegal | benchRange | misaligned | descriptor | lockViolation | poisonUse | gapExceeded | abort
  | privilege | fetch
  deriving DecidableEq, Repr

/-- How a kernel ends: by END, by a trap (cause, ABORT_IMM, PC), or by a withdrawal (R105, R106). -/
inductive EndKind where
  | fin
  | trap (c : Cause) (imm pc : Nat)
  | withdrawn
  deriving DecidableEq, Repr

/-- The stages of a kernel on its core: placed by the dispatcher, issuing, halted at BRK, writing its save record,
or ending (R81, R105, R107, R109). -/
inductive KPhase where
  | placed
  | running
  | halted
  | saving (slot : Nat)
  | ending (k : EndKind)
  deriving DecidableEq, Repr

/-- The fields of a registered kernel image's header (Table 3.11) with where the image lies. -/
structure KernelImage where
  space : Nat
  va : Nat
  flags : Nat
  imageBytes : Nat
  codeOffset : Nat
  codeBytes : Nat
  constOffset : Nat
  constBytes : Nat
  entry : Nat
  maxYieldGap : Nat
  benchLow : Nat
  benchHigh : Nat
  kernelId : Word
  deriving DecidableEq, Repr

/-- The kernel state of Table 3.1 with its special registers (Table 3.8) and its place in a job. `gWait` marks the
registers that wait for a remote reply (R88). -/
structure Kernel where
  image : KernelImage
  job : Nat
  op : Nat
  wide : Bool
  wideInput : Bool
  stream : Nat
  args : List Byte
  seed : Word
  g : Tab Word
  gPoison : BitVec 32
  gWait : BitVec 32
  p : BitVec 8
  v : Tab (BitVec 2048)
  vPoison : BitVec 32
  pc : Nat
  classes : Tab Tickets
  wake : BitVec 5
  fpFlags : BitVec 5
  watchLine : Word
  cycles : Nat
  gap : Nat
  blocked : Option Blocked
  kwriteRefused : Nat
  kwriteFirst : Nat
  trackers : List Nat
  phase : KPhase
  deriving DecidableEq, Repr

/-- A move in the move engine (R96, R99): its ticket, its four words, whether it has started, the segments in other
modules still to ask for (address, bench offset, bytes), the transactions it waits for, its code so far, and whether a
SYSTEM kernel issued it, bytes that have arrived for locked parts of its destination (R68), and whether its pages have been
walked once (R218). -/
structure MoveOp where
  ticket : Nat
  seq : Nat
  w0 : Word
  w1 : Word
  w2 : Word
  w3 : Word
  started : Bool
  todo : List (Nat × Nat × Nat)
  await : List Nat
  code : Code
  system : Bool
  parts : List (Nat × List Byte)
  walked : Bool
  deriving DecidableEq, Repr

/-- A store of the core's kernel to the bench or the scale bank that waits for locks (R68, R134), with its place in the
core's enqueue sequence: the passes and moves of a lower number come before it (R99). DEDUCED (log entry 23). -/
structure WaitingWrite where
  seq : Nat
  scale : Bool
  off : Nat
  bytes : List Byte
  deriving DecidableEq, Repr

/-- A kernel that pre-emption has saved (R109): its save slot and its state. DESIGN CHOICE (log entry 33). -/
structure SavedKernel where
  slot : Nat
  k : Kernel
  gen : Word
  deriving DecidableEq, Repr

/-- The end report of a run that the dispatcher has received (R105, R142): each trip's LAYER_ID, underflow kind,
FOLDED and SAT_ROWS. -/
structure TripReport where
  layer : Nat
  under : Bool
  folded : Bool
  rows : BitVec 64
  deriving DecidableEq, Repr

/-- A logical core (Table 2.1, Table 3.1). The scale bank, trackers and bench belong to the core, not to a kernel. `arrayCycles` counts
the K cycles of its arrays (R401). -/
structure Core where
  arrays : Tab ArrayState
  enqSeq : Nat
  complTag : BitVec 16
  complCode : Code
  complArray : Nat
  complSeq : BitVec 32
  residueLog : Word
  gen : Word
  scale : Tab Word32
  trackers : Tab Tracker
  histSel : List (Requester × Nat)
  arithCtl : Word
  bench : Tab Byte
  benchErr : Tab Nat
  benchDead : Bool
  kernel : Option Kernel
  saved : List SavedKernel
  resumeReq : Option Nat
  preemptReq : Bool
  moves : List MoveOp
  writes : List WaitingWrite
  linkLocks : List (Nat × Nat × Nat)
  lastStream : Nat
  lastKernel : Word
  trap : Word
  withdrawn : Bool
  withdrawBy : Option Nat
  tlb : List (Nat × Nat × Bool)
  grants : BitVec 256
  arrayCycles : Nat
  deriving DecidableEq, Repr

/-- One slice of a stack and its controller (chapter 5). `trainLayer` and `trainLane` are LAYER and LANE of SLICE_TRAIN_CTRL,
`switchLayer` and `switchLane` the lane of the switch-in that runs, and `accesses` counts its line accesses (R401). -/
structure Slice where
  state : Nat
  data : Tab Byte
  bad : Tab Bool
  caFault : Bool
  caLane : Nat
  erased : Option Nat
  laneMap : Tab Word
  laneErr : List (Nat × Nat × Nat)
  recent : List (Nat)
  trainResult : Code
  trainBusy : Option Nat
  trainLayer : Nat
  trainLane : Nat
  switchLayer : Nat
  switchLane : Nat
  prevState : Nat
  autoSpare : Bool
  errLog : Word
  scrubPasses : BitVec 32
  scrubNext : Nat
  scrubEn : Bool
  scrubPending : Option Nat
  heldWrites : List (Nat × Nat × List Byte)
  lastAccess : Nat
  nextRefresh : Nat
  refreshInterval : Nat
  accesses : Nat
  deriving DecidableEq, Repr

/-- A group of 17 physical positions with its clock (chapters 11 and 12). -/
inductive PState where
  | run | idle | nap | sleep | off
  deriving DecidableEq, Repr

/-- The type of a page-table entry (Table 6.2). -/
inductive PteType where
  | invalid | page | large | absent | moving | lost | filling | reserved
  deriving DecidableEq, Repr

/-- A leaf entry of a page table (Table 6.3). `big` marks an entry at level 2. DESIGN CHOICE (log entry 44). -/
structure Pte where
  ty : PteType
  big : Bool
  module : Nat
  tile : Nat
  core : Nat
  frame : Nat
  rd : Bool
  wr : Bool
  ex : Bool
  dirty : Bool
  accessed : Bool
  pinned : Bool
  region : Nat
  fill : Nat
  place : Nat
  placeArg : Nat
  first : Nat
  deriving DecidableEq, Repr

/-- The reverse-map entry of an allocated frame (Table 6.6). -/
structure Frame where
  space : Nat
  vpn : Nat
  table : Bool
  head : Bool
  tail : Bool
  exported : Bool
  shard : Bool
  deriving DecidableEq, Repr

/-- The place of a structure in TABLE frames of the module's slices: a page table of level 0–3 with its space and the address
bits above its own (level 0 with the space record after it), the descriptor of a shard set (level 4, `space` its SET_ID), the
region table of tile `space` (level 5) or the shard set directory (level 6). DESIGN CHOICE (log entry 44). -/
structure TabLoc where
  level : Nat
  space : Nat
  prefix_ : Nat
  tile : Nat
  core : Nat
  off : Nat
  bytes : Nat
  deriving DecidableEq, Repr

/-- One binding of a space record: a range bound to a shard set. -/
structure Binding where
  base : Nat
  pages : Nat
  set : Nat
  deriving DecidableEq, Repr

/-- The record of a created address space: its quota, its bindings, its segment grants and whether it is withdrawn. -/
structure Space where
  quota : Nat
  bindings : List Binding
  grants : BitVec 256
  withdrawn : Bool
  deriving DecidableEq, Repr

/-- The location of one shard (Table 6.12) with the CRC-32C of its page. -/
structure Shard where
  module : Nat
  tile : Nat
  core : Nat
  frame : Nat
  valid : Bool
  rebuilding : Bool
  crc : BitVec 32
  deriving DecidableEq, Repr

/-- A shard set descriptor (Table 6.12) with its stripe records. -/
structure ShardSet where
  k : Nat
  m : Nat
  space : Nat
  state : Nat
  base : Nat
  pages : Nat
  generation : Nat
  stripes : List (List Shard)
  deriving DecidableEq, Repr

/-- What a page transfer is for, in the order in which the page mover serves it (R206). -/
inductive XferKind where
  | fill | prefetch | evacuate | rebuild | verify | migrate | encode | compact | hint
  deriving DecidableEq, Repr

/-- A place of a frame. -/
structure Place where
  module : Nat
  tile : Nat
  core : Nat
  frame : Nat
  deriving DecidableEq, Repr

/-- A page transfer of a page mover. `key` is the page-table entry (or none for a shard), `phase` is 0 queued, 1 waiting
for a frame in another module, 2 gathering, 3 writing to another module, 4 ready to complete; `buf` is the page as
assembled from the sources `srcs`; `set`, `stripe` and `shard` name a shard; `part` counts the 64 KiB pages of a large
page; `region` is the REGION of a frame in another module; `cmd` the command it serves; `core` the slice it aims at;
phase 5 is a move in its first invalidation round. -/
structure Xfer where
  id : Nat
  kind : XferKind
  key : Option Nat
  big : Bool
  move : Bool
  old : Place
  new : Place
  phase : Nat
  buf : Tab Byte
  srcs : List Nat
  await : List Nat
  set : Nat
  stripe : Nat
  shard : Nat
  part : Nat
  region : Nat
  cmd : Option Nat
  core : Nat
  heldSince : Option Nat
  heldTile : Option Nat
  rebuild : Bool
  deriving DecidableEq, Repr

/-- An invalidation round (R195): the space and pages it drops, the frames it frees at its end, its command, and the accesses
(tile and TXN) that were translated with an entry it dropped. -/
structure Round where
  space : Nat
  vpn : Nat
  pages : Nat
  frees : List Nat
  remote : List Place
  cmd : Option Nat
  flying : List (Nat × Nat)
  deriving DecidableEq, Repr

/-- A residency command in a tile's queue: the pages still to do, those whose transfer has started, and the rounds it
waits for. `stage` counts the phases of ENCODE; `admin` names the admission command it serves. -/
structure ResCmd where
  id : Nat
  tag : Nat
  desc : CmdDesc
  who : Requester
  code : Code
  todo : List Nat
  waiting : List Nat
  rounds : Nat
  frees : List Nat
  remote : List Place
  stage : Nat
  admin : Option Nat
  deriving DecidableEq, Repr

/-- The residency manager and page mover of one tile (R203, R206, R211, RES_CTRL, RES_CMD_STATUS, RES_FAULT_LOG). `asks` are
other modules' requests for frames that wait for an eviction (R196, R199). -/
structure ResTile where
  queue : List ResCmd
  statTag : BitVec 16
  statCode : Code
  statSeq : BitVec 24
  ctrl : Word
  faultLog : Word
  xfers : List Xfer
  hints : List Hint
  hintWindow : Nat
  hintCount : Nat
  clockHand : Nat
  rounds : List Round
  asks : List Packet
  deriving DecidableEq, Repr

/-- The state of a tin entry (Table 7.1). -/
inductive TinState where
  | free | active | withdrawing
  deriving DecidableEq, Repr

/-- A tin entry (Table 7.1) with its pins and its charges: per LAYER_ID the charges of the window in progress and of
the one before (R147, R148). `pinFor` is the stream whose first step depends on the adapter's PIN while that command
runs (R221); `withdrawCmd` lists the WITHDRAW_TIN commands that wait for the drain, and `thenDestroy` says that a
DESTROY_SPACE does (R252). -/
structure Tin where
  state : TinState
  pins : List Nat
  pinAll : Bool
  wideAllow : Nat
  key : BitVec 32
  adapterVa : Nat
  adapterPages : Nat
  maxStreams : Nat
  openStreams : Nat
  charges : List (Nat × Nat × Nat)
  windowSteps : Nat
  pinFor : Option Nat
  withdrawAt : Nat
  withdrawCmd : List Nat
  thenDestroy : Bool
  deriving DecidableEq, Repr

/-- The state of a stream entry (Table 7.6). -/
inductive StreamState where
  | free | open_ | due | running | closing
  deriving DecidableEq, Repr

/-- A stream table entry (Table 7.6) with the due time in full, the TOKENS of a prompt, the tokens already in its cache,
the cold delay of its first step (Table 7.12), the code merged over the chunks of a prompt, the Completed conditions that applied to
them, whether a job of its step ran below the committed floor (R249) or met a fault (R250), and what asked for its close: CLOSE requests (module, tile, REQ_ID) and CLOSE_STREAM commands. -/
structure Stream where
  state : StreamState
  cls : Nat
  tin : Nat
  model : Nat
  deadlineUs : Nat
  lastCode : Code
  cold : Bool
  dueUs : Nat
  step : BitVec 32
  seed : BitVec 32
  chunksLeft : Nat
  batchPos : Nat
  replyModule : Nat
  replyTile : Nat
  ioVa : Nat
  tokens : Nat
  tokenPos : Nat
  coldWait : Bool
  merged : Code
  conds : List Code
  slow : Bool
  hurt : Bool
  closeReq : List (Nat × Nat × Word)
  closeCmd : List Nat
  deriving DecidableEq, Repr

/-- An operator of a step plan (Table 7.8). -/
structure PlanOp where
  kernelId : Word
  layer : Nat
  flags : Nat
  coreMask : Word
  argVa : Nat
  deriving DecidableEq, Repr

/-- A bake-time row (Table 7.10). -/
structure BakeRow where
  stepNs : Nat
  rerunNs : Nat
  pinNs : Nat
  allWideNs : Nat
  missNs : Nat
  measStepNs : Nat
  measRerunNs : Nat
  measMhz : Nat
  loaded : Bool
  deriving DecidableEq, Repr

/-- A model record (Table 7.10) with its step plan and its beat in progress. -/
structure Model where
  state : Nat
  space : Nat
  mask : BitVec 24
  planVa : Nat
  batchVa : Nat
  opMaxNs : Nat
  beat : Nat
  beatEndUs : Nat
  beatUsed : Bool
  rows : Tab BakeRow
  ops : List PlanOp
  replyTile : Nat
  replyCore : Nat
  deriving DecidableEq, Repr

/-- One position of a job: its stream, its tin, a code of its own (WITHDRAWN, or that of its adapter's PIN), and
whether its entry becomes FREE with it (R221). -/
structure JobPos where
  stream : Nat
  tin : Nat
  code : Code
  ends : Bool
  deriving DecidableEq, Repr

/-- One run of an operator in a job: its index in the plan, the flags of R143, and whether it repeats a narrow run. -/
structure OpRun where
  op : Nat
  wide : Bool
  wideInput : Bool
  rerun : Bool
  deriving DecidableEq, Repr

/-- How far a tile is in a job: its operator run, the cores still to start it and those that run it, and the runs that it
still has before it, in order. -/
structure TileRun where
  idx : Nat
  pend : List Nat
  runs : List Nat
  todo : List Nat
  deriving DecidableEq, Repr

/-- How far the batch list of a job is written (R232): not yet, sent to a page of another module with n requests to end, or
written. -/
inductive BatchList where
  | todo
  | sent (n : Nat)
  | done
  deriving DecidableEq, Repr

/-- A released job (R244): its operator runs, those of the plan in order and then the wide re-runs, the progress of each tile, the
tiles that the release notice has still to reach (R45), the trips reported so far with the run that reported them, the runs whose
trips have been acted on, the codes of its kernel runs, and what delays it: `fault` (R250) and `belowFloor` (R249). `killed` says that it ends under R106. `batch` is how far its batch list is
written (R232), and `cal` the MEASURE and the step that a calibration job runs (R237). -/
structure Job where
  num : BitVec 32
  slot : Nat
  cls : Nat
  chunk : Nat
  positions : List JobPos
  deadlineUs : Option Nat
  releasedUs : Nat
  seq : List OpRun
  tiles : Tab TileRun
  notices : List Nat
  trips : List (Nat × TripReport)
  handled : List Nat
  codes : List Code
  rerun : Bool
  fault : Bool
  belowFloor : Bool
  killed : Bool
  batch : BatchList
  cal : Option (Nat × Nat)
  deriving DecidableEq, Repr

/-- An admission command that has not completed (R253): its id, tag and descriptor, and its stage: 0 still to read what it
names, 1 waiting for the PINs it issued, 2 waiting for a drain or a close, 3 running the job steps of a MEASURE. `left` and
`pinCode` are the PINs still to end and their code, `fresh` the pages that nothing had pinned before; `found` is what the steps of
a MEASURE find and `ran` how many have ended. -/
structure AdmCmd where
  id : Nat
  tag : Nat
  desc : CmdDesc
  who : Requester
  stage : Nat
  left : Nat
  pinCode : Code
  fresh : List Nat
  found : MeasureFound
  ran : Nat
  deriving DecidableEq, Repr

/-- The admission controller (ADM_CTRL, ADM_CMD_STATUS, STREAM_WIN_SEL). -/
structure Adm where
  ctrl : Word
  winSel : List (Requester × Nat)
  queue : List AdmCmd
  statTag : BitVec 16
  statCode : Code
  statSeq : BitVec 24
  nextJob : BitVec 32
  deriving DecidableEq, Repr

/-- A packet of a flow that the source holds until it is acknowledged (R276, R280): its times, the number of sends,
and, in a multicast flow, the members whose acknowledgement is missing (R292). -/
structure SentPkt where
  seq : Nat
  pkt : Packet
  firstNs : Nat
  lastNs : Nat
  sends : Nat
  members : List Nat
  deriving DecidableEq, Repr

/-- The send state of one flow (R277). `affected` packets wait under a swap hold (Table 8.9). -/
structure FlowTx where
  key : FlowKey
  next : Nat
  started : Bool
  window : Nat
  unacked : List SentPkt
  lastUse : Nat
  deriving DecidableEq, Repr

/-- An incomplete message of a flow (R283). -/
structure MsgRx where
  id : Nat
  pkts : Nat
  seen : List Nat
  bad : Bool
  code : Code
  deriving DecidableEq, Repr

/-- The receive state of one flow (R277, R279, R313). -/
structure FlowRx where
  key : FlowKey
  next : Nat
  got : List Nat
  held : List (Nat × Packet)
  msgs : List MsgRx
  applied : Option Nat
  lastRemote : Nat
  lastDelivery : Nat
  fresh : Nat
  ackDue : Option Nat
  deriving DecidableEq, Repr

/-- What a remote operation is (Tables 9.1, 9.2); `const` is a constant fetch from another module (R190, Table 6.4). -/
inductive RemKind where
  | load (signed : Bool)
  | const
  | store
  | mcast (group : Nat)
  | atomic (op : Nat)
  | reduce (op : Nat)
  | moveRead (ticket row : Nat)
  | moveWrite (ticket row : Nat)
  | pageRead (xfer : Nat)
  | pageWrite (xfer : Nat)
  | batchWrite (job : Nat)
  deriving DecidableEq, Repr

/-- An outstanding transaction of a tile (R304): the core and register that wait for it, its ticket, where it goes,
and when its first packet was sent (none while it waits for a page or a place). -/
structure RemOp where
  txn : Nat
  core : Nat
  kind : RemKind
  reg : Nat
  size : Nat
  ticket : Nat
  space : Nat
  va : Nat
  operand : Word
  compare : Word
  module : Nat
  tile : Nat
  gpa : Nat
  waitPage : Option Nat
  sentNs : Option Nat
  answers : List (Nat × Code)
  expect : List Nat
  deriving DecidableEq, Repr

/-- An entry of the atomic result cache (R315): held with a code, an old value and an expiry, or reserved. -/
structure ArcEntry where
  module : Nat
  tile : Nat
  txn : Nat
  result : Option (Code × Word × Nat)
  deriving DecidableEq, Repr

/-- A request that waits at its target (row 10 of Table 9.7) since `since`, and since `whySince` for the reason `why`: 0 a wake
or a shift, 1 a write hold or a slice that trains, 2 a bench lock, 3 an earlier request. -/
structure TargetWait where
  pkt : Packet
  since : Nat
  why : Nat
  whySince : Nat
  deriving DecidableEq, Repr

/-- A region command in a tile's queue (R326): a CLOSE that ends at `closeAt`, or, with `closeAt` 0, one that has not begun. -/
structure RegionCmd where
  tag : Nat
  desc : CmdDesc
  closeAt : Nat
  deriving DecidableEq, Repr

/-- The fabric endpoint of a tile, or of the hearth as tile 30 (chapters 8 and 9). `known` keeps the last SEQ of
flows whose send state was discarded; `queue` the flow packets that wait for a send entry, a window or a hold; `loose` the
packets of no flow that a hold stops. -/
structure Port where
  ctrl : Word
  weightLo : Word
  weightHi : Word
  circuits : Tab Word
  tx : List FlowTx
  known : List (FlowKey × Nat)
  queue : List (FlowKey × Packet)
  loose : List Packet
  rx : List FlowRx
  network : List Packet
  undeliv : List (FlowKey × Nat)
  dead : List (Nat × Nat)
  hold : Bool
  txn : Nat
  msgId : Nat
  ops : List RemOp
  imports : Tab (Word × Word × Word)
  regions : Tab (Word × Word)
  regionQueue : List RegionCmd
  regTag : BitVec 16
  regCode : Code
  regSeq : BitVec 24
  arc : List ArcEntry
  waits : List TargetWait
  lineBuffers : List (Nat × Nat × Nat)
  deriving DecidableEq, Repr

/-- The states of a strand (STRAND_STATUS). -/
inductive StrandState where
  | dark | training | up | degraded | withdrawn | failed
  deriving DecidableEq, Repr

/-- A strand: its status, its per-hop credits in both directions (R262, R263, R270), its XOFF levels (R268), its
egress queue and deficit round robin (R271: the packets of VC2–VC15 sent in the last 1,024 slots, newest first, each with its flits and the
deficits after it), and what discovery knows of its partner (chapter 11). -/
structure Strand where
  state : StrandState
  cause : Nat
  partner : Nat
  waves : BitVec 16
  enable : Bool
  loopback : Bool
  trained : Bool
  uncorr : List Nat
  retrainedAt : Option Nat
  sent : Tab Nat
  credit : Tab Nat
  sentShared : Nat
  creditShared : Nat
  sharedBy : List (Nat × Nat)
  recv : Tab Nat
  freed : Tab Nat
  recvShared : Nat
  freedShared : Nat
  occ : Tab Nat
  xoffIn : BitVec 3
  xoffOut : BitVec 3
  egress : List Packet
  sending : Option Packet
  deficit : List (Nat × Tab Int)
  turn : Nat
  slots : Nat
  capped : List (Nat × Nat × Nat)
  tokens : Tab Nat
  superframe : BitVec 16
  helloSeq : BitVec 32
  helloMisses : Nat
  helloAnswered : Bool
  helloDue : Option Nat
  helloValid : Bool
  drainAt : Option Nat
  deriving DecidableEq, Repr

/-- A packet between the dies of the module: the dies that it goes to, and the strand that it leaves on there, if any (R29, R290). -/
structure D2dPkt where
  pkt : Packet
  dests : List Nat
  exit : Option Nat
  deriving DecidableEq, Repr

/-- One direction of a die-to-die link (R28, R264, R271, R274): the packets that start on it, the buffers of its receive port, the
deficit round robin, slots, caps and tokens of its egress, the XOFF levels of its receive port, and its trained rate and width. -/
structure D2dLane where
  out : List D2dPkt
  buf : List D2dPkt
  deficit : List (Nat × Tab Int)
  turn : Nat
  slots : Nat
  capped : List (Nat × Nat × Nat)
  tokens : Tab Nat
  xoff : BitVec 3
  gts : Nat
  width : Nat
  deriving DecidableEq, Repr

/-- A crust engine (ENGINE_STATUS, ENGINE_CTRL, R257). -/
structure Engine where
  state : Nat
  thirdParty : Bool
  gts : Nat
  width : Nat
  failed : BitVec 16
  spareUsed : Bool
  spareWave : Nat
  spareDead : Bool
  rxSpare : Bool
  rxDead : Bool
  takeover : Bool
  enable : Bool
  bias : List Nat
  desc : Option EngineDesc
  deriving DecidableEq, Repr

/-- One routing bank (Table 8.11): words by bank offset, group words included. -/
structure Bank where
  mem : Tab Word
  deriving DecidableEq, Repr

/-- The routing tables (ROUTE_CTRL, GROUP_WITHDRAW) and a swap or withdrawal in progress. -/
structure Routing where
  a : Bank
  b : Bank
  activeB : Bool
  result : Code
  busy : Bool
  gwResult : Code
  gwGroup : Option Nat
  gwAt : Nat
  gone : List Nat
  deriving DecidableEq, Repr

/-- The event log and its registers (R450, R452, R453, R462–R464), all in the always-on domain. -/
structure EventLog where
  stamp : BitVec 48
  seq : BitVec 32
  ring : Tab LogRec
  stuckLogged : Bool
  turn : Nat
  ctrl : Word
  alert : BitVec 16
  subs : Tab Word
  noticeWindow : Tab (Nat × Nat)
  deriving DecidableEq, Repr

/-- The staging queue of one source (R452) with the records it discarded since the last EVENTS_LOST. -/
structure Stage where
  queue : List EvRec
  dropped : Nat
  deriving DecidableEq, Repr

/-- A shift in progress (Table 11.5): cause, position, restore or not, and the sender's interest. -/
structure Shift where
  cause : Nat
  position : Nat
  restore : Bool
  byCmd : Bool
  deriving DecidableEq, Repr

/-- A test bake that the spare runs (R375). -/
structure Bake where
  core : Nat
  array : Nat
  tag : Nat
  tempBin : Nat
  utilBin : Nat
  deriving DecidableEq, Repr

/-- One logged mismatch (R376, R377): position, bins, time. -/
structure BakeMiss where
  position : Nat
  temp : Nat
  util : Nat
  at_ : Nat
  deriving DecidableEq, Repr

/-- A group of 17 physical positions: its clock and power state (chapter 12), its sparing and test-bake state
(GROUP_MAP, BAKE_LOG), and since when all its cores are idle (R397) or, in Nap, since when it naps. -/
structure Group where
  mhz : Nat
  target : Nat
  pstate : PState
  request : Option Nat
  changing : Bool
  waking : Option Nat
  emergency : Bool
  retiredPos : Nat
  off : BitVec 17
  shift : Option Shift
  bake : Option Bake
  misses : List BakeMiss
  spareMisses : List BakeMiss
  bakeLog : Word
  idleFrom : Option Nat
  deriving DecidableEq, Repr

/-- The tile's own control state: service, dispatcher and stack controls, the sparing command (SPARE_CMD), the
die-to-die links (TILE_STATUS), CORE_HALF, the write hold of its stack (R173), its layers' modelled
temperatures (10^10 of the unit make 1/16 °C) with the refresh rate they set (R168, R169), and its link adders' outage (R350). -/
structure Tile where
  inService : Bool
  dispCtrl : Word
  stackCtrl : Word
  bakeCtrl : Word
  coreHalf : BitVec 64
  hold : Bool
  holdSince : Nat
  holdWrites : Nat
  refreshMult : Nat
  coolRounds : Nat
  cool85 : Nat
  layerTemp : List Int
  spareResult : Code
  spareBusy : Bool
  d2dReduced : BitVec 4
  d2dDown : BitVec 4
  addersDown : BitVec 7
  adderMiss : Tab Nat
  deriving DecidableEq, Repr

/-- A contribution to a crumb round: of a core (with its ticket, RESULT_OFF and CRUMB_TAG) or of a tile's link adder
(core 64). -/
structure CrumbIn where
  tile : Nat
  core : Nat
  ticket : Nat
  off : Nat
  tag : Nat
  op : Nat
  lanes : Nat
  value : BitVec 128
  deriving DecidableEq, Repr

/-- An input of the rack fold (origin a module) or of the hall fold (origin a rack, `last` its late riser). -/
structure CrumbVal where
  origin : Nat
  op : Nat
  lanes : Nat
  value : BitVec 128
  last : Nat
  deriving DecidableEq, Repr

/-- A crumb round of a group and kind (R335, R338): its contributions, the values that formed here, the inputs of its two
folds in order of arrival, when its module value formed, when the NACKs of each fold are due, and its end. -/
structure CrumbRound where
  kind : Nat
  num : Nat
  ins : List CrumbIn
  moduleVal : Option (BitVec 128)
  formed : Nat
  rack : List CrumbVal
  rackVal : Option (BitVec 128)
  hall : List CrumbVal
  nackAt : Option Nat
  nackHall : Option Nat
  ended : Option Code
  deriving DecidableEq, Repr

/-- A collective group entry (Table 10.1): its words, its HASH, its member list, the kinds marked FAILED, the round at which each was, the drain of a
cleared entry, the number of the round in progress of each kind, and its rounds. -/
structure CollGroup where
  w0 : Word
  w1 : Word
  w2 : Word
  w3 : Word
  valid : Bool
  hash : Nat
  members : List Nat
  failed : BitVec 2
  failedAt0 : Nat
  failedAt1 : Nat
  closing : Option Nat
  num0 : Nat
  num1 : Nat
  rounds : List CrumbRound
  deriving DecidableEq, Repr

/-- What a link-adder operation has taken in: an exchange, a participant, and the blocks or words of one packet; or an
input that deadline-and-divisor mode left out. -/
structure LinkGot where
  xch : Nat
  from_ : Nat
  first : Nat
  n : Nat
  omitted : Bool
  deriving DecidableEq, Repr

/-- A link-adder operation of a tile and group (R346–R356). `phase` is 0 waiting for the arming crumb, 1 in an exchange,
2 waiting for the commit, 3 in the down phase, 4 ready to end with `code`, 5 abandoned. `part` counts the exchanges of a
counts-first operation, `waitRound` is the link round it contributed to, `conds` are the Completed conditions that applied. `blk` holds the running COUNT of each block and `undo` what the output of a gather or
all-to-all held before. `ended` says that the kernel has been told its end. -/
structure LinkOp where
  tile : Nat
  group : Nat
  core : Nat
  ticket : Nat
  desc : CmdDesc
  phase : Nat
  part : Nat
  exp : Int
  rep : Nat
  status : BitVec 7
  xch : Nat
  lateFrom : Nat
  got : List LinkGot
  blk : Tab Nat
  undo : List Byte
  early : List (Nat × Packet)
  retries : Tab Nat
  waitRound : Nat
  code : Code
  conds : List Code
  ended : Bool
  deriving DecidableEq, Repr

/-- The crumb engine and the link adders (chapter 10): CRUMB_CTRL, the mark of CRUMB_STATUS, the late risers of the last
1,024 counting rounds (latest first), SUSPECT_MAP as a list of modules, and each tile's LINK_CTRL and last end. -/
structure Coll where
  groups : Tab CollGroup
  ctrl : Word
  failedGroup : Nat
  failedValid : Bool
  late : List Nat
  suspects : List Nat
  ops : List LinkOp
  linkCtrl : Tab Word
  lastTag : Tab (BitVec 16)
  lastCode : Tab Code
  deriving DecidableEq, Repr
/-- What a lease is for, and what runs once it is granted (Table 11.9). -/
inductive LeaseAct where
  | sliceRetrain (key : Nat)
  | laneSpare (key layer lane : Nat) (auto : Bool)
  | evacuate (key layer cause : Nat)
  | shift (tile group cause position : Nat) (restore byCmd : Bool)
  | coreState (key : Nat) (ret : Bool)
  | strandWork (strand : Nat)
  | strandAuto (strand how : Nat)
  | engineWork (engine : Nat)
  | tileWork (tile : Nat)
  | routeSwap
  | starter
  | explicit (who : Requester) (header : List (BitVec 8)) (seconds : Nat)
  deriving DecidableEq, Repr

/-- A lease, held or asked for (R385–R387): its number, activity, scope kind (1 slice, 2 group, 3 tile, 4 strand,
5 module), the tile and unit of the scope, its use, and its time: the end of an explicit lease, the start of a wait, or
the time of the next try. -/
structure Lease where
  id : Nat
  activity : Nat
  kind : Nat
  tile : Nat
  unit_ : Nat
  act : LeaseAct
  time : Nat
  deriving DecidableEq, Repr

/-- A switch's or module's latest HELLO reply on a strand (Table 11.3). -/
structure HelloRec where
  kind : Nat
  coordValid : Bool
  role : Nat
  plane : Nat
  rack : Nat
  tray : Nat
  slot : Nat
  port : Nat
  bytes : List (BitVec 8)
  deriving DecidableEq, Repr

/-- Topology and maintenance (chapter 11): the accepted coordinates, REACH, the link-division profile, discovery with
the replies it received, the leases, and the sparing record. -/
structure Topo where
  reach : Nat
  rack : Nat
  tray : Nat
  slot : Nat
  coordKnown : Bool
  profile : List (BitVec 16)
  discovering : Bool
  discoverAt : Nat
  replies : Tab HelloRec
  leases : List Lease
  leaseWaits : List Lease
  leaseRetries : List Lease
  leaseNext : Nat
  sparingDirty : Bool
  sparingRetry : Nat
  deriving DecidableEq, Repr

/-- A housekeeping channel as HK_CHANNEL shows it. -/
structure HkChan where
  value : BitVec 16
  round : Nat
  index : Nat
  valid : Bool
  deriving DecidableEq, Repr

/-- The thermal and power state of a tile (TILE_THERM_STATUS, MODEL_CFG, STATE_CTRL): its diode in 1/16 °C, its power P
in µW and its last 64 values, latest first, the rounds in a row with an invalid diode, DIODE_INVALID, its emergency
conditions (bit 0 diode, 1 layer, 2 diode invalid) and the rounds in a row towards the end of each, and the array cycles and slice accesses
up to the latest round (R401). -/
structure TilePower where
  diode : Int
  power : Nat
  hist : List Nat
  invalid : Nat
  invalidEver : Bool
  emerg : BitVec 3
  clear : List Nat
  modelCfg : Word
  stateCtrl : Word
  cycles : Nat
  accesses : Nat
  deriving DecidableEq, Repr

/-- The governor, the housekeeping sampler and the keeper's shutdown (chapter 12): GOV_CTRL as written and as in force,
the round's number and readings, the module's emergency conditions (bit 0 hearth, 1 power, 2 input voltage, 3 pin,
4 reference) with the rounds in a row towards the end of each, the rounds in a row above the power limit, the
emergency-throttle input, whether the reference is lost and before when it was not back in its range (R395), latched shutdown, TRIP_RECORD, the channels, and the samples in a row of each
laser above 90 % of its bias limit. -/
structure Power where
  govCtrl : Word
  inForce : Word
  round : Nat
  inputMw100 : Nat
  input10mV : Nat
  hearthTemp : Int
  flashWindow : Bool
  emerg : BitVec 5
  clear : List Nat
  overRounds : Nat
  pinThrottle : Bool
  refLost : Bool
  refSince : Nat
  shutdown : Bool
  thermalTrip : Bool
  trip : Word
  channels : Tab HkChan
  bias : Tab Nat
  tiles : Tab TilePower
  deriving DecidableEq, Repr

/-- An expert enable in force (R433): its holder, the functions of Table 13.11, its end, and the slot that authorised
it. -/
structure Enable where
  who : Requester
  functions : BitVec 16
  until_ : Nat
  slot : Nat
  deriving DecidableEq, Repr

/-- A key slot of the one-time-programmable store with its counters (R419, R439–R442): its keys by generation, the
thermometer bits programmed for each, LAST and RESERVED, the lock, the failures since start-up and in the last second,
and the end of its rate limit. -/
structure KeySlot where
  keys : List (List Byte)
  bits : List Nat
  last : Nat
  reserved : Nat
  locked : Bool
  authFails : Nat
  fails : List Nat
  limited : Option Nat
  deriving DecidableEq, Repr

/-- A starter write session (R446): its sender, IMAGE_BYTES, SEQUENCE, the bytes written, and its last command's time. -/
structure StarterSession where
  who : Requester
  bytes : Nat
  sequence : Nat
  written : Nat
  last : Nat
  deriving DecidableEq, Repr

/-- The service firmware (R417, R418): whether it runs or stays halted, its service memory, when the next heartbeat is
due, the restarts of the last 600 s, the guard refusals of the last second, the time of the last GUARD_VIOLATION event,
and the last answer in the reply block. -/
structure Firmware where
  running : Bool
  halted : Bool
  memory : List Byte
  due : Option Nat
  restarts : List Nat
  refusals : List Nat
  guardEvent : Option Nat
  replyCode : Code
  reply : List Word
  deriving DecidableEq, Repr

/-- The service port (R429): the bytes of the message that comes in and its next fragment, the reply that waits to be read
with the fragments already read, whether the last transaction was acknowledged, and the bytes that the last read
transaction returned. -/
structure ServicePort where
  buffer : List Byte
  next : Nat
  reply : Option (List Byte)
  read : Nat
  acked : Bool
  out : List Byte
  deriving DecidableEq, Repr

/-- A register-path write that waits for a lock (R68, R135), or a REG_WRITE of which one does: its sender, the header of
the message (none for a write that no message carries), the pairs still to write, how many were applied, the code so
far, and the time at which the wait began. -/
structure RegWork where
  who : Requester
  header : List Byte
  todo : List (Word × Word)
  applied : Nat
  code : Code
  since : Nat
  deriving DecidableEq, Repr

/-- A REG_READ of which a bench read waits (R34, R435): its sender, the header of its message, the addresses still to read, the
values so far and the code so far. -/
structure ReadWork where
  who : Requester
  header : List Byte
  todo : List Nat
  body : List Byte
  code : Code
  deriving DecidableEq, Repr

/-- A SYSTEM_LOAD that waits for its registration: the admission command that carries it, its sender, the header of its
message, and the code once it has ended. -/
structure LoadWork where
  id : Nat
  who : Requester
  header : List Byte
  done : Option Code
  deriving DecidableEq, Repr

/-- The keeper (chapter 13): KEEPER_STATE, the slots and VERIFY_HASH 1 of the one-time-programmable store, the enables,
the starter flash with the session that writes it, the PARAMETERS that start-up applied, the service firmware, the
service port, a start-up that waits for its reference at step 5, the register writes and SYSTEM_LOADs that
wait, whether the counter record waits for the flash window, and a RESET_MODULE whose reply is still to leave (into recovery or not, and by
when). -/
structure Keeper where
  phase : Nat
  starterSeq : Nat
  copyB : Bool
  otherValid : Bool
  presetsFailed : Nat
  slots : Tab KeySlot
  verify1 : Option (List Byte)
  enables : Tab Enable
  flash : FlashImage
  session : Option StarterSession
  fallback : Nat
  margin : Nat
  qualified : List (BitVec 32)
  presets : List (Word × Word)
  fw : Firmware
  port : ServicePort
  waiting : Option StartEnv
  works : List RegWork
  reads : List ReadWork
  loads : List LoadWork
  inbox : List Packet
  counterDirty : Bool
  resetDue : Option (Bool × Nat)
  deriving DecidableEq, Repr

/-- What the data register of a JTAG port captures: the bypass bit, its IDCODE, or the levels of the connector's pins. -/
inductive JtagData where
  | bypass
  | idcode (code : BitVec 32)
  | boundary (levels : PinLevels)
  deriving DecidableEq, Repr

/-- The service connector and the 48 V input (chapter 15): RESET_N and PWR_GOOD high, the address straps as last read,
whether the input keeps the always-on domain up, the JTAG instructions that the 25 ports execute, the hearth's first, the boundary-scan
register's held levels, and the data registers that the chain shifts out, that nearest to JTAG_TDO first. -/
structure Pins where
  resetN : Bool
  pwrGood : Bool
  straps : Nat
  powered : Bool
  jtag : List JtagIns
  boundary : PinLevels
  tdo : List JtagData
  deriving DecidableEq, Repr

/-- The module. `free` counts the free values taken so far and `lastCode` is the code of the last register access or
command (both the model's own). `pending` is the queue of waiting commands, first in, first out. DESIGN CHOICE (log entries 14, 68). -/
structure State where
  now : Nat
  pending : List Instr
  free : Nat
  lastCode : Code
  moduleNumber : BitVec 14
  counters : Tab Counter
  staging : List Staging
  stages : Tab Stage
  log : EventLog
  cores : Tab Core
  slices : Tab Slice
  tiles : Tab Tile
  groups : Tab Group
  pages : Tab Pte
  frames : Tab Frame
  tables : List TabLoc
  spaces : Tab Space
  sets : Tab ShardSet
  res : Tab ResTile
  nextId : Nat
  tins : Tab Tin
  streams : Tab Stream
  models : Tab Model
  jobs : List Job
  kernels : List KernelImage
  adm : Adm
  ports : Tab Port
  strands : Tab Strand
  engines : Tab Engine
  routing : Routing
  d2d : Tab D2dLane
  flight : List Packet
  failed : List (Nat × Packet × Code × List Nat)
  coll : Coll
  topo : Topo
  power : Power
  keeper : Keeper
  pins : Pins
  deriving DecidableEq, Repr


/-- An empty flash. DESIGN CHOICE (log entry 7). -/
def FlashImage.blank : FlashImage := ⟨[], [], [], [], [], [], [], []⟩

/-- The keeper before its first start-up: PHASE 0, no keys (R444). DESIGN CHOICE (log entry 7). -/
def Keeper.initial : Keeper where
  phase := 0
  starterSeq := 0
  copyB := false
  otherValid := false
  presetsFailed := 0
  slots := []
  verify1 := none
  enables := []
  flash := FlashImage.blank
  session := none
  fallback := 0
  margin := 8
  qualified := []
  presets := []
  fw := ⟨false, false, [], none, [], [], none, .ok, []⟩
  port := ⟨[], 0, none, 0, false, []⟩
  waiting := none
  works := []
  reads := []
  loads := []
  inbox := []
  counterDirty := false
  resetDue := none

/-- A routing bank with nothing written. -/
def Bank.blank : Bank := ⟨[]⟩

/-- The governor and the sampler at reset (R414): GOV_CTRL 0x0960_0000_FA32_07D0. -/
def Power.initial : Power where
  govCtrl := 0x09600000FA3207D0
  inForce := 0x09600000FA3207D0
  round := 0
  inputMw100 := 0
  input10mV := 0
  hearthTemp := 0
  flashWindow := false
  emerg := 0
  clear := [0, 0, 0, 0, 0]
  overRounds := 0
  pinThrottle := false
  refLost := false
  refSince := 0
  shutdown := false
  thermalTrip := false
  trip := 0
  channels := []
  bias := []
  tiles := []

/-- MODULE of the module's own addresses (Table 1.4). -/
def State.myModule (s : State) : Nat := s.moduleNumber.toNat

/-- MODULE has 14 bits (Table 1.4). -/
theorem State.myModule_lt (s : State) : s.myModule < 2 ^ 14 := s.moduleNumber.isLt

/-- The module right after power-on: the always-on domain runs, RESET_N and PWR_GOOD are low (R481), no other domain is
on, and every register holds its reset value. A table with nothing listed reads as the reset value of its entries. DESIGN CHOICE (log entries 7, 8). -/
def State.reset : State where
  now := 0
  pending := []
  free := 0
  lastCode := .ok
  moduleNumber := 0
  counters := []
  staging := []
  stages := []
  log := ⟨0, 0, [], false, 0, 0x13860, 0, [], []⟩
  cores := []
  slices := []
  tiles := []
  groups := []
  pages := []
  frames := []
  tables := []
  spaces := []
  sets := []
  res := []
  nextId := 1
  tins := []
  streams := []
  models := []
  jobs := []
  kernels := []
  adm := ⟨0x0C900C80, [], [], 0, .ok, 0, 0⟩
  ports := []
  strands := []
  engines := []
  routing := ⟨Bank.blank, Bank.blank, false, .ok, false, .ok, none, 0, []⟩
  d2d := []
  flight := []
  failed := []
  coll := ⟨[], 0xA01, 0, false, [], [], [], [], [], []⟩
  topo := ⟨0, 0, 0, 0, false, [], false, 0, [], [], [], [], 0, false, 0⟩
  power := Power.initial
  keeper := Keeper.initial
  pins := ⟨false, false, 0, true, List.replicate 25 .idcode, 0, []⟩

end Sys2Proof.Machine
end

