-- ==== Sys2Proof/Machine/Ops.lean ====
section
/-! DEFINITION. Ops: the shared operations over tables, fields, codes, counters and events, and the access to the
records of cores, slices, tiles and groups. Every meaning reaches the state through these. -/

namespace Sys2Proof.Machine

/-- The outcome of a command. -/
abbrev Out := Host.Outcome State Fault Refusal

/-- What a command answers once its effect has made `t` of `s`: neither the queue nor a signal of the service connector
is the effect of a command that names none, and module time never runs back. -/
def answer (s t : State) : Out := .next { t with pending := s.pending, pins := s.pins, now := max s.now t.now }

/-! ### Tables -/

/-- The value at key `k`, or `d` when the table does not list it. -/
def tget {α : Type} (d : α) : Tab α → Nat → α
  | [], _ => d
  | (i, v) :: r, k => if i = k then v else tget d r k

/-- The table with `v` at key `k`, in ascending key order. -/
def tput {α : Type} : Tab α → Nat → α → Tab α
  | [], k, v => [(k, v)]
  | (i, w) :: r, k, v =>
    if k = i then (k, v) :: r else if k < i then (k, v) :: (i, w) :: r else (i, w) :: tput r k v

/-- The table without key `k`. -/
def tdel {α : Type} (t : Tab α) (k : Nat) : Tab α := t.filter (fun p => p.1 != k)

/-- The canonical write: the default value removes the entry. -/
def tset {α : Type} [DecidableEq α] (d : α) (t : Tab α) (k : Nat) (v : α) : Tab α :=
  if v = d then tdel t k else tput t k v

/-- The first value that an association list holds for a key. -/
def aget {κ α : Type} [DecidableEq κ] (d : α) : List (κ × α) → κ → α
  | [], _ => d
  | (i, v) :: r, k => if i = k then v else aget d r k

/-- The association list with `v` for key `k`. -/
def aput {κ α : Type} [DecidableEq κ] : List (κ × α) → κ → α → List (κ × α)
  | [], k, v => [(k, v)]
  | (i, w) :: r, k, v => if i = k then (k, v) :: r else (i, w) :: aput r k v

/-- The list with `x` at its end unless it holds it. -/
def addNew {α : Type} [DecidableEq α] (l : List α) (x : α) : List α := if l.contains x then l else l ++ [x]

/-- A list in the order of `le`, equal elements in their order of arrival. -/
def sortBy {α : Type} (le : α → α → Bool) : List α → List α
  | [] => []
  | x :: r => put x (sortBy le r)
where
  put (x : α) : List α → List α
    | [] => [x]
    | y :: r => if le x y then x :: y :: r else y :: put x r

/-- The ascending numbers below `n`. -/
def upto (n : Nat) : List Nat := List.range n

/-! ### Fields -/

/-- Bits hi:lo of a number. -/
def nbits (n hi lo : Nat) : Nat := (n >>> lo) % 2 ^ (hi + 1 - lo)

/-- Bits hi:lo of a word. -/
def fld {w : Nat} (x : BitVec w) (hi lo : Nat) : Nat := nbits x.toNat hi lo

/-- Bit i of a word. -/
def bit {w : Nat} (x : BitVec w) (i : Nat) : Bool := x.getLsbD i

/-- A 64-bit word from fields (lowest bit, value). -/
def pack (l : List (Nat × Nat)) : Word := BitVec.ofNat 64 (l.foldl (fun a p => a + p.2 <<< p.1) 0)

/-- 1 for true. -/
def b2n (b : Bool) : Nat := if b then 1 else 0

/-- The word with bits hi:lo replaced. -/
def setFld (x : Word) (hi lo v : Nat) : Word :=
  BitVec.ofNat 64 (x.toNat - (nbits x.toNat hi lo) <<< lo + (v % 2 ^ (hi + 1 - lo)) <<< lo)

/-- The number of an LSB-first byte list (R14). -/
def leNat : List Byte → Nat
  | [] => 0
  | b :: r => b.toNat + 256 * leNat r

/-- The `n` little-endian bytes of a number (R14). -/
def leBytes : Nat → Nat → List Byte
  | 0, _ => []
  | n + 1, v => BitVec.ofNat 8 v :: leBytes n (v / 256)

/-- The signed value of the low `w` bits. -/
def sext (w n : Nat) : Int := if n % 2 ^ w < 2 ^ (w - 1) then (n % 2 ^ w : Nat) else (n % 2 ^ w : Nat) - (2 ^ w : Nat)

/-- The serial-number difference b − a over n bits, signed (comparisons of R456's sequences). -/
def serialDiff (n b a : Nat) : Int := sext n (b + 2 ^ n - a % 2 ^ n)

/-- A descriptor with word i replaced. -/
def descPut (d : CmdDesc) (i : Nat) (v : Word) : CmdDesc :=
  match i with
  | 0 => { d with w0 := v } | 1 => { d with w1 := v } | 2 => { d with w2 := v } | 3 => { d with w3 := v }
  | 4 => { d with w4 := v } | 5 => { d with w5 := v } | 6 => { d with w6 := v } | _ => { d with w7 := v }

/-- The all-zero descriptor (R78: a word not written is submitted as zero). -/
def descZero : CmdDesc := ⟨0, 0, 0, 0, 0, 0, 0, 0⟩

/-! ### Completion codes (Table 0.8, R21–R23) -/

/-- The number of a code. -/
def codeNum : Code → Nat
  | .ok => 0 | .rejected => 1 | .withdrawn => 2 | .timeout => 3 | .poisoned => 4 | .unknownOutcome => 5
  | .keyFault => 6 | .conflict => 7 | .retryLater => 8 | .mismatch => 9 | .forfeit => 10 | .wideRerun => 11
  | .saturated => 12 | .droppedOverflow => 13 | .suspect => 14 | .lockedOut => 15

/-- The code of a number below 16. -/
def codeOf (n : Nat) : Code :=
  match n with
  | 0 => .ok | 1 => .rejected | 2 => .withdrawn | 3 => .timeout | 4 => .poisoned | 5 => .unknownOutcome
  | 6 => .keyFault | 7 => .conflict | 8 => .retryLater | 9 => .mismatch | 10 => .forfeit | 11 => .wideRerun
  | 12 => .saturated | 13 => .droppedOverflow | 14 => .suspect | _ => .lockedOut

/-- The code that an endpoint takes from a received number: 0x10–0xFF end the operation with UNKNOWN_OUTCOME (R23). -/
def codeReceived (n : Nat) : Code := if n < 16 then codeOf n else .unknownOutcome

/-- The rank of a code under R21 and R22: the lower wins, every Failed code before every Completed one. -/
def codeRank : Code → Nat
  | .lockedOut => 0 | .keyFault => 1 | .withdrawn => 2 | .mismatch => 3 | .conflict => 4 | .rejected => 5
  | .retryLater => 6 | .poisoned => 7 | .unknownOutcome => 8 | .timeout => 9
  | .forfeit => 10 | .droppedOverflow => 11 | .wideRerun => 12 | .saturated => 13 | .suspect => 14 | .ok => 15

/-- The code that R21 and R22 select of two. -/
def codeMerge (a b : Code) : Code := if codeRank a ≤ codeRank b then a else b

/-- The code merged from a list, OK when it is empty. -/
def codeMergeAll (l : List Code) : Code := l.foldl codeMerge .ok

/-- Whether a code is in the Failed class. -/
def codeFailed (c : Code) : Bool := decide (codeRank c < 10)

/-! ### Records -/

/-- The key of a logical core or of its slice. -/
def ck (tile core : Nat) : Nat := 64 * tile + core

/-- The key of a core reference. -/
def coreKey (r : CoreRef) : Nat := ck r.tile.val r.core.val

/-- An array at reset: in service, with an empty queue. -/
def arrayInit : ArrayState := ⟨[], false, false⟩

/-- A tracker at reset: AMAX_CFG 0x0038_0380. -/
def trackerInit : Tracker :=
  ⟨0x380380, none, 0, false, false, false, false, false, [], 0, 0, 0, 0⟩

/-- A work class with nothing issued. -/
def ticketsInit : Tickets := ⟨0, 0, [], []⟩

/-- The reset value of a scale register: 1.0 (R133). -/
def scaleInit : Word32 := 0x3F800000

/-- A core at reset. DESIGN CHOICE (log entry 8). -/
def coreInit : Core where
  arrays := []
  enqSeq := 0
  complTag := 0
  complCode := .ok
  complArray := 0
  complSeq := 0
  residueLog := 0
  gen := 1
  scale := []
  trackers := []
  histSel := []
  arithCtl := 0
  bench := []
  benchErr := []
  benchDead := false
  kernel := none
  saved := []
  resumeReq := none
  preemptReq := false
  moves := []
  writes := []
  linkLocks := []
  lastStream := 0
  lastKernel := 0
  trap := 0
  withdrawn := false
  withdrawBy := none
  tlb := []
  grants := 0
  arrayCycles := 0

/-- A slice at reset: untrained, AUTO_SPARE and SCRUB_EN set. DESIGN CHOICE (log entry 8). -/
def sliceInit : Slice where
  state := 0
  data := []
  bad := []
  caFault := false
  caLane := 0
  erased := none
  laneMap := []
  laneErr := []
  recent := []
  trainResult := .ok
  trainBusy := none
  trainLayer := 0
  trainLane := 0
  switchLayer := 0
  switchLane := 0
  prevState := 0
  autoSpare := true
  errLog := 0
  scrubPasses := 0
  scrubNext := 0
  scrubEn := true
  scrubPending := none
  heldWrites := []
  lastAccess := 0
  nextRefresh := 0
  refreshInterval := 4000000
  accesses := 0

/-- A group at reset: Off, no position retired. -/
def groupInit : Group where
  mhz := 500
  target := 500
  pstate := .off
  request := none
  changing := false
  waking := none
  emergency := false
  retiredPos := 16
  off := 0
  shift := none
  bake := none
  misses := []
  spareMisses := []
  bakeLog := 0
  idleFrom := none

/-- A tile at reset. DESIGN CHOICE (log entry 8). -/
def tileInit : Tile where
  inService := false
  dispCtrl := 2
  stackCtrl := 0xC22
  bakeCtrl := 0x607
  coreHalf := 0
  hold := false
  holdSince := 0
  holdWrites := 0
  refreshMult := 0
  coolRounds := 0
  cool85 := 0
  layerTemp := []
  spareResult := .ok
  spareBusy := false
  d2dReduced := 0
  d2dDown := 0
  addersDown := 0
  adderMiss := []

/-- Core `key`. -/
def getCore (s : State) (key : Nat) : Core := tget coreInit s.cores key
/-- The state with core `key` replaced. -/
def putCore (s : State) (key : Nat) (c : Core) : State := { s with cores := tput s.cores key c }
/-- The state with core `key` changed. -/
def modCore (s : State) (key : Nat) (f : Core → Core) : State := putCore s key (f (getCore s key))
/-- Slice `key`. -/
def getSlice (s : State) (key : Nat) : Slice := tget sliceInit s.slices key
/-- The state with slice `key` replaced. -/
def putSlice (s : State) (key : Nat) (c : Slice) : State := { s with slices := tput s.slices key c }
/-- The state with slice `key` changed. -/
def modSlice (s : State) (key : Nat) (f : Slice → Slice) : State := putSlice s key (f (getSlice s key))
/-- Tile `t`. -/
def getTile (s : State) (t : Nat) : Tile := tget tileInit s.tiles t
/-- The state with tile `t` replaced. -/
def putTile (s : State) (t : Nat) (c : Tile) : State := { s with tiles := tput s.tiles t c }
/-- The state with tile `t` changed. -/
def modTile (s : State) (t : Nat) (f : Tile → Tile) : State := putTile s t (f (getTile s t))
/-- Group `g` of tile `t`. -/
def getGroup (s : State) (t g : Nat) : Group := tget groupInit s.groups (4 * t + g)
/-- The state with group `g` of tile `t` replaced. -/
def putGroup (s : State) (t g : Nat) (c : Group) : State := { s with groups := tput s.groups (4 * t + g) c }
/-- The state with group `g` of tile `t` changed. -/
def modGroup (s : State) (t g : Nat) (f : Group → Group) : State := putGroup s t g (f (getGroup s t g))
/-- An array of a core. -/
def getArray (c : Core) (a : Nat) : ArrayState := tget arrayInit c.arrays a
/-- The core with an array replaced. -/
def putArray (c : Core) (a : Nat) (x : ArrayState) : Core := { c with arrays := tput c.arrays a x }
/-- The core with an array changed. -/
def modArray (c : Core) (a : Nat) (f : ArrayState → ArrayState) : Core := putArray c a (f (getArray c a))
/-- A tracker of a core. -/
def getTracker (c : Core) (t : Nat) : Tracker := tget trackerInit c.trackers t
/-- The core with a tracker replaced. -/
def putTracker (c : Core) (t : Nat) (x : Tracker) : Core := { c with trackers := tput c.trackers t x }
/-- The core with its kernel changed, when it runs one. -/
def modKernel (c : Core) (f : Kernel → Kernel) : Core := { c with kernel := c.kernel.map f }
/-- A work class of a kernel. -/
def getCls (k : Kernel) (i : Nat) : Tickets := tget ticketsInit k.classes i
/-- The kernel with a work class replaced. -/
def putCls (k : Kernel) (i : Nat) (x : Tickets) : Kernel := { k with classes := tput k.classes i x }

/-- The group of a logical core. -/
def groupOf (key : Nat) : Nat := key % 64 / 16

/-- The physical position of a logical core (R34, Table 11.7): one higher from the retired position on. -/
def posOf (s : State) (key : Nat) : Nat :=
  if key % 16 < (getGroup s (key / 64) (groupOf key)).retiredPos then key % 16 else key % 16 + 1

/-- A uniform choice from a list (R285): the free value modulo the number of candidates; one candidate needs none. DESIGN CHOICE (log entries 10, 11). -/
def pickOne {α : Type} (l : List α) (s : State) : Option α × State :=
  match l with
  | [] => (none, s)
  | [x] => (some x, s)
  | l => (l[Config.rand s.free % l.length]?, { s with free := s.free + 1 })

/-! ### Events and counters (chapter 14) -/

/-- Word 2 of an event (Table 14.1); the fields not given hold their "none" value or zero. -/
def evW2 (unit : Nat := 0) (position : Nat := 0x1F) (layer : Nat := 0) (array : Nat := 0) (index : Nat := 0)
    (strand : Nat := 0xFF) (engine : Nat := 0x1F) : Word :=
  pack [(56, strand), (51, engine), (45, unit), (40, position), (36, layer), (35, array), (0, index)]

/-- The classes of Table 14.1. -/
def clsNotice : Nat := 0
/-- CLASS FAULT. -/
def clsFault : Nat := 1
/-- CLASS COUNTER. -/
def clsCounter : Nat := 2

/-- An event of a tile or core (Table 14.8). -/
def mkEv (type cls side level : Nat) (srcTile srcCore : Nat) (w2 w3 : Word) (code : Code := .ok) : EvRec :=
  ⟨srcTile, srcCore, false, type, code, side, level, cls, w2, w3⟩

/-- Whether an event is of CLASS FAULT at level 7. -/
def evTop (e : EvRec) : Bool := e.cls == clsFault && e.level == 7

/-- Whether a tile's staging queue takes an event (R452): 64 records, 8 of them for level-7 faults alone. -/
def stageRoom (q : List EvRec) (e : EvRec) : Bool :=
  evTop e || (decide (q.length < 64) && decide ((q.filter (fun x => !evTop x)).length < 56))

/-- The staging queue of a source. -/
def getStage (s : State) (t : Nat) : Stage := tget ⟨[], 0⟩ s.stages t

/-- The control-space key of a counter: bits 49:0 of its global physical address (Table 1.4). -/
def gpaKey (tile core space off : Nat) : Nat := tile <<< 45 + core <<< 39 + space <<< 36 + off

/-- The counter at a key. -/
def getCounter (s : State) (k : Nat) : Counter := tget ⟨0, false⟩ s.counters k

/-- An increment of a counter (R458), and whether it is the first that overflows. -/
def counterBump (s : State) (k n : Nat) : State × Bool :=
  let c := getCounter s k
  if c.value.toNat + n < 2 ^ 48 then
    ({ s with counters := tput s.counters k { c with value := c.value + BitVec.ofNat 48 n } }, false)
  else ({ s with counters := tput s.counters k ⟨BitVec.allOnes 48, true⟩ }, !c.overflow)

/-- The key of a tile's EVENTS_DROPPED counter (Table 14.5). -/
def droppedKey (t : Nat) : Nat := gpaKey t 0 3 (0x121000 + 8 * 49)

/-- Whether an event finds room at its source (R452). The hearth's own records have no bound. -/
def stageTakes (s : State) (e : EvRec) : Bool := e.srcTile == 30 || stageRoom (getStage s e.srcTile).queue e

/-- An event in its source's staging queue, or one more that the source has lost. -/
def stageAdd (s : State) (e : EvRec) : State :=
  let st := getStage s e.srcTile
  { s with stages := tput s.stages e.srcTile (if stageTakes s e then { st with queue := st.queue ++ [e] } else { st with dropped := st.dropped + 1 }) }

/-- The scope of a counter (R458): side, level and word 2 of its COUNTER_OVERFLOW. -/
def counterScope (k : Nat) : Nat × Nat × Word :=
  let off := k % 2 ^ 36
  if nbits k 38 36 = 2 then (0, 4, evW2 (unit := nbits k 44 39))
  else if nbits k 49 45 = 30 then
    if 0x702000 ≤ off ∧ off < 0x705000 then (0, 7, evW2 (strand := (off - 0x702000) / 0x40)) else (0, 7, evW2)
  else if off < 0x122000 then (0, 6, evW2)
  else if off < 0x124000 then (0, 5, evW2 (unit := (off - 0x122000) / 0x100))
  else (1, 5, evW2 (unit := (off - 0x124000) / 0x80))

/-- COUNTER_OVERFLOW of the counter at a key (R458). -/
def overflowEvent (k : Nat) : EvRec :=
  let (side, level, w2) := counterScope k
  mkEv 0x0B01 clsCounter side level (nbits k 49 45) (if nbits k 38 36 = 2 then nbits k 44 39 else 0) w2 (BitVec.ofNat 64 (k % 2 ^ 36))

/-- Staging of an event at its source (R452): one that finds no room counts in EVENTS_DROPPED, whose first overflow raises its event as that
of any counter does (R458). -/
def stageRaw (s : State) (e : EvRec) : State :=
  if stageTakes s e then stageAdd s e else
  match counterBump (stageAdd s e) (droppedKey e.srcTile) 1 with
  | (s, false) => s
  | (s, true) => stageAdd s (overflowEvent (droppedKey e.srcTile))

/-- An increment of n of the counter at a key; the first that overflows raises COUNTER_OVERFLOW (R458). -/
def count (k n : Nat) (s : State) : State :=
  if n = 0 then s else
  match counterBump s k n with
  | (s, false) => s
  | (s, true) => stageRaw s (overflowEvent k)

/-- A counter of core control space (Table 14.4). -/
def countCore (key i n : Nat) (s : State) : State := count (gpaKey (key / 64) (key % 64) 2 (0xA000 + 8 * i)) n s
/-- A counter of a tile (Table 14.5, base 0x0012_1000). -/
def countTile (t i n : Nat) (s : State) : State := count (gpaKey t 0 3 (0x121000 + 8 * i)) n s
/-- A counter of a group (Table 14.5). -/
def countGroup (t g i n : Nat) (s : State) : State := count (gpaKey t 0 3 (0x122000 + 0x100 * g + 8 * i)) n s
/-- A counter of a slice (Table 14.5). -/
def countSlice (key i n : Nat) (s : State) : State :=
  count (gpaKey (key / 64) 0 3 (0x124000 + 0x80 * (key % 64) + 8 * i)) n s
/-- A counter of the hearth (Table 14.6). -/
def countHearth (i n : Nat) (s : State) : State := count (gpaKey 30 0 3 (0x701000 + 8 * i)) n s
/-- A counter of a strand (Table 14.6). -/
def countStrand (st i n : Nat) (s : State) : State := count (gpaKey 30 0 3 (0x702000 + 0x40 * st + 8 * i)) n s
/-- A counter of a key slot (Table 14.6). -/
def countSlot (k i n : Nat) (s : State) : State := count (gpaKey 30 0 3 (0x705000 + 0x10 * k + 8 * i)) n s

/-- A raised fault event of a tile marks every running job that the tile serves (R250: cause 2). -/
def markFault (t : Nat) (s : State) : State :=
  { s with jobs := s.jobs.map (fun j =>
      if bit (tget 0 (s.models.map (fun m => (m.1, m.2.mask.toNat))) j.slot |> BitVec.ofNat 24) t
      then { j with fault := true } else j) }

/-- Raises an event (R452, R455). -/
def raise (e : EvRec) (s : State) : State :=
  let s := stageRaw s e
  if e.cls = clsFault then markFault e.srcTile s else s

/-- The Completed conditions among the codes that applied to one operation (R22). -/
def completedConds (l : List Code) : List Code := [Code.forfeit, .droppedOverflow, .wideRerun, .saturated, .suspect].filter l.contains

/-- The event types of Table 14.2 whose CLASS is NOTICE (Table 14.8). -/
def noticeTypes : List Nat :=
  [0x0104, 0x0105, 0x0107, 0x0108, 0x0109, 0x0207, 0x0304, 0x0306, 0x0401, 0x0402, 0x0502, 0x0602, 0x0703, 0x0706, 0x0804, 0x0807, 0x0902,
   0x0905, 0x0A01, 0x0A02, 0x0A03, 0x0A04, 0x0A05, 0x0A08, 0x0B02, 0x0B03, 0x0B04]

/-- The listed type that a free value picks: a module never logs another (R455). DESIGN CHOICE (log entry 152). -/
def noticeType (w : BitVec 16) : Nat := noticeTypes.getD (w.toNat % 27) 0x0104

/-- The separate event for each Completed condition when more than one applied (R22); FORFEIT has DEADLINE_MISS. DESIGN CHOICE (log entry 152). -/
def conditionEvents (tile core level : Nat) (l : List Code) (s : State) : State :=
  if (completedConds l).length < 2 then s else
  ((completedConds l).filter (· != .forfeit)).foldl (fun s c =>
    raise (mkEv (noticeType (Config.conditionType (BitVec.ofNat 8 (codeNum c)))) clsNotice 0 level tile core (evW2 (unit := core)) 0 c) s) s

/-- The event of a received code of the range 0x10–0xFF, with the value (R23). DESIGN CHOICE (log entry 152). -/
def receivedEvent (tile n : Nat) (s : State) : State :=
  if n < 16 then s else
  raise (mkEv (noticeType Config.receivedType) clsNotice 0 7 tile 0 evW2 (BitVec.ofNat 64 n) .unknownOutcome) s

/-- Whether a tile serves the slot that a MEASURE runs on: the conditions of Table 7.11 hold there (R237). -/
def calibrating (s : State) (t : Nat) : Bool :=
  s.adm.queue.any (fun c => c.stage == 3 && s.models.any (fun m => m.1 == fld c.desc.w0 55 50 && bit m.2.mask t))

/-- Whether the trackers that a kernel commits are forced to trip: a TRACKED operator's narrow run in an odd step of a MEASURE
(Table 7.11). DESIGN CHOICE (log entry 62). -/
def calForces (s : State) (k : Kernel) : Bool :=
  !k.wide && s.jobs.any (fun j => j.num.toNat == k.job && (match j.cal with | some (_, n) => n % 2 == 1 | none => false) &&
    s.models.any (fun m => m.1 == j.slot && (match m.2.ops[k.op]? with | some o => bit (BitVec.ofNat 16 o.flags) 0 | none => false)))

/-! ### Bench bytes -/

/-- A bench byte (R180: zero unless written). DEDUCED (log entry 9). -/
def benchByte (c : Core) (o : Nat) : Byte := tget 0 c.bench o

/-- `n` bench bytes from offset o. -/
def benchRead (c : Core) (o n : Nat) : List Byte := (upto n).map (fun i => benchByte c (o + i))

/-- Writes bytes into a sparse memory whose unlisted bytes read zero. -/
def memWrite (t : Tab Byte) : Nat → List Byte → Tab Byte
  | _, [] => t
  | o, b :: r => memWrite (tset 0 t o b) (o + 1) r

/-- Writes bench bytes; a write to the 128-byte line at WATCH_LINE that changes a byte sets wake-pending bit 3
(Table 3.7). A write of a whole 64-bit word gives it a fresh codeword (R179). DESIGN CHOICE (log entry 26). -/
def benchWrite (c : Core) (o : Nat) (bs : List Byte) : Core :=
  let c' :=
    { c with
      bench := memWrite c.bench o bs
      benchErr := c.benchErr.filter (fun e => !(decide (o ≤ 8 * e.1) && decide (8 * e.1 + 8 ≤ o + bs.length))) }
  match c.kernel with
  | none => c'
  | some k =>
    let line := k.watchLine.toNat / 128 * 128
    if (upto 128).any (fun i => benchByte c (line + i) != benchByte c' (line + i)) then
      { c' with kernel := some { k with wake := k.wake ||| 8#5 } }
    else c'

/-- Whether byte ranges [a, a+n) and [b, b+m) overlap. -/
def rangesOverlap (a n b m : Nat) : Bool := decide (a < b + m) && decide (b < a + n)

end Sys2Proof.Machine
end

