-- ==== Sys2Proof/Machine/Flags.lean ====
section
/-! DEFINITION. Flags: binary32 arithmetic of the vector unit and its FP_FLAGS (R89), over exact integers, and the
rounding of a value to a grid that every narrow format shares (R129). Flag bits: 0 invalid, 1 divide by zero,
2 overflow, 3 underflow, 4 inexact. -/

namespace Sys2Proof.Machine

/-- The flag set of Table 3.8. -/
abbrev FpFlags := BitVec 5

/-- Invalid. -/
def fInvalid : FpFlags := 1
/-- Divide by zero. -/
def fDivZero : FpFlags := 2
/-- Inexact. -/
def fInexact : FpFlags := 16

/-- The canonical quiet NaN (R89). -/
def canonNan : Word32 := 0x7FC00000
/-- +infinity. -/
def posInf : Word32 := 0x7F800000
/-- The largest finite magnitude. -/
def maxFinite : Word32 := 0x7F7FFFFF
/-- The sign bit. -/
def signBit : Word32 := 0x80000000

/-- Exponent field. -/
def fExp (x : Word32) : Nat := fld x 30 23
/-- Fraction field. -/
def fFrac (x : Word32) : Nat := fld x 22 0
/-- Sign. -/
def fNeg (x : Word32) : Bool := bit x 31
/-- A NaN of either kind. -/
def isNan (x : Word32) : Bool := fExp x == 255 && fFrac x != 0
/-- A signalling NaN. -/
def isSnan (x : Word32) : Bool := isNan x && !bit x 22
/-- An infinity. -/
def isInf (x : Word32) : Bool := fExp x == 255 && fFrac x == 0
/-- A zero of either sign. -/
def isZero (x : Word32) : Bool := fExp x == 0 && fFrac x == 0

/-- An exact dyadic number: i × 2^e. -/
abbrev Dy := Int × Int

/-- The value of a finite binary32 (R117). -/
def fDy (x : Word32) : Dy :=
  let m : Nat := if fExp x = 0 then fFrac x else 2 ^ 23 + fFrac x
  let e : Int := if fExp x = 0 then -149 else (fExp x : Int) - 150
  (if fNeg x then -(m : Int) else (m : Int), e)

/-- Product of dyadics. -/
def dyMul (a b : Dy) : Dy := (a.1 * b.1, a.2 + b.2)

/-- Sum of dyadics. -/
def dyAdd (a b : Dy) : Dy :=
  if a.1 = 0 then b else if b.1 = 0 then a else
  let e := min a.2 b.2
  (a.1 * 2 ^ (a.2 - e).toNat + b.1 * 2 ^ (b.2 - e).toNat, e)

/-- Numerator and denominator of |i| × 2^e. -/
def dyRat (d : Dy) : Nat × Nat :=
  if 0 ≤ d.2 then (d.1.natAbs * 2 ^ d.2.toNat, 1) else (d.1.natAbs, 2 ^ (-d.2).toNat)

/-- ⌊log2 (num ÷ den)⌋ for num > 0. -/
def flog2 (num den : Nat) : Int :=
  let d : Int := (Nat.log2 num : Int) - (Nat.log2 den : Int)
  if (if 0 ≤ d then decide (num < den * 2 ^ d.toNat) else decide (num * 2 ^ (-d).toNat < den)) then d - 1 else d

/-- The grid of a format with m mantissa bits and smallest normal exponent emin (R129): the lower neighbour of
num ÷ den as lo × 2^qe, and the distance above it as rem ÷ den' of one step. -/
def quantize (m : Nat) (emin : Int) (num den : Nat) : Nat × Int × Nat × Nat :=
  if num = 0 then (0, emin - m, 0, 1) else
  let qe : Int := max (flog2 num den) emin - m
  let n := if 0 ≤ qe then num else num * 2 ^ (-qe).toNat
  let d := if 0 ≤ qe then den * 2 ^ qe.toNat else den
  (n / d, qe, n % d, d)

/-- Nearest with ties to even takes the upper neighbour. -/
def rneUp (lo rem den : Nat) : Bool := decide (den < 2 * rem) || (2 * rem == den && lo % 2 == 1)

/-- Rounds num ÷ den to binary32, nearest with ties to even, with subnormals; tininess is detected after rounding. -/
def fRound (neg : Bool) (num den : Nat) : Word32 × FpFlags :=
  let sgn : Nat := if neg then 2 ^ 31 else 0
  if num = 0 then (BitVec.ofNat 32 sgn, 0) else
  let (lo, qe, rem, d) := quantize 23 (-126) num den
  let n := lo + b2n (rneUp lo rem d)
  let bits := (qe + 149).toNat * 2 ^ 23 + n
  if 255 * 2 ^ 23 ≤ bits then (BitVec.ofNat 32 (sgn + 255 * 2 ^ 23), 0b10100)
  else
    let (lo', qe', rem', d') := quantize 23 (-100000) num den
    let n' := lo' + b2n (rneUp lo' rem' d')
    let tiny := decide (qe' + 23 + b2n (n' == 2 ^ 24) < -126)
    (BitVec.ofNat 32 (sgn + bits), if rem = 0 then 0 else if tiny then 0b11000 else 0b10000)

/-- Rounds a dyadic; an exact zero takes the sign given. -/
def fRoundDy (zneg : Bool) (d : Dy) : Word32 × FpFlags :=
  if d.1 = 0 then (if zneg then signBit else 0, 0)
  else fRound (decide (d.1 < 0)) (dyRat d).1 (dyRat d).2

/-- The result of an operation that meets a NaN among its operands (R89). -/
def fNanOf (l : List Word32) : Word32 × FpFlags := (canonNan, if l.any isSnan then fInvalid else 0)

/-- Addition. -/
def fAdd (a b : Word32) : Word32 × FpFlags :=
  if isNan a || isNan b then fNanOf [a, b]
  else if isInf a then if isInf b && fNeg a != fNeg b then (canonNan, fInvalid) else (a, 0)
  else if isInf b then (b, 0)
  else fRoundDy (fNeg a && fNeg b) (dyAdd (fDy a) (fDy b))

/-- Subtraction. -/
def fSub (a b : Word32) : Word32 × FpFlags := if isNan b then fNanOf [a, b] else fAdd a (b ^^^ signBit)

/-- Multiplication. -/
def fMul (a b : Word32) : Word32 × FpFlags :=
  if isNan a || isNan b then fNanOf [a, b]
  else if isInf a || isInf b then
    if isZero a || isZero b then (canonNan, fInvalid)
    else (if fNeg a != fNeg b then posInf ||| signBit else posInf, 0)
  else fRoundDy (fNeg a != fNeg b) (dyMul (fDy a) (fDy b))

/-- Fused multiply-add with one rounding. With an infinity times a zero and a quiet NaN addend, IEEE 754 leaves the
invalid flag to the implementation: `Config.fmaInvalid`. DESIGN CHOICE (log entry 17). -/
def fFma (a b c : Word32) : Word32 × FpFlags :=
  let badProd := (isInf a && isZero b) || (isZero a && isInf b)
  if isNan a || isNan b then fNanOf [a, b, c]
  else if badProd then
    (canonNan, if isNan c && !isSnan c then (if Config.fmaInvalid then fInvalid else 0) else fInvalid)
  else if isNan c then fNanOf [c]
  else
    let pneg := fNeg a != fNeg b
    if isInf a || isInf b then
      if isInf c && fNeg c != pneg then (canonNan, fInvalid)
      else (if pneg then posInf ||| signBit else posInf, 0)
    else if isInf c then (c, 0)
    else fRoundDy (pneg && fNeg c) (dyAdd (dyMul (fDy a) (fDy b)) (fDy c))

/-- a < b for numbers, infinities included. -/
def fLess (a b : Word32) : Bool :=
  let key (x : Word32) : Int := if fNeg x then -(fld x 30 0 : Int) else (fld x 30 0 : Int)
  decide (key a < key b)

/-- VMAX: of +0 and −0, +0; of a NaN and a number, the number (R89). -/
def fMax (a b : Word32) : Word32 × FpFlags :=
  let f : FpFlags := if isSnan a || isSnan b then fInvalid else 0
  (if isNan a then (if isNan b then canonNan else b) else if isNan b then a
   else if isZero a && isZero b then a &&& b else if fLess a b then b else a, f)

/-- VMIN: of +0 and −0, −0. -/
def fMin (a b : Word32) : Word32 × FpFlags :=
  let f : FpFlags := if isSnan a || isSnan b then fInvalid else 0
  (if isNan a then (if isNan b then canonNan else b) else if isNan b then a
   else if isZero a && isZero b then a ||| b else if fLess b a then b else a, f)

/-- VCMPLT: the signalling comparison. -/
def fCmpLt (a b : Word32) : Word32 × FpFlags :=
  if isNan a || isNan b then (0, fInvalid) else (if fLess a b then 0xFFFFFFFF else 0, 0)

/-- VRCP. -/
def fRcp (a : Word32) : Word32 × FpFlags :=
  if isNan a then fNanOf [a]
  else if isZero a then ((a &&& signBit) ||| posInf, fDivZero)
  else if isInf a then (a &&& signBit, 0)
  else fRound (fNeg a) (dyRat (fDy a)).2 (dyRat (fDy a)).1

/-- ⌊√n⌋ for n below 4^k, one binary digit at a time. -/
def isqrt (n : Nat) : Nat → Nat → Nat
  | 0, r => r
  | k + 1, r => isqrt n k (if (r + 2 ^ k) * (r + 2 ^ k) ≤ n then r + 2 ^ k else r)

/-- √(num ÷ den) in units of 2^−120, exactly or as the odd half-unit inside its interval. -/
def sqrtRat (num den : Nat) : Nat × Nat :=
  let n := num * 2 ^ 240 / den
  let r := isqrt n 200 0
  if r * r * den = num * 2 ^ 240 then (r, 2 ^ 120) else (2 * r + 1, 2 ^ 121)

/-- VRSQRT. -/
def fRsqrt (a : Word32) : Word32 × FpFlags :=
  if isNan a then fNanOf [a]
  else if isZero a then ((a &&& signBit) ||| posInf, fDivZero)
  else if fNeg a then (canonNan, fInvalid)
  else if isInf a then (0, 0)
  else
    let q := sqrtRat (dyRat (fDy a)).2 (dyRat (fDy a)).1
    fRound false q.1 q.2

/-- ⌊2^(2^−i) × 2^192⌋ for i = 1–49. -/
def exp2Roots : List Nat :=
  [8877162406579534828678351183397059828045242093918884417689,
   7464774045317768453201677477944686347737831060865891500785,
   6845227981165683389866201995580584438791576356629740284223,
   6555012771893932512490750100488603505289503991177254314658,
   6414552365203456685841281079553200157469839790873483983608,
   6345454891758931698578299796390944806611837508792293832859,
   6311185777084833422763308095605011855094842682364972114948] ++
  [6294120684709417395141815994194253101638533761220910465515,
   6285605449972396039901071997599371205869593527219257721884,
   6281352153635211177224088204055436215885918524987894589408,
   6279226584871615276431171999771824874205336189576937499712,
   6278164070234529729008799366385080352205608009018332914481,
   6277632880338852189849630884918880199521106173089440648921,
   6277367302245065884628372854492270734749217748784327014887] ++
  [6277234517411477884069843006005790892923052556680220853539,
   6277168126047984177329942300060586259488950484511281061311,
   6277134930629559148100062362523787801099250937717273069736,
   6277118332986176683368570909983202887727479348889992667782,
   6277110034180942912704992877394132242886094775181979177694,
   6277105884782440386452674711319597470354270024415160426472,
   6277103810084217712303125439886631168288328990363561021221] ++
  [6277102772735363522373346080902281635844536906480829464914,
   6277102254061000714182310577412639083225569257408796891423,
   6277101994723835381778707039510926682169573997131793868138,
   6277101865055256733499690157766159580685928780106634989857,
   6277101800220968413840853730414399939830233245115274888897,
   6277101767803824505131600494083622404393681108056958040414,
   6277101751595252613557014742000131159058711666460402960269] ++
  [6277101743490966683464732035197062889797456624663047888014,
   6277101739438823722342343218194973479427091074181563695367,
   6277101737412752242762086943055011879439774619394223128022,
   6277101736399716503217193338732954596318071372977603011838,
   6277101735893198633506055169872363426550262563706180542370,
   6277101735639939698665813243765734283686718934802756135727,
   6277101735513310231249524070293155957019063467918964974215] ++
  [6277101735449995497542337430952028309158643943361145843580,
   6277101735418338130688983598130252045882083676851501164261,
   6277101735402509447262366553431560452130378101313727877092,
   6277101735394595105549072999010263745691564226154145232335,
   6277101735390637934692429963781627659577091425887197634865,
   6277101735388659349264109381662812682608047861227812764773,
   6277101735387670056549949324477280960559569200409928141675] ++
  [6277101735387175410192869354352984041133590014459351657468,
   6277101735386928087014329383907952816818821628108706805049,
   6277101735386804425425059402339716513510824757903301730277,
   6277101735386742594630424412469168189069152156207298094528,
   6277101735386711679233106917762286483651394689043998447583,
   6277101735386696221534448170465943745143285335800152597537,
   6277101735386688492685118796832046904439422963252259219707]

/-- 2^(k ÷ 2^49) × 2^192 for k below 2^49, within 2^−180. DEDUCED (log entry 18). -/
def exp2Frac (k : Nat) : Nat :=
  (exp2Roots.zipIdx).foldl (fun p ci => if k.testBit (48 - ci.2) then p * ci.1 / 2 ^ 192 else p) (2 ^ 192)

/-- VEXP2, correctly rounded: below 2^−26 in magnitude the result rounds to 1; beyond ±200 it overflows or vanishes
as at ±200; an argument that is no integer gives an irrational value, which no rounding boundary meets. DEDUCED (log entry 18). -/
def fExp2 (a : Word32) : Word32 × FpFlags :=
  if isNan a then fNanOf [a]
  else if isInf a then (if fNeg a then 0 else posInf, 0)
  else if isZero a then (0x3F800000, 0)
  else if fExp a < 101 then (0x3F800000, fInexact)
  else
    let d := fDy a
    let big := decide (134 < fExp a)
    let x : Int := if big then (if fNeg a then -200 else 200) * 2 ^ 49
      else if -49 ≤ d.2 then d.1 * 2 ^ (d.2 + 49).toNat else d.1 / 2 ^ (-49 - d.2).toNat
    let i := x / 2 ^ 49
    let k := (x % 2 ^ 49).toNat
    let p := if k = 0 then 2 ^ 193 else 2 * exp2Frac k + 1
    let e := i - 193
    if 0 ≤ e then fRound false (p * 2 ^ e.toNat) 1 else fRound false p (2 ^ (-e).toNat)

/-- VCVTI: nearest with ties to even, saturating; invalid for the saturated cases and a NaN. -/
def fToInt (a : Word32) : Word32 × FpFlags :=
  if isNan a then (0, fInvalid)
  else if isInf a then (if fNeg a then 0x80000000 else 0x7FFFFFFF, fInvalid)
  else
    let (n, den) := dyRat (fDy a)
    let lo := n / den
    let m : Nat := lo + b2n (rneUp lo (n % den) den)
    let v : Int := if fNeg a then -(m : Int) else m
    if v > 2 ^ 31 - 1 then (0x7FFFFFFF, fInvalid)
    else if v < -2 ^ 31 then (0x80000000, fInvalid)
    else (BitVec.ofInt 32 v, if n % den = 0 then 0 else fInexact)

/-- VCVTF. -/
def fOfInt (a : Word32) : Word32 × FpFlags := fRoundDy false (a.toInt, 0)

/-- The magnitude of a binary32. -/
def fAbs (x : Word32) : Word32 := x &&& 0x7FFFFFFF

/-- Division, rounded to nearest with ties to even, for the trackers (R139), with a nonzero divisor. A quotient of an
infinity is an infinity, and one by an infinity is zero, as IEEE 754 gives them. -/
def fDiv (a b : Word32) : Word32 :=
  if isInf a then a else if isInf b then 0 else
  let (n, d) := dyRat (fDy a)
  let (n', d') := dyRat (fDy b)
  (fRound (fNeg a != fNeg b) (n * d') (d * n')).1

/-! ### Vectors: 64 lanes of 32 bits -/

/-- Lane i. -/
def lane (v : BitVec 2048) (i : Nat) : Word32 := v.extractLsb' (32 * i) 32

/-- The vector of 64 lanes. -/
def ofLanes (f : Nat → Word32) : BitVec 2048 :=
  BitVec.ofNat 2048 ((upto 64).foldl (fun a i => a + (f i).toNat <<< (32 * i)) 0)

/-- The vector with lane i replaced. -/
def setLane (v : BitVec 2048) (i : Nat) (x : Word32) : BitVec 2048 :=
  ofLanes (fun j => if j = i then x else lane v j)

/-- A lane-wise operation with flags, its flags merged. -/
def vmap (f : Nat → Word32 × FpFlags) : BitVec 2048 × FpFlags :=
  (ofLanes (fun i => (f i).1), (upto 64).foldl (fun a i => a ||| (f i).2) 0)

/-- One level of the pairwise tree of VRSUM (R89). -/
def pairSum : List Word32 → List Word32 × FpFlags
  | a :: b :: r =>
    let (x, f) := fAdd a b
    let (l, g) := pairSum r
    (x :: l, f ||| g)
  | l => (l, 0)

/-- VRSUM: six levels. -/
def treeSum : Nat → List Word32 → List Word32 × FpFlags
  | 0, l => (l, 0)
  | n + 1, l =>
    let (l', f) := pairSum l
    let (l'', g) := treeSum n l'
    (l'', f ||| g)

/-- VRMAX: the maximum over the lanes. -/
def lanesMax (l : List Word32) : Word32 × FpFlags :=
  match l with
  | [] => (0, 0)
  | a :: r => r.foldl (fun acc x => let (m, f) := fMax acc.1 x; (m, acc.2 ||| f)) (a, 0)

end Sys2Proof.Machine
end

