-- ==== Sys2Proof/Machine/Formats.lean ====
section
/-! DEFINITION. Formats: the element formats of Tables 2.2, 2.4 and 4.1, their packing (Table 4.3), the decoding of
inputs (R117, R122), the block shift (R127), the conversion of the drain and of VSTQ (R129, R130) and the stochastic
generator (R131). -/

namespace Sys2Proof.Machine

/-- The width in bits of an input element (Table 2.2). -/
def inWidth (f : Nat) : Nat :=
  if f = 2 ∨ f = 9 then 4 else if f = 1 ∨ f = 7 ∨ f = 8 then 6 else if f = 0xB ∨ f = 0xC then 16 else 8

/-- Elements per block (Table 2.2): 1 for a format without block data. -/
def inBlock (f : Nat) : Nat := if f ≤ 2 then 16 else if 5 ≤ f ∧ f ≤ 0xA then 32 else 1

/-- A Quaric format. -/
def isQuaric (f : Nat) : Bool := decide (f ≤ 2)
/-- An MX format. -/
def isMx (f : Nat) : Bool := decide (5 ≤ f) && decide (f ≤ 0xA)
/-- A format of the 4-bit class, which consumes 2 elements per cycle. -/
def is4bit (f : Nat) : Bool := f == 2 || f == 9
/-- The largest K_LEN of a format (Table 2.2). -/
def inMaxK (f : Nat) : Nat := if f = 0xB ∨ f = 0xC then 1024 else 4096

/-- Exponent bits, mantissa bits and bias of a floating-point input format (Table 4.1). -/
def inShape (f : Nat) : Nat × Nat × Int :=
  match f with
  | 0 | 3 | 5 => (4, 3, 7)
  | 1 | 7 => (3, 2, 3)
  | 2 | 9 => (2, 1, 1)
  | 4 | 6 => (5, 2, 15)
  | 8 => (2, 3, 1)
  | 0xB => (8, 7, 127)
  | _ => (5, 10, 15)

/-- What an element code is: 0 a number, 1 a NaN, 2 an infinity, with its value (for an infinity, the format's
largest magnitude with its sign, Table 4.4). -/
def decodeElem (f code : Nat) : Nat × Dy :=
  if f = 0xA then (0, sext 8 code, -6)
  else
    let (eb, mb, bias) := inShape f
    let e := nbits code (mb + eb - 1) mb
    let m := code % 2 ^ mb
    let neg := code.testBit (mb + eb)
    let val (e m : Nat) : Dy :=
      let mag : Nat := if e = 0 then m else 2 ^ mb + m
      let x : Int := (if e = 0 then 1 else (e : Int)) - bias - mb
      (if neg then -(mag : Int) else mag, x)
    if (f = 3 ∨ f = 5) ∧ e = 15 ∧ m = 7 then (1, 0, 0)
    else if (f = 4 ∨ f = 6 ∨ f = 0xB ∨ f = 0xC) ∧ e = 2 ^ eb - 1 then
      if m = 0 then (2, val (2 ^ eb - 2) (2 ^ mb - 1)) else (1, 0, 0)
    else (0, val e m)

/-- Element n of width w of the bytes that `rd` gives (Table 4.3: a little-endian bit stream). -/
def elemAt (rd : Nat → Byte) (w n : Nat) : Nat :=
  let b := w * n / 8
  (leNat [rd b, rd (b + 1), rd (b + 2), rd (b + 3), rd (b + 4)] >>> (w * n % 8)) % 2 ^ w

/-- A number with w bits at position p replaced. -/
def putBits (num p w v : Nat) : Nat := num - (nbits num (p + w - 1) p) <<< p + (v % 2 ^ w) <<< p

/-- The block datum of block g: a Quaric shift nibble or an MX scale byte. -/
def blockDatum (f : Nat) (side : Nat → Byte) (g : Nat) : Nat :=
  if isQuaric f then elemAt side 4 g else (side g).toNat

/-- The block factor's exponent (R122). -/
def blockExp (f d : Nat) : Int := if isQuaric f then -(d : Int) else if isMx f then (d : Int) - 127 else 0

/-- Element k of an operand as the feeder delivers it (R122, R123): its value, and whether it was replaced. -/
def feed (f : Nat) (rd side : Nat → Byte) (k : Nat) : Dy × Bool :=
  let d := if inBlock f = 1 then 0 else blockDatum f side (k / inBlock f)
  if isMx f && d == 0xFF then ((0, 0), true)
  else
    let (kind, v) := decodeElem f (elemAt rd (inWidth f) k)
    if kind = 1 then ((0, 0), true) else ((v.1, v.2 + blockExp f d), kind == 2)

/-- Output width in bits (Table 2.4). -/
def outWidth (f : Nat) : Nat :=
  match f with | 0 => 32 | 1 => 16 | 2 => 16 | 3 => 8 | 4 => 6 | _ => 4
/-- A Quaric output. -/
def outQuaric (f : Nat) : Bool := decide (3 ≤ f) && decide (f ≤ 5)
/-- Mantissa bits and smallest normal exponent of an output format. -/
def outGrid (f : Nat) : Nat × Int :=
  match f with | 0 => (23, -126) | 1 => (7, -126) | 2 => (10, -14) | 3 => (3, -6) | 4 => (2, -2) | _ => (1, 0)
/-- The code of the largest magnitude of an output format. -/
def outMax (f : Nat) : Nat :=
  match f with | 0 => 0x7F7FFFFF | 1 => 0x7F7F | 2 => 0x7BFF | 3 => 0x7F | 4 => 0x1F | _ => 0x7
/-- The largest magnitude L of a Quaric output (Table 4.1). -/
def quaricMax (f : Nat) : Nat := match f with | 3 => 480 | 4 => 28 | _ => 6
/-- The saturation midpoint of a Quaric output (R130, R137). -/
def quaricMid (f : Nat) : Nat := match f with | 3 => 496 | 4 => 30 | _ => 7

/-- The binary32 of a small integer. -/
def fOfNat (n : Nat) : Word32 := (fRound false n 1).1

/-- The block shift for the largest magnitude m (R127): the largest s ≤ 15 with m × 2^s ≤ L, else 0. -/
def blockShift (f : Nat) (m : Word32) : Nat :=
  if isZero m || isInf m then 0 else
  let (n, d) := dyRat (fDy m)
  (upto 16).foldl (fun s i => if n * 2 ^ i ≤ quaricMax f * d then i else s) 0

/-- A conversion (R129, R130) of a finite y with shift s: the code, saturated, underflowed, inexact. -/
def convert (f round s r : Nat) (y : Word32) : Nat × Bool × Bool × Bool :=
  let sgn := if fNeg y then 2 ^ (outWidth f - 1) else 0
  if f = 0 then (y.toNat, false, false, false)
  else if isZero y then (sgn, false, false, false)
  else
    let (n, d) := dyRat (fDy y)
    let (m, emin) := outGrid f
    let (lo, qe, rem, den) := quantize m emin (n * 2 ^ s) d
    let up := match round with
      | 0 => rneUp lo rem den
      | 1 => rem != 0 && decide (2 ^ 16 ≤ rem * 2 ^ 16 / den + r)
      | _ => false
    let code := (qe - (emin - m)).toNat * 2 ^ m + (lo + b2n up)
    if outMax f < code then (sgn + outMax f, true, false, true)
    else (sgn + code, false, code == 0, rem != 0)

/-- One advance of the stochastic generator (R131). -/
def genNext (x : Word) : Word :=
  let x := x ^^^ (x <<< 13)
  let x := x ^^^ (x >>> 7)
  x ^^^ (x <<< 17)

/-- n advances. -/
def genAdvance : Nat → Word → Word
  | 0, x => x
  | n + 1, x => genAdvance n (genNext x)

/-- The 16-bit value of a state of the generator (R131). -/
def genValue (x : Word) : Nat := fld x 63 48

/-- The states after each of n advances, in order. DEDUCED (log entry 129). -/
def genStates : Nat → Word → List Word
  | 0, _ => []
  | n + 1, x => genNext x :: genStates n (genNext x)

/-- The largest of magnitudes (as binary32 patterns). -/
def magMax (l : List Word32) : Word32 := l.foldl (fun m x => if m.toNat < (fAbs x).toNat then fAbs x else m) 0

end Sys2Proof.Machine
end

