-- ==== Sys2Proof/Machine/Pass.lean ====
section
/-! DEFINITION. Pass: the pass descriptor and its validation (R54, R55, R488), the queues and locks (R67–R69), the
arithmetic of a pass (R48, R61, R122–R125), the drain (R126–R130), the amax offers (R136, R137), stopping (R70) and the
commands of the pass queue. -/

namespace Sys2Proof.Machine

/-! ### Descriptor fields (Table 2.5) -/

def dFmtA (d : CmdDesc) : Nat := fld d.w0 63 60
def dFmtB (d : CmdDesc) : Nat := fld d.w0 59 56
def dFmtOut (d : CmdDesc) : Nat := fld d.w0 55 52
def dInit (d : CmdDesc) : Nat := fld d.w0 51 50
def dRound (d : CmdDesc) : Nat := fld d.w0 49 48
def dScaleEn (d : CmdDesc) : Bool := bit d.w0 47
def dAmaxEn (d : CmdDesc) : Bool := bit d.w0 46
def dNotify (d : CmdDesc) : Bool := bit d.w0 45
def dNoBake (d : CmdDesc) : Bool := bit d.w0 44
def dWide (d : CmdDesc) : Bool := bit d.w0 43
def dAOne (d : CmdDesc) : Bool := bit d.w0 42
def dBOne (d : CmdDesc) : Bool := bit d.w0 41
def dStride (w : Word) : Nat := fld w 63 48
def dSide (w : Word) : Nat := fld w 45 23
def dBase (w : Word) : Nat := fld w 22 0
def dScaleA (d : CmdDesc) : Nat := fld d.w4 63 52
def dScaleB (d : CmdDesc) : Nat := fld d.w4 51 40
def dKLen (d : CmdDesc) : Nat := fld d.w4 35 23
def dCSide (d : CmdDesc) : Nat := fld d.w4 22 0
def dTag (d : CmdDesc) : Nat := fld d.w7 63 48
def dTracker (d : CmdDesc) : Nat := fld d.w7 47 40
def dASideStride (d : CmdDesc) : Nat := fld d.w7 39 24
def dBSideStride (d : CmdDesc) : Nat := fld d.w7 23 8

/-- ⌈a ÷ b⌉. -/
def cdiv (a b : Nat) : Nat := (a + b - 1) / b

/-- The set bits of a mask in ascending order. -/
def bitsOf {w : Nat} (m : BitVec w) : List Nat := (upto w).filter (fun i => bit m i)

/-- The largest K_LEN of the pass (R52). -/
def dMaxK (d : CmdDesc) : Nat := min (inMaxK (dFmtA d)) (inMaxK (dFmtB d))

/-- Rows 1–3 and row 5 of Table 2.6, without which no range can be formed (R488). -/
def passFieldsBad (d : CmdDesc) : Bool :=
  decide (0xC < dFmtA d) || decide (0xC < dFmtB d) || decide (5 < dFmtOut d) || dInit d == 3 || dRound d == 3 ||
  fld d.w0 40 0 != 0 || fld d.w1 47 46 != 0 || fld d.w2 47 46 != 0 || fld d.w3 47 46 != 0 || fld d.w4 39 36 != 0 ||
  fld d.w7 7 0 != 0 ||
  dKLen d == 0 || decide (dMaxK d < dKLen d) ||
  d.w5 == 0 || d.w6 == 0 ||
  (dScaleEn d && (decide (4095 < dScaleA d + (if dAOne d then 0 else 63)) ||
    decide (4095 < dScaleB d + (if dBOne d then 0 else 63))))

/-- The lowest and highest enabled index of a mask. -/
def maskEnds (m : Word) : Nat × Nat := ((bitsOf m).headD 0, (bitsOf m).getLastD 0)

/-- Bytes of one row of A or one column of B (R53). -/
def rowBytes (f k : Nat) : Nat := cdiv k (inBlock f) * inBlock f * inWidth f / 8

/-- Bytes of one row's block data (R488). -/
def sideBytes (f k : Nat) : Nat := if isQuaric f then cdiv (cdiv k (inBlock f)) 2 else cdiv k (inBlock f)

/-- A range (first byte, length) over rows r to s. -/
def spanRange (base stride r s len : Nat) : Nat × Nat := (base + r * stride, (s - r) * stride + len)

/-- Bytes of one row of C (R488). -/
def outRowBytes (f : Nat) : Nat := 64 * outWidth f / 8

/-- The input ranges of A and B with their side data (R488). -/
def passAB (d : CmdDesc) : List (Nat × Nat) :=
  let (r, s) := maskEnds d.w5
  let (u, v) := maskEnds d.w6
  let k := dKLen d
  let fa := dFmtA d
  let fb := dFmtB d
  [spanRange (dBase d.w1) (dStride d.w1) r s (rowBytes fa k)] ++
  (if inBlock fa = 1 then [] else [spanRange (dSide d.w1) (dASideStride d) r s (sideBytes fa k)]) ++
  [spanRange (dBase d.w2) (dStride d.w2) u v (rowBytes fb k)] ++
  (if inBlock fb = 1 then [] else [spanRange (dSide d.w2) (dBSideStride d) u v (sideBytes fb k)])

/-- The CIN range (R488). -/
def passCin (d : CmdDesc) : List (Nat × Nat) := if dInit d = 0 then [] else [(dSide d.w3, 16384)]

/-- The input ranges. -/
def passIn (d : CmdDesc) : List (Nat × Nat) := passAB d ++ passCin d

/-- The output ranges. -/
def passOut (d : CmdDesc) : List (Nat × Nat) :=
  let (r, s) := maskEnds d.w5
  [spanRange (dBase d.w3) (dStride d.w3) r s (outRowBytes (dFmtOut d))] ++
  (if outQuaric (dFmtOut d) then [(dCSide d + 8 * r, 8 * (s - r) + 8)] else [])

/-- Row 4 of Table 2.6. -/
def passRangeBad (d : CmdDesc) : Bool := (passIn d ++ passOut d).any (fun p => decide (0x600000 < p.1 + p.2))

/-- The scale registers that a pass uses and locks, as (first, count) (R67). -/
def passScales (d : CmdDesc) : List (Nat × Nat) :=
  if dScaleEn d then [(dScaleA d, if dAOne d then 1 else 64), (dScaleB d, if dBOne d then 1 else 64)] else []

/-! ### Locks (R67, R68, R99) -/

/-- Whether any of a list of ranges overlaps [o, o+n). -/
def anyOverlap (l : List (Nat × Nat)) (o n : Nat) : Bool := l.any (fun p => rangesOverlap p.1 p.2 o n)

/-- The entries of both queues of a core. -/
def allPasses (c : Core) : List PassEntry := (getArray c 0).queue ++ (getArray c 1).queue

/-- Whether an entry holds its bench locks: from enqueue until its drain begins. -/
def holdsBench (e : PassEntry) : Bool := e.stage != .draining

/-- The bench source of a move (kinds 1, 2, 4, 6), as (first byte, span). -/
def moveSrcRange (m : MoveOp) : List (Nat × Nat) :=
  let k := fld m.w0 63 60
  if k = 1 ∨ k = 2 ∨ k = 4 ∨ k = 6 then
    [(m.w1.toNat, (fld m.w0 31 16 - 1) * fld m.w3 63 32 + fld m.w0 55 32)] else []

/-- The bench destination of a move (kinds 0, 2, 3, 5). -/
def moveDstRange (m : MoveOp) : List (Nat × Nat) :=
  let k := fld m.w0 63 60
  if k = 0 ∨ k = 2 ∨ k = 3 ∨ k = 5 then
    [(m.w2.toNat, (fld m.w0 31 16 - 1) * fld m.w3 31 0 + fld m.w0 55 32)] else []

/-- Whether a write to [o, o+n) of the bench meets a lock of a pass, a move or a link adder. -/
def benchLocked (c : Core) (o n : Nat) : Bool :=
  (allPasses c).any (fun e => holdsBench e && anyOverlap (passIn e.desc) o n) ||
  c.moves.any (fun m => anyOverlap (moveSrcRange m ++ moveDstRange m) o n) ||
  c.linkLocks.any (fun l => rangesOverlap l.2.1 l.2.2 o n)

/-- Whether a pass that pre-emption has saved holds [o, o+n) locked (Table 2.8). DEDUCED (log entry 24). -/
def savedLocked (c : Core) (o n : Nat) : Bool :=
  (allPasses c).any (fun e => e.stage == .saved && anyOverlap (passIn e.desc) o n)

/-- Whether a pass holds a scale lock on register i: until its drain ends (R67). -/
def scaleLocked (c : Core) (i n : Nat) : Bool := (allPasses c).any (fun e => anyOverlap (passScales e.desc) i n)

/-- Whether a pass that pre-emption has saved holds a scale register locked (R67, Table 2.8). -/
def savedScaleLocked (c : Core) (i n : Nat) : Bool :=
  (allPasses c).any (fun e => e.stage == .saved && anyOverlap (passScales e.desc) i n)

/-- Whether a store at place `seq` of the core's sequence to [o, o+n) of the bench must wait (R68, R99): for the lock of an
earlier pass, move or link adder, or for the drain of an earlier pass into the same bytes. The passes of a saved kernel
belong to another program; their locks trap. DEDUCED (log entry 23). -/
def storeWaits (c : Core) (seq o n : Nat) : Bool :=
  (allPasses c).any (fun e => decide (e.seq < seq) &&
    ((holdsBench e && anyOverlap (passIn e.desc) o n) || (e.stage != .saved && anyOverlap (passOut e.desc) o n))) ||
  c.moves.any (fun m => decide (m.seq < seq) && anyOverlap (moveSrcRange m ++ moveDstRange m) o n) ||
  c.linkLocks.any (fun l => rangesOverlap l.2.1 l.2.2 o n)

/-! ### Waiting writes (LOCKED_WRITE_APPLY) -/

/-- Applies a bench or scale-register write. -/
def applyWrite (c : Core) (w : WaitingWrite) : Core :=
  if w.scale then { c with scale := tset scaleInit c.scale w.off (BitVec.ofNat 32 (leNat w.bytes)) }
  else benchWrite c w.off w.bytes

/-- Whether a waiting write still meets a lock. -/
def writeLocked (c : Core) (w : WaitingWrite) : Bool :=
  if w.scale then (allPasses c).any (fun e => decide (e.seq < w.seq) && anyOverlap (passScales e.desc) w.off 1)
  else storeWaits c w.seq w.off w.bytes.length

/-- Applies, in arrival order, every waiting write of the core itself whose locks have ended. A remote write is
applied by its target's own waiting request. DEDUCED (log entry 23). -/
def applyWaiting (c : Core) : Core :=
  let go := c.writes.foldl (fun (st : Core × List WaitingWrite) w =>
    if writeLocked st.1 w || st.2.any (fun x => x.scale == w.scale && rangesOverlap x.off (max 1 x.bytes.length) w.off (max 1 w.bytes.length))
    then (st.1, st.2 ++ [w]) else (applyWrite st.1 w, st.2)) (c, [])
  { go.1 with writes := go.2 }

/-! ### Tickets (R92, R93) -/

/-- Issues a ticket of a class. -/
def ticketIssue (k : Kernel) (cls : Nat) : Kernel × Nat :=
  let t := getCls k cls
  (putCls k cls { t with issued := t.issued + 1, live := t.live ++ [t.issued + 1] }, t.issued + 1)

/-- Ends an operation of a class with a code. -/
def ticketEnd (k : Kernel) (cls ticket : Nat) (code : Code) : Kernel :=
  let t := getCls k cls
  putCls k cls { t with retired := t.retired + 1, live := t.live.filter (· != ticket), held := t.held ++ [(ticket, code)] }

/-- The core with the kernel that issued a pass changed: the running one, or one that pre-emption has saved. -/
def passKernel (c : Core) (e : PassEntry) (f : Kernel → Kernel) : Core :=
  match e.savedSlot with
  | none => modKernel c f
  | some sl =>
    if c.saved.any (fun x => x.slot == sl) then
      { c with saved := c.saved.map (fun x => if x.slot = sl then { x with k := f x.k } else x) }
    else modKernel c f

/-- Ends the ticket of a pass in the kernel that issued it. -/
def passTicketEnd (c : Core) (e : PassEntry) (code : Code) : Core :=
  match e.ticket with
  | none => c
  | some t => passKernel c e (fun k => ticketEnd k e.cls t code)

/-- The completion of a pass: PASS_COMPLETION, its ticket and the NOTIFY wake (R79, Table 3.7). -/
def passPost (c : Core) (array : Nat) (e : PassEntry) (code : Code) : Core :=
  let c := passTicketEnd c e code
  let c := { c with complTag := BitVec.ofNat 16 (dTag e.desc), complCode := code, complArray := array,
                    complSeq := c.complSeq + 1 }
  if dNotify e.desc then passKernel c e (fun k => { k with wake := k.wake ||| 1#5 }) else c

/-! ### Enqueue (R55, R74, R75) -/

/-- What the queue does with a descriptor. -/
inductive PassFate where
  | refused
  | full
  | withdrawn
  | enqueue (array : Nat)
  deriving DecidableEq, Repr

/-- The array that takes a pass addressed to array a: the other one when a is out of service (R74). -/
def takingArray (c : Core) (a : Nat) : Option Nat :=
  if !(getArray c a).out then some a else if !(getArray c (1 - a)).out then some (1 - a) else none

/-- Table 2.6. -/
def passFate (c : Core) (a : Nat) (d : CmdDesc) : PassFate :=
  if passFieldsBad d || passRangeBad d then .refused
  else match takingArray c a with
    | none => .withdrawn
    | some b => if 4 ≤ (getArray c b).queue.length then .full else .enqueue b

/-- Enqueues a pass with its locks. -/
def passEnqueue (c : Core) (b cls : Nat) (ticket : Option Nat) (d : CmdDesc) : Core :=
  let e : PassEntry := ⟨d, c.enqSeq, cls, ticket, .queued, false, 0, true, none, none, none, false⟩
  { modArray c b (fun x => { x with queue := x.queue ++ [e] }) with enqSeq := c.enqSeq + 1 }

/-! ### The arithmetic of a pass -/

/-- Adds an exact sum to an accumulator with one rounding, clamped to the largest magnitude (R124). DESIGN CHOICE (log entry 16). -/
def accAdd (acc : Word32) (sum : Dy) : Word32 × Bool :=
  if sum.1 = 0 ∧ acc = signBit then (if Config.negZeroAcc then signBit else 0, false)
  else
    let r := (fRoundDy false (dyAdd (fDy acc) sum)).1
    if isInf r then (maxFinite ||| (r &&& signBit), true) else (r, false)

/-- The initial accumulator of a cell from its CIN word (R125): the value, saturated, replaced. -/
def accInit (x : Word32) : Word32 × Bool × Bool :=
  if isNan x then (0, false, true) else if isInf x then (maxFinite ||| (x &&& signBit), true, false) else (x, false, false)

/-- Groups of the K positions: 2 products in the 4-bit class, 1 otherwise (R61). -/
def kGroups (pair : Bool) (k : Nat) : List (List Nat) :=
  if pair then (upto (cdiv k 2)).map (fun g => if 2 * g + 1 < k then [2 * g, 2 * g + 1] else [2 * g])
  else (upto k).map (fun i => [i])

/-- The elements of one row or column of an operand, with the number replaced (R53, R123): an MX block whose scale is
0xFF counts 32. DEDUCED (log entry 15). -/
def operandRow (c : Core) (f base side k : Nat) : List Dy × Nat :=
  let rd i := benchByte c (base + i)
  let sd i := benchByte c (side + i)
  let els := (upto k).map (feed f rd sd)
  let deadBlocks := if isMx f then (upto (cdiv k 32)).filter (fun g => blockDatum f sd g == 0xFF) else []
  let single := ((upto k).filter (fun i => ((els.getD i ((0, 0), false)).2) && !deadBlocks.contains (i / 32))).length
  (els.map (·.1), single + 32 * deadBlocks.length)

/-- The accumulators of an active pass at the end of its K cycles. DEDUCED (log entry 15). -/
def passCompute (c : Core) (d : CmdDesc) : PassAcc :=
  let k := dKLen d
  let rows := bitsOf d.w5
  let cols := bitsOf d.w6
  let as := rows.map (fun i => (i, operandRow c (dFmtA d) (dBase d.w1 + i * dStride d.w1)
    (dSide d.w1 + i * dASideStride d) k))
  let bs := cols.map (fun j => (j, operandRow c (dFmtB d) (dBase d.w2 + j * dStride d.w2)
    (dSide d.w2 + j * dBSideStride d) k))
  let groups := kGroups (is4bit (dFmtA d) && is4bit (dFmtB d)) k
  let cin i j : Word32 := BitVec.ofNat 32 (leNat (benchRead c (dSide d.w3 + 256 * i + 4 * j) 4))
  let cells := as.flatMap (fun a => bs.map (fun b =>
    let st := if dInit d = 0 then (0, false, false) else accInit (cin a.1 b.1)
    let fin := groups.foldl (fun (x : Word32 × Bool) g =>
      let sum := g.foldl (fun s q => dyAdd s (dyMul (a.2.1.getD q (0, 0)) (b.2.1.getD q (0, 0)))) (0, 0)
      let (y, f) := accAdd x.1 sum
      (y, x.2 || f)) (st.1, st.2.1)
    (64 * a.1 + b.1, fin.1, fin.2, st.2.2)))
  let repl := as.foldl (fun n a => n + a.2.2) 0 + bs.foldl (fun n b => n + b.2.2) 0
  let nanCells := cells.filter (fun x => x.2.2.2)
  let rowMask := as.foldl (fun (m : BitVec 64) a =>
      if a.2.2 != 0 || nanCells.any (fun x => x.1 / 64 == a.1) then m ||| BitVec.twoPow 64 a.1 else m) 0
  { acc := cells.map (fun x => (x.1, x.2.1))
    sat := (cells.filter (fun x => x.2.2.1)).map (fun x => (x.1, true))
    invalid := repl + nanCells.length
    tally := repl + nanCells.length
    rows := rowMask }

/-! ### The drain -/

/-- One drained element: its value y, invalid, saturated before conversion. DEDUCED (log entry 129). -/
def drainScale (c : Core) (d : CmdDesc) (i j : Nat) (acc : Word32) (accSat : Bool) : Word32 × Bool × Bool :=
  if !dScaleEn d then (acc, false, accSat) else
  let kA := tget scaleInit c.scale (dScaleA d + if dAOne d then 0 else i)
  let kB := tget scaleInit c.scale (dScaleB d + if dBOne d then 0 else j)
  if isNan kA || isInf kA || isNan kB || isInf kB then (0, true, accSat) else
  let clamp (x : Word32) : Word32 × Bool := if isInf x then (maxFinite ||| (x &&& signBit), true) else (x, false)
  let (p, f) := clamp (fMul acc kA).1
  let (y, g) := clamp (fMul p kB).1
  (y, false, accSat || f || g)

/-- The effect of a drain on one element: its cell, y, invalid, pre-saturated, code, saturated, underflowed. -/
structure Drained where
  cell : Nat
  y : Word32
  invalid : Bool
  code : Nat
  sat : Bool
  under : Bool
  preSat : Bool
  deriving DecidableEq, Repr

/-- The block shifts of row i (R127). -/
def rowShifts (f : Nat) (row : List (Nat × Word32 × Bool × Bool)) : List Nat :=
  (upto 4).map (fun b => if outQuaric f then
    blockShift f (magMax ((row.filter (fun e => e.1 / 16 == b && !e.2.2.1)).map (fun e => e.2.1))) else 0)

/-- The drain of one row: its elements and its shifts. -/
def drainRow (c : Core) (d : CmdDesc) (a : PassAcc) (vals : List Nat) (i : Nat) : List Drained × List Nat :=
  let f := dFmtOut d
  let row := (bitsOf d.w6).map (fun j => (j, drainScale c d i j (tget 0 a.acc (64 * i + j)) (tget false a.sat (64 * i + j))))
  let shifts := rowShifts f (row.map (fun e => (e.1, e.2.1, e.2.2.1, e.2.2.2)))
  (row.map (fun e =>
    let (y, inv, pre) := e.2
    let (code, sat, under, _) := convert f (dRound d) (shifts.getD (e.1 / 16) 0) (vals.getD (64 * i + e.1) 0) y
    if inv then ⟨64 * i + e.1, 0, true, 0, false, false, pre⟩
    else ⟨64 * i + e.1, y, false, code, sat || pre, under && !(sat || pre), pre⟩), shifts)

/-- Writes one drained row and its side bytes into the bench (R57, R128). -/
def drainWrite (c : Core) (d : CmdDesc) (i : Nat) (row : List Drained) (shifts : List Nat) : Core :=
  let f := dFmtOut d
  let base := dBase d.w3 + i * dStride d.w3
  let n := outRowBytes f
  let num := row.foldl (fun x e => putBits x (outWidth f * (e.cell % 64)) (outWidth f) e.code) (leNat (benchRead c base n))
  let c := benchWrite c base (leBytes n num)
  if !outQuaric f then c else
  let so := dCSide d + 8 * i
  let old := leNat (benchRead c so 2)
  let nib := (upto 4).foldl (fun x b =>
    if row.any (fun e => e.cell % 64 / 16 == b) then putBits x (4 * b) 4 (shifts.getD b 0) else x) old
  benchWrite c so (leBytes 2 nib ++
    [BitVec.ofNat 8 (row.filter (fun e => e.sat || e.invalid)).length, BitVec.ofNat 8 (row.filter (·.under)).length,
     0, 0, 0, 0])

/-! ### Amax offers (R136, R137) -/

/-- The use of k(SCALE_REG) between the real and the code domain (R139). -/
def domainScale (k : Word32) : Word32 := if isZero k || isNan k || isInf k then scaleInit else fAbs k

/-- TARGET_FMT of a tracker. -/
def trTarget (t : Tracker) : Nat := fld t.cfg 23 20
/-- SCALE_REG of a tracker. -/
def trScale (t : Tracker) : Nat := fld t.cfg 47 36
/-- FOLDED of a tracker. DEDUCED (log entry 20). -/
def trFolded (t : Tracker) : Bool := bit t.cfg 0

/-- A saturating 32-bit tally (Table 14.3). -/
def satAdd32 (a b : Nat) : Nat := min (a + b) (2 ^ 32 - 1)

/-- The offers of a completed drain to its tracker, which the kernel that issued the pass lists (R138). DEDUCED (log
entries 20, 21). -/
def offer (c : Core) (e : PassEntry) (els : List Drained) (a : PassAcc) : Core :=
  let d := e.desc
  if !dAmaxEn d then c else
  let t := getTracker c (dTracker d)
  let k := domainScale (tget scaleInit c.scale (trScale t))
  let valid := els.filter (fun e => !e.invalid)
  let mag (y : Word32) : Word32 := if dWide d && trFolded t then (fMul (fAbs y) k).1 else fAbs y
  let t := { t with pendingAmax := magMax (t.pendingAmax :: valid.map (fun e => mag e.y)),
                    pending := t.pending || !valid.isEmpty,
                    widePending := t.widePending || (dWide d && !valid.isEmpty) }
  let c := if e.ticket.isNone then c else passKernel c e (fun x => { x with trackers := addNew x.trackers (dTracker d) })
  if dWide d then putTracker c (dTracker d) t else
  let midpoint := fOfNat (quaricMid (trTarget t))
  let counts (e : Drained) : Bool := e.invalid ||
    (if trFolded t then e.sat else tget false a.sat e.cell || !fLess (fMul (fAbs e.y) k).1 midpoint)
  let hit := els.filter counts
  putTracker c (dTracker d) { t with
    satPending := satAdd32 t.satPending (hit.length + a.tally)
    convPending := satAdd32 t.convPending (els.length + a.tally)
    satRows := hit.foldl (fun m e => m ||| BitVec.twoPow 64 (e.cell / 64)) (t.satRows ||| a.rows) }

/-! ### Stopping (R70, R71) -/

/-- Counts PASS_REISSUES, and marks the jobs that the tile serves (R250: re-issued passes are cause 2). -/
def countReissues (key n : Nat) (s : State) : State := if n = 0 then s else countCore key 0 n (markFault (key / 64) s)

/-- Stops the active pass of an array, which keeps its place and is re-issued; counts PASS_REISSUES. -/
def stopActive (key a : Nat) (s : State) : State :=
  let c := getCore s key
  if (getArray c a).queue.any (fun e => e.stage == .active) then
    countReissues key 1 (putCore s key (modArray c a (fun x => { x with queue := x.queue.map (fun e =>
      if e.stage == .active then { e with stage := .queued, reissued := true, fresh := false } else e) })))
  else s

/-- Whether a core has an active pass. -/
def coreActive (c : Core) : Bool := (allPasses c).any (fun e => e.stage == .active)

/-- Whether any pass of a group is active. -/
def groupActive (s : State) (t g : Nat) : Bool := (upto 16).any (fun i => coreActive (getCore s (ck t (16 * g + i))))

/-- THROTTLE_STEP_EFFECT (R394): a requested ordinary step takes effect once no pass of the group is active. -/
def throttleEffect (t g : Nat) (s : State) : State :=
  let x := getGroup s t g
  if x.request.isSome && !x.changing && x.shift.isNone && !groupActive s t g then putGroup s t g { x with request := none, changing := true }
  else s

/-- Ends a list of passes with WITHDRAWN, in order. -/
def withdrawPasses (c : Core) (a : Nat) (es : List PassEntry) : Core :=
  es.foldl (fun c e => passPost c a e .withdrawn) c

/-- FLUSH of an array (Table 2.9): the active and queued passes end with WITHDRAWN; a running drain completes. Saved
passes of a pre-empted kernel stay, unless `saved` says to take them too. -/
def flushArray (c : Core) (a : Nat) (active : Bool) : Core :=
  let x := getArray c a
  let gone := x.queue.filter (fun e => e.stage == .queued || (active && e.stage == .active))
  applyWaiting (withdrawPasses (putArray c a { x with queue := x.queue.filter (fun e => !(gone.contains e)) }) a gone)

/-- Steps 1 and 2 of R74, and step 3: the array leaves service, its queue moves in enqueue order to the other array,
or ends with WITHDRAWN when that one is out too (R75). The moved passes may bring the other queue above 4 entries, up to 8, for
which R74 states no bound: the queue holds them all, it takes a new pass only below 4, and QUEUED shows its length modulo 8.
DESIGN CHOICE (log entry 135). A core that is withdrawn already keeps its earlier bound. DESIGN CHOICE (log entry 158). -/
def arrayOut (key a : Nat) (byWrite : Bool) (s : State) : State :=
  let c := getCore s key
  let x := getArray c a
  let stay := x.queue.filter (fun e => e.stage == .draining)
  let move := (x.queue.filter (fun e => e.stage != .draining)).map (fun e =>
    { e with stage := if e.stage == .active then .queued else e.stage, fresh := false,
             reissued := e.reissued || e.stage == .active })
  let reissues := (x.queue.filter (fun e => e.stage == .active)).length
  let c := putArray c a { queue := stay, out := true, outByWrite := byWrite }
  let s := modTile s (key / 64) (fun t => { t with coreHalf := t.coreHalf ||| BitVec.twoPow 64 (key % 64) })
  if (getArray c (1 - a)).out then
    let c := withdrawPasses c a move
    putCore s key (applyWaiting { c with withdrawn := true, withdrawBy := some (c.withdrawBy.getD (s.now + 2000000)) })
  else
    let y := getArray c (1 - a)
    let merged := (y.queue.filter (fun e => e.stage == .draining || e.stage == .active)) ++
      sortBy (fun (p q : PassEntry) => decide (p.seq ≤ q.seq)) ((y.queue.filter (fun e => e.stage == .queued || e.stage == .saved)) ++ move)
    countReissues key reissues (putCore s key (putArray c (1 - a) { y with queue := merged }))

/-! ### Activation (R59, R60, R63, R69) -/

/-- Whether two lists of ranges share a 128-byte line (R69). -/
def linesOverlap (l m : List (Nat × Nat)) : Bool :=
  l.any (fun p => m.any (fun q => decide (p.1 / 128 ≤ (q.1 + q.2 - 1) / 128) && decide (q.1 / 128 ≤ (p.1 + p.2 - 1) / 128)))

/-- R60's condition: the predecessor in the same queue drains FP32 to the CIN block of a CARRY pass not yet disturbed. -/
def carryForward (p e : PassEntry) : Bool :=
  dInit e.desc == 2 && e.fresh && !e.reissued && p.stage == .draining && p.fresh && dFmtOut p.desc == 0 &&
  dBase p.desc.w3 == dSide e.desc.w3 && dStride p.desc.w3 == 256 && p.desc.w5 == e.desc.w5 && p.desc.w6 == e.desc.w6

/-- Whether pass e of array a may become active (R59, R69, R99): every earlier pass, saved ones included, every earlier move
and every earlier store that writes one of its inputs has ended. -/
def passReady (c : Core) (a : Nat) (e : PassEntry) : Bool :=
  let q := (getArray c a).queue
  let pred := (q.takeWhile (fun x => x.seq != e.seq)).getLast?
  (allPasses c).all (fun p => decide (e.seq ≤ p.seq) ||
    (let carry := match pred with | some x => x.seq == p.seq && carryForward p e | none => false
     !linesOverlap (passOut p.desc) (if carry then passAB e.desc else passIn e.desc))) &&
  c.moves.all (fun m => decide (e.seq ≤ m.seq) || !linesOverlap (moveDstRange m) (passIn e.desc)) &&
  c.writes.all (fun w => decide (e.seq < w.seq) || w.scale || !linesOverlap [(w.off, w.bytes.length)] (passIn e.desc))

/-- The first queued pass of an array. -/
def nextQueued (c : Core) (a : Nat) : Option PassEntry := (getArray c a).queue.find? (fun e => e.stage == .queued)

/-- Whether a core is stopped by a running shift of its group: it and every core above move (R372, Table 11.6). -/
def inShift (s : State) (key : Nat) : Bool :=
  (getGroup s (key / 64) (groupOf key)).shift.any (fun x => decide (x.position ≤ key % 16))

/-- Whether the clock of a core's group runs and admits activations (Table 2.9, R397), and no shift stops the core. -/
def groupRuns (s : State) (key : Nat) : Bool :=
  let g := getGroup s (key / 64) (groupOf key)
  (g.pstate == .run || g.pstate == .idle) && !g.changing && g.waking.isNone && !inShift s key

/-- Wake time from a group state in ns (Table 12.1). -/
def wakeNs (p : PState) : Nat := match p with | .nap => 4000 | .sleep => 12000 | .idle => 20 | _ => 0

/-- Begins the wake of a group that naps or sleeps (R398). -/
def wakeGroup (t g : Nat) (s : State) : State :=
  let x := getGroup s t g
  if (x.pstate == .nap || x.pstate == .sleep) && x.waking.isNone then
    putGroup s t g { x with waking := some (s.now + wakeNs x.pstate) }
  else s

/-- Whether a group naps, sleeps or wakes. -/
def groupAsleep (s : State) (t g : Nat) : Bool :=
  let x := getGroup s t g
  x.pstate == .nap || x.pstate == .sleep || x.waking.isSome

/-- Replaces the entry of a sequence number. -/
def setEntry (c : Core) (a : Nat) (e : PassEntry) : Core :=
  modArray c a (fun x => { x with queue := x.queue.map (fun y => if y.seq = e.seq then e else y) })

/-- A tile's diode in 1/16 °C. -/
def tileDiode (s : State) (t : Nat) : Int := ((s.power.tiles.find? (fun p => p.1 == t)).map (·.2.diode)).getD 0

/-- TEST_BAKE_CANDIDATE (R375): a pass is sampled with probability 2^−BAKE_SHIFT while the group's spare is free; during a MEASURE
every one is (Table 7.11). DESIGN CHOICE (log entry 11). -/
def bakeSample (key a : Nat) (e : PassEntry) (s : State) : State :=
  let t := key / 64
  let g := groupOf key
  let x := getGroup s t g
  let ctrl := (getTile s t).bakeCtrl
  let noAll := match (getCore s key).kernel with | some k => k.image.flags.testBit 1 | none => false
  if !(bit ctrl 0) || x.bake.isSome || x.retiredPos != 16 || bit x.off 16 || x.shift.isSome || dNoBake e.desc || noAll
  then s else
  let draw := Config.rand s.free
  let s := { s with free := s.free + 1 }
  if !calibrating s t && draw % 2 ^ fld ctrl 11 8 != 0 then s else
  let cells := (bitsOf e.desc.w5).length * (bitsOf e.desc.w6).length
  let temp := Int.toNat ((tileDiode s t / 16 - 20) / 5)
  putGroup (countGroup t g 0 1 s) t g { x with bake := some ⟨key % 64, a, dTag e.desc, min 19 temp,
    if cells ≤ 1024 then 0 else if cells ≤ 2048 then 1 else if cells ≤ 3072 then 2 else 3⟩ }

/-- PASS_ACTIVATE on one array. DESIGN CHOICE (log entry 3). -/
def passActivateOp (key a : Nat) (s : State) : State :=
  let c := getCore s key
  match nextQueued c a with
  | none => s
  | some e =>
    if (getArray c a).queue.any (fun x => x.stage == .active) || !groupRuns s key ||
       (getGroup s (key / 64) (groupOf key)).request.isSome || !passReady c a e then s
    else
      let snap := e.snapshot.getD c.gen
      let c := match e.snapshot with | none => { c with gen := genAdvance 4096 c.gen } | some _ => c
      bakeSample key a e (putCore s key (setEntry c a { e with stage := .active, snapshot := some snap }))

/-- A double error in word i of a bench (R179): the core is withdrawn, with the 2 ms bound of R379, and BENCH_UNCORRECTABLE is raised. -/
def benchFail (key i : Nat) (s : State) : State :=
  let s := modCore s key (fun c =>
    { c with benchDead := true, withdrawn := true, withdrawBy := some (c.withdrawBy.getD (s.now + 2000000)) })
  raise (mkEv 0x0106 clsFault 0 4 (key / 64) (key % 64) (evW2 (unit := key % 64) (position := posOf s key)) (BitVec.ofNat 64 (8 * i))) s

/-- What a bench read finds in its SEC-DED codewords (R179): single errors are corrected and counted; a double error
withdraws the core, raises BENCH_UNCORRECTABLE and leaves a free value. DESIGN CHOICE (log entry 26). -/
def benchScan (key o n : Nat) (s : State) : Bool × State :=
  let c := getCore s key
  let words := (upto (cdiv (o % 8 + n) 8)).map (fun i => o / 8 + i)
  let single := (words.filter (fun i => tget 0 c.benchErr i == 1)).length
  let s := countCore key 11 single s
  match words.find? (fun i => decide (2 ≤ tget 0 c.benchErr i)) with
  | none => (false, s)
  | some i => (true, benchFail key i s)

/-- The reads of several ranges (R179). -/
def benchScans (key : Nat) (l : List (Nat × Nat)) (s : State) : State := l.foldl (fun s r => (benchScan key r.1 r.2 s).2) s

/-- n bench bytes as a load, a move, a remote request or the register path reads them. DESIGN CHOICE (log entry 26). -/
def benchLoad (key o n : Nat) (s : State) : List Byte × State :=
  let bs := benchRead (getCore s key) o n
  match benchScan key o n s with
  | (false, s) => (bs, s)
  | (true, s) => (bs.zipIdx.map (fun p => (Config.free64 (s.free + p.2)).setWidth 8), { s with free := s.free + n })

/-- The K cycles of a pass (R52). -/
def passCycles (d : CmdDesc) : Nat :=
  if dMaxK d = 1024 then 4 * dKLen d else if dMaxK d = 4096 then dKLen d else cdiv (dKLen d) 2

/-- Array cycles of a core (R401). -/
def countCycles (key n : Nat) (s : State) : State := modCore s key (fun c => { c with arrayCycles := c.arrayCycles + n })

/-- DRAIN_BEGIN: the active pass's K cycles end; its accumulators are complete, its feeders have read its inputs (R179), and its
bench locks end. -/
def drainBeginOp (key a : Nat) (s : State) : State :=
  let c := getCore s key
  match (getArray c a).queue.find? (fun e => e.stage == .active) with
  | none => s
  | some e =>
    if (getArray c a).queue.any (fun x => x.stage == .draining) || !groupRuns s key then s
    else
      let acc := passCompute c e.desc
      let c := applyWaiting (setEntry c a { e with stage := .draining, acc := some acc, fresh := true })
      benchScans key (passIn e.desc) (throttleEffect (key / 64) (groupOf key) (countCycles key (passCycles e.desc) (putCore s key c)))

/-- Whether a drain's writes are clear of what comes before its pass (Table 2.8, R99): the locks of earlier passes, moves and
link adders, the drains of earlier passes into the same bytes, and earlier stores to them or to its scale registers. The lock of a
saved pass makes it wait like another. DESIGN CHOICE (log entry 24). -/
def drainClear (c : Core) (e : PassEntry) : Bool :=
  c.writes.all (fun w => decide (e.seq < w.seq) ||
    !(if w.scale then anyOverlap (passScales e.desc) w.off 1 else anyOverlap (passOut e.desc) w.off w.bytes.length)) &&
  (passOut e.desc).all (fun o =>
    !(allPasses c).any (fun p => decide (p.seq < e.seq) && ((holdsBench p && anyOverlap (passIn p.desc) o.1 o.2) ||
      (p.stage != .saved && anyOverlap (passOut p.desc) o.1 o.2))) &&
    !c.moves.any (fun m => decide (m.seq < e.seq) && anyOverlap (moveSrcRange m ++ moveDstRange m) o.1 o.2) &&
    !c.linkLocks.any (fun l => rangesOverlap l.2.1 l.2.2 o.1 o.2))

/-- The whole drain of a pass: the core after it, and every element. -/
def drainAll (c : Core) (e : PassEntry) (a : PassAcc) : Core × List Drained :=
  let vals := (genStates 4096 (e.snapshot.getD c.gen)).map genValue
  (bitsOf e.desc.w5).foldl (fun (st : Core × List Drained) i =>
    let (row, shifts) := drainRow c e.desc a vals i
    (drainWrite st.1 e.desc i row shifts, st.2 ++ row)) (c, [])

/-- PASS_COMPLETE: the drain ends (R79, R126, R136). DEDUCED (log entry 21). -/
def passCompleteOp (key a : Nat) (s : State) : State :=
  let c := getCore s key
  match (getArray c a).queue.find? (fun e => e.stage == .draining) with
  | none => s
  | some e =>
    match e.acc with
    | none => s
    | some acc =>
      if !drainClear c e || !groupRuns s key then s else
      let (c, els) := drainAll c e acc
      let c := offer c e els acc
      let sat := (els.filter (fun x => !x.invalid && x.sat)).length
      let c := modArray c a (fun x => { x with queue := x.queue.filter (fun y => y.seq != e.seq) })
      let c := applyWaiting (passPost c a e (if sat = 0 then .ok else .saturated))
      countCore key 2 sat (countCore key 3 (els.filter (·.invalid)).length (countCore key 4 acc.invalid
        (countCore key 5 (els.filter (·.under)).length (putCore s key c))))

/-- Submits one descriptor to a core's queue through the register path (R55, R78): the code of the write. A withdrawn core
refuses it with WITHDRAWN (R24). A write that ends with WITHDRAWN has enqueued nothing and posts no PASS_COMPLETION, while a
PASS instruction under row 7 of Table 2.6 posts one. DESIGN CHOICE (log entry 133). DEDUCED (log entry 134). -/
def passSubmit (key a : Nat) (d : CmdDesc) (s : State) : State × Code :=
  let c := getCore s key
  match if c.withdrawn && passFate c a d != .refused then .withdrawn else passFate c a d with
  | .refused => (s, .rejected)
  | .full => (s, .retryLater)
  | .withdrawn => (s, .withdrawn)
  | .enqueue b => (putCore s key (passEnqueue c b a none d), .ok)

/-- A write of 0 to an array's enable bit (R80). -/
def arrayDisableOp (key a : Nat) (s : State) : State :=
  if (getArray (getCore s key) a).out then s
  else throttleEffect (key / 64) (groupOf key) (arrayOut key a true s)

/-- A write of 1 to an array's enable bit: returns an array that a write of 0 took out (R80). -/
def arrayEnableOp (key a : Nat) (s : State) : State :=
  let c := getCore s key
  let x := getArray c a
  if x.out && x.outByWrite then
    let c := putArray c a { x with out := false, outByWrite := false }
    let s := putCore s key c
    if !(getArray c (1 - a)).out then
      modTile s (key / 64) (fun t => { t with coreHalf := t.coreHalf &&& ~~~(BitVec.twoPow 64 (key % 64)) })
    else s
  else s

/-- FLUSH in PASS_CTRL. -/
def passFlushOp (key a : Nat) (s : State) : State :=
  throttleEffect (key / 64) (groupOf key) (putCore s key (flushArray (getCore s key) a true))

/-- STOP in PASS_CTRL. -/
def passStopOp (key a : Nat) (s : State) : State := throttleEffect (key / 64) (groupOf key) (stopActive key a s)

end Sys2Proof.Machine
end

