-- ==== Sys2Proof/Machine/Tables.lean ====
section
/-! DEFINITION. Tables: CRC-32C (R266), page-table entries by key (R188), and as bytes what the residency managers keep in
TABLE frames: page tables and space records (Tables 6.1 and 6.3), shard set descriptors with their directory (R214, Table
6.12), and the region tables (Table 9.5). -/

namespace Sys2Proof.Machine

/-! ### CRC-32C -/

/-- Eight shift steps of the reflected CRC-32C register. -/
def crcBits : Nat → BitVec 32 → BitVec 32
  | 0, c => c
  | n + 1, c => crcBits n (if bit c 0 then (c >>> 1) ^^^ 0x82F63B78 else c >>> 1)

/-- CRC-32C of a byte string. -/
def crc32c (bs : List Byte) : BitVec 32 :=
  ~~~(bs.foldl (fun c b => crcBits 8 (c ^^^ b.setWidth 32)) (BitVec.allOnes 32))

/-! ### Entries -/

/-- The key of a frame of a slice. -/
def fkey (key frame : Nat) : Nat := key * 32768 + frame

/-- Space, first page and size of the entry at a page key. -/
def pkSpace (pk : Nat) : Nat := pk / 2 / 2 ^ 32
def pkVpn (pk : Nat) : Nat := pk / 2 % 2 ^ 32
def pkBig (pk : Nat) : Bool := pk % 2 == 1
/-- Pages of 64 KiB of an entry. -/
def pkPages (pk : Nat) : Nat := if pkBig pk then 32 else 1

/-- The key of a page-table entry: an entry of level 3, or of level 2 (`big`). -/
def pkey (space vpn : Nat) (big : Bool) : Nat := (space * 2 ^ 32 + vpn) * 2 + b2n big

/-- An INVALID entry. -/
def pteInit : Pte :=
  ⟨.invalid, false, 0, 0, 0, 0, false, false, false, false, false, false, 0, 0, 0, 0, 0⟩

/-- The address space that holds an address: the shared half stands under space 0 (R186, R188). -/
def spaceOf (space va : Nat) : Nat := if va.testBit 47 then 0 else space

/-- The key of the leaf entry of an address: at level 2 when a large entry covers it, else at level 3. -/
def leafKey (s : State) (space va : Nat) : Nat :=
  let sp := spaceOf space va
  let kb := pkey sp (va / 65536 / 32 * 32) true
  if s.pages.any (fun p => p.1 == kb) then kb else pkey sp (va / 65536) false

/-- The entry at a key. -/
def getPte (s : State) (k : Nat) : Pte := tget pteInit s.pages k

/-- The state with an entry changed. -/
def modPte (s : State) (k : Nat) (f : Pte → Pte) : State := { s with pages := tput s.pages k (f (getPte s k)) }

/-- The record of an address space. -/
def getSpace (s : State) (a : Nat) : Option Space := (s.spaces.find? (fun p => p.1 == a)).map (·.2)

/-! ### Shard sets -/

/-- A shard set. -/
def getSet? (s : State) (i : Nat) : Option ShardSet := (s.sets.find? (fun p => p.1 == i)).map (·.2)
/-- The shards of a stripe. -/
def stripeOf (x : ShardSet) (n : Nat) : List Shard := x.stripes.getD n []

/-- The numbers of the valid shards of a stripe. -/
def validShards (l : List Shard) : List Nat := (l.zipIdx.filter (fun p => p.1.valid)).map (·.2)

/-- The largest number of missing shards in any stripe (WORST_MISSING). -/
def worstMissing (x : ShardSet) : Nat :=
  x.stripes.foldl (fun m l => max m (x.k + x.m - (validShards l).length)) 0

/-! ### Page tables and space records as bytes -/

/-- The place of a structure in TABLE frames. -/
def findTab (s : State) (level space prefix_ : Nat) : Option TabLoc :=
  s.tables.find? (fun l => l.level == level && l.space == space && l.prefix_ == prefix_)

/-- The TABLE entry that points to a place (Table 6.3); INVALID for none. -/
def tabWord (l : Option TabLoc) : Word :=
  match l with
  | none => 0
  | some l => pack [(60, 1), (41, l.tile), (35, l.core), (12, l.off / 256)]

/-- The type code of Table 6.2. -/
def pteCode : PteType → Nat
  | .invalid => 0 | .page => 2 | .large => 3 | .absent => 4 | .moving => 5 | .lost => 6 | .filling => 7 | .reserved => 8

/-- A leaf entry as its 64 bits (Table 6.3). -/
def pteWord (s : State) (p : Pte) : Word :=
  match p.ty with
  | .invalid => 0
  | .absent | .lost => pack [(60, pteCode p.ty), (58, if p.ty = .absent then p.fill else 0), (19, b2n p.rd), (18, b2n p.wr), (17, b2n p.ex)]
  | _ => pack [(60, pteCode p.ty), (46, p.module), (41, p.tile), (35, p.core), (20, p.frame), (19, b2n p.rd), (18, b2n p.wr),
      (17, b2n p.ex), (16, b2n p.dirty), (2, if p.module = s.myModule then 0 else p.region), (1, b2n p.pinned), (0, b2n p.accessed)]

/-- Entry i of a page table (R188). A tin's level-0 entries 256–511 are copies of those of address space 0 for the segments
that it is granted, else INVALID. -/
def tableEntry (s : State) (l : TabLoc) (i : Nat) : Word :=
  match l.level with
  | 0 =>
    if i < 256 || l.space = 0 then tabWord (findTab s 1 l.space i)
    else match getSpace s l.space with
      | some r => if bit r.grants (i - 256) then tabWord (findTab s 1 0 i) else 0
      | none => 0
  | 1 => tabWord (findTab s 2 l.space (512 * l.prefix_ + i))
  | 2 =>
    let big := getPte s (pkey l.space (32 * (512 * l.prefix_ + i)) true)
    if big.ty != .invalid then pteWord s big else tabWord (findTab s 3 l.space (512 * l.prefix_ + i))
  | _ => pteWord s (getPte s (pkey l.space (32 * l.prefix_ + i) false))

/-- Word i of the space record: two words per binding. -/
def recordWord (s : State) (space i : Nat) : Word :=
  match (getSpace s space).bind (fun r => r.bindings[i / 2]?) with
  | none => 0
  | some b => if i % 2 = 0 then BitVec.ofNat 64 (b.base * 65536 + 1) else pack [(0, b.pages), (32, b.set)]

/-! ### Shard set descriptors -/

/-- Bytes of the descriptor of a set with K + M shards and n stripes. -/
def descBytes (shards n : Nat) : Nat := 64 + n * (8 * cdiv (12 * shards) 8)

/-- The first 64 bytes of a descriptor with a CRC32C field. -/
def descHead (i : Nat) (x : ShardSet) (crc : Nat) : List Byte :=
  leBytes 4 0x53485244 ++ leBytes 2 i ++ leBytes 1 x.k ++ leBytes 1 x.m ++ leBytes 4 x.stripes.length ++ leBytes 2 x.space ++
  leBytes 1 x.state ++ leBytes 1 (worstMissing x) ++ leBytes 8 (x.base * 65536) ++ leBytes 4 x.generation ++ leBytes 4 crc ++ List.replicate 32 0

/-- A shard location (Table 6.12). -/
def shardWord (h : Shard) : Word :=
  pack [(50, h.module), (45, h.tile), (39, h.core), (24, h.frame), (23, b2n h.valid), (22, b2n h.rebuilding)]

/-- A stripe record: its locations, then its CRC-32C values. -/
def stripeBytes (l : List Shard) : List Byte :=
  l.flatMap (fun h => leBytes 8 (shardWord h).toNat) ++ l.flatMap (fun h => leBytes 4 h.crc.toNat) ++
  List.replicate (8 * cdiv (12 * l.length) 8 - 12 * l.length) 0

/-- Byte j of the descriptor of a set. -/
def descByte (i : Nat) (x : ShardSet) (j : Nat) : Byte :=
  let rec_ := 8 * cdiv (12 * (x.k + x.m)) 8
  if j < 64 then (descHead i x (crc32c (descHead i x 0)).toNat).getD j 0
  else (stripeBytes (stripeOf x ((j - 64) / rec_))).getD ((j - 64) % rec_) 0

/-! ### Bytes of a structure -/

/-- The entries of a tile's region table. -/
def regionsOf (s : State) (t : Nat) : Tab (Word × Word) :=
  ((s.ports.find? (fun p => p.1 == t)).map (fun p => p.2.regions)).getD []

/-- Byte j of the structure at a place (log entry 44). -/
def tabByte (s : State) (l : TabLoc) (j : Nat) : Byte :=
  let ofWord (w : Word) : Byte := BitVec.ofNat 8 (nbits w.toNat (8 * (j % 8) + 7) (8 * (j % 8)))
  match l.level with
  | 4 => match getSet? s l.space with | some x => descByte l.space x j | none => 0
  | 5 =>
    let e := tget (0, 0) (regionsOf s l.space) (j / 16)
    ofWord (if j / 8 % 2 = 0 then e.1 else e.2)
  | 6 =>
    match findTab s 4 (j / 8) 0 with
    | some d => ofWord (pack [(50, s.myModule), (45, d.tile), (39, d.core), (0, d.off)])
    | none => 0
  | 0 => if j < 4096 then ofWord (tableEntry s l (j / 8)) else ofWord (recordWord s l.space ((j - 4096) / 8))
  | _ => ofWord (tableEntry s l (j / 8))

/-- The structure that holds a byte of a slice, with the byte's place in it. -/
def tabAt (s : State) (key off : Nat) : Option (TabLoc × Nat) :=
  (s.tables.find? (fun l => ck l.tile l.core == key && decide (l.off ≤ off) && decide (off < l.off + l.bytes))).map (fun l => (l, off - l.off))

end Sys2Proof.Machine
end

