-- ==== Sys2Proof/Machine/Pages.lean ====
section
/-! DEFINITION. Pages: the bytes of a slice with its held writes (R158, R172), the reverse map and bitmap as bytes
(R197), the page walk (R188, R190, Table 6.4) and the windows of a job (R233). -/

namespace Sys2Proof.Machine

/-! ### Slices as bytes -/

/-- The reverse-map entry of a frame (Table 6.6): zero for a frame not in use. -/
def revWord (s : State) (key frame : Nat) : Word :=
  match tget none (s.frames.map (fun p => (p.1, some p.2))) (fkey key frame) with
  | none => 0
  | some f => pack [(52, f.space), (20, f.vpn), (19, 1), (18, b2n f.table), (17, b2n f.head), (16, b2n f.tail),
      (15, b2n f.exported), (14, b2n f.shard)]

/-- The frame's entry, if it is allocated. -/
def frameAt (s : State) (key frame : Nat) : Option Frame :=
  (s.frames.find? (fun p => p.1 == fkey key frame)).map (·.2)

/-- Whether a frame is free for allocation (R197). -/
def frameFree (s : State) (key frame : Nat) : Bool := decide (8 ≤ frame) && (frameAt s key frame).isNone

/-- Whether a slice is out of service, and whether it refuses writes in EVACUATE (Table 5.4). -/
def sliceOut (s : State) (key : Nat) : Bool := (getSlice s key).state == 5
def sliceEvac (s : State) (key : Nat) : Bool := (getSlice s key).state == 4

/-- Whether a slice trains and so takes no access (R167). -/
def sliceTrains (s : State) (key : Nat) : Bool := (getSlice s key).state == 2 || (getSlice s key).trainBusy.isSome

/-- Word 2 of a slice event. -/
def evSlice (key : Nat) (layer : Nat := 0) (index : Nat := 0) : Word := evW2 (unit := key % 64) (layer := layer) (index := index)

/-- A fault event of a slice, whose controller is a block of the tile: SRC_CORE is 0 (R154, Table 14.1). -/
def sliceFault (key type level : Nat) (w2 w3 : Word) (code : Code := .ok) (s : State) : State :=
  raise (mkEv type clsFault 1 level (key / 64) 0 w2 w3 code) s

/-- Accesses of n lines take their slice out of self-refresh and are its latest (R170); each counts as activity of the tile (R401). -/
def sliceAccess (key n : Nat) (s : State) : State :=
  modSlice s key (fun x => { x with lastAccess := s.now, state := if x.state = 3 then 1 else x.state, accesses := x.accesses + n })

/-- An access of one line. -/
def sliceTouch (key : Nat) (s : State) : State := sliceAccess key 1 s

/-- A stored byte of a slice, without its held writes. Frame 0 holds the bitmap and frames 1–4 the reverse map of the
slice's frames once the slice is trained; the structures of TABLE frames stand at their places (Tables.lean). -/
def sliceStored (s : State) (key off : Nat) : Byte :=
  let sl := getSlice s key
  if sl.state = 0 then tget 0 sl.data off
  else if off < 4096 then BitVec.ofNat 8 ((upto 8).foldl (fun a i => a + (b2n (frameFree s key (8 * off + i))) <<< i) 0)
  else if 0x10000 ≤ off ∧ off < 0x50000 then
    BitVec.ofNat 8 (nbits (revWord s key ((off - 0x10000) / 8)).toNat (8 * (off % 8) + 7) (8 * (off % 8)))
  else match tabAt s key off with
    | some (l, j) => tabByte s l j
    | none => tget 0 sl.data off

/-- A byte of a slice as a read sees it: held writes included (R158, R172). DEDUCED (log entry 9). -/
def sliceByte (s : State) (key off : Nat) : Byte :=
  (getSlice s key).heldWrites.foldl (fun b w =>
    if w.1 ≤ off ∧ off < w.1 + w.2.2.length then w.2.2.getD (off - w.1) 0 else b) (sliceStored s key off)

/-- n bytes of a slice. DEDUCED (log entry 9). -/
def sliceRead (s : State) (key off n : Nat) : List Byte := (upto n).map (fun i => sliceByte s key (off + i))

/-- Whether a whole-line write of a line waits among the held writes, so that a read returns it (R158). -/
def lineQueued (s : State) (key line : Nat) : Bool :=
  (getSlice s key).heldWrites.any (fun w => w.1 == 128 * line && w.2.2.length == 128)

/-- Whether a read of a line of a slice fails to decode (R163): its cells are uncorrectable and no whole-line write of it
waits in the queue, which the read would return (R158). -/
def lineBad (s : State) (key line : Nat) : Bool := tget false (getSlice s key).bad line && !lineQueued s key line

/-- A read of a line that fails to decode: SLICE_ERR_LOG, its count and its fault event (Table 5.3). -/
def lineFailed (key : Nat) (s : State) (line : Nat) : State :=
  let s := modSlice s key (fun x => { x with
    bad := tput x.bad line true
    errLog := pack [(40, line), (31, 1), (30, 1), (29, b2n x.erased.isSome)] })
  sliceFault key 0x0203 5 (evSlice key 0 line) 0 .poisoned (countSlice key 2 1 s)

/-- The uncorrectable lines of [off, off + n). -/
def badLines (s : State) (key off n : Nat) : List Nat :=
  ((upto (cdiv (off % 128 + n) 128)).map (fun i => off / 128 + i)).filter (lineBad s key)

/-- A read access of [off, off + n) of a slice that takes accesses (R158, R162, R163, R170): its bytes, ones standing for
every uncorrectable line, whether there was such a line, and the slice after it. -/
def sliceLoad (key off n : Nat) (s : State) : List Byte × Bool × State :=
  let bad := badLines s key off n
  ((upto n).map (fun i => if bad.contains ((off + i) / 128) then (0xFF : Byte) else sliceByte s key (off + i)),
   !bad.isEmpty, bad.foldl (lineFailed key) (sliceAccess key (cdiv (off % 128 + n) 128) s))

/-- The uncorrectable lines that a write of [off, off + n) reads because it replaces only a part of them (R163). -/
def edgeLines (s : State) (key off n : Nat) : List Nat :=
  (badLines s key off n).filter (fun l => decide (128 * l < off) || decide (off + n < 128 * l + 128))

/-- The pieces of a byte list that lie in one 128-byte line each. -/
def lineSplit : Nat → Nat → List Byte → List (Nat × List Byte)
  | 0, _, _ => []
  | fuel + 1, off, bs =>
    if bs.isEmpty then [] else
    let n := 128 - off % 128
    (off, bs.take n) :: lineSplit fuel (off + n) (bs.drop n)

/-- Whether a slice's hold queue has room for n more line writes (R172). -/
def holdRoom (s : State) (key n : Nat) : Bool := decide ((getSlice s key).heldWrites.length + n ≤ 64)

/-- One line write, whose access has been counted: held while the stack holds writes, else applied. A whole-line write clears an uncorrectable line; a
write of a part of one changes nothing (R163). -/
def sliceWriteLine (key : Nat) (s : State) (w : Nat × List Byte) : State :=
  if w.2.length < 128 && lineBad s key (w.1 / 128) then sliceAccess key 0 s
  else if (getTile s (key / 64)).hold then
    countSlice key 6 1 (modTile (modSlice s key (fun sl => { sl with
      heldWrites := sl.heldWrites ++ [(w.1, 0, w.2)]
      scrubPending := if sl.scrubPending = some (w.1 / 128) then none else sl.scrubPending })) (key / 64)
      (fun t => { t with holdWrites := t.holdWrites + 1 }))
  else
    modSlice s key (fun sl => { sl with
      data := memWrite sl.data w.1 w.2
      lastAccess := s.now
      state := if sl.state = 3 then 1 else sl.state
      scrubPending := if sl.scrubPending = some (w.1 / 128) then none else sl.scrubPending
      bad := if w.2.length = 128 then tdel sl.bad (w.1 / 128) else sl.bad })

/-- Writes bytes into a slice, line by line. -/
def sliceWrite (key off : Nat) (bs : List Byte) (s : State) : State :=
  (lineSplit (bs.length + 1) off bs).foldl (sliceWriteLine key) s

/-- Whether a write to [off, off + n) of a slice has room among its held writes, or needs none (R172). -/
def writeRoom (s : State) (key off n : Nat) : Bool :=
  !(getTile s (key / 64)).hold || holdRoom s key (cdiv (off % 128 + n) 128)

/-- A write access of the bytes of [off, off + …) of a slice that takes accesses: whether it met an uncorrectable line
that it replaces only in part, which is left as it is, and the slice after it (R163). -/
def sliceStore (key off : Nat) (bs : List Byte) (s : State) : Bool × State :=
  let bad := edgeLines s key off bs.length
  (!bad.isEmpty, sliceWrite key off bs (bad.foldl (lineFailed key) (sliceAccess key (cdiv (off % 128 + bs.length) 128) s)))

/-- Whether a write to [off, off + n) of a slice reaches a frame that holds tables, records or the slice's own maps
by another path than a residency manager's (R187, R197). -/
def touchesTables (s : State) (key off n : Nat) : Bool :=
  (upto (cdiv (off % 65536 + n) 65536)).any (fun i =>
    let f := off / 65536 + i
    decide (f < 5) || (match frameAt s key f with | some x => x.table | none => false))

/-! ### The page walk -/

/-- Whether a space is going: DESTROY_SPACE has begun on it, or its tin is WITHDRAWING (R24, R252). -/
def spaceGone (s : State) (a : Nat) : Bool :=
  (match getSpace s a with | some r => r.withdrawn | none => false) || s.tins.any (fun p => p.1 == a && p.2.state == .withdrawing)

/-- Whether a space holds the grant of the segment of a shared address (R186). Space 0 needs none. -/
def granted (s : State) (space va : Nat) : Bool :=
  space == 0 || !va.testBit 47 || (match getSpace s space with | some r => bit r.grants (nbits va 46 39) | none => false)

/-- The table lines that the walk of an address reads, as slice and line (R188). -/
def walkLines (s : State) (space va : Nat) : List (Nat × Nat) :=
  let sp := spaceOf space va
  let at_ (l : Option TabLoc) (i : Nat) : List (Nat × Nat) :=
    match l with | some l => [(ck l.tile l.core, (l.off + 8 * i) / 128)] | none => []
  at_ (findTab s 0 space 0) (nbits va 47 39) ++ at_ (findTab s 1 sp (nbits va 47 39)) (nbits va 38 30) ++
  at_ (findTab s 2 sp (nbits va 47 30)) (nbits va 29 21) ++
  (if pkBig (leafKey s space va) then [] else at_ (findTab s 3 sp (nbits va 47 21)) (nbits va 20 16))

/-- The table lines of a walk that cannot be read: uncorrectable, or in a slice out of service (Table 6.4). -/
def walkBad (s : State) (space va : Nat) : List (Nat × Nat) :=
  (walkLines s space va).filter (fun l => sliceOut s l.1 || lineBad s l.1 l.2)

/-- What an access does. -/
inductive Access where
  | load | store | fetch
  deriving DecidableEq, Repr

/-- The outcome of a walk (Table 6.4). -/
inductive Walk where
  | ends (code : Code)
  | poisoned
  | at_ (key module tile core off region : Nat)
  | miss (key : Nat)
  | waits (key : Nat)
  deriving DecidableEq, Repr

/-- The outcome of an address under Table 6.4; one that a translation cache holds reads no table (R194). `system` is the SYSTEM flag of
the kernel that makes the access. DESIGN CHOICE (log entry 44). -/
def walkWith (cached : Bool) (s : State) (space va : Nat) (a : Access) (system : Bool) : Walk :=
  if 2 ^ 48 ≤ va then .ends .rejected else
  let k := leafKey s space va
  let p := getPte s k
  let deny := match a with | .load => !p.rd | .store => !p.wr | .fetch => !p.ex
  let sharedWrite := va.testBit 47 && a == .store && !system
  let key := sharedWrite || !granted s space va
  let off := if p.big then va % 2 ^ 21 else va % 65536
  let there := Walk.at_ k p.module p.tile p.core (p.frame * 65536 + off) p.region
  if key then .ends .keyFault
  else if !cached && !(walkBad s space va).isEmpty then .poisoned
  else if !cached && (walkLines s space va).any (fun l => sliceTrains s l.1) then .waits k
  else if p.ty = .invalid then .ends .rejected
  else if deny then .ends .keyFault
  else match p.ty with
    | .invalid | .reserved => .poisoned
    | .page | .large => there
    | .absent => .miss k
    | .filling => .waits k
    | .moving => if a == .store then .waits k else there
    | .lost => .ends .poisoned

/-- The walk of an address through its tables. -/
def walk (s : State) (space va : Nat) (a : Access) (system : Bool) : Walk := walkWith false s space va a system

/-- The translation sets ACCESSED, and DIRTY for a write (R189). -/
def touchPte (k : Nat) (write : Bool) (s : State) : State :=
  modPte s k (fun p => { p with accessed := true, dirty := p.dirty || write })

/-- A residency manager at reset. -/
def resInit : ResTile := ⟨[], 0, .ok, 0, 0x402400700, 0, [], [], 0, 0, 0, [], []⟩

/-- The event of a poisoned walk (Table 6.4, WALK_POISONED) with its RES_FAULT_LOG record, and what the uncorrectable table
lines leave in their slices (Table 5.3). -/
def walkPoisoned (tile space va : Nat) (s : State) : State :=
  let s := (walkBad s space va).foldl (fun s l => if sliceOut s l.1 then s else lineFailed l.1 s l.2) s
  let r := tget resInit s.res tile
  let s := { s with res := tput s.res tile { r with faultLog := pack [(52, space), (16, va / 65536), (8, codeNum .poisoned), (7, 1)] } }
  raise (mkEv 0x0301 clsFault 1 5 tile 0 evW2 (pack [(52, space), (0, va)]) .poisoned) s

/-- The serving space and address that a kernel's address names: a window of a job's position stands for the tin's
own space (R233); none for a window beyond the job's positions. -/
def windowOf (s : State) (k : Kernel) (va : Nat) : Option (Nat × Nat) :=
  if 0x400000000000 ≤ va ∧ va < 0x800000000000 then
    match s.jobs.find? (fun j => j.num.toNat == k.job) with
    | none => some (k.image.space, va)
    | some j =>
      match j.positions[(va - 0x400000000000) / 2 ^ 38]? with
      | some p => some (p.tin, va % 2 ^ 38)
      | none => none
  else some (k.image.space, va)

/-- A byte of a slice when it can be read. -/
def sliceSees (s : State) (key off : Nat) : Option Byte :=
  if sliceOut s key || lineBad s key (off / 128) then none else some (sliceByte s key off)

/-- A byte at an address of a space, for reads that the module makes of resident pages of its own (plans, images,
templates): none when the page is not resident in this module or its line is uncorrectable. -/
def vaByte (s : State) (space va : Nat) : Option Byte :=
  match walk s space va .load true with
  | .at_ _ m t c off _ =>
    if m = s.myModule then sliceSees s (ck t c) off else none
  | _ => none

/-- n bytes at an address of a space, when every one can be read. -/
def vaRead (s : State) (space va n : Nat) : Option (List Byte) := (upto n).mapM (fun i => vaByte s space (va + i))

/-- The parts of a range of a space that are resident in slices of this module, one for each page: slice, offset and length. -/
def vaParts (s : State) (space va n : Nat) : List (Nat × Nat × Nat) :=
  (upto (cdiv (va % 65536 + n) 65536)).filterMap (fun i =>
    let a := if i = 0 then va else (va / 65536 + i) * 65536
    match walk s space a .load true with
    | .at_ _ m t c off _ => if m = s.myModule then some (ck t c, off, min (va + n) ((va / 65536 + i + 1) * 65536) - a) else none
    | _ => none)

/-- Whether a range of a space lies in part in a slice that trains, so that its read waits (R167). -/
def vaTrains (s : State) (space va n : Nat) : Bool := (vaParts s space va n).any (fun p => sliceTrains s p.1)

/-- What a read that the module itself makes of a range of a space leaves (R162, R163, R170, Table 6.4): slices out of self-refresh, the
records and events of lines that fail to decode, and those of walks that are poisoned, at the residency manager of a tile. -/
def vaSeen (tile space va n : Nat) (s : State) : State :=
  let s := (vaParts s space va n).foldl (fun s p => if sliceOut s p.1 then s else (sliceLoad p.1 p.2.1 p.2.2 s).2.2) s
  let bad := (upto (cdiv (va % 65536 + n) 65536)).filter (fun i => walk s space ((va / 65536 + i) * 65536) .load true == .poisoned)
  bad.foldl (fun s i => walkPoisoned tile space ((va / 65536 + i) * 65536) s) s

/-- A byte at a global physical address of this module (spaces 0 and 1), when the address names one. -/
def gpaByte (s : State) (a : Nat) : Option Byte :=
  let key := ck (nbits a 49 45) (nbits a 44 39)
  let off := nbits a 35 0
  if nbits a 63 50 ≠ s.myModule ∨ 24 ≤ nbits a 49 45 then none
  else if nbits a 38 36 = 0 ∧ off < 2 ^ 31 then
    sliceSees s key off
  else if nbits a 38 36 = 1 ∧ off < 0x600000 then some (benchByte (getCore s key) off)
  else none

/-- n bytes at a global physical address. -/
def gpaRead (s : State) (a n : Nat) : Option (List Byte) := (upto n).mapM (fun i => gpaByte s (a + i))

/-- Bytes that the module itself reads at a global physical address of its own, in one slice or bench (R162, R170, R179); none when the
address names no such bytes, or they cannot be read. -/
def gpaLoad (a n : Nat) (s : State) : Option (List Byte) × State :=
  let key := ck (nbits a 49 45) (nbits a 44 39)
  let off := nbits a 35 0
  if nbits a 63 50 ≠ s.myModule ∨ 24 ≤ nbits a 49 45 then (none, s)
  else if nbits a 38 36 = 0 ∧ off + n ≤ 2 ^ 31 then
    if sliceOut s key then (none, s) else
    let r := sliceLoad key off n s
    (if r.2.1 then none else some r.1, r.2.2)
  else if nbits a 38 36 = 1 ∧ off + n ≤ 0x600000 then
    let r := benchLoad key off n s
    (some r.1, r.2)
  else (none, s)

/-- Whether a global physical address lies in a slice of this module that trains, so that its read waits (R167). -/
def gpaTrains (s : State) (a : Nat) : Bool :=
  nbits a 63 50 == s.myModule && decide (nbits a 49 45 < 24) && nbits a 38 36 == 0 && sliceTrains s (ck (nbits a 49 45) (nbits a 44 39))

end Sys2Proof.Machine
end

