-- ==== Sys2Proof/Machine/Operands.lean ====
section
/-! DEFINITION. Operands: the fields of an instruction word (R84, R85), the registers of a kernel with their poison
tags (R83), the addresses that instructions form (R87, R90, R91), and the issue of one instruction (R84, R86, R104). -/

namespace Sys2Proof.Machine

/-! ### Fields of the word (Tables 3.2) -/

/-- GUARD and GNEG (R84). -/
def wGuard (w : BitVec 56) : Nat := fld w 55 53
def wGneg (w : BitVec 56) : Bool := bit w 52
def wD (w : BitVec 56) : Nat := fld w 51 47
def wA (w : BitVec 56) : Nat := fld w 46 42
def wB (w : BitVec 56) : Nat := fld w 41 37
def wC (w : BitVec 56) : Nat := fld w 36 32
def wSize (w : BitVec 56) : Nat := fld w 41 39
def wOp (w : BitVec 56) : Nat := fld w 38 32
def wSel (w : BitVec 56) : Nat := fld w 41 40
/-- IMM zero-extended. -/
def wImmU (w : BitVec 56) : Nat := fld w 31 0
/-- IMM, OFF or DISP sign-extended to 64 bits. -/
def wImm (w : BitVec 56) : Word := BitVec.ofInt 64 (sext 32 (fld w 31 0))

/-- Whether bits hi:lo of the word are zero (R85). -/
def wZero (w : BitVec 56) (hi lo : Nat) : Bool := fld w hi lo == 0

/-! ### Registers (Table 3.1) -/

/-- General register i. -/
def gReg (k : Kernel) (i : Nat) : Word := tget 0 k.g i
/-- Its poison tag. -/
def gTag (k : Kernel) (i : Nat) : Bool := bit k.gPoison i
/-- Bit i of a mask set or cleared. -/
def putBit {w : Nat} (m : BitVec w) (i : Nat) (b : Bool) : BitVec w :=
  if b then m ||| BitVec.twoPow w i else m &&& ~~~(BitVec.twoPow w i)
/-- The kernel with general register i written; an untagged result clears the tag (R83). -/
def putG (k : Kernel) (i : Nat) (v : Word) (tag : Bool) : Kernel :=
  { k with g := tset 0 k.g i v, gPoison := putBit k.gPoison i tag }
/-- Predicate register i; p0 reads true. -/
def pReg (k : Kernel) (i : Nat) : Bool := i == 0 || bit k.p i
/-- The kernel with predicate register i written; a write of p0 has no effect (R85). -/
def putP (k : Kernel) (i : Nat) (v : Bool) : Kernel := if i = 0 then k else { k with p := putBit k.p i v }
/-- Vector register i. -/
def vReg (k : Kernel) (i : Nat) : BitVec 2048 := tget 0 k.v i
/-- Its poison tag. -/
def vTag (k : Kernel) (i : Nat) : Bool := bit k.vPoison i
/-- The kernel with vector register i written. -/
def putV (k : Kernel) (i : Nat) (v : BitVec 2048) (tag : Bool) : Kernel :=
  { k with v := tset 0 k.v i v, vPoison := putBit k.vPoison i tag }
/-- The kernel with floating-point flags raised (sticky, R89). -/
def putFlags (k : Kernel) (f : FpFlags) : Kernel := { k with fpFlags := k.fpFlags ||| f }

/-! ### Addresses (R87, R90, R91) -/

/-- The address gA + OFF modulo 2^64. -/
def memAddr (k : Kernel) (w : BitVec 56) : Nat := (gReg k (wA w) + wImm w).toNat

/-- Whether n bytes from o lie in the kernel's bench window (R91). -/
def inWindow (k : Kernel) (o n : Nat) : Bool := decide (k.image.benchLow ≤ o) && decide (o + n ≤ k.image.benchHigh)

/-- Bytes of a SIZE field. -/
def sizeBytes (w : BitVec 56) : Nat := 2 ^ wSize w

/-! ### The outcome of an instruction -/

/-- What an instruction does once it issues: it retires to the next instruction, retires to a target, issues and
blocks or stops the kernel at its own address, takes a trap with its ABORT_IMM, or does not issue yet. The state
returned already holds its effect; `trapped` is a trap after a bench read whose errors were noted (R179). DESIGN CHOICE (log entry 4). -/
inductive IRes where
  | next (s : State)
  | jump (s : State) (pc : Nat)
  | hold (s : State)
  | trap (c : Cause) (imm : Nat)
  | trapped (s : State) (c : Cause) (imm : Nat)
  | stall

/-- One instruction: its encoding check beyond the opcode (R85), the general registers that must be final before it
issues (R86), whether it takes FETCH by itself (R90), and its effect on the core of a key. -/
structure IOp where
  legal : BitVec 56 → Bool
  regs : BitVec 56 → List Nat
  fetch : Kernel → BitVec 56 → Bool
  run : Nat → Kernel → BitVec 56 → State → IRes

/-- The state with the kernel of a core replaced. -/
def putKernel (s : State) (key : Nat) (k : Kernel) : State :=
  modCore s key (fun c => { c with kernel := some k })

/-- Retires an instruction to a program counter: the issue cycle and its stall cycles count (R110, Table 3.3). DESIGN CHOICE (log entry 12). -/
def retire (key pc : Nat) (s : State) : State :=
  let n := 1 + Config.stall s.free
  modCore { s with free := s.free + 1 } key (fun c =>
    modKernel c (fun k => { k with pc := pc, cycles := k.cycles + n, gap := k.gap + n }))

/-! ### Traps (R104, R105) -/

/-- The number of a trap cause (Table 3.9). -/
def causeNum : Cause → Nat
  | .illegal => 1 | .benchRange => 2 | .misaligned => 3 | .descriptor => 4 | .lockViolation => 5 | .poisonUse => 6
  | .gapExceeded => 7 | .abort => 8 | .privilege => 9 | .fetch => 10

/-- The code of a trap cause (Table 3.9). -/
def causeCode : Cause → Code
  | .illegal | .benchRange | .misaligned | .descriptor | .abort | .fetch => .rejected
  | .lockViolation => .conflict
  | .poisonUse => .poisoned
  | .gapExceeded => .timeout
  | .privilege => .keyFault

/-- Ends the moves of a core that have not started (R105). -/
def cancelMoves (c : Core) : Core := { c with moves := c.moves.filter (fun m => m.started) }

/-- Steps 1 and 2 of R105 after a trap: the core stops issuing, flushes both queues and cancels the moves that have
not started. KERNEL_END_COMPLETE does the rest. DESIGN CHOICE (log entry 34). -/
def takeTrap (key : Nat) (c : Cause) (imm : Nat) (s : State) : State :=
  let core := getCore s key
  match core.kernel with
  | none => s
  | some k =>
    let core := { core with kernel := some { k with phase := .ending (.trap c imm k.pc), blocked := none } }
    let core := applyWaiting (cancelMoves (flushArray (flushArray core 0 true) 1 true))
    throttleEffect (key / 64) (groupOf key) (putCore s key core)

/-! ### Issue -/

/-- Whether a core can issue: a kernel runs and is not blocked, its clock runs, and no store of it waits on a lock. DESIGN CHOICE (log entry 31). -/
def canIssue (s : State) (key : Nat) (c : Core) (k : Kernel) : Bool :=
  k.phase == .running && k.blocked.isNone && groupRuns s key && c.writes.isEmpty

/-- Whether the program counter leaves the code section or its alignment (Table 3.9, FETCH). DESIGN CHOICE (log entry 5). -/
def fetchBad (k : Kernel) : Bool := decide (k.image.codeBytes ≤ k.pc) || k.pc % 8 != 0

/-- The issue of one instruction, in the order of R104. It waits for every general register that it names, also one that it only
writes. DESIGN CHOICE (log entry 156). -/
def issue (op : IOp) (key : Nat) (w : BitVec 56) (k : Kernel) (s : State) : IRes :=
  let guard := pReg k (wGuard w) != wGneg w
  if k.image.maxYieldGap < k.gap then .trap .gapExceeded 0
  else if fetchBad k then .trap .fetch 0
  else if guard && !(bit k.gWait (wA w)) && op.fetch k w then .trap .fetch 0
  else if !op.legal w then .trap .illegal 0
  else if !guard then .next s
  else if (op.regs w).any (fun i => bit k.gWait i) then .stall
  else op.run key k w s

/-- The state after an instruction's outcome. -/
def issueEnd (key : Nat) (k : Kernel) (s : State) : IRes → State
  | .next t => retire key (k.pc + 8) t
  | .jump t pc => retire key pc t
  | .hold t => t
  | .trap c imm => takeTrap key c imm s
  | .trapped t c imm => takeTrap key c imm t
  | .stall => s

/-- One instruction presented to a core. A core that cannot issue it leaves the state as it is. DESIGN CHOICE (log entries 4, 5). -/
def isaStep (op : IOp) (r : CoreRef) (w : BitVec 56) (s : State) : State :=
  let key := coreKey r
  let c := getCore s key
  match c.kernel with
  | none => s
  | some k => if canIssue s key c k then issueEnd key k s (issue op key w k s) else s

/-! ### Shapes -/

/-- An instruction that only changes the kernel's own registers. -/
def regOp (legal : BitVec 56 → Bool) (regs : BitVec 56 → List Nat) (f : Kernel → BitVec 56 → Kernel) : IOp :=
  ⟨legal, regs, fun _ _ => false, fun key k w s => .next (putKernel s key (f k w))⟩

/-- Format R with C zero: gD := f gA gB. -/
def aluR (f : Word → Word → Word) : IOp :=
  regOp (fun w => wZero w 36 0) (fun w => [wD w, wA w, wB w]) (fun k w =>
    putG k (wD w) (f (gReg k (wA w)) (gReg k (wB w))) (gTag k (wA w) || gTag k (wB w)))

/-- Format R with B and C zero: gD := f gA. -/
def aluR1 (f : Word → Word) : IOp :=
  regOp (fun w => wZero w 41 0) (fun w => [wD w, wA w]) (fun k w =>
    putG k (wD w) (f (gReg k (wA w))) (gTag k (wA w)))

/-- Format I: gD := f gA IMM. -/
def aluI (legal : BitVec 56 → Bool) (f : Word → BitVec 56 → Word) : IOp :=
  regOp (fun w => wZero w 41 32 && legal w) (fun w => [wD w, wA w]) (fun k w =>
    putG k (wD w) (f (gReg k (wA w)) w) (gTag k (wA w)))

/-- A compare of two registers. -/
def cmpR (f : Word → Word → Bool) : IOp :=
  regOp (fun w => wZero w 36 0 && decide (wD w < 8)) (fun w => [wA w, wB w]) (fun k w =>
    putP k (wD w) (f (gReg k (wA w)) (gReg k (wB w))))

/-- A compare with an immediate. -/
def cmpI (f : Word → Word → Bool) : IOp :=
  regOp (fun w => wZero w 41 32 && decide (wD w < 8)) (fun w => [wA w]) (fun k w =>
    putP k (wD w) (f (gReg k (wA w)) (wImm w)))

/-- Predicate logic on pA and pB. -/
def predR (f : Bool → Bool → Bool) : IOp :=
  regOp (fun w => wZero w 36 0 && decide (wD w < 8) && decide (wA w < 8) && decide (wB w < 8)) (fun _ => []) (fun k w =>
    putP k (wD w) (f (pReg k (wA w)) (pReg k (wB w))))

/-- A vector instruction of vA alone. -/
def vecR1 (f : Word32 → Word32 × FpFlags) : IOp :=
  regOp (fun w => wZero w 41 0) (fun _ => []) (fun k w =>
    let r := vmap (fun i => f (lane (vReg k (wA w)) i))
    putFlags (putV k (wD w) r.1 (vTag k (wA w))) r.2)

/-- A vector instruction of vA and vB. -/
def vecR2 (f : Word32 → Word32 → Word32 × FpFlags) : IOp :=
  regOp (fun w => wZero w 36 0) (fun _ => []) (fun k w =>
    let r := vmap (fun i => f (lane (vReg k (wA w)) i) (lane (vReg k (wB w)) i))
    putFlags (putV k (wD w) r.1 (vTag k (wA w) || vTag k (wB w))) r.2)

/-- A vector instruction of vA, vB and vC. -/
def vecR3 (f : Word32 → Word32 → Word32 → Word32 × FpFlags) : IOp :=
  regOp (fun w => wZero w 31 0) (fun _ => []) (fun k w =>
    let r := vmap (fun i => f (lane (vReg k (wA w)) i) (lane (vReg k (wB w)) i) (lane (vReg k (wC w)) i))
    putFlags (putV k (wD w) r.1 (vTag k (wA w) || vTag k (wB w) || vTag k (wC w))) r.2)

/-- A vector reduction to a general register. -/
def vecReduce (f : List Word32 → Word32 × FpFlags) : IOp :=
  regOp (fun w => wZero w 41 0) (fun w => [wD w]) (fun k w =>
    let r := f ((upto 64).map (lane (vReg k (wA w))))
    putFlags (putG k (wD w) (r.1.setWidth 64) (vTag k (wA w))) r.2)

/-- A bench access of n bytes at gA + OFF aligned to a multiple, in the order of R104: the poison of the listed tags,
then MISALIGNED, then BENCH_RANGE; then its effect at the address. -/
def benchOp (legal : BitVec 56 → Bool) (regs : BitVec 56 → List Nat) (tag : Kernel → BitVec 56 → Bool)
    (align : BitVec 56 → Nat) (n : BitVec 56 → Nat) (f : Nat → Kernel → BitVec 56 → Nat → State → IRes) : IOp :=
  ⟨legal, regs, fun _ _ => false, fun key k w s =>
    let a := memAddr k w
    if gTag k (wA w) || tag k w then .trap .poisonUse 0
    else if a % align w != 0 then .trap .misaligned 0
    else if !inWindow k a (n w) then .trap .benchRange 0
    else f key k w a s⟩

/-- An instruction that reads n descriptor bytes at a bench address (R95, R179): what it does with them in the state after the read. -/
def withDesc (key a n : Nat) (s : State) (f : List Byte → State → IRes) : IRes :=
  let r := benchLoad key a n s
  match f r.1 r.2 with
  | .trap c imm => .trapped r.2 c imm
  | x => x

/-- Word i of descriptor bytes. -/
def descPart (bs : List Byte) (i : Nat) : Word := BitVec.ofNat 64 (leNat ((bs.drop (8 * i)).take 8))

/-- A store into the bench by the kernel: LOCK_VIOLATION in a range that a saved pass holds, a wait behind another lock or an
earlier drain, else applied at once (Table 2.8, R99). DEDUCED (log entries 23, 24). -/
def benchStore (key o : Nat) (bs : List Byte) (s : State) : IRes :=
  let c := getCore s key
  if savedLocked c o bs.length then .trap .lockViolation 0
  else if storeWaits c c.enqSeq o bs.length then
    .next (putCore s key { c with writes := c.writes ++ [⟨c.enqSeq, false, o, bs⟩] })
  else .next (putCore s key (benchWrite c o bs))

/-- What a bench load finds: no error, a corrected one, or an uncorrectable one in its codewords (R180). DESIGN CHOICE (log entry 26). -/
def benchErrAt (c : Core) (o n : Nat) : Nat :=
  (upto (cdiv (o % 8 + n) 8)).foldl (fun m i => max m (tget 0 c.benchErr (o / 8 + i))) 0

end Sys2Proof.Machine
end

