-- ==== Sys2Proof/Machine/IsaAlu.lean ====
section
/-! DEFINITION. IsaAlu: the scalar, branch and vector instructions of Table 3.4 that touch no memory (R87, R89,
R116). -/

namespace Sys2Proof.Machine

/-- Leading zero bits, 0–64. -/
def clz64 (a : Word) : Nat := if a = 0 then 64 else 63 - Nat.log2 a.toNat

/-- The target PC + 8 × DISP of a branch; one outside the code section takes FETCH at its own issue. -/
def branchTo (k : Kernel) (w : BitVec 56) : Nat :=
  (BitVec.ofNat 64 k.pc + BitVec.ofInt 64 (8 * sext 32 (fld w 31 0))).toNat

/-- NOP (R87). -/
def opNop : IOp :=
  ⟨fun w => wZero w 51 0, fun _ => [], fun _ _ => false, fun _ _ _ s => .next s⟩
/-- NOP issued by a core. -/
def execKNop (at_ : CoreRef) (w : BitVec 56) (s : State) : Out := answer s (isaStep opNop at_ w s)

/-- ADD (R87). -/
def opAdd : IOp := aluR (fun a b => a + b)
/-- ADD issued by a core. -/
def execKAdd (at_ : CoreRef) (w : BitVec 56) (s : State) : Out := answer s (isaStep opAdd at_ w s)

/-- SUB (R87). -/
def opSub : IOp := aluR (fun a b => a - b)
/-- SUB issued by a core. -/
def execKSub (at_ : CoreRef) (w : BitVec 56) (s : State) : Out := answer s (isaStep opSub at_ w s)

/-- MUL (R87). -/
def opMul : IOp := aluR (fun a b => a * b)
/-- MUL issued by a core. -/
def execKMul (at_ : CoreRef) (w : BitVec 56) (s : State) : Out := answer s (isaStep opMul at_ w s)

/-- MULHU (R87). -/
def opMulhu : IOp := aluR (fun a b => BitVec.ofNat 64 (a.toNat * b.toNat / 2 ^ 64))
/-- MULHU issued by a core. -/
def execKMulhu (at_ : CoreRef) (w : BitVec 56) (s : State) : Out := answer s (isaStep opMulhu at_ w s)

/-- AND (R87). -/
def opAnd : IOp := aluR (fun a b => a &&& b)
/-- AND issued by a core. -/
def execKAnd (at_ : CoreRef) (w : BitVec 56) (s : State) : Out := answer s (isaStep opAnd at_ w s)

/-- OR (R87). -/
def opOr : IOp := aluR (fun a b => a ||| b)
/-- OR issued by a core. -/
def execKOr (at_ : CoreRef) (w : BitVec 56) (s : State) : Out := answer s (isaStep opOr at_ w s)

/-- XOR (R87). -/
def opXor : IOp := aluR (fun a b => a ^^^ b)
/-- XOR issued by a core. -/
def execKXor (at_ : CoreRef) (w : BitVec 56) (s : State) : Out := answer s (isaStep opXor at_ w s)

/-- SHL (R87). -/
def opShl : IOp := aluR (fun a b => a <<< (b.toNat % 64))
/-- SHL issued by a core. -/
def execKShl (at_ : CoreRef) (w : BitVec 56) (s : State) : Out := answer s (isaStep opShl at_ w s)

/-- SHR (R87). -/
def opShr : IOp := aluR (fun a b => a >>> (b.toNat % 64))
/-- SHR issued by a core. -/
def execKShr (at_ : CoreRef) (w : BitVec 56) (s : State) : Out := answer s (isaStep opShr at_ w s)

/-- SRA (R87). -/
def opSra : IOp := aluR (fun a b => a.sshiftRight (b.toNat % 64))
/-- SRA issued by a core. -/
def execKSra (at_ : CoreRef) (w : BitVec 56) (s : State) : Out := answer s (isaStep opSra at_ w s)

/-- MIN (R87). -/
def opMin : IOp := aluR (fun a b => if a.toInt < b.toInt then a else b)
/-- MIN issued by a core. -/
def execKMin (at_ : CoreRef) (w : BitVec 56) (s : State) : Out := answer s (isaStep opMin at_ w s)

/-- MAX (R87). -/
def opMax : IOp := aluR (fun a b => if a.toInt < b.toInt then b else a)
/-- MAX issued by a core. -/
def execKMax (at_ : CoreRef) (w : BitVec 56) (s : State) : Out := answer s (isaStep opMax at_ w s)

/-- SEL (R87). -/
def opSel : IOp :=
  regOp (fun w => wZero w 31 0 && decide (wC w < 8)) (fun w => [wD w, wA w, wB w]) (fun k w =>
    putG k (wD w) (if pReg k (wC w) then gReg k (wA w) else gReg k (wB w)) (gTag k (wA w) || gTag k (wB w)))
/-- SEL issued by a core. -/
def execKSel (at_ : CoreRef) (w : BitVec 56) (s : State) : Out := answer s (isaStep opSel at_ w s)

/-- CLZ (R87). -/
def opClz : IOp := aluR1 (fun a => BitVec.ofNat 64 (clz64 a))
/-- CLZ issued by a core. -/
def execKClz (at_ : CoreRef) (w : BitVec 56) (s : State) : Out := answer s (isaStep opClz at_ w s)

/-- POPC (R87). -/
def opPopc : IOp := aluR1 (fun a => BitVec.ofNat 64 (bitsOf a).length)
/-- POPC issued by a core. -/
def execKPopc (at_ : CoreRef) (w : BitVec 56) (s : State) : Out := answer s (isaStep opPopc at_ w s)

/-- ADDI (R87). -/
def opAddi : IOp := aluI (fun _ => true) (fun a w => a + wImm w)
/-- ADDI issued by a core. -/
def execKAddi (at_ : CoreRef) (w : BitVec 56) (s : State) : Out := answer s (isaStep opAddi at_ w s)

/-- ANDI (R87). -/
def opAndi : IOp := aluI (fun _ => true) (fun a w => a &&& BitVec.ofNat 64 (wImmU w))
/-- ANDI issued by a core. -/
def execKAndi (at_ : CoreRef) (w : BitVec 56) (s : State) : Out := answer s (isaStep opAndi at_ w s)

/-- ORI (R87). -/
def opOri : IOp := aluI (fun _ => true) (fun a w => a ||| BitVec.ofNat 64 (wImmU w))
/-- ORI issued by a core. -/
def execKOri (at_ : CoreRef) (w : BitVec 56) (s : State) : Out := answer s (isaStep opOri at_ w s)

/-- XORI (R87). -/
def opXori : IOp := aluI (fun _ => true) (fun a w => a ^^^ BitVec.ofNat 64 (wImmU w))
/-- XORI issued by a core. -/
def execKXori (at_ : CoreRef) (w : BitVec 56) (s : State) : Out := answer s (isaStep opXori at_ w s)

/-- SHLI (R87). -/
def opShli : IOp := aluI (fun w => wZero w 31 6) (fun a w => a <<< fld w 5 0)
/-- SHLI issued by a core. -/
def execKShli (at_ : CoreRef) (w : BitVec 56) (s : State) : Out := answer s (isaStep opShli at_ w s)

/-- SHRI (R87). -/
def opShri : IOp := aluI (fun w => wZero w 31 6) (fun a w => a >>> fld w 5 0)
/-- SHRI issued by a core. -/
def execKShri (at_ : CoreRef) (w : BitVec 56) (s : State) : Out := answer s (isaStep opShri at_ w s)

/-- SRAI (R87). -/
def opSrai : IOp := aluI (fun w => wZero w 31 6) (fun a w => a.sshiftRight (fld w 5 0))
/-- SRAI issued by a core. -/
def execKSrai (at_ : CoreRef) (w : BitVec 56) (s : State) : Out := answer s (isaStep opSrai at_ w s)

/-- MULI (R87). -/
def opMuli : IOp := aluI (fun _ => true) (fun a w => a * wImm w)
/-- MULI issued by a core. -/
def execKMuli (at_ : CoreRef) (w : BitVec 56) (s : State) : Out := answer s (isaStep opMuli at_ w s)

/-- LI (R87). -/
def opLi : IOp := regOp (fun w => wZero w 46 32) (fun w => [wD w]) (fun k w => putG k (wD w) (wImm w) false)
/-- LI issued by a core. -/
def execKLi (at_ : CoreRef) (w : BitVec 56) (s : State) : Out := answer s (isaStep opLi at_ w s)

/-- LIH (R87). -/
def opLih : IOp :=
  regOp (fun w => wZero w 46 32) (fun w => [wD w]) (fun k w =>
    putG k (wD w) (BitVec.ofNat 64 (wImmU w * 2 ^ 32 + (gReg k (wD w)).toNat % 2 ^ 32)) (gTag k (wD w)))
/-- LIH issued by a core. -/
def execKLih (at_ : CoreRef) (w : BitVec 56) (s : State) : Out := answer s (isaStep opLih at_ w s)

/-- CMPEQ (R87). -/
def opCmpeq : IOp := cmpR (fun a b => a == b)
/-- CMPEQ issued by a core. -/
def execKCmpeq (at_ : CoreRef) (w : BitVec 56) (s : State) : Out := answer s (isaStep opCmpeq at_ w s)

/-- CMPLT (R87). -/
def opCmplt : IOp := cmpR (fun a b => decide (a.toInt < b.toInt))
/-- CMPLT issued by a core. -/
def execKCmplt (at_ : CoreRef) (w : BitVec 56) (s : State) : Out := answer s (isaStep opCmplt at_ w s)

/-- CMPLTU (R87). -/
def opCmpltu : IOp := cmpR (fun a b => decide (a.toNat < b.toNat))
/-- CMPLTU issued by a core. -/
def execKCmpltu (at_ : CoreRef) (w : BitVec 56) (s : State) : Out := answer s (isaStep opCmpltu at_ w s)

/-- CMPEQI (R87). -/
def opCmpeqi : IOp := cmpI (fun a b => a == b)
/-- CMPEQI issued by a core. -/
def execKCmpeqi (at_ : CoreRef) (w : BitVec 56) (s : State) : Out := answer s (isaStep opCmpeqi at_ w s)

/-- CMPLTI (R87). -/
def opCmplti : IOp := cmpI (fun a b => decide (a.toInt < b.toInt))
/-- CMPLTI issued by a core. -/
def execKCmplti (at_ : CoreRef) (w : BitVec 56) (s : State) : Out := answer s (isaStep opCmplti at_ w s)

/-- PAND (R87). -/
def opPand : IOp := predR (fun a b => a && b)
/-- PAND issued by a core. -/
def execKPand (at_ : CoreRef) (w : BitVec 56) (s : State) : Out := answer s (isaStep opPand at_ w s)

/-- POR (R87). -/
def opPor : IOp := predR (fun a b => a || b)
/-- POR issued by a core. -/
def execKPor (at_ : CoreRef) (w : BitVec 56) (s : State) : Out := answer s (isaStep opPor at_ w s)

/-- PNOT (R87). -/
def opPnot : IOp :=
  regOp (fun w => wZero w 41 0 && decide (wD w < 8) && decide (wA w < 8)) (fun _ => []) (fun k w =>
    putP k (wD w) (!pReg k (wA w)))
/-- PNOT issued by a core. -/
def execKPnot (at_ : CoreRef) (w : BitVec 56) (s : State) : Out := answer s (isaStep opPnot at_ w s)

/-- BR (R87). -/
def opBr : IOp :=
  ⟨fun w => wZero w 51 32, fun _ => [], fun _ _ => false, fun _ k w s => .jump s (branchTo k w)⟩
/-- BR issued by a core. -/
def execKBr (at_ : CoreRef) (w : BitVec 56) (s : State) : Out := answer s (isaStep opBr at_ w s)

/-- CALL (R87). -/
def opCall : IOp :=
  ⟨fun w => wZero w 46 32, fun w => [wD w], fun _ _ => false, fun key k w s =>
    .jump (putKernel s key (putG k (wD w) (BitVec.ofNat 64 (k.pc + 8)) false)) (branchTo k w)⟩
/-- CALL issued by a core. -/
def execKCall (at_ : CoreRef) (w : BitVec 56) (s : State) : Out := answer s (isaStep opCall at_ w s)

/-- JR (R87). -/
def opJr : IOp :=
  ⟨fun w => wZero w 51 47 && wZero w 41 0, fun w => [wA w], fun _ _ => false, fun _ k w s =>
    if gTag k (wA w) then .trap .poisonUse 0 else .jump s (gReg k (wA w)).toNat⟩
/-- JR issued by a core. -/
def execKJr (at_ : CoreRef) (w : BitVec 56) (s : State) : Out := answer s (isaStep opJr at_ w s)

/-- LOOP (R87). -/
def opLoop : IOp :=
  ⟨fun w => wZero w 46 32, fun w => [wD w], fun _ _ => false, fun key k w s =>
    if gTag k (wD w) then .trap .poisonUse 0 else
    let v := gReg k (wD w) - 1
    let t := putKernel s key (putG k (wD w) v false)
    if v = 0 then .next t else .jump t (branchTo k w)⟩
/-- LOOP issued by a core. -/
def execKLoop (at_ : CoreRef) (w : BitVec 56) (s : State) : Out := answer s (isaStep opLoop at_ w s)

/-- END (R105). -/
def opEnd : IOp :=
  ⟨fun w => wZero w 51 0, fun _ => [], fun _ _ => false, fun key k _ s =>
    .hold (putKernel s key { k with phase := .ending .fin })⟩
/-- END issued by a core. -/
def execKEnd (at_ : CoreRef) (w : BitVec 56) (s : State) : Out := answer s (isaStep opEnd at_ w s)

/-- VADD (R89). -/
def opVadd : IOp := vecR2 fAdd
/-- VADD issued by a core. -/
def execKVadd (at_ : CoreRef) (w : BitVec 56) (s : State) : Out := answer s (isaStep opVadd at_ w s)

/-- VSUB (R89). -/
def opVsub : IOp := vecR2 fSub
/-- VSUB issued by a core. -/
def execKVsub (at_ : CoreRef) (w : BitVec 56) (s : State) : Out := answer s (isaStep opVsub at_ w s)

/-- VMUL (R89). -/
def opVmul : IOp := vecR2 fMul
/-- VMUL issued by a core. -/
def execKVmul (at_ : CoreRef) (w : BitVec 56) (s : State) : Out := answer s (isaStep opVmul at_ w s)

/-- VFMA (R89). -/
def opVfma : IOp := vecR3 fFma
/-- VFMA issued by a core. -/
def execKVfma (at_ : CoreRef) (w : BitVec 56) (s : State) : Out := answer s (isaStep opVfma at_ w s)

/-- VMAX (R89). -/
def opVmax : IOp := vecR2 fMax
/-- VMAX issued by a core. -/
def execKVmax (at_ : CoreRef) (w : BitVec 56) (s : State) : Out := answer s (isaStep opVmax at_ w s)

/-- VMIN (R89). -/
def opVmin : IOp := vecR2 fMin
/-- VMIN issued by a core. -/
def execKVmin (at_ : CoreRef) (w : BitVec 56) (s : State) : Out := answer s (isaStep opVmin at_ w s)

/-- VEXP2 (R89). -/
def opVexp2 : IOp := vecR1 fExp2
/-- VEXP2 issued by a core. -/
def execKVexp2 (at_ : CoreRef) (w : BitVec 56) (s : State) : Out := answer s (isaStep opVexp2 at_ w s)

/-- VRCP (R89). -/
def opVrcp : IOp := vecR1 fRcp
/-- VRCP issued by a core. -/
def execKVrcp (at_ : CoreRef) (w : BitVec 56) (s : State) : Out := answer s (isaStep opVrcp at_ w s)

/-- VRSQRT (R89). -/
def opVrsqrt : IOp := vecR1 fRsqrt
/-- VRSQRT issued by a core. -/
def execKVrsqrt (at_ : CoreRef) (w : BitVec 56) (s : State) : Out := answer s (isaStep opVrsqrt at_ w s)

/-- VCMPLT (R89). -/
def opVcmplt : IOp := vecR2 fCmpLt
/-- VCMPLT issued by a core. -/
def execKVcmplt (at_ : CoreRef) (w : BitVec 56) (s : State) : Out := answer s (isaStep opVcmplt at_ w s)

/-- VSEL (R87). -/
def opVsel : IOp := vecR3 (fun a b c => (if c = 0 then b else a, 0))
/-- VSEL issued by a core. -/
def execKVsel (at_ : CoreRef) (w : BitVec 56) (s : State) : Out := answer s (isaStep opVsel at_ w s)

/-- VBCAST (R87). -/
def opVbcast : IOp :=
  regOp (fun w => wZero w 41 0) (fun w => [wA w]) (fun k w =>
    putV k (wD w) (ofLanes (fun _ => (gReg k (wA w)).setWidth 32)) (gTag k (wA w)))
/-- VBCAST issued by a core. -/
def execKVbcast (at_ : CoreRef) (w : BitVec 56) (s : State) : Out := answer s (isaStep opVbcast at_ w s)

/-- VRMAX (R89). -/
def opVrmax : IOp := vecReduce lanesMax
/-- VRMAX issued by a core. -/
def execKVrmax (at_ : CoreRef) (w : BitVec 56) (s : State) : Out := answer s (isaStep opVrmax at_ w s)

/-- VRSUM (R89). -/
def opVrsum : IOp := vecReduce (fun l => let r := treeSum 6 l; (r.1.headD 0, r.2))
/-- VRSUM issued by a core. -/
def execKVrsum (at_ : CoreRef) (w : BitVec 56) (s : State) : Out := answer s (isaStep opVrsum at_ w s)

/-- VMOV (R87). -/
def opVmov : IOp := vecR1 (fun a => (a, 0))
/-- VMOV issued by a core. -/
def execKVmov (at_ : CoreRef) (w : BitVec 56) (s : State) : Out := answer s (isaStep opVmov at_ w s)

/-- VCVTI (R89). -/
def opVcvti : IOp := vecR1 fToInt
/-- VCVTI issued by a core. -/
def execKVcvti (at_ : CoreRef) (w : BitVec 56) (s : State) : Out := answer s (isaStep opVcvti at_ w s)

/-- VCVTF (R89). -/
def opVcvtf : IOp := vecR1 fOfInt
/-- VCVTF issued by a core. -/
def execKVcvtf (at_ : CoreRef) (w : BitVec 56) (s : State) : Out := answer s (isaStep opVcvtf at_ w s)

/-- VEXTR (R116). -/
def opVextr : IOp :=
  ⟨fun w => wZero w 36 0, fun w => [wD w, wB w], fun _ _ => false, fun key k w s =>
    let n := (gReg k (wB w)).toNat
    if 64 ≤ n then .trap .illegal 0
    else if gTag k (wB w) then .trap .poisonUse 0
    else .next (putKernel s key (putG k (wD w) ((lane (vReg k (wA w)) n).setWidth 64) (vTag k (wA w))))⟩
/-- VEXTR issued by a core. -/
def execKVextr (at_ : CoreRef) (w : BitVec 56) (s : State) : Out := answer s (isaStep opVextr at_ w s)

/-- VINS (R116). -/
def opVins : IOp :=
  ⟨fun w => wZero w 36 0, fun w => [wA w, wB w], fun _ _ => false, fun key k w s =>
    let n := (gReg k (wB w)).toNat
    if 64 ≤ n then .trap .illegal 0
    else if gTag k (wA w) || gTag k (wB w) then .trap .poisonUse 0
    else .next (putKernel s key (putV k (wD w) (setLane (vReg k (wD w)) n ((gReg k (wA w)).setWidth 32)) (vTag k (wD w))))⟩
/-- VINS issued by a core. -/
def execKVins (at_ : CoreRef) (w : BitVec 56) (s : State) : Out := answer s (isaStep opVins at_ w s)

/-- VAND (R87). -/
def opVand : IOp := vecR2 (fun a b => (a &&& b, 0))
/-- VAND issued by a core. -/
def execKVand (at_ : CoreRef) (w : BitVec 56) (s : State) : Out := answer s (isaStep opVand at_ w s)

end Sys2Proof.Machine
end

