-- ==== Sys2Proof/Machine/IsaBench.lean ====
section
/-! DEFINITION. IsaBench: the instructions of Table 3.4 that read or write the bench, the constant section and the
scale bank (R90, R91, R132–R134). -/

namespace Sys2Proof.Machine

/-! ### Loads -/

/-- SIZE is 0–3 and OP is zero (R85). -/
def sizeLegal (w : BitVec 56) : Bool := decide (wSize w < 4) && wZero w 38 32

/-- The kernel of a core, as the state now holds it. -/
def withKernel (key : Nat) (f : Kernel → Kernel) (s : State) : State := modCore s key (fun c => modKernel c f)

/-- LD and LDS. -/
def loadOp (signed : Bool) : IOp :=
  benchOp sizeLegal (fun w => [wD w, wA w]) (fun _ _ => false) sizeBytes sizeBytes (fun key _ w a s =>
    let (bs, s) := benchLoad key a (sizeBytes w) s
    let n := leNat bs
    let v := if signed then BitVec.ofInt 64 (sext (8 * sizeBytes w) n) else BitVec.ofNat 64 n
    .next (withKernel key (fun k => putG k (wD w) v false) s))

/-- LD (R90). -/
def opLd : IOp := loadOp false
/-- LD issued by a core. -/
def execKLd (at_ : CoreRef) (w : BitVec 56) (s : State) : Out := answer s (isaStep opLd at_ w s)

/-- LDS (R90). -/
def opLds : IOp := loadOp true
/-- LDS issued by a core. -/
def execKLds (at_ : CoreRef) (w : BitVec 56) (s : State) : Out := answer s (isaStep opLds at_ w s)

/-- ST (R99). -/
def opSt : IOp :=
  benchOp sizeLegal (fun w => [wD w, wA w]) (fun k w => gTag k (wD w)) sizeBytes sizeBytes (fun key k w a s =>
    benchStore key a (leBytes (sizeBytes w) (gReg k (wD w)).toNat) s)
/-- ST issued by a core. -/
def execKSt (at_ : CoreRef) (w : BitVec 56) (s : State) : Out := answer s (isaStep opSt at_ w s)

/-! ### The scale bank -/

/-- Scale register n of a core. -/
def scaleReg (c : Core) (n : Nat) : Word32 := tget scaleInit c.scale n

/-- KLD. -/
def opKld : IOp :=
  ⟨fun w => wZero w 41 0, fun w => [wD w, wA w], fun _ _ => false, fun key k w s =>
    let n := (gReg k (wA w)).toNat
    if 4096 ≤ n then .trap .illegal 0
    else if gTag k (wA w) then .trap .poisonUse 0
    else .next (putKernel s key (putG k (wD w) ((scaleReg (getCore s key) n).setWidth 64) false))⟩
/-- KLD issued by a core. -/
def execKKld (at_ : CoreRef) (w : BitVec 56) (s : State) : Out := answer s (isaStep opKld at_ w s)

/-- Whether a kernel may write scale register n (R134). -/
def kwriteOk (c : Core) (k : Kernel) (n : Nat) : Bool :=
  k.image.flags.testBit 0 || (bit c.arithCtl 0 && decide (fld c.arithCtl 27 16 ≤ n) && decide (n ≤ fld c.arithCtl 43 32))

/-- A kernel's write of one scale register: refused, waiting for a scale lock, or applied (R67, R134). -/
def kwrite (key : Nat) (s : State) (p : Nat × Word32) : State :=
  let c := getCore s key
  match c.kernel with
  | none => s
  | some k =>
    if !kwriteOk c k p.1 then
      countCore key 10 1 (putKernel s key { k with
        kwriteFirst := if k.kwriteRefused = 0 then p.1 else k.kwriteFirst, kwriteRefused := k.kwriteRefused + 1 })
    else if scaleLocked c p.1 1 then
      putCore s key { c with writes := c.writes ++ [⟨c.enqSeq, true, p.1, leBytes 4 p.2.toNat⟩] }
    else putCore s key { c with scale := tset scaleInit c.scale p.1 p.2 }

/-- Whether a kernel's write of one of `n` scale registers from `i` meets the lock of a saved pass: it takes the
lock-violation trap (Table 2.8, R104). A register that R134 refuses is not written. -/
def kwriteViolates (c : Core) (k : Kernel) (i n : Nat) : Bool :=
  (upto n).any (fun j => kwriteOk c k (i + j) && savedScaleLocked c (i + j) 1)

/-- KST. -/
def opKst : IOp :=
  ⟨fun w => wZero w 51 47 && wZero w 36 0, fun w => [wA w, wB w], fun _ _ => false, fun key k w s =>
    let n := (gReg k (wA w)).toNat
    if 4096 ≤ n then .trap .illegal 0
    else if gTag k (wA w) || gTag k (wB w) then .trap .poisonUse 0
    else if kwriteViolates (getCore s key) k n 1 then .trap .lockViolation 0
    else .next (kwrite key s (n, (gReg k (wB w)).setWidth 32))⟩
/-- KST issued by a core. -/
def execKKst (at_ : CoreRef) (w : BitVec 56) (s : State) : Out := answer s (isaStep opKst at_ w s)

/-- VKLD. -/
def opVkld : IOp :=
  ⟨fun w => wZero w 41 0, fun w => [wA w], fun _ _ => false, fun key k w s =>
    let n := (gReg k (wA w)).toNat
    if 4096 ≤ n + 63 then .trap .illegal 0
    else if gTag k (wA w) then .trap .poisonUse 0
    else .next (putKernel s key (putV k (wD w) (ofLanes (fun i => scaleReg (getCore s key) (n + i))) false))⟩
/-- VKLD issued by a core. -/
def execKVkld (at_ : CoreRef) (w : BitVec 56) (s : State) : Out := answer s (isaStep opVkld at_ w s)

/-- VKST. -/
def opVkst : IOp :=
  ⟨fun w => wZero w 41 0, fun w => [wA w], fun _ _ => false, fun key k w s =>
    let n := (gReg k (wA w)).toNat
    if 4096 ≤ n + 63 then .trap .illegal 0
    else if gTag k (wA w) || vTag k (wD w) then .trap .poisonUse 0
    else if kwriteViolates (getCore s key) k n 64 then .trap .lockViolation 0
    else .next ((upto 64).foldl (fun s i => kwrite key s (n + i, lane (vReg k (wD w)) i)) s)⟩
/-- VKST issued by a core. -/
def execKVkst (at_ : CoreRef) (w : BitVec 56) (s : State) : Out := answer s (isaStep opVkst at_ w s)

/-! ### Vectors in the bench -/

/-- SIZE and OP zero (R85). -/
def vmemLegal (w : BitVec 56) : Bool := wZero w 41 32

/-- The vector of 256 little-endian bytes. -/
def vecOfBytes (bs : List Byte) : BitVec 2048 := BitVec.ofNat 2048 (leNat bs)

/-- VLD. -/
def opVld : IOp :=
  benchOp vmemLegal (fun w => [wA w]) (fun _ _ => false) (fun _ => 4) (fun _ => 256) (fun key _ w a s =>
    let (bs, s) := benchLoad key a 256 s
    .next (withKernel key (fun k => putV k (wD w) (vecOfBytes bs) false) s))
/-- VLD issued by a core. -/
def execKVld (at_ : CoreRef) (w : BitVec 56) (s : State) : Out := answer s (isaStep opVld at_ w s)

/-- VST. -/
def opVst : IOp :=
  benchOp vmemLegal (fun w => [wA w]) (fun k w => vTag k (wD w)) (fun _ => 4) (fun _ => 256) (fun key k w a s =>
    benchStore key a (leBytes 256 (vReg k (wD w)).toNat) s)
/-- VST issued by a core. -/
def execKVst (at_ : CoreRef) (w : BitVec 56) (s : State) : Out := answer s (isaStep opVst at_ w s)

/-- The format field OP 38:35 of VLDQ and VSTQ. -/
def qFmt (w : BitVec 56) : Nat := fld w 38 35

/-- Bytes of the 64 elements of an input format, and of the whole group with its side bytes (R121). -/
def qInElems (f : Nat) : Nat := 8 * inWidth f
def qInBytes (f : Nat) : Nat := qInElems f + (if inBlock f = 1 then 0 else 2)

/-- One element widened to FP32 (R132). -/
def widen (f code d : Nat) : Word32 × FpFlags :=
  if isMx f && d == 0xFF then (canonNan, 0)
  else
    let (kind, v) := decodeElem f code
    let neg := f != 0xA && code.testBit (inWidth f - 1)
    if kind = 1 then (canonNan, 0)
    else if kind = 2 then (posInf ||| (if neg then signBit else 0), 0)
    else fRoundDy neg (v.1, v.2 + blockExp f d)

/-- VLDQ (R132). -/
def opVldq : IOp :=
  benchOp (fun w => wZero w 41 39 && decide (qFmt w ≤ 0xC) && wZero w 34 32) (fun w => [wA w]) (fun _ _ => false)
    (fun _ => 8) (fun w => qInBytes (qFmt w)) (fun key _ w a s =>
    let f := qFmt w
    let (bs, s) := benchLoad key a (qInBytes f) s
    let rd i := bs.getD i 0
    let side i := bs.getD (qInElems f + i) 0
    let r := vmap (fun i => widen f (elemAt rd (inWidth f) i) (if inBlock f = 1 then 0 else blockDatum f side (i / inBlock f)))
    .next (withKernel key (fun k => putFlags (putV k (wD w) r.1 false) r.2) s))
/-- VLDQ issued by a core. -/
def execKVldq (at_ : CoreRef) (w : BitVec 56) (s : State) : Out := answer s (isaStep opVldq at_ w s)

/-- What VSTQ makes of one lane: its code, saturated, NaN, underflowed, inexact (R132). -/
def vstqLane (f round s r : Nat) (y : Word32) : Nat × Bool × Bool × Bool × Bool :=
  if isNan y then (0, false, true, false, false)
  else if isInf y then ((if fNeg y then 2 ^ (outWidth f - 1) else 0) + outMax f, true, false, false, true)
  else
    let (code, sat, under, inexact) := convert f round s r y
    (code, sat, false, under && !sat, inexact)

/-- The bytes that VSTQ stores for an output format: the elements, then a Quaric format's two side bytes. -/
def qOutBytes (f : Nat) : Nat := 8 * outWidth f + (if outQuaric f then 2 else 0)

/-- VSTQ (R131, R132). -/
def opVstq : IOp :=
  benchOp (fun w => wZero w 41 39 && decide (qFmt w ≤ 5) && decide (fld w 34 33 ≠ 3) && wZero w 32 32) (fun w => [wA w])
    (fun k w => vTag k (wD w)) (fun _ => 8) (fun w => qOutBytes (qFmt w)) (fun key k w a s =>
    let f := qFmt w
    let c := getCore s key
    let ls := (upto 64).map (lane (vReg k (wD w)))
    let shifts := (upto 4).map (fun b => if outQuaric f then
      blockShift f (magMax (((ls.drop (16 * b)).take 16).filter (fun x => !isNan x))) else 0)
    let vals := (genStates 64 c.gen).map genValue
    let out := ls.zipIdx.map (fun p => vstqLane f (fld w 34 33) (shifts.getD (p.2 / 16) 0) (vals.getD p.2 0) p.1)
    let elems := leBytes (8 * outWidth f) (out.zipIdx.foldl (fun n p => n + p.1.1 <<< (outWidth f * p.2)) 0)
    let side := if outQuaric f then leBytes 2 (shifts.zipIdx.foldl (fun n p => n + p.1 <<< (4 * p.2)) 0) else []
    let sat := (out.filter (fun x => x.2.1)).length
    let nan := out.any (fun x => x.2.2.1)
    let under := (out.filter (fun x => x.2.2.2.1)).length
    let inexact := out.any (fun x => x.2.2.2.2)
    let flags : FpFlags := BitVec.ofNat 5 (b2n nan + 4 * b2n (decide (0 < sat)) + 8 * b2n (decide (0 < under)) + 16 * b2n inexact)
    match benchStore key a (elems ++ side) s with
    | .next t =>
      let t := modCore t key (fun c => modKernel { c with gen := genAdvance 64 c.gen } (fun k => putFlags k flags))
      .next (countCore key 6 sat (countCore key 5 under t))
    | r => r)
/-- VSTQ issued by a core. -/
def execKVstq (at_ : CoreRef) (w : BitVec 56) (s : State) : Out := answer s (isaStep opVstq at_ w s)

end Sys2Proof.Machine
end

