-- ==== Sys2Proof/Machine/Trackers.lean ====
section
/-! DEFINITION. Trackers: the commit of amax trackers, trips, deferral and held configuration (R138–R142, R150). -/

namespace Sys2Proof.Machine

/-- MARGIN, HIST_K + 1, SAT_SHIFT, RECIP_REG and LAYER_ID of a tracker (AMAX_CFG). -/
def trMargin (t : Tracker) : Nat := fld t.cfg 19 12
def trK (t : Tracker) : Nat := fld t.cfg 11 8 + 1
def trSatShift (t : Tracker) : Nat := fld t.cfg 7 3
def trRecip (t : Tracker) : Nat := fld t.cfg 35 24
def trLayer (t : Tracker) : Nat := fld t.cfg 63 48

/-- An applied write to AMAX_CFG clears history, pending values, tallies and trip marks (R150). -/
def cfgApply (v : Word) (t : Tracker) : Tracker := { trackerInit with cfg := v, commitSeq := t.commitSeq }

/-- Applies every held AMAX_CFG write of a core (Table 4.7). -/
def cfgHeldApply (c : Core) : Core :=
  { c with trackers := c.trackers.map (fun p =>
      match p.2.held with | some v => (p.1, cfgApply v p.2) | none => p) }

/-- Clears the pending values, tallies and WIDE_PENDING of a tracker (step 5 of R139). -/
def trClear (t : Tracker) : Tracker :=
  { t with pendingAmax := 0, pending := false, widePending := false, deferred := false, satPending := 0,
           convPending := 0, satRows := 0 }

/-- The trip of a commit, if any: true for underflow (R141). -/
def tripOf (t : Tracker) (k : Word32) : Option Bool :=
  if t.widePending then none
  else if 0 < t.convPending ∧ t.convPending < t.satPending * 2 ^ trSatShift t then some false
  else
    let a := if trFolded t then t.pendingAmax else (fMul t.pendingAmax k).1
    if bit t.cfg 2 && !isZero t.pendingAmax && fLess a (fRound false (quaricMax (trTarget t)) 64).1 then some true
    else none

/-- A scale clamped to 2^−64 – 2^64. DEDUCED (log entry 19). -/
def clampScale (s : Word32) : Word32 :=
  if fLess s 0x1F800000 then 0x1F800000 else if fLess 0x5F800000 s then 0x5F800000 else s

/-- Steps 1–5 of R139. `tripped` says that the commit tripped. DEDUCED (log entries 19, 22). -/
def commitSteps (tr : Nat) (tripped : Bool) (c : Core) : Core :=
  let t := getTracker c tr
  let k := domainScale (scaleReg c (trScale t))
  let a := if trFolded t then fDiv t.pendingAmax k else t.pendingAmax
  let kk := trK t
  let hist := if tripped || t.widePending
    then List.replicate kk a ++ t.hist.drop kk
    else (a :: t.hist).take 16
  let h := magMax (hist.take kk)
  let s := if isZero h then scaleReg c (trScale t)
    else clampScale (fDiv (fRound false (quaricMax (trTarget t) * trMargin t) 256).1 h)
  let c := { c with scale := tset scaleInit c.scale (trScale t) s }
  let c := if bit t.cfg 1 then { c with scale := tset scaleInit c.scale (trRecip t) (fRcp s).1 } else c
  putTracker c tr { trClear { t with hist := hist } with commitSeq := t.commitSeq + 1 }

/-- Whether a saved pass holds a scale lock that a commit must wait for (R140). -/
def commitBlocked (c : Core) (t : Tracker) : Bool :=
  (allPasses c).any (fun e => e.stage == .saved &&
    (anyOverlap (passScales e.desc) (trScale t) 1 || anyOverlap (passScales e.desc) (trRecip t) 1))

/-- Steps 1–5 now, or their deferral. -/
def commitOrDefer (key tr : Nat) (tripped : Bool) (s : State) : State :=
  let c := getCore s key
  let t := getTracker c tr
  if commitBlocked c t then putCore s key (putTracker c tr { t with deferred := true })
  else putCore s key (commitSteps tr tripped c)

/-- The commit of one tracker at the end of a run with END: the trip evaluation, its event and counter, then steps 1–5
or their deferral; and the trip's report (R142). A tracker that is still COMMIT_DEFERRED when a later END commits it has its trip
evaluated, reported and counted again: R140 does not say. DESIGN CHOICE (log entry 138). -/
def commitTracker (key tr : Nat) (s : State) : State × Option TripReport :=
  let c := getCore s key
  let t := getTracker c tr
  if !t.pending then (s, none) else
  let forced := !t.widePending && (match c.kernel with | some k => calForces s k | none => false)
  let trip := (tripOf t (domainScale (scaleReg c (trScale t)))).or (if forced then some false else none)
  let t := if t.widePending then t else { t with tripped := trip.isSome, tripUnder := trip == some true }
  let rows := t.satRows
  let s := putCore s key (putTracker c tr t)
  match trip with
  | none => (commitOrDefer key tr false s, none)
  | some under =>
    let s := countCore key (if under then 8 else 7) 1 s
    let s := raise (mkEv 0x0104 clsNotice 0 4 (key / 64) (key % 64)
      (evW2 (unit := key % 64) (index := trLayer t + b2n under <<< 16 + b2n (trFolded t) <<< 17)) rows) s
    (commitOrDefer key tr true s, some ⟨trLayer t, under, trFolded t, rows⟩)

/-- The deferred commits whose locks have ended, at a kernel end (R140). DEDUCED (log entry 127). -/
def commitDeferred (key : Nat) (s : State) : State :=
  let c := getCore s key
  putCore s key ((c.trackers.filter (fun p => p.2.deferred)).foldl (fun c p =>
    let t := getTracker c p.1
    if commitBlocked c t then c else commitSteps p.1 t.tripped c) c)

/-- The commits at the end of a run with END: every tracker of the core that has pending offers, whichever run made them, in
ascending tracker number (R138), with the trips to report. DEDUCED (log entry 137). -/
def commitRun (key : Nat) (s : State) : State × List TripReport :=
  ((upto 256).filter (fun i => (getTracker (getCore s key) i).pending)).foldl (fun st tr =>
    match commitTracker key tr st.1 with
    | (s, some r) => (s, st.2 ++ [r])
    | (s, none) => (s, st.2)) (s, [])

/-- A run that ends by a trap or a withdrawal discards the pending offers and tallies of its trackers (R138); a commit
that an earlier run deferred keeps its own. DEDUCED (log entry 127). -/
def discardRun (trs : List Nat) (c : Core) : Core :=
  trs.foldl (fun c tr =>
    let t := getTracker c tr
    if t.deferred then c else putTracker c tr (trClear t)) c

end Sys2Proof.Machine
end

