-- ==== Sys2Proof/Machine/Packet.lean ====
section
/-! DEFINITION. Packet: the fields of a Yostad packet (Table 8.3), message classes (Tables 8.4, 9.3)
and the checks of R267. -/

namespace Sys2Proof.Machine

/-! ### Fields (Table 8.3) -/

def pFormat (p : Packet) : Nat := fld p.w0 63 60
def pVc (p : Packet) : Nat := fld p.w0 59 56
def pFlits (p : Packet) : Nat := fld p.w0 55 49
def pMcast (p : Packet) : Bool := bit p.w0 48
def pCircuit (p : Packet) : Bool := bit p.w0 47
def pRoute (p : Packet) : Nat := fld p.w0 46 45
def pDstModule (p : Packet) : Nat := fld p.w0 44 31
def pDstTile (p : Packet) : Nat := fld p.w0 30 26
def pInter (p : Packet) : Nat := fld p.w0 25 12
def pEpoch (p : Packet) : Nat := fld p.w0 11 4
def pPool (p : Packet) : Bool := bit p.w0 3
def pSrcModule (p : Packet) : Nat := fld p.w1 63 50
def pSrcTile (p : Packet) : Nat := fld p.w1 49 45
def pSeq (p : Packet) : Nat := fld p.w1 44 21
def pStart (p : Packet) : Bool := bit p.w1 20
def pOrdered (p : Packet) : Bool := bit p.w1 19
def pRetry (p : Packet) : Bool := bit p.w1 18
def pGroupFlow (p : Packet) : Bool := bit p.w1 17
def pGroup (p : Packet) : Nat := fld p.w1 16 5
def pType (p : Packet) : Nat := fld p.w2 63 56
def pMsgId (p : Packet) : Nat := fld p.w2 55 40
def pMsgPkts (p : Packet) : Nat := fld p.w2 39 24
def pIndex (p : Packet) : Nat := fld p.w2 23 8
def pCrc (p : Packet) : Nat := fld p.w7 63 32
def pPad (p : Packet) : Nat := fld p.w7 31 26
def pCircuitId (p : Packet) : Nat := fld p.w7 25 18

/-- The payload bytes without their pad. -/
def pBytes (p : Packet) : List Byte := p.payload.take (p.payload.length - pPad p)

/-- The CRC32C that a packet should carry: CRC32C, VC, ROUTE and POOL as zero (R266). -/
def pktCrc (p : Packet) : Nat :=
  let w0 := setFld (setFld (setFld p.w0 59 56 0) 46 45 0) 3 3 0
  let w7 := setFld p.w7 63 32 0
  (crc32c ([w0, p.w1, p.w2, p.w3, p.w4, p.w5, p.w6, w7].flatMap (fun w => leBytes 8 w.toNat) ++ p.payload)).toNat

/-- The packet with its CRC32C. -/
def pktSeal (p : Packet) : Packet := { p with w7 := setFld p.w7 63 32 (pktCrc p) }

/-! ### Classes -/

/-- The flow class of a message type: 0 management, 1 request, 2 forward, 3 reply; none for types of no flow. -/
def typeClass (t : Nat) : Option Nat :=
  if t = 0x40 ∨ t = 0x41 then some 0
  else if (1 ≤ t ∧ t ≤ 5) ∨ t = 0x20 ∨ t = 0x21 ∨ t = 0x30 then some 1
  else if t = 0x38 then some 2
  else if (0x10 ≤ t ∧ t ≤ 0x12) ∨ t = 0x22 ∨ t = 0x23 ∨ t = 0x31 ∨ t = 0x32 ∨ t = 0x39 then some 3
  else none

/-- A type that travels with ORDERED set (Tables 8.4, 9.3). -/
def typeOrdered (t : Nat) : Bool :=
  (decide (1 ≤ t) && decide (t ≤ 5)) || t == 0x21 || t == 0x30 || t == 0x38 || t == 0x40 || t == 0x41

/-- The phase-1 and phase-2 virtual channels of a class (R285). -/
def phase1 (c : Nat) : Nat := match c with | 0 => 0 | 1 => 2 | 2 => 6 | _ => 4
def phase2 (c : Nat) : Nat := match c with | 0 => 0 | 1 => 3 | 2 => 7 | _ => 5

/-- Whether a VC suits a message type (Table 8.4). -/
def vcAllowed (t vc : Nat) : Bool :=
  match typeClass t with
  | some c => vc == phase1 c || vc == phase2 c
  | none =>
    if t = 0x70 then vc == 0
    else if t = 0x7E then vc == 0 || vc == 4 || vc == 5
    else if 0x50 ≤ t ∧ t < 0x60 then vc == 1
    else if 0x60 ≤ t ∧ t < 0x70 then decide (8 ≤ vc)
    else false

/-- Whether MSG_TYPE is one that the manual defines. -/
def typeKnown (t : Nat) : Bool :=
  (typeClass t).isSome || t == 0x70 || t == 0x7E || (decide (0x50 ≤ t) && decide (t ≤ 0x53)) ||
  (decide (0x60 ≤ t) && decide (t ≤ 0x62))

/-- Nonzero reserved bits of the type words (Tables 8.5, 9.4, 10.6, 10.12, R278). -/
def typeWordsBad (p : Packet) : Bool :=
  let t := pType p
  if t = 0x20 then fld p.w4 17 0 != 0 || fld p.w5 63 32 != 0 || p.w6 != 0
  else if t = 0x21 then fld p.w4 17 0 != 0 || fld p.w5 50 32 != 0 || p.w6 != 0
  else if t = 0x22 ∨ t = 0x23 then p.w3 != 0 || p.w4 != 0 || fld p.w5 63 32 != 0 || fld p.w6 63 8 != 0
  else if 0x30 ≤ t ∧ t ≤ 0x32 then p.w3 != 0 || p.w4 != 0 || p.w5 != 0 || p.w6 != 0
  else if 1 ≤ t ∧ t ≤ 5 then fld p.w4 9 0 != 0 || fld p.w5 63 32 != 0
  else if 0x10 ≤ t ∧ t ≤ 0x12 then p.w3 != 0 || p.w4 != 0 || fld p.w5 63 40 != 0 || (t == 0x11 && fld p.w6 63 14 != 0)
  else if 0x50 ≤ t ∧ t ≤ 0x53 then fld p.w3 4 0 != 0 || fld p.w4 41 0 != 0
  else if 0x60 ≤ t ∧ t ≤ 0x62 then fld p.w4 (if t = 0x61 then 7 else 4) 0 != 0 || p.w5 != 0 || p.w6 != 0
  else if t = 0x7E then fld p.w3 36 0 != 0
  else if t = 0x70 then fld p.w3 13 0 != 0 || fld p.w4 31 0 != 0 || p.w5 != 0 || p.w6 != 0
  else false

/-- R267. -/
def badType (p : Packet) : Bool :=
  pFormat p != 1 || decide (64 < pFlits p) || fld p.w0 2 0 != 0 || pRoute p == 3 || fld p.w1 4 0 != 0 ||
  fld p.w2 6 0 != 0 || fld p.w7 17 0 != 0 || (pMcast p && fld p.w0 44 43 != 0) || !typeKnown (pType p) || typeWordsBad p ||
  !vcAllowed (pType p) (pVc p) || (pVc p == 0 && decide (16 < pFlits p)) || (pVc p == 1 && decide (1 < pFlits p))

/-! ### Building packets -/

/-- A payload padded to whole flits, with its pad. -/
def padded (bs : List Byte) : List Byte × Nat :=
  let pad := (64 - bs.length % 64) % 64
  (bs ++ List.replicate pad 0, pad)

/-- A packet of a message, before SEQ, START, routing and CRC32C. -/
def mkPkt (srcModule srcTile dstModule dstTile type msgId pkts index : Nat) (w3 w4 w5 w6 : Word) (bs : List Byte) :
    Packet :=
  let (pl, pad) := padded bs
  { w0 := pack [(60, 1), (49, pl.length / 64), (31, dstModule), (26, dstTile)]
    w1 := pack [(50, srcModule), (45, srcTile), (19, b2n (typeOrdered type))]
    w2 := pack [(56, type), (40, msgId), (24, pkts), (8, index), (7, b2n (decide (index + 1 = pkts)))]
    w3 := w3, w4 := w4, w5 := w5, w6 := w6
    w7 := pack [(26, pad)]
    payload := pl }

/-- The flow of a packet at its source. -/
def txKey (p : Packet) : FlowKey :=
  let c := BitVec.ofNat 2 ((typeClass (pType p)).getD 0)
  if pMcast p then ⟨0, 0, c, some (BitVec.ofNat 12 (pDstModule p))⟩
  else ⟨BitVec.ofNat 14 (pDstModule p), BitVec.ofNat 5 (pDstTile p), c, none⟩

/-- The flow of a packet at its destination. -/
def rxKey (p : Packet) : FlowKey :=
  ⟨BitVec.ofNat 14 (pSrcModule p), BitVec.ofNat 5 (pSrcTile p), BitVec.ofNat 2 ((typeClass (pType p)).getD 0),
   if pGroupFlow p then some (BitVec.ofNat 12 (pGroup p)) else none⟩

end Sys2Proof.Machine
end

