-- ==== Sys2Proof/Machine/Strands.lean ====
section
/-! DEFINITION. Strands: the records of fabric endpoints and strands, the routing banks (Table 8.11), and the egress of a strand with
its credits (R260–R273). -/

namespace Sys2Proof.Machine

/-! ### Records -/

/-- A fabric endpoint at reset. -/
def portInit : Port where
  ctrl := 0x20102000
  weightLo := 0x0808101020201010
  weightHi := 0x0000080808080808
  circuits := []
  tx := []
  known := []
  queue := []
  loose := []
  rx := []
  network := []
  undeliv := []
  dead := []
  hold := false
  txn := 0
  msgId := 0
  ops := []
  imports := []
  regions := []
  regionQueue := []
  regTag := 0
  regCode := .ok
  regSeq := 0
  arc := []
  waits := []
  lineBuffers := []

/-- A strand at reset: dark, ENABLE set. -/
def strandInit : Strand where
  state := .dark
  cause := 0
  partner := 0
  waves := 0
  enable := true
  loopback := false
  trained := false
  uncorr := []
  retrainedAt := none
  sent := []
  credit := []
  sentShared := 0
  creditShared := 0
  sharedBy := []
  recv := []
  freed := []
  recvShared := 0
  freedShared := 0
  occ := []
  xoffIn := 0
  xoffOut := 0
  egress := []
  sending := none
  deficit := []
  turn := 2
  slots := 0
  capped := []
  tokens := []
  superframe := 0
  helloSeq := 0
  helloMisses := 0
  helloAnswered := true
  helloDue := none
  helloValid := false
  drainAt := none

/-- The endpoint of tile t, or of the hearth as tile 30. -/
def getPort (s : State) (t : Nat) : Port := tget portInit s.ports t
def putPort (s : State) (t : Nat) (p : Port) : State := { s with ports := tput s.ports t p }
def modPort (s : State) (t : Nat) (f : Port → Port) : State := putPort s t (f (getPort s t))
/-- Strand st. -/
def getStrand (s : State) (st : Nat) : Strand := tget strandInit s.strands st
def putStrand (s : State) (st : Nat) (x : Strand) : State := { s with strands := tput s.strands st x }
def modStrand (s : State) (st : Nat) (f : Strand → Strand) : State := putStrand s st (f (getStrand s st))

/-- A tile counter; the hearth keeps none of them. -/
def countPort (t i n : Nat) (s : State) : State := if t < 24 then countTile t i n s else s

/-- The serving tile of an engine (Table 1.3). -/
def servingTile (e : Nat) : Nat :=
  [0, 1, 2, 3, 4, 4, 9, 13, 18, 23, 23, 22, 21, 20, 19, 19, 14, 10, 5, 0].getD e 0

/-! ### Routing banks (Table 8.11) -/

/-- The active or the inactive routing bank. -/
def bankSel (s : State) (active : Bool) : Bank := if s.routing.activeB == active then s.routing.b else s.routing.a

/-- The 8-byte word at a bank offset. -/
def bankWord (b : Bank) (off : Nat) : Word := tget 0 b.mem off

/-- EPOCH of a bank. -/
def bankEpoch (b : Bank) : Nat := fld (bankWord b 0) 63 32

/-- ROLE and PEER of a strand. -/
def strandRole (b : Bank) (st : Nat) : Nat × Nat :=
  let w := bankWord b (0x100 + 8 * st)
  (fld w 15 14, fld w 13 8)

/-- Hall candidate i of rack r, a 4-byte register at its own offset: strand and position, when VALID. -/
def hallCand (b : Bank) (r i : Nat) : Option (Nat × Nat) :=
  let w := bankWord b (0x1000 + 192 * r + 4 * i)
  if bit w 31 then some (fld w 29 22, fld w 5 0) else none

/-- Words 0 and 1 of a multicast group entry. -/
def groupEntry (b : Bank) (g : Nat) : Word × Word := (bankWord b (0x10000 + 16 * g), bankWord b (0x10008 + 16 * g))

/-- The strands of a role, and of a peer for tray strands. -/
def roleStrands (b : Bank) (role : Nat) : List Nat := (upto 160).filter (fun st => (strandRole b st).1 == role)

/-- Every route candidate to a module, whatever the strands' states: strand, ROUTE and INTER (R285). DEDUCED (log entry 67). -/
def candidates (b : Bank) (own dst : Nat) : List (Nat × Nat × Nat) :=
  if dst / 4 = own / 4 then
    ((roleStrands b 1).filter (fun st => (strandRole b st).2 == dst % 4)).map (fun st => (st, 0, 0))
  else if dst / 64 = own / 64 then (roleStrands b 2).map (fun st => (st, 1, (strandRole b st).2))
  else ((upto 48).filterMap (hallCand b (dst / 64))).map (fun c => (c.1, 2, dst / 64 * 64 + c.2))

/-- A strand that takes part in route choices (R285). DEDUCED (log entry 67). -/
def strandUp (s : State) (st : Nat) : Bool := (getStrand s st).state == .up

/-! ### Egress (R268–R271) -/

/-- A packet of the VC0 reply half: MANAGEMENT_REPLY, or the ACK of a management flow. -/
def replyHalf (p : Packet) : Bool := pType p == 0x41 || pType p == 0x7E

/-- Flits of a packet, header included. -/
def pktFlits (p : Packet) : Nat := 1 + pFlits p

/-- A 16-bit cumulative count b less a. -/
def countDiff (b a : Nat) : Nat := (b + 65536 - a % 65536) % 65536

/-- Reserved credits of a VC, and shared credits. -/
def vcCredits (x : Strand) (vc : Nat) : Nat := 65 - countDiff (tget 0 x.sent vc) (tget 0 x.credit vc)
def sharedCredits (x : Strand) : Nat := 4224 - countDiff x.sentShared x.creditShared
/-- Shared-pool flits that a VC holds at the receiver. -/
def sharedHeld (x : Strand) (vc : Nat) : Nat := ((x.sharedBy.filter (fun q => q.1 == vc)).map (·.2)).sum

/-- How a packet of VC2–VC15 may start: from reserved credits (false), from the pool (true), or not (R270). -/
def creditFor (x : Strand) (p : Packet) : Option Bool :=
  let n := pktFlits p
  if n ≤ vcCredits x (pVc p) then some false
  else if n ≤ sharedCredits x ∧ sharedHeld x (pVc p) < 2112 then some true
  else none

/-- R269: at most 64 flits of VC0 and of VC1 in any 1,024 consecutive data slots, from what an egress has sent of them: slot, VC and
flits. -/
def capOk (capped : List (Nat × Nat × Nat)) (slots vc n : Nat) : Bool :=
  decide (((capped.filter (fun q => q.2.1 == vc && decide (slots < q.1 + 1024))).map (fun q => q.2.2)).sum + n ≤ 64)

/-- The weight of a VC in the VC_WEIGHT registers of a fabric endpoint. -/
def portWeight (p : Port) (vc : Nat) : Nat :=
  if vc < 10 then fld p.weightLo (8 * (vc - 2) + 7) (8 * (vc - 2)) else fld p.weightHi (8 * (vc - 10) + 7) (8 * (vc - 10))

/-- RATE of the circuit of a packet that this module sources; none for one it only forwards (R288). -/
def circuitRate (s : State) (p : Packet) : Option Nat :=
  if pSrcModule p = s.myModule then some (fld (tget 0 (getPort s (pSrcTile p)).circuits (pCircuitId p)) 16 12) else none

/-- The token key of a circuit, and its tokens in 1/32 flits (a burst of 65 flits). -/
def circuitKey (p : Packet) : Nat := pSrcTile p * 256 + pCircuitId p
def circuitTokens (tokens : Tab Nat) (p : Packet) : Nat := tget 2080 tokens (circuitKey p)

/-- Whether a circuit packet keeps its rate (R288). -/
def circuitRated (s : State) (tokens : Tab Nat) (p : Packet) : Bool :=
  (circuitRate s p).isNone || decide (32 * pktFlits p ≤ circuitTokens tokens p)

/-- The tokens of an egress after n data slots. -/
def circuitRefill (s : State) (n : Nat) (tokens : Tab Nat) : Tab Nat :=
  tokens.map (fun q => (q.1, min 2080 (q.2 + n * fld (tget 0 (getPort s (q.1 / 256)).circuits (q.1 % 256)) 16 12)))

/-- The newest entries of a list of sent packets that reach back 1,024 flits from the `n` passed so far. -/
def lastSlots : Nat → List (Nat × Tab Int) → List (Nat × Tab Int)
  | _, [] => []
  | n, e :: r => if 1024 ≤ n then [] else e :: lastSlots (n + e.1) r

/-- The flits, in 1/65,536, that may still go to other VCs before a VC falls 65 flits behind its share of some span of the last 1,024
slots (R272): its deficit has risen by 65 flits from the least that it was while it was ready. -/
def drrSlack (h : List (Nat × Tab Int)) (total w vc : Nat) : Int :=
  let was := (h.takeWhile (fun e => e.2.any (fun q => q.1 == vc))).map (fun e => tget 0 e.2 vc)
  let now := was.headD 0
  (65 * 65536 - (now - was.foldl min now)) * Int.ofNat total / Int.ofNat (max 1 w)

/-- Deficit round robin over VC2–VC15 (R271): the VC to serve among those `ready`, each with the flits of its head, and the new
deficits, in 1/65,536 flits. Every flit sent adds to each ready VC its share by weight and takes one from the VC that sends it. A VC that
would fall behind the bound of R272 within 200 flits comes first, the nearest to it ahead; else the VC with the largest deficit, in
round-robin order among equals. DEDUCED (log entry 149). -/
def drrPick (weight : Nat → Nat) (ready : List (Nat × Nat)) (turn : Nat) (h : List (Nat × Tab Int)) :
    Option (Nat × List (Nat × Tab Int)) :=
  let total := max 1 (ready.map (fun q => weight q.1)).sum
  let d := match h with | e :: _ => e.2 | [] => []
  let slack (vc : Nat) : Int := drrSlack h total (weight vc) vc
  match (upto 14).filterMap (fun i => ready.find? (fun q => q.1 == 2 + (turn + i + 13) % 14)) with
  | [] => none
  | x :: r =>
    let u := r.foldl (fun m y => if slack y.1 < slack m.1 then y else m) x
    let b := if slack u.1 < 200 * 65536 then u else r.foldl (fun m y => if tget 0 d m.1 < tget 0 d y.1 then y else m) x
    some (b.1, lastSlots 0 ((b.2, ready.map (fun q => (q.1, tget 0 d q.1 + Int.ofNat (weight q.1 * b.2 * 65536 / total) -
      if q.1 = b.1 then Int.ofNat (65536 * b.2) else 0))) :: h))

/-- The first packet of each circuit in a queue: no two packets of a circuit change their order (R287). -/
def circuitHeads {α : Type} (pk : α → Packet) (q : List α) : List α :=
  q.foldl (fun l p => if pCircuit (pk p) && decide (2 ≤ pVc (pk p)) &&
      !l.any (fun x => pSrcModule (pk x) == pSrcModule (pk p) && circuitKey (pk x) == circuitKey (pk p)) then l ++ [p] else l) []

/-- The packet that an egress starts next, in the order of R271: `onOff` says whether a VC0 or VC1 packet may start, `rated` whether
a circuit packet may, and `heads` are the other VCs' first packets that have credits. -/
def pickNext {α : Type} (pk : α → Packet) (onOff rated : α → Bool) (heads q : List α) (weight : Nat → Nat) (turn : Nat)
    (d : List (Nat × Tab Int)) : Option (α × Nat × List (Nat × Tab Int)) :=
  let first (f : Packet → Bool) : Option α := (q.find? (fun p => f (pk p))).filter onOff
  match (first (fun p => pVc p == 0 && replyHalf p)).or ((first (fun p => pVc p == 0 && !replyHalf p)).or
      ((first (fun p => pVc p == 1)).or ((circuitHeads pk q).find? rated))) with
  | some p => some (p, turn, d)
  | none =>
    match drrPick weight (heads.map (fun p => (pVc (pk p), pktFlits (pk p)))) turn d with
    | none => none
    | some (vc, d) => (heads.find? (fun p => pVc (pk p) == vc)).map (fun p => (p, vc, d))

/-- Whether a VC0 or VC1 packet may start at a strand (R268, R269). -/
def onOffReady (x : Strand) (p : Packet) : Bool :=
  let i := if pVc p = 1 then 2 else if replyHalf p then 1 else 0
  !bit x.xoffIn i && capOk x.capped x.slots (pVc p) (pktFlits p)

/-- The packet that a strand's egress starts next (R271), with the strand's round robin after the choice. -/
def egressChoice (s : State) (st : Nat) : Option (Packet × Strand) :=
  let x := getStrand s st
  let q := x.egress
  let heads := (upto 14).filterMap (fun i => (q.find? (fun p => pVc p == i + 2 && !pCircuit p)).filter (fun p => (creditFor x p).isSome))
  (pickNext id (onOffReady x) (fun p => (creditFor x p).isSome && circuitRated s x.tokens p) heads q
    (portWeight (getPort s (servingTile (st / 8)))) x.turn x.deficit).map (fun r => (r.1, { x with turn := r.2.1, deficit := r.2.2 }))

/-- Takes the credits and allowances of a packet that starts. -/
def chargeStart (s : State) (x : Strand) (p : Packet) : Strand :=
  let n := pktFlits p
  let vc := pVc p
  if vc < 2 then { x with sending := some p, capped := (x.capped.filter (fun q => decide (x.slots < q.1 + 1024))) ++ [(x.slots, vc, n)] }
  else
    let x := if pCircuit p && (circuitRate s p).isSome then
      { x with tokens := tput x.tokens (circuitKey p) (circuitTokens x.tokens p - 32 * n) } else x
    match creditFor x p with
    | some true => { x with sending := some { p with w0 := p.w0 ||| 8 }, sentShared := (x.sentShared + n) % 65536,
                            sharedBy := x.sharedBy ++ [(vc, n)] }
    | _ => { x with sending := some { p with w0 := p.w0 &&& ~~~8 }, sent := tput x.sent vc ((tget 0 x.sent vc + n) % 65536) }

/-- Whether a strand's transmitter carries flits: not dark, not training, not failed, no laser takeover (R257). -/
def strandSends (s : State) (st : Nat) : Bool :=
  let x := getStrand s st
  let takeover := match s.engines.find? (fun e => e.1 == st / 8) with | some e => e.2.takeover | none => false
  (x.state == .up || x.state == .degraded || (x.state == .withdrawn && x.drainAt.isSome) ||
    (x.state == .training && x.trained)) && !takeover

/-- Starts the next packet of an egress that sends none. -/
def egressStart (st : Nat) (s : State) : State :=
  if (getStrand s st).sending.isSome || !strandSends s st then s else
  match egressChoice s st with
  | none => s
  | some (p, x) => putStrand s st (chargeStart s { x with egress := x.egress.erase p } p)

/-- A packet enters a strand's transmit queue. -/
def egressPush (st : Nat) (p : Packet) (s : State) : State :=
  egressStart st (modStrand s st (fun x => { x with egress := x.egress ++ [p] }))

/-- EGRESS_PACKET_END: the packet has left and the slots it took have passed; with none in progress, 1,024 idle data
slots pass. DESIGN CHOICE (log entry 69). -/
def egressPacketEndOp (st : Nat) (s : State) : State :=
  let x := getStrand s st
  let n := match x.sending with | some p => pktFlits p | none => 1024
  let tokens := circuitRefill s n x.tokens
  egressStart st (putStrand s st { x with sending := none, slots := x.slots + n, tokens := tokens })

/-- XOFF of a VC with hysteresis (R268). -/
def xoffNext (old : Bool) (occ : Nat) : Bool := if 384 ≤ occ then true else if occ ≤ 192 then false else old

end Sys2Proof.Machine
end

