-- ==== Sys2Proof/Machine/D2d.lean ====
section
/-! DEFINITION. D2d: the die-to-die links and the routers of the 25 dies (R28, R29, R264, R268–R274, R290): a packet inside the module
moves hop by hop along its row and then its column, from egress to receive buffer, and a multicast copy branches at its columns. -/

namespace Sys2Proof.Machine

/-! ### The grid (R28, R29) -/

/-- The grid row and column of a tile; the hearth stands at the centre. -/
def tileXY (t : Nat) : Nat × Nat :=
  let p := if t < 12 then t else if t = 30 then 12 else t + 1
  (p / 5, p % 5)

/-- The hops between two tiles. -/
def hops (a b : Nat) : Nat :=
  let (r, c) := tileXY a
  let (r', c') := tileXY b
  (r - r') + (r' - r) + (c - c') + (c' - c)

/-- The die at a grid position: a tile, or the hearth as 30. -/
def dieAt (r c : Nat) : Nat :=
  let p := 5 * r + c
  if p < 12 then p else if p = 12 then 30 else p - 1

/-- The 25 dies. -/
def dies : List Nat := upto 24 ++ [30]

/-- The die across an edge (0 north, 1 east, 2 south, 3 west), when a link crosses it (R28). -/
def neighbour (u e : Nat) : Option Nat :=
  let (r, c) := tileXY u
  match e with
  | 0 => if r = 0 then none else some (dieAt (r - 1) c)
  | 1 => if c = 4 then none else some (dieAt r (c + 1))
  | 2 => if r = 4 then none else some (dieAt (r + 1) c)
  | 3 => if c = 0 then none else some (dieAt r (c - 1))
  | _ => none

/-- The same link's edge as its other die names it. -/
def facing (e : Nat) : Nat := (e + 2) % 4

/-- The edge over which a packet at die u leaves for die v: along the row first, then along the column (R29). -/
def nextEdge (u v : Nat) : Nat :=
  let (r, c) := tileXY u
  let (r', c') := tileXY v
  if c < c' then 1 else if c' < c then 3 else if r < r' then 2 else 0

/-- The dies of a link, by its number at either end: the tile with the lower number and its edge (R8); the hearth has the highest. -/
def linkOwner (u e : Nat) : Option (Nat × Nat) :=
  (neighbour u e).map (fun v => if u < v then (u, e) else (v, facing e))

/-- Whether the link across an edge is down: the tiles at its ends hold it in D2D_DOWN. -/
def linkDown (s : State) (u e : Nat) : Bool :=
  match linkOwner u e with
  | none => true
  | some (t, f) => bit (getTile s t).d2dDown f

/-- Whether every link on the way from die u to die v carries packets. -/
def pathUp (s : State) : Nat → Nat → Nat → Bool
  | 0, u, v => u == v
  | n + 1, u, v =>
    u == v || (!linkDown s u (nextEdge u v) && (match neighbour u (nextEdge u v) with | none => false | some w => pathUp s n w v))

/-- Marks a link in an edge mask of the tiles at its ends. -/
def linkMark (f : (BitVec 4 → BitVec 4) → Tile → Tile) (u e : Nat) (s : State) : State :=
  let mark (t e : Nat) (s : State) : State := if t < 24 then modTile s t (f (fun m => putBit m e true)) else s
  match neighbour u e with
  | none => s
  | some v => mark v (facing e) (mark u e s)

/-! ### Channels -/

/-- A channel at reset: trained at the full rate and width (Table 1.2). -/
def laneInit : D2dLane := ⟨[], [], [], 2, 0, [], [], 0, 32, 64⟩
/-- The channel that leaves die u over an edge. -/
def laneKey (u e : Nat) : Nat := u * 4 + e
def getLane (s : State) (k : Nat) : D2dLane := tget laneInit s.d2d k
def modLane (s : State) (k : Nat) (f : D2dLane → D2dLane) : State := { s with d2d := tput s.d2d k (f (getLane s k)) }

/-- Flits of one VC that a receive port holds in its outbound or its inbound set (R274). -/
def laneHeld (x : D2dLane) (vc : Nat) (outbound : Bool) : Nat :=
  ((x.buf.filter (fun q => pVc q.pkt == vc && q.exit.isSome == outbound)).map (fun q => pktFlits q.pkt)).sum

/-- The three XOFF levels of a receive port, from the occupancy of its on/off buffers (R268). -/
def laneXoff (x : D2dLane) : D2dLane :=
  let occ (f : Packet → Bool) : Nat := ((x.buf.filter (fun q => f q.pkt)).map (fun q => pktFlits q.pkt)).sum
  let n (i : Nat) (f : Packet → Bool) (b : BitVec 3) : BitVec 3 := putBit b i (xoffNext (bit x.xoff i) (occ f))
  { x with xoff := n 0 (fun p => pVc p == 0 && !replyHalf p) (n 1 (fun p => pVc p == 0 && replyHalf p) (n 2 (fun p => pVc p == 1) x.xoff)) }

/-- Whether a VC0 or VC1 packet may start on a channel (R268, R269). -/
def laneOnOff (x : D2dLane) (p : Packet) : Bool :=
  let i := if pVc p = 1 then 2 else if replyHalf p then 1 else 0
  !bit x.xoff i && capOk x.capped x.slots (pVc p) (pktFlits p)

/-- Whether the set of a packet's VC at the receive port holds its flits: 65 reserved flits for each VC and set (R274). -/
def laneCredit (x : D2dLane) (q : D2dPkt) : Bool := decide (laneHeld x (pVc q.pkt) q.exit.isSome + pktFlits q.pkt ≤ 65)

/-- The packets at die u that go on over an edge, each with the receive buffer that holds it (none: it starts here) and the dies that it
goes to over that edge. -/
def laneCands (s : State) (u e : Nat) : List (Option Nat × D2dPkt × D2dPkt) :=
  let part (q : D2dPkt) : D2dPkt := { q with dests := q.dests.filter (fun v => nextEdge u v == e) }
  ((getLane s (laneKey u e)).out.map (fun q => (none, q, q))) ++
  (upto 4).flatMap (fun f => match neighbour u f with
    | none => []
    | some v =>
      let k := laneKey v (facing f)
      ((getLane s k).buf.filter (fun q => !(part q).dests.isEmpty)).map (fun q => (some k, q, part q)))

/-- A packet that reaches a die that it goes to: it takes its strand, or comes to the die's endpoint. The copy of a multicast packet for
another tile than DST_TILE names that tile; its CRC32C follows that change alone, so that a corrupted packet stays one (R266). DESIGN CHOICE (log
entry 150). -/
def dieTake (u : Nat) (q : D2dPkt) (s : State) : State :=
  match q.exit with
  | some st => egressPush st q.pkt s
  | none =>
    let mine := { q.pkt with w0 := setFld q.pkt.w0 30 26 u }
    let p := if pDstTile q.pkt = u then q.pkt
      else { mine with w7 := setFld mine.w7 63 32 (Nat.xor (pCrc q.pkt) (Nat.xor (pktCrc q.pkt) (pktCrc mine))) }
    { s with flight := s.flight ++ [p] }

/-- The packet leaves the queue or buffer that held it; a branch leaves the others there (R290). -/
def laneLeave (k : Nat) (c : Option Nat × D2dPkt × D2dPkt) (s : State) : State :=
  match c.1 with
  | none => modLane s k (fun x => { x with out := x.out.erase c.2.1 })
  | some b =>
    let rest := c.2.1.dests.filter (fun v => !c.2.2.dests.contains v)
    let next (l : List D2dPkt) : List D2dPkt := if rest.isEmpty then l.erase c.2.1 else l.replace c.2.1 { c.2.1 with dests := rest }
    modLane s b (fun x => laneXoff { x with buf := next x.buf })

/-- The packet arrives at the far die: what goes on waits in the receive buffer. -/
def laneLand (k v : Nat) (q : D2dPkt) (s : State) : State :=
  let rest := q.dests.filter (· != v)
  let s := if rest.isEmpty then s else modLane s k (fun x => laneXoff { x with buf := x.buf ++ [{ q with dests := rest }] })
  if q.dests.contains v then dieTake v q s else s

/-- The allowances of a packet that starts on a channel. -/
def laneCharge (s : State) (p : Packet) (x : D2dLane) : D2dLane :=
  let n := pktFlits p
  let x := if pVc p < 2 then { x with capped := x.capped.filter (fun q => decide (x.slots < q.1 + 1024)) ++ [(x.slots, pVc p, n)] }
    else if pCircuit p && (circuitRate s p).isSome then { x with tokens := tput x.tokens (circuitKey p) (circuitTokens x.tokens p - 32 * n) }
    else x
  { x with slots := x.slots + n, tokens := circuitRefill s n x.tokens }

/-- One channel starts its next packet (R271); when only R269 or a circuit's rate holds its packets back, 1,024 data slots pass. None
when nothing moves: no packet, a link that is down (no flit is lost on it), or no room at the far end. DESIGN CHOICE (log entry 151). -/
def laneStep (u e : Nat) (s : State) : Option State :=
  match neighbour u e with
  | none => none
  | some v =>
    let k := laneKey u e
    let cands := laneCands s u e
    if cands.isEmpty || linkDown s u e then none else
    let x := getLane s k
    let pk (c : Option Nat × D2dPkt × D2dPkt) : Packet := c.2.2.pkt
    let heads := (upto 14).filterMap (fun i => [true, false].findSome? (fun o =>
      (cands.find? (fun c => pVc (pk c) == i + 2 && !pCircuit (pk c) && c.2.2.exit.isSome == o)).filter (fun c => laneCredit x c.2.2)))
    match pickNext pk (fun c => laneOnOff x (pk c)) (fun c => laneCredit x c.2.2 && circuitRated s x.tokens (pk c)) heads cands
        (portWeight (getPort s u)) x.turn x.deficit with
    | some (c, turn, d) =>
      some (laneLand k v c.2.2 (laneLeave k c (modLane s k (fun x => laneCharge s (pk c) { x with turn := turn, deficit := d }))))
    | none =>
      if cands.any (fun c => if pVc (pk c) < 2 then !bit x.xoff (if pVc (pk c) = 1 then 2 else if replyHalf (pk c) then 1 else 0)
          else pCircuit (pk c) && laneCredit x c.2.2)
      then some (modLane s k (fun x => { x with slots := x.slots + 1024, tokens := circuitRefill s 1024 x.tokens }))
      else none

/-- Packets between dies. -/
def d2dWaiting (s : State) : Nat := (s.d2d.map (fun x => x.2.out.length + x.2.buf.length)).sum

/-- One turn of every channel: whether anything moved. -/
def d2dTurn (s : State) : Bool × State :=
  dies.foldl (fun r u => (upto 4).foldl (fun r e => match laneStep u e r.2 with
    | some s => (true, s)
    | none => r) r) (false, s)

/-- Turns of the channels until nothing moves. -/
def d2dTurns : Nat → State → State
  | 0, s => s
  | n + 1, s =>
    if d2dWaiting s = 0 then s else
    match d2dTurn s with
    | (true, s) => d2dTurns n s
    | (false, s) => s

/-- The network inside the module carries what it can. A hop takes at most 40 ns (Table 1.9), so it comes to rest between commands.
DESIGN CHOICE (log entry 151). -/
def d2dRun (s : State) : State := d2dTurns (32 + 16 * d2dWaiting s) s

/-- A packet enters the network at die u for dies of this module, or for the strand `exit` of a tile. -/
def d2dSend (u : Nat) (dests : List Nat) (exit : Option Nat) (p : Packet) (s : State) : State :=
  let q : D2dPkt := ⟨p, dests, exit⟩
  let s := if dests.contains u then dieTake u q s else s
  (upto 4).foldl (fun s e =>
    let mine := dests.filter (fun v => v != u && nextEdge u v == e)
    if mine.isEmpty then s else modLane s (laneKey u e) (fun x => { x with out := x.out ++ [{ q with dests := mine }] })) s

/-- A packet leaves die u for a strand: over die-to-die links to the strand's edge tile, in outbound sets (R285). -/
def strandSend (u st : Nat) (p : Packet) (s : State) : State := d2dSend u [servingTile (st / 8)] (some st) p s

end Sys2Proof.Machine
end

