-- ==== Sys2Proof/Machine/Fabric.lean ====
section
/-! DEFINITION. Fabric: routing and circuits (R284–R289), multicast (R290–R292), flows with their windows, acknowledgements and
retransmission (R275–R283). -/

namespace Sys2Proof.Machine

/-! ### Routes (R285–R289) -/

/-- The packet with VC, ROUTE and INTER set. -/
def withRoute (p : Packet) (vc route inter : Nat) : Packet :=
  { p with w0 := setFld (setFld (setFld p.w0 59 56 vc) 46 45 route) 25 12 inter }

/-- The circuit entry that a packet's flow matches (R287). -/
def circuitFor (s : State) (t : Nat) (p : Packet) : Option (Nat × Word) :=
  match typeClass (pType p) with
  | some c =>
    (getPort s t).circuits.find? (fun e => bit e.2 63 && !bit e.2 62 && fld e.2 61 60 == c && c != 0 &&
      fld e.2 49 36 == pDstModule p && fld e.2 35 31 == pDstTile p)
  | none => none

/-- The class whose VCs a packet uses: its flow's, or that of an ACK's flow. -/
def routeClass (p : Packet) : Nat :=
  if pType p = 0x7E then (if fld p.w3 39 38 = 0 then 0 else 3) else (typeClass (pType p)).getD 3

/-- The phase-1 and phase-2 VCs of a packet: crumbs keep VC1, collective data its own VC. -/
def vcOf (p : Packet) (second : Bool) : Nat :=
  let t := pType p
  if (0x50 ≤ t ∧ t < 0x70) then pVc p
  else if second then phase2 (routeClass p) else phase1 (routeClass p)

/-- Sends a unicast packet on a route chosen now: false when no strand or candidate remains (R285). DESIGN CHOICE (log entry 68). -/
def sendRouted (t : Nat) (p : Packet) (s : State) : Bool × State :=
  let b := bankSel s true
  let p := { p with w0 := setFld p.w0 11 4 (bankEpoch b) }
  if pDstModule p = s.myModule then (true, d2dSend t [pDstTile p] none (pktSeal (withRoute p (vcOf p true) 0 0)) s)
  else
    match (circuitFor s t p).filter (fun e => strandUp s (fld e.2 57 50)) with
    | some (i, e) =>
      let route := fld e 59 58
      let q := withRoute p (vcOf p (route == 0)) route (fld e 30 17)
      (true, strandSend t (fld e 57 50) (pktSeal { q with w0 := setFld q.w0 47 47 1, w7 := setFld q.w7 25 18 i }) s)
    | none =>
      match pickOne ((candidates b s.myModule (pDstModule p)).filter (fun c => strandUp s c.1)) s with
      | (none, s) => (false, s)
      | (some (st, route, inter), s) => (true, strandSend t st (pktSeal (withRoute p (vcOf p (route == 0)) route inter)) s)

/-- Whether a multicast group may be used now (R291, R293). -/
def groupValid (s : State) (g : Nat) : Bool := bit (groupEntry (bankSel s true) g).1 63 && !s.routing.gone.contains g

/-- The member modules of a group, other than this one (Table 8.11). -/
def groupMembers (s : State) (g : Nat) : List Nat :=
  let e := groupEntry (bankSel s true) g
  (upto (fld e.1 59 46)).filterMap (fun i => (gpaRead s (e.2.toNat + 2 * i) 2).map leNat)

/-- The own tiles of a multicast group (LOCAL_MASK). -/
def localTiles (s : State) (g : Nat) : List Nat :=
  (upto 24).filter (fun t => bit (groupEntry (bankSel s true) g).1 t)

/-- Sends the copies of a multicast packet to other modules under R291: one over a hall strand, one over a rack
strand. -/
def sendCopies (t : Nat) (p : Packet) (hall rack : Bool) (s : State) : Bool × State :=
  let b := bankSel s true
  let p := { p with w0 := setFld p.w0 11 4 (bankEpoch b) }
  let one (want : Bool) (role vc : Nat) (st : Bool × State) : Bool × State :=
    if !want || !st.1 then st else
    match pickOne ((roleStrands b role).filter (strandUp st.2)) st.2 with
    | (none, s) => (false, s)
    | (some x, s) => (true, strandSend t x (pktSeal (withRoute p vc 0 0)) s)
  one rack 2 3 (one hall 3 2 (true, s))

/-- A multicast packet: the copies for other modules, and one for each tile of LOCAL_MASK (R290, R291). -/
def sendMcast (t : Nat) (p : Packet) (s : State) : Bool × State :=
  let g := pDstModule p
  let e := (groupEntry (bankSel s true) g).1
  let none' (want : Bool) (role : Nat) : Bool := want && (roleStrands (bankSel s true) role).all (fun x => !strandUp s x)
  if !groupValid s g || none' (bit e 60) 3 || none' (bit e 61) 2 then (false, s) else
  match sendCopies t p (bit e 60) (bit e 61) s with
  | (false, s) => (false, s)
  | (true, s) => (true, d2dSend t (localTiles s g) none (pktSeal (withRoute { p with w0 := setFld p.w0 11 4 (bankEpoch (bankSel s true)) } 3 0 0)) s)

/-- Whether the route of a packet differs between the two banks (R296): a role, a peer, a hall candidate or a group entry that it
uses, or the role of its circuit's strand while that is UP. -/
def affected (s : State) (p : Packet) : Bool :=
  let a := bankSel s true
  let b := bankSel s false
  let roles (l : List Nat) : Bool := l.any (fun st => strandRole a st != strandRole b st)
  if pMcast p then
    let e := (groupEntry a (pDstModule p)).1
    let uses (want : Bool) (role : Nat) : List Nat := if want then roleStrands a role ++ roleStrands b role else []
    decide (groupEntry a (pDstModule p) ≠ groupEntry b (pDstModule p)) || roles (uses (bit e 61) 2 ++ uses (bit e 60) 3)
  else if pDstModule p = s.myModule then false
  else match (circuitFor s (pSrcTile p) p).filter (fun e => strandUp s (fld e.2 57 50)) with
    | some (_, e) => roles [fld e 57 50]
    | none =>
      let ca := candidates a s.myModule (pDstModule p)
      let cb := candidates b s.myModule (pDstModule p)
      decide (ca ≠ cb) || roles ((ca ++ cb).map (·.1))

/-- Sends a packet of no flow: one without a route is lost; one on an affected route waits for a bank swap (Table 8.9). -/
def sendLoose (t : Nat) (p : Packet) (s : State) : State :=
  if (getPort s t).hold && affected s p then modPort s t (fun x => { x with loose := x.loose ++ [p] })
  else (sendRouted t p s).2

/-! ### Flows at the source (R275–R277, R280) -/

/-- The send entry of a flow. -/
def findTx (p : Port) (k : FlowKey) : Option FlowTx := p.tx.find? (fun f => f.key == k)

/-- The port with a send entry replaced, or added. -/
def setTx (p : Port) (f : FlowTx) : Port :=
  { p with tx := if p.tx.any (fun x => x.key == f.key) then p.tx.map (fun x => if x.key == f.key then f else x) else p.tx ++ [f] }

/-- The send entry that a packet of flow k uses: the one in use, or a new one that continues the flow's SEQ (R277). -/
def openTx (p : Port) (k : FlowKey) (now : Nat) : Option FlowTx :=
  match findTx p k with
  | some f => some f
  | none =>
    if 4096 ≤ p.tx.length then none else
    some ⟨k, (match p.known.find? (fun q => q.1 == k) with | some q => (q.2 + 1) % 2 ^ 24 | none => 0), false,
      if k.group.isSome then 16 else fld p.ctrl 31 21, [], now⟩

/-- The modules that a packet goes to: those of its group, or its destination. -/
def membersOf (p : Packet) (s : State) : List Nat :=
  if pMcast p then
    groupMembers s (pDstModule p) ++ (if (localTiles s (pDstModule p)).isEmpty then [] else [s.myModule])
  else [pDstModule p]

/-- One waiting packet of a port: sent, given up for want of a route, or kept waiting. -/
def pumpOne (t : Nat) (st : State × List (FlowKey × Packet)) (q : FlowKey × Packet) : State × List (FlowKey × Packet) :=
  let (s, kept) := st
  let keep := (s, kept ++ [q])
  let port := getPort s t
  if kept.any (fun x => x.1 == q.1) || (port.hold && affected s q.2) then keep else
  match openTx port q.1 s.now with
  | none => keep
  | some f =>
    if f.window ≤ f.unacked.length then keep else
    let p := { q.2 with w1 := setFld (setFld q.2.w1 44 21 f.next) 20 20 (b2n (!f.started)) }
    let p := if q.1.group.isSome then { p with w1 := setFld (setFld p.w1 17 17 1) 16 5 (pDstModule p) } else p
    match (if pMcast p then sendMcast t p s else sendRouted t p s) with
    | (false, s) => ({ s with failed := s.failed ++ [(t, q.2, if pMcast p && s.routing.gone.contains (pDstModule p) then .withdrawn else .rejected, membersOf q.2 s)] }, kept)
    | (true, s) =>
      let members := membersOf p s
      let f := { f with next := (f.next + 1) % 2 ^ 24, started := true, lastUse := s.now,
                        unacked := f.unacked ++ [⟨f.next, p, s.now, s.now, 1, members⟩] }
      (countPort t 13 1 (modPort s t (fun x => setTx { x with known := x.known.filter (fun y => y.1 != f.key) } f)), kept)

/-- Sends what a port can send of its waiting packets, in order. -/
def pump (t : Nat) (s : State) : State :=
  let r := (getPort s t).queue.foldl (pumpOne t) (s, [])
  modPort r.1 t (fun x => { x with queue := r.2 })

/-- Hands a packet of a flow to its source endpoint. -/
def sendFlow (t : Nat) (p : Packet) (s : State) : State :=
  pump t (modPort s t (fun x => { x with queue := x.queue ++ [(txKey p, p)] }))

/-- Sends a one-packet message of a flow from endpoint t, and its MSG_ID. -/
def sendMsg (t dstModule dstTile type : Nat) (w3 w4 w5 w6 : Word) (bs : List Byte) (s : State) : State :=
  let id := (getPort s t).msgId
  sendFlow t (mkPkt s.myModule t dstModule dstTile type id 1 0 w3 w4 w5 w6 bs)
    (modPort s t (fun x => { x with msgId := (x.msgId + 1) % 65536 }))

/-- The endpoint that an operand names: 24 stands for the hearth. -/
def portTile (t : Fin 25) : Nat := if t.val = 24 then 30 else t.val

/-- Discards the send state of a flow; its next SEQ continues after the last one sent. -/
def dropTx (t : Nat) (f : FlowTx) (s : State) : State :=
  modPort s t (fun x => { x with
    tx := x.tx.filter (fun y => y.key != f.key)
    known := x.known.filter (fun y => y.1 != f.key) ++ [(f.key, (f.next + 2 ^ 24 - 1) % 2 ^ 24)] })

/-- Gives up, toward some members, every unacknowledged packet of a flow: each is counted UNDELIVERABLE, and what it carries to them
ends (R280, R281, R292). The send state goes once no member is awaited. -/
def giveUp (t : Nat) (f : FlowTx) (members : List Nat) (code : Code) (s : State) : State :=
  let gone (x : SentPkt) : List Nat := x.members.filter (fun m => members.contains m)
  let l := f.unacked.filter (fun x => !(gone x).isEmpty)
  let s := countPort t 20 l.length { s with failed := s.failed ++ l.map (fun x => (t, x.pkt, code, gone x)) }
  let rest := f.unacked.map (fun x => { x with members := x.members.filter (fun m => !members.contains m) })
  let f := { f with unacked := rest.filter (fun x => !x.members.isEmpty) }
  if f.unacked.isEmpty then dropTx t f s else modPort s t (fun x => setTx x f)

/-- The fault event of an undeliverable flow, at most one per flow per millisecond (R280). -/
def undeliverableEvent (t : Nat) (f : FlowTx) (seq : Nat) (s : State) : State :=
  let port := getPort s t
  if port.undeliv.any (fun q => q.1 == f.key && decide (s.now < q.2 + 1000000)) then s else
  raise (mkEv 0x0501 clsFault 0 7 t 0 evW2 (pack [(50, f.key.peerModule.toNat), (45, f.key.peerTile.toNat),
    (38, f.key.cls.toNat), (0, seq)]))
    (modPort s t (fun x => { x with undeliv := (x.undeliv.filter (fun q => q.1 != f.key)) ++ [(f.key, s.now)] }))

/-- One re-send, routed afresh: counted, and ended with REJECTED toward a member to which no strand leads (R285). A notice is lost once
alone, when its flow gives it up (R463). -/
def resendOne (t : Nat) (p : Packet) (member : Nat) (s : State) : State :=
  match sendRouted t p s with
  | (true, s) => countPort t 14 1 s
  | (false, s) => if pType p = 0x40 then s else { s with failed := s.failed ++ [(t, p, .rejected, [member])] }

/-- The unicast copy of a multicast packet for one member (R292). -/
def toMember (p : Packet) (m : Nat) : Packet := if pMcast p then { p with w0 := setFld (setFld p.w0 48 48 0) 44 31 m } else p

/-- Re-sends one packet of a flow; a multicast packet goes by unicast to each member missing (R292). -/
def resend (t : Nat) (x : SentPkt) (s : State) : State :=
  x.members.foldl (fun s m => resendOne t (toMember { x.pkt with w1 := setFld x.pkt.w1 18 18 1 } m) m s) s

/-- RETRANSMIT_TIMEOUT (R280, R292): the instant at which a packet of the flow has waited 30 µs since its last send. -/
def retransmitTimeoutOp (t : Nat) (k : FlowKey) (s : State) : State :=
  match findTx (getPort s t) k with
  | none => s
  | some f =>
    match f.unacked with
    | [] => s
    | x :: r =>
      let due := r.foldl (fun m y => min m y.lastNs) x.lastNs + 30000
      let s := { s with now := max s.now due }
      match f.unacked.find? (fun y => decide (y.lastNs + 30000 ≤ s.now) && decide (4 ≤ y.sends)) with
      | some y =>
        pump t (undeliverableEvent t f y.seq (giveUp t f y.members .timeout s))
      | none =>
        let late := f.unacked.filter (fun y => decide (y.lastNs + 30000 ≤ s.now))
        let f := { f with unacked := f.unacked.map (fun y =>
          if decide (y.lastNs + 30000 ≤ s.now) then { y with lastNs := s.now, sends := y.sends + 1 } else y) }
        late.foldl (fun s y => resend t y s) (modPort s t (fun p => setTx p f))

/-- Whether an ACK covers a SEQ (R278). -/
def ackCovers (w3 w4 : Word) (seq : Nat) : Bool :=
  let d := serialDiff 24 seq (fld w3 63 40)
  decide (d < 0) || (decide (1 ≤ d) && decide (d ≤ 64) && bit w4 (d.toNat - 1))

/-- The next packet of a flow carries START, which a member that has lost the flow's state needs (R281). -/
def startAfresh (t : Nat) (k : FlowKey) (s : State) : State :=
  match findTx (getPort s t) k with
  | some f => modPort s t (fun x => setTx x { f with started := false })
  | none => s

/-- ACK received at its destination endpoint (R278, R281, R292). -/
def ackOp (p : Packet) (s : State) : State :=
  let t := pDstTile p
  let k : FlowKey := if pGroupFlow p then ⟨0, 0, BitVec.ofNat 2 (fld p.w3 39 38), some (BitVec.ofNat 12 (pGroup p))⟩
    else ⟨BitVec.ofNat 14 (pSrcModule p), BitVec.ofNat 5 (pSrcTile p), BitVec.ofNat 2 (fld p.w3 39 38), none⟩
  match findTx (getPort s t) k with
  | none => s
  | some f =>
    if bit p.w3 37 then
      match f.unacked.find? (fun x => x.members.contains (pSrcModule p)) with
      | some x => pump t (undeliverableEvent t f x.seq (startAfresh t k (giveUp t f [pSrcModule p] .timeout s)))
      | none => pump t (if f.unacked.isEmpty then dropTx t f s else s)
    else
      let hit (x : SentPkt) : Bool := ackCovers p.w3 p.w4 x.seq
      let unacked := f.unacked.map (fun x => if hit x then { x with members := x.members.filter (· != pSrcModule p) } else x)
      let f := { f with unacked := unacked.filter (fun x => !(hit x) || !x.members.isEmpty), lastUse := s.now }
      pump t (modPort s t (fun x => setTx x f))

/-! ### Flows at the receiver (R277–R283, Table 8.7) -/

/-- The receive entry of a flow. -/
def findRx (p : Port) (k : FlowKey) : Option FlowRx := p.rx.find? (fun f => f.key == k)

/-- The port with a receive entry replaced, or added. -/
def setRx (p : Port) (f : FlowRx) : Port :=
  { p with rx := if p.rx.any (fun x => x.key == f.key) then p.rx.map (fun x => if x.key == f.key then f else x) else p.rx ++ [f] }

/-- An ACK of a flow: ACK_NEXT, class, RESET and bitmap. -/
def mkAck (s : State) (t : Nat) (k : FlowKey) (next : Nat) (reset : Bool) (got : List Nat) : Packet :=
  let p := mkPkt s.myModule t k.peerModule.toNat k.peerTile.toNat 0x7E 0 1 0
    (pack [(40, next), (38, k.cls.toNat), (37, b2n reset)])
    (BitVec.ofNat 64 ((upto 64).foldl (fun a i => a + (b2n (got.contains ((next + 1 + i) % 2 ^ 24))) <<< i) 0)) 0 0 []
  match k.group with
  | none => p
  | some g => { p with w1 := setFld (setFld p.w1 17 17 1) 16 5 g.toNat }

/-- Sends the ACK of a receive entry and restarts its counts. -/
def sendAck (t : Nat) (f : FlowRx) (s : State) : State :=
  sendLoose t (mkAck s t f.key f.next false (f.got ++ f.held.map (·.1)))
    (modPort s t (fun p => setRx p { f with fresh := 0, ackDue := none }))

/-- Notes an accepted packet: the ACK falls due, or goes at once at ACK_PACKETS. -/
def noteFresh (t : Nat) (k : FlowKey) (s : State) : State :=
  let port := getPort s t
  match findRx port k with
  | none => s
  | some f =>
    let f := { f with fresh := f.fresh + 1, ackDue := some (f.ackDue.getD (s.now + 1000 * fld port.ctrl 15 12)) }
    if fld port.ctrl 20 16 ≤ f.fresh then sendAck t f s else modPort s t (fun p => setRx p f)

/-- Whether a receive entry is idle: nothing held, and no remote request delivered in the last 200 µs (R277, R313). -/
def rxIdle (now : Nat) (f : FlowRx) : Bool := f.held.isEmpty && (f.applied.isNone || decide (f.lastRemote + 200000 ≤ now))

/-- A fresh receive entry. -/
def rxNew (k : FlowKey) (seq now : Nat) : FlowRx := ⟨k, seq, [], [], [], none, 0, now, 0, none⟩

/-- The port with an entry for a START packet of a flow it does not hold: in a free place, or in place of the entry
idle longest; none when no entry is idle. -/
def rxPlace (p : Port) (f : FlowRx) (now : Nat) : Option Port :=
  if p.rx.length < 8192 then some { p with rx := p.rx ++ [f] } else
  match (p.rx.filter (rxIdle now)) with
  | [] => none
  | x :: r =>
    let old := r.foldl (fun m y => if y.lastDelivery < m.lastDelivery then y else m) x
    some { p with rx := p.rx.filter (fun y => y.key != old.key) ++ [f] }

/-- Flits in the reorder pool of a tile. -/
def reorderFlits (p : Port) : Nat := (p.rx.map (fun f => (f.held.map (fun h => pktFlits h.2)).sum)).sum

/-- Advances NEXT past packets already received, and delivers the held ones in order. -/
def advance (deliver : Nat → Packet → State → State) (t : Nat) (k : FlowKey) : Nat → State → State
  | 0, s => s
  | fuel + 1, s =>
    match findRx (getPort s t) k with
    | none => s
    | some f =>
      if f.got.contains f.next then
        advance deliver t k fuel (modPort s t (fun p => setRx p { f with next := (f.next + 1) % 2 ^ 24, got := f.got.filter (· != f.next) }))
      else
        match f.held.find? (fun h => h.1 == f.next) with
        | none => s
        | some h =>
          let s := modPort s t (fun p => setRx p { f with next := (f.next + 1) % 2 ^ 24, lastDelivery := s.now,
                                                          held := f.held.filter (fun x => x.1 != f.next) })
          advance deliver t k fuel (deliver t h.2 s)

/-- Whether a packet would open a 65th incomplete message of its flow (R283). -/
def msgFull (f : FlowRx) (p : Packet) : Bool :=
  decide (1 < pMsgPkts p) && !f.msgs.any (fun m => m.id == pMsgId p) && decide (64 ≤ f.msgs.length)

/-- A flow packet against its receive entry (the last five rows of Table 8.7). -/
def rxTake (deliver : Nat → Packet → State → State) (t : Nat) (p : Packet) (f : FlowRx) (s : State) : State :=
  let d := serialDiff 24 (pSeq p) f.next
  let k := f.key
  if d < 0 ∨ f.got.contains (pSeq p) ∨ f.held.any (fun h => h.1 == pSeq p) then sendAck t f (countPort t 16 1 s)
  else if 1024 ≤ d then countPort t 17 1 s
  else if msgFull f p then modPort s t (fun x => { x with network := addNew x.network p })
  else if d = 0 then
    let s := modPort s t (fun x => setRx x { f with next := (f.next + 1) % 2 ^ 24, lastDelivery := s.now })
    noteFresh t k (advance deliver t k 1024 (deliver t p s))
  else if pOrdered p then
    if reorderFlits (getPort s t) + pktFlits p ≤ 32768 then
      noteFresh t k (modPort s t (fun x => setRx x { f with held := f.held ++ [(pSeq p, p)] }))
    else countPort t 19 1 s
  else
    noteFresh t k (deliver t p (modPort s t (fun x => setRx x { f with got := f.got ++ [pSeq p], lastDelivery := s.now })))

/-- A flow packet at its destination endpoint (R279, Table 8.7). -/
def rxFlow (deliver : Nat → Packet → State → State) (t : Nat) (p : Packet) (s : State) : State :=
  let k := rxKey p
  match findRx (getPort s t) k with
  | none =>
    if !pStart p then sendLoose t (mkAck s t k (pSeq p) true []) s
    else
      let f := rxNew k (pSeq p) s.now
      match rxPlace (getPort s t) f s.now with
      | none => s
      | some port => rxTake deliver t p f (putPort s t port)
  | some f =>
    let f := if pStart p then { rxNew k (pSeq p) s.now with applied := f.applied, lastRemote := f.lastRemote } else f
    rxTake deliver t p f (modPort s t (fun x => setRx x f))

/-- The packets that wait in the network buffer of a tile, tried again (R283). -/
def rxNetwork (deliver : Nat → Packet → State → State) (t : Nat) (s : State) : State :=
  let l := (getPort s t).network
  l.foldl (fun s p => rxFlow deliver t p s) (modPort s t (fun x => { x with network := [] }))

/-- The checks that precede Table 8.7 (R266, R267, R297): none when the endpoint discards the packet. -/
def rxCheck (t : Nat) (p : Packet) (s : State) : Bool × State :=
  let s := { s with flight := s.flight.erase p }
  if badType p then (false, countPort t 18 1 s)
  else if pCrc p != pktCrc p then (false, countPort t 15 1 s)
  else
    let own := bankEpoch (bankSel s true) % 256
    (true, if serialDiff 8 own (pEpoch p) > 1 then countPort t 21 1 s else s)

/-- Whether a packet is for this module and one of its endpoints. -/
def forUs (s : State) (p : Packet) : Bool :=
  (pMcast p || pDstModule p == s.myModule) && (decide (pDstTile p < 24) || pDstTile p == 30)

/-- Whether a packet is the command of a row: its MSG_TYPE is the row's, or one that the manual does not define, which R267 refuses in
any row; a packet of another type, or for another module, is not this command and changes nothing. -/
def rowTakes (s : State) (type : Nat) (p : Packet) : Bool := (pType p == type || !typeKnown (pType p)) && forUs s p

/-- A packet of a flow that arrives at its destination endpoint. `type` is the type of its row. -/
def rxArrive (deliver : Nat → Packet → State → State) (type : Nat) (p : Packet) (s : State) : State :=
  if !rowTakes s type p then s else
  let t := pDstTile p
  match rxCheck t p s with
  | (false, s) => s
  | (true, s) => rxNetwork deliver t (rxFlow deliver t p s)

/-- A packet of no flow at its destination endpoint. -/
def rxLoose (act : Packet → State → State) (type : Nat) (p : Packet) (s : State) : State :=
  if !rowTakes s type p then s else
  match rxCheck (pDstTile p) p s with
  | (false, s) => s
  | (true, s) => act p s

/-- ACK_DELAY_EXPIRE (R278). -/
def ackDelayExpireOp (t : Nat) (k : FlowKey) (s : State) : State :=
  match findRx (getPort s t) k with
  | none => s
  | some f =>
    match f.ackDue with
    | none => s
    | some due => sendAck t f { s with now := max s.now due }

/-- FLOW_STATE_EXPIRE (R277): the send state 500 µs after the flow's last use, the receive state 1 ms after its last
delivery with nothing held. -/
def flowStateExpireOp (t : Nat) (k : FlowKey) (send : Bool) (s : State) : State :=
  if send then
    match findTx (getPort s t) k with
    | none => s
    | some f =>
      if !f.unacked.isEmpty then s
      else pump t (dropTx t f { s with now := max s.now (f.lastUse + 500000) })
  else
    match findRx (getPort s t) k with
    | none => s
    | some f =>
      if !f.held.isEmpty then s
      else modPort { s with now := max s.now (f.lastDelivery + 1000000) } t (fun p => { p with rx := p.rx.filter (fun x => x.key != k) })

end Sys2Proof.Machine
end

