-- ==== Sys2Proof/Machine/Leases.lean ====
section
/-! DEFINITION. Leases: the levels of control (R431, R432) and the maintenance leases (R385–R387, Tables 11.9,
11.10). -/

namespace Sys2Proof.Machine

/-! ### Levels of control (Table 13.11) -/

/-- Whether a requester holds the expert level in function fn. The keeper itself writes every register (its presets
include registers that need the expert level); service firmware and SYSTEM kernels never hold it here. DEDUCED (log entry 123). -/
def expertOk (rq : Requester) (fn : Nat) (s : State) : Bool :=
  match rq with
  | .keeper => true
  | .firmware | .systemKernel _ _ => false
  | rq => s.keeper.enables.any (fun e => e.2.who == rq && bit e.2.functions fn)

/-- Whether an enable that includes DEBUG is in force (R107). -/
def debugInForce (s : State) : Bool := s.keeper.enables.any (fun e => bit e.2.functions 8)

/-- The state with the code of the access that a command makes. DESIGN CHOICE (log entry 14). -/
def ends (c : Code) (s : State) : State := { s with lastCode := c }

/-- An access that needs the expert level of fn (R432): KEY_FAULT without it. DEDUCED (log entry 123). -/
def withExpert (rq : Requester) (fn : Nat) (s : State) (f : State → State) : State :=
  if expertOk rq fn s then f s else ends .keyFault s

/-! ### Leases -/

/-- What Table 11.10 says of a request that overlaps a held lease. -/
inductive LeaseCell where
  | conflict | retry | wait | grant
  deriving DecidableEq, Repr

/-- Table 11.10. -/
def leaseCell (req held : Nat) : LeaseCell :=
  match req, held with
  | 1, 1 | 1, 3 | 1, 7 | 2, 7 | 3, 3 | 4, 4 | 4, 7 | 5, 7 | 6, 6 | 6, 7 | 9, 9 => .conflict
  | 1, 2 | 1, 4 | 1, 5 | 2, 1 | 2, 2 | 3, 1 | 3, 7 | 4, 1 | 4, 5 | 5, 1 | 5, 4 | 5, 5 => .wait
  | 8, 8 => .retry
  | 7, h => if 1 ≤ h ∧ h ≤ 7 then .conflict else .grant
  | _, _ => .grant

/-- The scope kind of an activity (Table 11.9): 1 slice, 2 group, 3 tile, 4 strand, 5 module. -/
def leaseKind (act : Nat) : Nat :=
  match act with | 1 | 2 | 3 => 1 | 4 | 5 => 2 | 6 => 4 | 7 => 3 | _ => 5

/-- Whether two scopes overlap (R386). -/
def scopesOverlap (k1 t1 u1 k2 t2 u2 : Nat) : Bool :=
  if k1 = 5 || k2 = 5 then true
  else if t1 != t2 then false
  else if k1 = 3 || k2 = 3 then true
  else if k1 = k2 then u1 == u2
  else if k1 = 1 && k2 = 2 then u1 / 16 == u2
  else if k1 = 2 && k2 = 1 then u2 / 16 == u1
  else false

/-- The most restrictive entry over the held leases that overlap. -/
def leaseDecide (s : State) (act tile unit_ : Nat) : LeaseCell :=
  let cells := (s.topo.leases.filter (fun l => scopesOverlap (leaseKind act) tile unit_ l.kind l.tile l.unit_)).map
    (fun l => leaseCell act l.activity)
  if cells.contains .conflict then .conflict else if cells.contains .retry then .retry else if cells.contains .wait then .wait else .grant

/-- How a lease request ends. -/
inductive LeaseAnswer where
  | granted | waits | conflict | full
  deriving DecidableEq, Repr

/-- Adds a held lease. DESIGN CHOICE (log entry 92). -/
def leaseAdd (act tile unit_ : Nat) (a : LeaseAct) (time : Nat) (s : State) : State :=
  { s with topo := { s.topo with
      leases := s.topo.leases ++ [⟨s.topo.leaseNext, act, leaseKind act, tile, unit_, a, time⟩]
      leaseNext := (s.topo.leaseNext + 1) % 65536 } }

/-- A lease request (R386, R387, R436). An automatic activity that is refused asks again after 10 ms. DEDUCED (log entry 43). -/
def leaseAsk (act tile unit_ : Nat) (a : LeaseAct) (auto : Bool) (s : State) : LeaseAnswer × State :=
  let rec_ : Lease := ⟨0, act, leaseKind act, tile, unit_, a, s.now⟩
  let again (s : State) : State := if auto then { s with topo := { s.topo with
    leaseRetries := s.topo.leaseRetries ++ [{ rec_ with time := s.now + 10000000 }] } } else s
  let full := decide (256 ≤ s.topo.leases.length)
  match leaseDecide s act tile unit_ with
  | .grant => if full then (.full, again s) else (.granted, leaseAdd act tile unit_ a 0 s)
  | .retry => (.full, again s)
  | .wait => if full then (.full, again s) else (.waits, { s with topo := { s.topo with leaseWaits := s.topo.leaseWaits ++ [rec_] } })
  | .conflict => (.conflict, again (countHearth 11 1 s))

/-- Ends the leases that satisfy a predicate. -/
def leaseEnd (f : Lease → Bool) (s : State) : State :=
  { s with topo := { s.topo with leases := s.topo.leases.filter (fun l => !(f l)) } }

/-- Ends the lease of an activity on a scope instance that is not explicit. -/
def leaseRelease (act tile unit_ : Nat) (s : State) : State :=
  leaseEnd (fun l => l.activity == act && l.tile == tile && l.unit_ == unit_ &&
    (match l.act with | .explicit _ _ _ => false | _ => true)) s

/-- The lease of a strand activity: granted, or a code. -/
def strandLease (st : Nat) (a : LeaseAct) (s : State) : Bool × State :=
  match leaseAsk 6 (servingTile (st / 8)) st a false s with
  | (.granted, s) => (true, s)
  | (.full, s) => (false, ends .retryLater s)
  | (_, s) => (false, ends .conflict s)

/-- The 8 strand leases of an engine, all or none. -/
def engineLease (e : Nat) (a : LeaseAct) (auto : Bool) (s : State) : Bool × State :=
  let t := servingTile e
  let again (s : State) : State := if auto then { s with topo := { s.topo with
    leaseRetries := s.topo.leaseRetries ++ [⟨0, 6, 4, t, 8 * e, a, s.now + 10000000⟩] } } else s
  if !(upto 8).all (fun i => leaseDecide s 6 t (8 * e + i) == .grant) then (false, ends .conflict (again (countHearth 11 1 s)))
  else if 248 < s.topo.leases.length then (false, ends .retryLater (again s))
  else (true, (upto 8).foldl (fun s i => leaseAdd 6 t (8 * e + i) a 0 s) s)

/-- Ends the strand leases of an engine. -/
def engineRelease (e : Nat) (s : State) : State :=
  (upto 8).foldl (fun s i => leaseRelease 6 (servingTile e) (8 * e + i) s) s

end Sys2Proof.Machine
end

