-- ==== Sys2Proof/Machine/FabricCtl.lean ====
section
/-! DEFINITION. FabricCtl: the commands of strands, engines, routing banks and circuits (R256–R263, R285–R297, R381),
and transit at an intermediate module (R285, R291). -/

namespace Sys2Proof.Machine

/-- An engine at reset: dark, ENABLE set. -/
def engineInit : Engine where
  state := 0
  thirdParty := false
  gts := 0
  width := 0
  failed := 0
  spareUsed := false
  spareWave := 0
  spareDead := false
  rxSpare := false
  rxDead := false
  takeover := false
  enable := true
  bias := []
  desc := none

def getEngine (s : State) (e : Nat) : Engine := tget engineInit s.engines e
def putEngine (s : State) (e : Nat) (x : Engine) : State := { s with engines := tput s.engines e x }

/-- ROLE and FIRST of an engine's profile entry. -/
def profEntry (s : State) (e : Nat) : Nat × Nat :=
  let w := s.topo.profile.getD e 0
  (fld w 15 14, fld w 13 8)

/-- Whether an engine may be lit: it was admitted and trained its link (R384), and its profile entry gives it a role (R361). Every other
engine stays dark. -/
def engineServes (s : State) (e : Nat) : Bool := (getEngine s e).gts != 0 && (profEntry s e).1 != 0

/-- Whether an engine's lasers are lit: neither dark nor withdrawn (R382). -/
def engineLit (s : State) (e : Nat) : Bool := (getEngine s e).state == 1 || (getEngine s e).state == 2

/-- Word 2 of a strand event: its strand and engine. -/
def evStrand (st : Nat) : Word := evW2 (strand := st) (engine := st / 8)

/-- Whether a strand is UP or DEGRADED. -/
def strandLive (s : State) (st : Nat) : Bool :=
  let x := getStrand s st
  x.state == .up || x.state == .degraded

/-- The circuits of every tile on a strand that leaves UP: FAILED, with an event each (R289). -/
def failCircuits (st : Nat) (s : State) : State :=
  (upto 24).foldl (fun s t =>
    ((getPort s t).circuits.filter (fun e => bit e.2 63 && !bit e.2 62 && fld e.2 57 50 == st)).foldl (fun s e =>
      raise (mkEv 0x0502 clsNotice 0 7 t 0 (evStrand st) (BitVec.ofNat 64 e.1))
        (modPort s t (fun p => { p with circuits := tput p.circuits e.1 (setFld e.2 62 62 1) }))) s) s

/-- The strands of an engine. -/
def engineStrands (e : Nat) : List Nat := (upto 8).map (fun i => 8 * e + i)

/-- The receive spare supplies loopback light while a strand of its engine trains (R257), unless it has failed. -/
def rxLight (e : Nat) (s : State) : State :=
  putEngine s e { getEngine s e with
    rxSpare := !(getEngine s e).rxDead && (engineStrands e).any (fun st => (getStrand s st).state == .training) }

/-- A strand changes to a state other than UP (R286). -/
def strandLeave (st : Nat) (x : StrandState) (s : State) : State :=
  let was := strandUp s st
  let s := rxLight (st / 8) (modStrand s st (fun y => { y with state := x }))
  if was then failCircuits st s else s

/-- A strand goes to FAILED with a cause: event STRAND_FAILED. -/
def strandFail (st cause : Nat) (s : State) : State :=
  raise (mkEv 0x0504 clsFault 0 7 (servingTile (st / 8)) 0 (evStrand st) (BitVec.ofNat 64 cause))
    (modStrand (strandLeave st .failed s) st (fun y => { y with cause := cause, trained := false }))

/-- A strand starts training. DEDUCED (log entry 91). -/
def strandTrain (st : Nat) (s : State) : State :=
  modStrand (strandLeave st .training s) st (fun y => { y with trained := false, helloDue := none, helloMisses := 0, helloValid := false })

/-! ### Codewords and link control -/

/-- The three XOFF levels: VC0 request half (occupancy key 0), VC0 reply half (key 16), VC1 (key 1). -/
def xoffAll (x : Strand) : BitVec 3 :=
  putBit (putBit (putBit x.xoffOut 0 (xoffNext (bit x.xoffOut 0) (tget 0 x.occ 0))) 1
    (xoffNext (bit x.xoffOut 1) (tget 0 x.occ 16))) 2 (xoffNext (bit x.xoffOut 2) (tget 0 x.occ 1))

/-- Flits received on one VC: counted for credit, or for the occupancy of an on/off VC. -/
def takeFlits (x : Strand) (f : FlitCount) : Strand :=
  let vc := f.vc.val
  if vc < 2 then
    let k := if vc = 0 && f.pool then 16 else vc
    { x with occ := tput x.occ k (tget 0 x.occ k + f.n) }
  else if f.pool then { x with recvShared := (x.recvShared + f.n) % 65536 }
  else { x with recv := tput x.recv vc ((tget 0 x.recv vc + f.n) % 65536) }

/-- FEC_CODEWORD (R260): up to 15 corrected symbols; a codeword that cannot be corrected is counted with the packets it
discards. -/
def fecCodewordOp (st corrected : Nat) (flits : List FlitCount) (lost : Option Nat) (s : State) : State :=
  if !strandLive s st then s else
  if lost.isNone && decide (corrected ≤ 15) then
    let x := flits.foldl takeFlits (getStrand s st)
    countStrand st 0 corrected (putStrand s st { x with xoffOut := xoffAll x })
  else
    countStrand st 1 1 (countStrand st 2 (lost.getD 0) (modStrand s st (fun x =>
      { x with uncorr := x.uncorr.filter (fun t => decide (s.now < t + 1000000000)) ++ [s.now] })))

/-- Uncorrectable codewords of the last second. -/
def uncorrLast (s : State) (st : Nat) : Nat :=
  ((getStrand s st).uncorr.filter (fun t => decide (s.now < t + 1000000000))).length

/-- The automatic work of a strand once it has its lease: 0 the retraining for errors, 1 that of a lost peer, 2 the withdrawal of Table
11.4. -/
def strandWorkRun (how st : Nat) (s : State) : State :=
  if how < 2 && !strandLive s st then leaseRelease 6 (servingTile (st / 8)) st s
  else match how with
    | 0 => modStrand (strandTrain st s) st (fun x => { x with retrainedAt := some s.now, uncorr := [] })
    | 1 => strandTrain st s
    | _ => modStrand (strandLeave st .withdrawn s) st (fun x => { x with drainAt := some (s.now + 50000) })

/-- Automatic work of a strand takes the strand's lease (R385); where that is refused it asks again (R387). -/
def strandAuto (how st : Nat) (s : State) : State :=
  match leaseAsk 6 (servingTile (st / 8)) st (.strandAuto st how) true s with
  | (.granted, s) => strandWorkRun how st s
  | (_, s) => s

/-- STRAND_ERROR_RETRAIN (STRAND_STATUS): above 1,000 in a second the strand retrains; again within a minute, it goes
to FAILED with cause 3. -/
def strandErrorRetrainOp (st : Nat) (s : State) : State :=
  if !strandLive s st || uncorrLast s st ≤ 1000 || s.topo.leaseRetries.any (fun l => l.act == .strandAuto st 0) then s else
  match (getStrand s st).retrainedAt with
  | some t => if s.now < t + 60000000000 then strandFail st 3 s else strandAuto 0 st s
  | none => strandAuto 0 st s

/-- Takes n freed flits from the front of the shared-pool flits sent. -/
def popShared : List (Nat × Nat) → Nat → List (Nat × Nat)
  | [], _ => []
  | (v, m) :: r, n => if n = 0 then (v, m) :: r else if m ≤ n then popShared r (n - m) else (v, m - n) :: r

/-- One VC's lost flits returned at once (R263), then its buffer emptied into the module. -/
def settleVc (sent : List (BitVec 16)) (x : Strand × Nat) (i : Nat) : Strand × Nat :=
  let vc := i + 2
  let lost := countDiff (sent.getD i 0).toNat (tget 0 x.1.recv vc)
  let total := (sent.getD i 0).toNat
  ({ x.1 with recv := tput x.1.recv vc total, freed := tput x.1.freed vc total }, x.2 + lost)

/-- The flits of an on/off buffer that a router has not forwarded yet: a free value, at most its occupancy. DESIGN CHOICE (log entry 69). -/
def occDrain (t : Tab Nat × State) (q : Nat × Nat) : Tab Nat × State :=
  (tset 0 t.1 q.1 (Config.rand t.2.free % (q.2 + 1)), { t.2 with free := t.2.free + 1 })

/-- LINK_CONTROL_FLIT (R262, R263): the XOFF levels and credits that the partner states, and the flits lost on the way
to this side. DESIGN CHOICE (log entry 69). -/
def linkControlOp (st : Nat) (f : LinkControl) (s : State) : State :=
  if !strandLive s st then s else
  let (occ, s) := (getStrand s st).occ.foldl occDrain ([], s)
  let x := getStrand s st
  let returned := countDiff f.retShared.toNat x.creditShared
  let (x, lost) := (upto 14).foldl (settleVc f.sent) (x, 0)
  let lostShared := countDiff f.sentShared.toNat x.recvShared
  let x := { x with
    xoffIn := f.flags.setWidth 3
    superframe := f.superframe
    credit := (upto 14).foldl (fun t i => tput t (i + 2) (f.ret.getD i 0).toNat) x.credit
    creditShared := f.retShared.toNat
    sharedBy := popShared x.sharedBy returned
    recvShared := f.sentShared.toNat
    freedShared := f.sentShared.toNat
    occ := occ }
  egressStart st (countStrand st 3 (lost + lostShared) (putStrand s st { x with xoffOut := xoffAll x }))

/-! ### Strand control (R258, R381) -/

/-- STRAND_WITHDRAW: ENABLE 0 in STRAND_CTRL. -/
def strandWithdrawOp (rq : Requester) (st : Nat) (s : State) : State :=
  withExpert rq 4 s fun s =>
    if !(getStrand s st).enable then ends .ok s else
    match strandLease st (.strandWork st) s with
    | (false, s) => s
    | (true, s) => ends .ok (modStrand (strandLeave st .withdrawn s) st (fun x =>
        { x with enable := false, drainAt := some (s.now + 50000) }))

/-- STRAND_DRAIN_TIMEOUT: the transmitter goes dark. -/
def strandDrainTimeoutOp (st : Nat) (s : State) : State :=
  match (getStrand s st).drainAt with
  | none => s
  | some due =>
    leaseRelease 6 (servingTile (st / 8)) st (modStrand { s with now := max s.now due } st (fun x =>
      { x with drainAt := none, egress := [], sending := none, trained := false, helloDue := none }))

/-- STRAND_ENABLE: ENABLE 1 in STRAND_CTRL returns a withdrawn strand to training; a strand of an engine whose lasers are dark stays as
dark as that engine (R361, R382, R384). -/
def strandEnableOp (rq : Requester) (st : Nat) (s : State) : State :=
  withExpert rq 4 s fun s =>
    if (getStrand s st).enable then ends .ok s else
    match strandLease st (.strandWork st) s with
    | (false, s) => s
    | (true, s) =>
      if engineLit s (st / 8) then ends .ok (modStrand (strandTrain st s) st (fun x => { x with enable := true, drainAt := none, cause := 0 }))
      else ends .ok (leaseRelease 6 (servingTile (st / 8)) st (modStrand s st (fun x =>
        { x with enable := true, state := if (getEngine s (st / 8)).state = 3 then .withdrawn else .dark })))

/-- STRAND_RETRAIN: RETRAIN in STRAND_CTRL. A withdrawn strand stays withdrawn, and one of a dark engine dark. -/
def strandRetrainOp (rq : Requester) (st : Nat) (s : State) : State :=
  withExpert rq 4 s fun s =>
    if !(getStrand s st).enable || !engineLit s (st / 8) then ends .ok s else
    match strandLease st (.strandWork st) s with
    | (false, s) => s
    | (true, s) => ends .ok (modStrand (strandTrain st s) st (fun x => { x with cause := 0 }))

/-- The wavelengths of an engine's strands: all, a half without failed lasers, or none (R257). The laser that the
transmit spare replaced counts as failed only once a second one, or the spare, fails. -/
def engineWaves (e : Engine) : BitVec 16 :=
  if (bitsOf e.failed).length + b2n e.spareDead ≤ 1 then 0xFFFF
  else if fld e.failed 7 0 = 0 then 0x00FF else if fld e.failed 15 8 = 0 then 0xFF00 else 0

/-- STRAND_TRAINED (R258). -/
def strandTrainedOp (st rt : Nat) (s : State) : State :=
  let x := getStrand s st
  let e := getEngine s (st / 8)
  if x.state != .training || x.trained || !engineLit s (st / 8) then s else
  let s := leaseRelease 6 (servingTile (st / 8)) st s
  if 2400 < rt then strandFail st 1 s
  else
    let w := engineWaves e
    if w = 0 then strandFail st 2 s else
    egressStart st (rxLight (st / 8) (modStrand s st (fun x => { x with
      state := if w = 0xFFFF then .up else .degraded, trained := true, waves := w, cause := 0, helloDue := some s.now,
      helloMisses := 0, helloAnswered := true })))

/-! ### Engines (R257, R382) -/

/-- Starts the takeover of a failed laser by the transmit spare, under the engine's strand leases. -/
def takeoverStart (e : Nat) (s : State) : State :=
  let x := getEngine s e
  if x.spareUsed || x.spareDead || x.takeover || x.failed = 0 then s else
  match engineLease e (.engineWork e) true s with
  | (false, s) => s
  | (true, s) => putEngine s e { x with takeover := true, spareWave := (bitsOf x.failed).headD 0 }

/-- The strands of an engine that carry other wavelengths than it has left. -/
def wrongWaves (s : State) (e : Nat) : List Nat :=
  (engineStrands e).filter (fun st => strandLive s st && (getStrand s st).waves != engineWaves (getEngine s e))

/-- After a second laser failure the strands retrain on the half of the wavelengths that is left, under the engine's strand leases. -/
def halfTrain (e : Nat) (s : State) : State :=
  let l := wrongWaves s e
  if l.isEmpty then s else
  match engineLease e (.engineWork e) true s with
  | (false, s) => s
  | (true, s) => (engineStrands e).foldl (fun s st =>
      if l.contains st then strandTrain st s else leaseRelease 6 (servingTile e) st s) s

/-- What an engine does of itself about its failed lasers (R257): the takeover by the spare, or the retraining at half rate. -/
def engineAuto (e : Nat) (s : State) : State := if engineWaves (getEngine s e) = 0xFFFF then takeoverStart e s else halfTrain e s

/-- A laser of an engine has failed, the transmit spare included, and the engine holds the mark (R257). -/
def laserLost (e : Nat) (s : State) : State :=
  let x := getEngine s e
  let w := engineWaves x
  if w = 0xFFFF then takeoverStart e s
  else if w = 0 then
    ((engineStrands e).filter (fun st => strandLive s st || (getStrand s st).state == .training)).foldl (fun s st => strandFail st 2 s) s
  else
    halfTrain e (raise (mkEv 0x0503 clsFault 0 7 (servingTile e) 0 (evW2 (engine := e))
      (pack [(62, 2), (32, x.failed.toNat), (8, x.gts), (0, x.width)])) (putEngine s e { x with state := 2, takeover := false }))

/-- LASER_FAILURE (R257). -/
def laserFailureOp (e laser : Nat) (s : State) : State :=
  let x := getEngine s e
  if !(x.state == 1 || x.state == 2) || bit x.failed laser then s else
  laserLost e (putEngine s e { x with failed := putBit x.failed laser true })

/-- The transmit spare of an engine has failed (R404): unused, it takes over from no laser any more; in use, the wavelength that it
carries has no laser, as after a second failure. DESIGN CHOICE (log entry 130). -/
def spareFailure (e : Nat) (s : State) : State :=
  let x := getEngine s e
  if !(x.state == 1 || x.state == 2) || x.spareDead then s else
  let s := putEngine s e { x with spareDead := true }
  if x.failed = 0 then s else laserLost e s

/-- The receive spare of an engine has failed (R404): it supplies no loopback light. DESIGN CHOICE (log entry 130). -/
def rxSpareFailure (e : Nat) (s : State) : State := rxLight e (putEngine s e { getEngine s e with rxDead := true })

/-- LASER_TAKEOVER_COMPLETE: the strands of the engine carry flits again. -/
def laserTakeoverCompleteOp (e : Nat) (s : State) : State :=
  let x := getEngine s e
  if !x.takeover then s else
  (engineStrands e).foldl (fun s st => egressStart st s)
    (engineRelease e (putEngine s e { x with takeover := false, spareUsed := true }))

/-- ENGINE_WITHDRAW: ENABLE 0 in ENGINE_CTRL (R382). -/
def engineWithdrawOp (rq : Requester) (e : Nat) (s : State) : State :=
  withExpert rq 6 s fun s =>
    let x := getEngine s e
    if !x.enable then ends .ok s else
    match engineLease e (.engineWork e) false s with
    | (false, s) => s
    | (true, s) =>
      let s := (engineStrands e).foldl (fun s st => modStrand (strandLeave st .withdrawn s) st (fun y =>
        { y with drainAt := some (s.now + 50000) })) s
      ends .ok (putEngine s e { getEngine s e with enable := false, state := 3, takeover := false })

/-- Retrains an engine and its enabled strands; one that may not be lit stays dark (R361, R384). -/
def engineTrain (e : Nat) (s : State) : State :=
  let x := getEngine s e
  if !engineServes s e then engineRelease e (putEngine s e { x with enable := true, state := 0 }) else
  (engineStrands e).foldl (fun s st =>
    if (getStrand s st).enable && (getStrand s st).state != .dark then
      modStrand (strandTrain st s) st (fun y => { y with drainAt := none, cause := 0 })
    else leaseRelease 6 (servingTile e) st s)
    (putEngine s e { x with enable := true, state := if engineWaves x = 0xFFFF then 1 else 2 })

/-- ENGINE_ENABLE: ENABLE 1 in ENGINE_CTRL. -/
def engineEnableOp (rq : Requester) (e : Nat) (s : State) : State :=
  withExpert rq 6 s fun s =>
    if (getEngine s e).enable then ends .ok s else
    match engineLease e (.engineWork e) false s with
    | (false, s) => s
    | (true, s) => ends .ok (engineTrain e s)

/-- ENGINE_RETRAIN: RETRAIN in ENGINE_CTRL. A withdrawn or dark engine stays as it is. -/
def engineRetrainOp (rq : Requester) (e : Nat) (s : State) : State :=
  withExpert rq 6 s fun s =>
    let x := getEngine s e
    if !x.enable || x.state == 0 then ends .ok s else
    match engineLease e (.engineWork e) false s with
    | (false, s) => s
    | (true, s) => ends .ok (engineTrain e s)

/-! ### Routing banks (R293, R295–R297) -/

/-- The endpoints: 24 tiles and the hearth. -/
def endpoints : List Nat := upto 24 ++ [30]

/-- ROUTE_SWAP: SWAP in ROUTE_CTRL. -/
def routeSwapOp (rq : Requester) (s : State) : State :=
  withExpert rq 4 s fun s =>
    if s.routing.busy then ends .retryLater s else
    let a := bankSel s true
    let b := bankSel s false
    if bankEpoch b != (bankEpoch a + 1) % 2 ^ 32 || !bit (bankWord b 0) 0 then
      ends .rejected { s with routing := { s.routing with result := .rejected } }
    else
      match leaseAsk 8 0 0 .routeSwap false s with
      | (.granted, s) =>
        ends .ok (endpoints.foldl (fun s t => modPort s t (fun p => { p with hold := true }))
          { s with routing := { s.routing with busy := true } })
      | (_, s) => ends .retryLater s

/-- Whether an endpoint still waits for a packet on an affected route (Table 8.9 step 4): the route of its sends, and of the unicast re-sends
of a multicast packet (R292). -/
def undrained (s : State) (t : Nat) : Bool :=
  (getPort s t).tx.any (fun f => f.unacked.any (fun x => affected s x.pkt ||
    (pMcast x.pkt && decide (1 < x.sends) && x.members.any (fun m => affected s (toMember x.pkt m)))))

/-- SWAP_DRAINED. -/
def swapDrainedOp (s : State) : State :=
  if !s.routing.busy || endpoints.any (undrained s) then s else
  let s := { s with routing := { s.routing with activeB := !s.routing.activeB, busy := false, result := .ok, gone := [] } }
  endpoints.foldl (fun s t =>
    let l := (getPort s t).loose
    pump t (l.foldl (fun s p => sendLoose t p s) (modPort s t (fun p => { p with hold := false, loose := [] })))) (leaseRelease 8 0 0 s)

/-- GROUP_WITHDRAW: a write of GROUP. -/
def groupWithdrawOp (rq : Requester) (g : Nat) (s : State) : State :=
  withExpert rq 4 s fun s =>
    if s.routing.gwGroup.isSome then ends .retryLater s else
    ends .ok { s with routing := { s.routing with gwGroup := some g, gwAt := s.now + 128000, gone := addNew s.routing.gone g } }

/-- MCAST_DRAIN_TIMEOUT: at the 128 µs bound the group's unacknowledged packets end with WITHDRAWN, and members that have not
answered count as WITHDRAWN (R293, R325). -/
def mcastDrainTimeoutOp (s : State) : State :=
  match s.routing.gwGroup with
  | none => s
  | some g =>
    let s := { s with now := max s.now s.routing.gwAt,
                      routing := { s.routing with gwGroup := none, gwResult := .ok } }
    endpoints.foldl (fun s t =>
      let late := (getPort s t).ops.filter (fun o => o.kind == .mcast g)
      let s := ((getPort s t).tx.filter (fun f => f.key.group == some (BitVec.ofNat 12 g))).foldl (fun s f =>
        { dropTx t f s with failed := s.failed ++ f.unacked.map (fun x => (t, x.pkt, .withdrawn, x.members)) }) s
      { s with failed := s.failed ++ late.map (fun o =>
          (t, mkPkt s.myModule t s.myModule t 5 0 1 0 0 0 (BitVec.ofNat 64 o.txn) 0 [], .withdrawn, o.expect)) }) s

/-- CIRCUIT_ENTRY_WRITE (R288). -/
def circuitWriteOp (rq : Requester) (t i : Nat) (v : Word) (s : State) : State :=
  withExpert rq 4 s fun s =>
    let st := fld v 57 50
    let rate := fld v 16 12
    let sum := ((upto 24).map (fun u => (((getPort s u).circuits.filter (fun e =>
      bit e.2 63 && fld e.2 57 50 == st && !(u == t && e.1 == i))).map (fun e => fld e.2 16 12)).sum)).sum
    if fld v 61 60 = 0 || fld v 59 58 = 3 || 160 ≤ st || rate = 0 || 16 < rate then ends .rejected s
    else if (bit v 63 && decide (16 < sum + rate)) || (strandRole (bankSel s true) st).1 != fld v 59 58 + 1 then ends .rejected s
    else ends .ok (modPort s t (fun p => { p with circuits := tset 0 p.circuits i (setFld (setFld v 62 62 0) 11 0 0) }))

/-! ### Transit (R285, R287, R291) -/

/-- Forwards a packet, from die u, on a strand of a list: a circuit packet on the strand that R287 fixes, another at random. -/
def forwardOn (u : Nat) (l : List Nat) (p : Packet) (s : State) : State :=
  let up := l.filter (strandUp s)
  if pCircuit p then
    match up[(pSrcModule p * 24 + pSrcTile p + pCircuitId p) % up.length]? with
    | some st => strandSend u st p s
    | none => s
  else
    match pickOne up s with
    | (some st, s) => strandSend u st p s
    | (none, s) => s

/-- TRANSIT_PACKET on a strand of tile u: a multicast copy at a delegate, or a packet to turn to phase 2 (R285, R291). A VC1 packet keeps
VC1; one without an up strand is lost and recovered by its flow. A withdrawn group's stores go no further than to this module's tiles,
which answer them with KEY_FAULT (R24). -/
def transitOp (u : Nat) (p : Packet) (s : State) : State :=
  let b := bankSel s true
  if pMcast p then
    let e := (groupEntry b (pDstModule p)).1
    if !bit e 63 then s
    else if s.routing.gone.contains (pDstModule p) then
      (if pType p = 5 then d2dSend u (localTiles s (pDstModule p)) none (withRoute p 3 0 (pInter p)) s else s)
    else
    let s := if bit e 62 && bit e 61 && pVc p == 2 then forwardOn u (roleStrands b 2) (withRoute p 3 0 (pInter p)) s else s
    d2dSend u (localTiles s (pDstModule p)) none (withRoute p 3 0 (pInter p)) s
  else
    let q := withRoute p (if pVc p = 1 then 1 else if pVc p % 2 = 0 ∧ 2 ≤ pVc p ∧ pVc p ≤ 7 then pVc p + 1 else pVc p) 0 (pInter p)
    if pDstModule p = s.myModule then d2dSend u [pDstTile p] none q s
    else if pDstModule p / 4 = s.myModule / 4 then
      forwardOn u ((roleStrands b 1).filter (fun st => (strandRole b st).2 == pDstModule p % 4)) q s
    else forwardOn u (roleStrands b 2) q s

end Sys2Proof.Machine
end

