-- ==== Sys2Proof/Machine/Galois.lean ====
section
/-! DEFINITION. Galois: arithmetic in GF(2^8) and the Reed–Solomon (160,128) code of a slice line (R161). -/

namespace Sys2Proof.Machine

/-! ### GF(2^8) with the polynomial of R161 -/

/-- x times a, reduced by x^8 + x^4 + x^3 + x^2 + 1. -/
def gdouble (a : Byte) : Byte := (a <<< 1) ^^^ (if bit a 7 then 0x1D else 0)

/-- The product over the n low bits of b. -/
def gmulBits : Nat → Byte → Byte → Byte
  | 0, _, _ => 0
  | n + 1, a, b => (if bit b 0 then a else 0) ^^^ gmulBits n (gdouble a) (b >>> 1)

/-- The product of two field elements. -/
def gmul (a b : Byte) : Byte := gmulBits 8 a b

/-- a to the power n. -/
def gpow (a : Byte) : Nat → Byte
  | 0 => 1
  | n + 1 => gmul a (gpow a n)

/-- The inverse of a nonzero element. -/
def ginv (a : Byte) : Byte := gpow a 254

/-! ### The codeword of a line -/

/-- A polynomial over GF(2^8), highest coefficient first, times x − a. -/
def polyRoot (p : List Byte) (a : Byte) : List Byte := List.zipWith (· ^^^ ·) (p ++ [0]) (0 :: p.map (gmul a))

/-- The generator g(x) = (x − α^0)(x − α^1) … (x − α^31), highest coefficient first; α is the element 2. -/
def rsGen : List Byte := (upto 32).foldl (fun p i => polyRoot p (gpow 2 i)) [1]

/-- One step of the division by g(x): the remainder with the next data symbol taken in. -/
def rsStep (r : List Byte) (d : Byte) : List Byte :=
  let q := d ^^^ r.headD 0
  List.zipWith (fun x g => x ^^^ gmul q g) (r.tail ++ [0]) (rsGen.drop 1)

/-- The check symbols q(0)–q(31) of a line's data bytes: the coefficients of d(x) × x^32 mod g(x) (R161). -/
def rsCheck (data : List Byte) : List Byte := data.foldl rsStep (List.replicate 32 0)

/-- The value of a received word at α^i: zero at all 32 roots exactly for a codeword. -/
def rsSyndrome (w : List Byte) (i : Nat) : Byte := w.foldl (fun a b => gmul a (gpow 2 i) ^^^ b) 0

end Sys2Proof.Machine
end

