-- ==== Sys2Proof/Machine/Slices.lean ====
section
/-! DEFINITION. Slices: one line access with its symbol and command codes (R156, R158, R161–R165), training and spares
(R164–R167), refresh and self-refresh (R168–R170), scrubbing (R175, R176) and STACK_CTRL (R183). -/

namespace Sys2Proof.Machine

/-- Withdraws a logical core under R24 with the 2 ms bound of R379. -/
def withdrawCore (key : Nat) (s : State) : State :=
  modCore s key (fun c => if c.withdrawn then c else { c with withdrawn := true, withdrawBy := some (s.now + 2000000) })

/-- A slice enters EVACUATE: event, withdrawal of its core and the lease of the evacuation (Table 5.4). -/
def enterEvacuate (key layer cause : Nat) (s : State) : State :=
  if (getSlice s key).state = 4 then s else
  let s := modSlice s key (fun x => { x with state := 4 })
  let s := sliceFault key 0x0204 5 (evSlice key layer) (BitVec.ofNat 64 cause) .ok (withdrawCore key s)
  (leaseAsk 3 (key / 64) (key % 64) (.evacuate key layer cause) true s).2

/-- A layer is marked erased (R164, R165), or, when another one is, the slice enters EVACUATE. -/
def eraseLayer (key layer cause : Nat) (s : State) : State :=
  match (getSlice s key).erased with
  | none => sliceFault key 0x0202 4 (evSlice key layer) 0 .ok (modSlice s key (fun x => { x with erased := some layer }))
  | some l => if l = layer then s else enterEvacuate key layer cause s

/-! ### Symbols and lanes (R155, R161) -/

/-- The layer of a symbol: data byte j is symbol j, check symbol q(i) is symbol 128 + i. -/
def symLayer (i : Nat) : Nat := if i < 128 then i / 8 else (i - 128) / 2

/-- The lane that carries bit t of a symbol. -/
def symLane (i t : Nat) : Nat := if i < 128 then 8 * (i % 8) + t else 64 + 8 * ((i - 128) % 2) + t

/-- The 160 symbols of a line as the layers hold them: its data bytes, then its check symbols. -/
def lineSymbols (s : State) (key line : Nat) : List Byte :=
  let data := sliceRead s key (128 * line) 128
  data ++ rsCheck data

/-- The symbols that a read of a line finds: its codeword with the errors of the layers (R161, R162). -/
def readSymbols (s : State) (key line : Nat) (errs : List (Nat × Byte)) : List Byte :=
  (lineSymbols s key line).zipIdx.map (fun p => errs.foldl (fun b e => if e.1 = p.2 then b ^^^ e.2 else b) p.1)

/-- The symbols in error, each once. -/
def errSymbols (errs : SymbolErrors) : List (Nat × Byte) :=
  ((errs.filter (fun e => e.2 != 0)).map (fun e => (e.1.val, e.2))).foldl (fun l e => if l.any (fun x => x.1 == e.1) then l else l ++ [e]) []

/-- The number of spares in use in a layer, from its SLICE_LANE_MAP word. -/
def sparesUsed (w : Word) : Nat := b2n (bit w 7) + b2n (bit w 15)

/-- A lane map word with one more lane replaced. -/
def spareIn (w : Word) (lane : Nat) : Word :=
  if !bit w 7 then setFld (setFld w 6 0 lane) 7 7 1 else setFld (setFld w 14 8 lane) 15 15 1

/-- Starts a spare switch-in. -/
def spareStart (key layer lane : Nat) (s : State) : State :=
  modSlice s key (fun x => { x with trainBusy := some 2, switchLayer := layer, switchLane := lane })

/-- The granted lease of a switch-in that waited: it runs, or, when the layer's spares have gone meanwhile, ends. -/
def spareGranted (key layer lane : Nat) (auto : Bool) (s : State) : State :=
  if sparesUsed (tget 0 (getSlice s key).laneMap layer) < 2 then spareStart key layer lane s
  else
    let s := leaseRelease 2 (key / 64) (key % 64) s
    if auto then eraseLayer key layer 1 s else modSlice s key (fun x => { x with trainResult := .rejected })

/-- A lane that failed (16 accesses with its bit errors within 1 s, R164, Table 5.4): a spare, at once or when its lease is
granted, else the erased mark. -/
def laneFailed (key layer lane : Nat) (s : State) : State :=
  let x := getSlice s key
  let s := modSlice s key (fun x => { x with laneErr := x.laneErr.filter (fun e => !(e.1 == layer && e.2.1 == lane)) })
  if sparesUsed (tget 0 x.laneMap layer) < 2 then
    if !x.autoSpare then s else
    match leaseAsk 2 (key / 64) (key % 64) (.laneSpare key layer lane true) true s with
    | (.granted, s) => spareStart key layer lane s
    | (_, s) => s
  else eraseLayer key layer 1 s

/-- The bookkeeping of a corrected access (Table 5.3, R164, R165): its counters, its record, its lanes and its layers. -/
def correctedAccess (key line : Nat) (erasure : Bool) (syms : List (Nat × Byte)) (s : State) : State :=
  let layers := (syms.map (fun e => symLayer e.1)).foldl addNew []
  let low := syms.foldl (fun m e => min m e.1) 159
  let s := modSlice s key (fun x => { x with
    errLog := pack [(40, line), (31, 1), (29, b2n erasure), (24, syms.length), (20, symLayer low)]
    recent := ((layers.foldl (fun m l => m + 2 ^ l) 0) :: x.recent).take 1024 })
  let s := countSlice key 0 1 (countSlice key 1 syms.length s)
  let s := syms.foldl (fun s e =>
    match (upto 8).filter (fun t => bit e.2 t) with
    | [t] =>
      let layer := symLayer e.1
      let lane := symLane e.1 t
      let s := modSlice s key (fun x => { x with
        laneErr := x.laneErr.filter (fun q => decide (s.now < q.2.2 + 1000000000)) ++ [(layer, lane, s.now)] })
      if 16 ≤ ((getSlice s key).laneErr.filter (fun q => q.1 == layer && q.2.1 == lane)).length then laneFailed key layer lane s
      else s
    | _ => s) s
  layers.foldl (fun s l =>
    if (getSlice s key).erased != some l && decide (64 ≤ ((getSlice s key).recent.filter (fun m => m.testBit l)).length)
    then eraseLayer key l 2 s else s) s

/-- The decode of a read (R162, Table 5.3), unless a queued write gives the whole line: whether it delivers the line, and whether it corrected a symbol outside an
erased layer. -/
def decodeLine (key line : Nat) (errs : SymbolErrors) (s : State) : Bool × Bool × State :=
  let x := getSlice s key
  let f := if x.erased.isSome then 10 else 0
  let syms := (errSymbols errs).filter (fun e => x.erased != some (symLayer e.1))
  if lineQueued s key line then (true, false, s)
  else if lineBad s key line || decide (32 < 2 * syms.length + f) then
    (false, false, lineFailed key s line)
  else if syms.isEmpty then (true, false, s)
  else (true, true, correctedAccess key line (f != 0) syms s)

/-- The command word's code (R156): whether the access goes on. -/
def commandWord (key : Nat) (cmd : CommandLanes) (s : State) : Bool × State :=
  match cmd with
  | [] => (true, s)
  | [l] =>
    let first := !(getSlice s key).caFault
    let s := countSlice key 3 1 (modSlice s key (fun x => { x with caFault := true, caLane := l.val }))
    (true, if first then sliceFault key 0x0201 5 (evSlice key) (BitVec.ofNat 64 l.val) .ok s else s)
  | _ =>
    (false, sliceFault key 0x0205 5 (evSlice key) 0 .ok (withdrawCore key (modSlice s key (fun x => { x with state := 5 }))))

/-- SLICE_ACCESS (R157, R158, R162, Table 5.4): one access that reaches the slice controller, other than a residency
manager's, so that a write to a TABLE frame or to the slice's own maps ends with KEY_FAULT (R187). A slice that is untrained
or retrains takes none. -/
def sliceAccessOp (key line : Nat) (op : SliceOp) (errs : SymbolErrors) (cmd : CommandLanes) (s : State) : State :=
  let x := getSlice s key
  let write := match op with
    | .read => none
    | .writeLine _ => some (128 * line, 128)
    | .writePart off data => some (128 * line + off.val, (data.take (128 - off.val)).length)
  if x.state = 0 || x.state = 2 || x.trainBusy.isSome then s
  else if write.any (fun w => touchesTables s key w.1 w.2) then ends .keyFault s
  else if x.state = 5 then ends .poisoned s
  else
    match commandWord key cmd (sliceTouch key s) with
    | (false, s) => ends .poisoned s
    | (true, s) =>
      match op with
      | .read =>
        match decodeLine key line errs s with
        | (ok, _, s) => ends (if ok then .ok else .poisoned) s
      | .writeLine data =>
        let bs := (data ++ List.replicate 128 0).take 128
        if x.state = 4 then ends .rejected s
        else if (getTile s (key / 64)).hold && !holdRoom s key 1 then s
        else ends .ok (sliceWrite key (128 * line) bs s)
      | .writePart off data =>
        let bs := data.take (128 - off.val)
        if x.state = 4 then ends .rejected s
        else if (getTile s (key / 64)).hold && !holdRoom s key 1 then s
        else
          match decodeLine key line errs s with
          | (false, _, s) => ends .poisoned s
          | (true, _, s) => ends .ok (sliceWrite key (128 * line + off.val) bs s)

/-! ### Refresh (R168–R170) -/

/-- The command interval in units of 1/1024 ns at a REFRESH_MULT code. DESIGN CHOICE (log entry 40). -/
def refreshUnits (m : Nat) : Nat := 4000000 / 2 ^ m

/-- The first scheduled command of slice n at or after a time, in units of 1/1024 ns. DESIGN CHOICE (log entry 40). -/
def nextRefreshAt (n i t : Nat) : Nat :=
  let phase := n * i / 64
  if t ≤ phase then phase else cdiv (t - phase) i * i + phase

/-- REFRESH_COMMAND: the next command of the slice's schedule, with a changed REFRESH_MULT in force from it on. -/
def refreshCommandOp (key : Nat) (s : State) : State :=
  let x := getSlice s key
  if x.state = 0 then s else
  let i := refreshUnits (getTile s (key / 64)).refreshMult
  let t := nextRefreshAt (key % 64) i (max (x.nextRefresh + 1) (1024 * s.now))
  countSlice key 5 1 (modSlice { s with now := max s.now (t / 1024) } key (fun x => { x with nextRefresh := t, refreshInterval := i }))

/-- Whether a core's group is in Sleep or Off, or the core's own position is Off. -/
def coreAsleep (s : State) (key : Nat) : Bool :=
  let g := getGroup s (key / 64) (groupOf key)
  g.pstate == .sleep || g.pstate == .off || bit g.off (posOf s key)

/-- SELF_REFRESH_ENTRY (R170). -/
def selfRefreshEntryOp (key : Nat) (s : State) : State :=
  let x := getSlice s key
  if x.state != 1 || !coreAsleep s key || x.trainBusy.isSome then s else
  modSlice { s with now := max s.now (x.lastAccess + 10000) } key (fun x => { x with state := 3 })

/-! ### Scrubbing (R175, R176) -/

/-- SCRUB_READ. Like any access it takes the slice out of self-refresh (R170). -/
def scrubReadOp (key : Nat) (errs : SymbolErrors) (s : State) : State :=
  let x := getSlice s key
  if !x.scrubEn || !(x.state == 1 || x.state == 3 || x.state == 4) || x.trainBusy.isSome then s else
  let line := x.scrubNext
  let s := countSlice key 7 1 (modSlice (sliceTouch key s) key (fun x => { x with
    scrubNext := (line + 1) % 2 ^ 24
    scrubPasses := if line + 1 = 2 ^ 24 then x.scrubPasses + 1 else x.scrubPasses }))
  match decodeLine key line errs s with
  | (_, corrected, s) => if corrected then modSlice s key (fun x => { x with scrubPending := some line }) else s

/-- SCRUB_WRITEBACK: the corrected line is rewritten, an access as any other (R167, R170); under a write hold it is not, and counts
(Table 5.7). -/
def scrubWritebackOp (key : Nat) (s : State) : State :=
  let x := getSlice s key
  if x.scrubPending.isNone || x.trainBusy.isSome || x.state == 2 then s else
  let s := modSlice s key (fun x => { x with scrubPending := none })
  if (getTile s (key / 64)).hold then countSlice key 8 1 s else sliceTouch key s

/-! ### Training on request (R167, R182) -/

/-- Whether a slice's logical core is withdrawn or Off. -/
def coreWithdrawnOrOff (s : State) (key : Nat) : Bool :=
  (getCore s key).withdrawn || (getGroup s (key / 64) (groupOf key)).pstate == .off ||
  bit (getGroup s (key / 64) (groupOf key)).off (posOf s key)

/-- The end of a request that does not run: RESULT and the write's code. -/
def trainRefuse (key : Nat) (c : Code) (s : State) : State := ends c (modSlice s key (fun x => { x with trainResult := c }))

/-- Starts a full retraining. DEDUCED (log entry 43). -/
def retrainStart (key : Nat) (s : State) : State :=
  modSlice s key (fun x => { x with trainBusy := some 1, prevState := x.state, state := 2 })

/-- Whether a request runs or waits for its lease. -/
def trainRuns (s : State) (key : Nat) : Bool :=
  (getSlice s key).trainBusy.isSome || s.topo.leaseWaits.any (fun l =>
    l.act == .sliceRetrain key || (match l.act with | .laneSpare k _ _ false => k == key | _ => false))

/-- FULL_RETRAINING: START 1. -/
def fullRetrainingOp (rq : Requester) (key : Nat) (s : State) : State :=
  withExpert rq 1 s fun s =>
    if trainRuns s key then ends (if coreWithdrawnOrOff s key then .retryLater else .rejected) s
    else if leaseDecide s 1 (key / 64) (key % 64) != .conflict && !coreWithdrawnOrOff s key then trainRefuse key .rejected s
    else
      match leaseAsk 1 (key / 64) (key % 64) (.sliceRetrain key) false s with
      | (.granted, s) => ends .ok (retrainStart key s)
      | (.waits, s) => ends .ok s
      | (.full, s) => ends .retryLater s
      | (.conflict, s) => trainRefuse key .conflict s

/-- SPARE_SWITCH_IN: START 2. -/
def spareSwitchInOp (rq : Requester) (key layer lane : Nat) (s : State) : State :=
  withExpert rq 1 s fun s =>
    let spent := decide (2 ≤ sparesUsed (tget 0 (getSlice s key).laneMap layer))
    if decide (80 ≤ lane) && (trainRuns s key || leaseDecide s 2 (key / 64) (key % 64) != .conflict) then ends .rejected s
    else if trainRuns s key then ends (if spent then .rejected else .retryLater) s
    else if leaseDecide s 2 (key / 64) (key % 64) != .conflict && spent then trainRefuse key .rejected s
    else
      match leaseAsk 2 (key / 64) (key % 64) (.laneSpare key layer lane false) false s with
      | (.granted, s) => ends .ok (spareStart key layer lane (modSlice s key (fun x => { x with trainLayer := layer, trainLane := lane })))
      | (.waits, s) => ends .ok (modSlice s key (fun x => { x with trainLayer := layer, trainLane := lane }))
      | (.full, s) => ends .retryLater s
      | (.conflict, s) => trainRefuse key .conflict s

/-- The lane maps that training loads: the first two failed lanes of each layer replaced. -/
def laneMaps (failed : List (Nat × Nat)) : Tab Word :=
  (upto 16).foldl (fun t l => tset 0 t l (((failed.filter (fun p => p.1 == l)).take 2).foldl (fun w p => spareIn w p.2) 0)) []

/-- The lanes of a slice that spares replace. -/
def sparedLanes (m : Tab Word) : List (Nat × Nat) :=
  m.flatMap (fun p => (if bit p.2 7 then [(p.1, fld p.2 6 0)] else []) ++ (if bit p.2 15 then [(p.1, fld p.2 14 8)] else []))

/-- The failed lanes that a training found take the place of the slice's lane map: each lane that a spare newly replaces counts
(Table 5.5 steps 3 and 4, SPARE_SWITCHES). -/
def laneMapLoad (key : Nat) (failed : List (Nat × Nat)) (s : State) : State :=
  let old := sparedLanes (getSlice s key).laneMap
  ((sparedLanes (laneMaps failed)).filter (fun p => !old.contains p)).foldl (fun s _ => countSlice key 4 1 s)
    (modSlice s key (fun x => { x with laneMap := laneMaps failed }))

/-- The layers with more failed lanes than spares. -/
def overLayers (failed : List (Nat × Nat)) : List Nat :=
  (upto 16).filter (fun l => decide (2 < (failed.filter (fun p => p.1 == l)).length))

/-- SLICE_RETRAIN_DONE: RESULT, the new lane map, the erased mark and the lease (R165, R167). The slice takes up the STATE it
had before. DESIGN CHOICE (log entry 139). -/
def sliceRetrainDoneOp (key : Nat) (r : RetrainResult) (s : State) : State :=
  let x := getSlice s key
  match x.trainBusy with
  | none => s
  | some 2 =>
    let s := modSlice s key (fun x => { x with
      trainBusy := none, trainResult := .ok
      laneMap := tput x.laneMap x.switchLayer (spareIn (tget 0 x.laneMap x.switchLayer) x.switchLane) })
    countSlice key 4 1 (leaseRelease 2 (key / 64) (key % 64) s)
  | some _ =>
    let failed := (r.failedLanes.map (fun p => (p.1.val, p.2.toNat))).filter (fun p => decide (p.2 < 80))
    let s := modSlice s key (fun x => { x with
      trainBusy := none, trainResult := .ok, state := x.prevState
      erased := if r.patternOk then none else x.erased })
    (overLayers failed).foldl (fun s l => eraseLayer key l 1 s) (leaseRelease 1 (key / 64) (key % 64) (laneMapLoad key failed s))

/-! ### STACK_CTRL (R183) -/

/-- Whether a tile serves an accepted interactive or prefill stream. -/
def tileServes (s : State) (t : Nat) : Bool :=
  s.streams.any (fun p => p.2.state != .free && decide (p.2.cls < 2) &&
    (match s.models.find? (fun m => m.1 == p.2.model) with | some m => bit m.2.mask t | none => false))

/-- STACK_CTRL_WRITE. -/
def stackCtrlWriteOp (rq : Requester) (t : Nat) (v : Word) (s : State) : State :=
  withExpert rq 1 s fun s =>
    let own := fld v 11 8
    if own < fld (getTile s t).stackCtrl 11 8 && tileServes s t then ends .conflict s
    else if own + fld v 7 4 + fld v 3 0 != 16 || decide (own < 8) then ends .rejected s
    else ends .ok (modTile s t (fun x => { x with stackCtrl := v &&& 0xFFF }))

end Sys2Proof.Machine
end

