-- ==== Sys2Proof/Machine/RemoteBase.lean ====
section
/-! DEFINITION. RemoteBase: global physical addresses, the transactions of an endpoint (R304), the import table (R307),
and how a request of chapter 9 or a bulk transfer of Table 8.5 is put into a packet and sent. -/

namespace Sys2Proof.Machine

/-! ### Addresses (Table 1.4) -/

def gModule (a : Nat) : Nat := nbits a 63 50
def gTile (a : Nat) : Nat := nbits a 49 45
def gCore (a : Nat) : Nat := nbits a 44 39
def gSpace (a : Nat) : Nat := nbits a 38 36
def gOff (a : Nat) : Nat := nbits a 35 0

/-- A global physical address from its fields. -/
def gpaMake (module tile core space off : Nat) : Nat := module <<< 50 + tile <<< 45 + core <<< 39 + space <<< 36 + off

/-- The global physical address of a place of a frame, with an offset in it. -/
def placeGpa (p : Place) (off : Nat) : Nat := gpaMake p.module p.tile p.core 0 (p.frame * 65536 + off)

/-! ### Import and region entries (Tables 9.5, 9.6) -/

/-- The first line and the number of lines of a region entry. -/
def regBase (w1 : Word) : Nat := fld w1 63 40
def regLines (w1 : Word) : Nat := fld w1 39 15

/-- Whether n bytes at an address lie in the range of an entry: the same core, space and lines. -/
def entryCovers (w0 w1 : Word) (a n : Nat) : Bool :=
  gSpace a == fld w0 57 57 && gCore a == fld w0 37 32 &&
  decide (regBase w1 ≤ gOff a / 128) && decide ((gOff a + n - 1) / 128 < regBase w1 + regLines w1)

/-- Whether Table 1.5 refuses an address in another module at its source, whatever its OFFSET. -/
def gpaRefused (a : Nat) : Bool :=
  (decide (23 < gTile a) && gTile a != 30) || decide (3 < gSpace a) || (gTile a == 30 && (gCore a != 0 || gSpace a != 3))

/-- The KEY and REGION that R307 places in a request of n bytes for an address in another module; `region` is the
REGION of the page-table entry of a translated access. DEDUCED (log entry 77). -/
def selectImport (p : Port) (a n : Nat) (region : Option Nat) : Option (Nat × Nat) :=
  (p.imports.find? (fun e =>
    bit e.2.1 63 && fld e.2.2.2 63 50 == gModule a && fld e.2.2.2 49 45 == gTile a && entryCovers e.2.1 e.2.2.1 a n &&
    (match region with | none => true | some r => fld e.2.2.2 44 31 == r))).map
    (fun e => (fld e.2.1 31 0, fld e.2.2.2 44 31))

/-! ### Transactions (R304, R47) -/

/-- The outstanding transactions of a core of a tile. -/
def coreOps (p : Port) (core : Nat) : Nat := (p.ops.filter (fun o => o.core == core)).length

/-- Whether a core may take one more transaction. -/
def remRoom (s : State) (key : Nat) : Bool :=
  let p := getPort s (key / 64)
  decide (coreOps p (key % 64) < 256) && decide (p.ops.length < 16384)

/-- A transaction with no fields of its kind set. -/
def remBlank (txn core : Nat) (kind : RemKind) : RemOp :=
  ⟨txn, core, kind, 0, 0, 0, 0, 0, 0, 0, 0, 0, 0, none, none, [], []⟩

/-- Adds a transaction under the endpoint's next TXN, and answers the TXN. -/
def remAdd (t : Nat) (mk : Nat → RemOp) (s : State) : Nat × State :=
  let n := (getPort s t).txn
  (n, modPort s t (fun p => { p with txn := (p.txn + 1) % 2 ^ 32, ops := p.ops ++ [mk n] }))

/-- The transaction of a TXN. -/
def findOp (s : State) (t txn : Nat) : Option RemOp := (getPort s t).ops.find? (fun o => o.txn == txn)

/-- The port with a transaction replaced, or removed. -/
def setOp (o : RemOp) (p : Port) : Port := { p with ops := p.ops.map (fun x => if x.txn = o.txn then o else x) }
def dropOp (txn : Nat) (p : Port) : Port := { p with ops := p.ops.filter (fun x => x.txn != txn) }

/-- The TXN that a request carries, and whether a packet is a request of this chapter or of Table 8.5. -/
def pTxn (p : Packet) : Nat := fld p.w5 31 0
def isRequest (p : Packet) : Bool := (decide (1 ≤ pType p) && decide (pType p ≤ 5)) || pType p == 0x20 || pType p == 0x21

/-- Notes the time at which a transaction's packet left the endpoint's queue. -/
def stampSent (t : Nat) (s : State) : State :=
  modPort s t (fun p => { p with ops := p.ops.map (fun o =>
    if o.sentNs.isNone && o.waitPage.isNone && !p.queue.any (fun q => isRequest q.2 && pTxn q.2 == o.txn)
    then { o with sentNs := some s.now } else o) })

/-- The MSG_TYPE of a transaction's request. -/
def kindType : RemKind → Nat
  | .load _ | .const => 1 | .store => 2 | .atomic _ => 3 | .reduce _ => 4 | .mcast _ => 5
  | .moveRead _ _ | .pageRead _ => 0x21
  | .moveWrite _ _ | .pageWrite _ | .batchWrite _ => 0x20

/-- The OP field of a transaction's request (Tables 9.1, 9.2). -/
def kindOp : RemKind → Nat
  | .load signed => b2n signed
  | .mcast _ => 1
  | .atomic op | .reduce op => op
  | _ => 0

/-- Whether an OP of ATOMIC is CAS, whose packet carries COMPARE. -/
def kindCas : RemKind → Bool
  | .atomic 9 => true
  | _ => false

/-- Sends the request of a transaction with its KEY and REGION (Table 9.4). -/
def remSend (t : Nat) (o : RemOp) (key region : Nat) (s : State) : State :=
  let w4 := pack [(32, key), (18, region), (12, kindOp o.kind), (10, o.size)]
  let w5 := BitVec.ofNat 64 o.txn
  let target := BitVec.ofNat 64 o.gpa
  let bytes := if kindCas o.kind then leBytes 64 o.compare.toNat else []
  stampSent t (match o.kind with
    | .mcast g =>
      let id := (getPort s t).msgId
      let p := mkPkt s.myModule t g (gTile o.gpa) 5 id 1 0 (BitVec.ofNat 64 (o.gpa % 2 ^ 50)) w4 w5 o.operand []
      sendFlow t { p with w0 := setFld p.w0 48 48 1 } (modPort s t (fun x => { x with msgId := (x.msgId + 1) % 65536 }))
    | _ => sendMsg t (gModule o.gpa) (gTile o.gpa) (kindType o.kind) target w4 w5 o.operand bytes s)

/-- Asks another module for n bytes (MOVE_READ): false when no import qualifies. The transaction keeps its length in
`size`. -/
def bulkRead (t core : Nat) (kind : RemKind) (operand : Nat) (compare : Nat) (a n : Nat) (region : Option Nat) (s : State) :
    Option (Nat × State) :=
  match selectImport (getPort s t) a n region with
  | none => none
  | some (key, reg) =>
    let (txn, s) := remAdd t (fun n' => { remBlank n' core kind with
      operand := BitVec.ofNat 64 operand, compare := BitVec.ofNat 64 compare, gpa := a, module := gModule a, tile := gTile a, size := n }) s
    some (txn, stampSent t (sendMsg t (gModule a) (gTile a) 0x21 (BitVec.ofNat 64 a) (pack [(32, key), (18, reg)])
      (pack [(51, n), (0, txn)]) 0 [] s))

/-- Sends bytes to another module (MOVE_WRITE): none when no import qualifies. -/
def bulkWrite (t core : Nat) (kind : RemKind) (a : Nat) (bs : List Byte) (region : Option Nat) (s : State) :
    Option (Nat × State) :=
  match selectImport (getPort s t) a bs.length region with
  | none => none
  | some (key, reg) =>
    let (txn, s) := remAdd t (fun n' => { remBlank n' core kind with gpa := a, module := gModule a, tile := gTile a, size := bs.length }) s
    some (txn, stampSent t (sendMsg t (gModule a) (gTile a) 0x20 (BitVec.ofNat 64 a) (pack [(32, key), (18, reg)])
      (BitVec.ofNat 64 txn) 0 bs s))

/-! ### Tiles -/

/-- The tiles in service, ascending. -/
def tilesInService (s : State) : List Nat := (upto 24).filter (fun t => (getTile s t).inService)

end Sys2Proof.Machine
end

