-- ==== Sys2Proof/Machine/Erasure.lean ====
section
/-! DEFINITION. Erasure: the Cauchy code of R213, the recovery of any shard of a stripe from K
others, and 64 KiB pages as sparse tables. -/

namespace Sys2Proof.Machine

/-- The coefficient a(j, i) of R213. -/
def cauchy (j i : Nat) : Byte := ginv (BitVec.ofNat 8 (j ^^^ (4 + i)))

/-- The row of shard s over the K data pages of a stripe. -/
def shardRow (k s : Nat) : List Byte :=
  (upto k).map (fun i => if s < k then (if i = s then 1 else 0) else cauchy (s - k) i)

/-! ### Recovery -/

/-- c times a row. -/
def rowScale (c : Byte) (r : List Byte) : List Byte := r.map (gmul c)

/-- A row less c times another. -/
def rowSub (r q : List Byte) (c : Byte) : List Byte := List.zipWith (fun x y => x ^^^ gmul c y) r q

/-- Gauss–Jordan elimination of columns c, c + 1, …: `done_` holds the rows whose pivots stand in the earlier columns. -/
def eliminate : Nat → Nat → List (List Byte) → List (List Byte) → List (List Byte)
  | 0, _, done_, _ => done_
  | fuel + 1, c, done_, rest =>
    match rest.find? (fun r => r.getD c 0 != 0) with
    | none => done_
    | some p =>
      let p' := rowScale (ginv (p.getD c 0)) p
      let clear (r : List Byte) := rowSub r p' (r.getD c 0)
      eliminate fuel (c + 1) (done_.map clear ++ [p']) ((rest.erase p).map clear)

/-- The coefficients with which the K shards `srcs` of a stripe give shard `want` (R213). -/
def recover (k : Nat) (srcs : List Nat) (want : Nat) : List Byte :=
  let rows := srcs.map (shardRow k)
  let target := shardRow k want
  let system := (upto k).map (fun i => rows.map (fun r => r.getD i 0) ++ [target.getD i 0])
  (eliminate k 0 [] system).map (fun r => r.getD k 0)

/-! ### Pages -/

/-- Bytes [off, off + n) of a table, from offset 0. -/
def tabSlice (t : Tab Byte) (off n : Nat) : Tab Byte :=
  (t.filter (fun p => decide (off ≤ p.1) && decide (p.1 < off + n))).map (fun p => (p.1 - off, p.2))

/-- A table with bytes [off, off + n) replaced. -/
def tabPut (t : Tab Byte) (off n : Nat) (x : Tab Byte) : Tab Byte :=
  t.filter (fun p => decide (p.1 < off)) ++ x.map (fun p => (p.1 + off, p.2)) ++ t.filter (fun p => decide (off + n ≤ p.1))

/-- A table plus c times another. -/
def tabAddScaled (c : Byte) (t x : Tab Byte) : Tab Byte :=
  x.foldl (fun t p => tset 0 t p.1 (tget 0 t p.1 ^^^ gmul c p.2)) t

/-- The 64 KiB of a frame as a read sees them: held writes included (R158, R172). -/
def pageOf (s : State) (key frame : Nat) : Tab Byte :=
  let o := frame * 65536
  (getSlice s key).heldWrites.foldl (fun t w =>
    if o ≤ w.1 ∧ w.1 < o + 65536 then memWrite t (w.1 - o) w.2.2 else t) (tabSlice (getSlice s key).data o 65536)

/-- The uncorrectable lines of a frame. -/
def pageBadLines (s : State) (key frame : Nat) : List Nat :=
  ((getSlice s key).bad.filter (fun p => p.1 / 512 == frame && lineBad s key p.1)).map (·.1)

/-- A read of a whole frame by the page mover: its bytes, unless the slice is out of service or a line is uncorrectable, and
what the read leaves (Tables 5.3 and 5.4, R170). -/
def pageLoad (key frame : Nat) (s : State) : Option (Tab Byte) × State :=
  if sliceOut s key then (none, s) else
  match pageBadLines s key frame with
  | [] => (some (pageOf s key frame), sliceAccess key 512 s)
  | l => (none, l.foldl (lineFailed key) (sliceAccess key 512 s))

/-- Writes a whole page into a frame. -/
def putPage (key frame : Nat) (t : Tab Byte) (s : State) : State :=
  modSlice s key (fun sl => { sl with
    data := tabPut sl.data (frame * 65536) 65536 t
    bad := sl.bad.filter (fun p => p.1 / 512 != frame)
    lastAccess := s.now
    accesses := sl.accesses + 512
    state := if sl.state = 3 then 1 else sl.state
    scrubPending := sl.scrubPending.filter (fun l => l / 512 != frame) })

/-- The 65,536 bytes of a page. -/
def pageBytes (t : Tab Byte) : List Byte := (upto 65536).map (tget 0 t)

/-- The CRC-32C of a page (Table 6.12). -/
def pageCrc (t : Tab Byte) : BitVec 32 := crc32c (pageBytes t)

/-- A shard of a stripe from the pages of K others. -/
def recoverPage (k : Nat) (pages : List (Nat × Tab Byte)) (want : Nat) : Tab Byte :=
  (List.zip (recover k (pages.map (·.1)) want) pages).foldl (fun t p => tabAddScaled p.1 t p.2.2) []

/-- The parity page j of K data pages (R213). -/
def parityPage (pages : List (Tab Byte)) (j : Nat) : Tab Byte :=
  pages.zipIdx.foldl (fun t p => tabAddScaled (cauchy j p.2) t p.1) []

end Sys2Proof.Machine
end

