-- ==== Sys2Proof/Machine/Frames.lean ====
section
/-! DEFINITION. Frames: the frames of the residency managers: placement and allocation (R197–R200), eviction (R201),
invalidation rounds (R195), translation caches (R194), shard sets (R214–R216) and frames in other modules (R196). -/

namespace Sys2Proof.Machine

def getRes (s : State) (t : Nat) : ResTile := tget resInit s.res t
def putRes (s : State) (t : Nat) (r : ResTile) : State := { s with res := tput s.res t r }
def modRes (s : State) (t : Nat) (f : ResTile → ResTile) : State := putRes s t (f (getRes s t))

/-- The key of a core's slice that a place names. -/
def placeKey (p : Place) : Nat := ck p.tile p.core
/-- The place that an entry names. -/
def ptePlace (p : Pte) : Place := ⟨p.module, p.tile, p.core, p.frame⟩

/-- The RES_FAULT_LOG record of a residency fault. -/
def resLog (t kind space va : Nat) (c : Code) (s : State) : State :=
  modRes s t (fun r => { r with faultLog := pack [(52, space), (16, va / 65536), (8, codeNum c), (7, 1), (4, kind)] })

/-- The DETAIL of a residency event. -/
def resDetail (space va : Nat) : Word := pack [(52, space), (0, va)]

/-- A refusal for want of a frame (R199) or of quota (R200). -/
def noFrame (t space va : Nat) (s : State) : State :=
  raise (mkEv 0x0303 clsFault 1 7 t 0 evW2 (resDetail space va) .retryLater) (resLog t 2 space va .retryLater s)
def quotaRefused (t space va : Nat) (s : State) : State :=
  raise (mkEv 0x0304 clsNotice 1 6 t 0 evW2 (resDetail space va) .rejected) (resLog t 3 space va .rejected s)

/-! ### Free frames -/

/-- The frames in use of a slice. -/
def usedIn (s : State) (key : Nat) : List Nat := (s.frames.filter (fun p => p.1 / 32768 == key)).map (fun p => p.1 % 32768)

/-- The first run of `step` free frames at or above f, a multiple of `step` from f. -/
def firstFree (used : List Nat) (step : Nat) : Nat → Nat → Option Nat
  | 0, _ => none
  | fuel + 1, f =>
    if 32768 < f + step then none
    else if used.any (fun u => decide (f ≤ u) && decide (u < f + step)) then firstFree used step fuel (f + step)
    else some f

/-- The lowest free frame of a slice, or run of n: of 32 aligned to 32 (R202). DESIGN CHOICE (log entry 141). -/
def freeFrame (s : State) (key n : Nat) : Option Nat :=
  let used := usedIn s key
  firstFree used n (used.length + 1) (if n = 32 then 32 else 8)

/-- Whether a slice takes allocations (R198). -/
def sliceUsable (s : State) (key : Nat) : Bool :=
  let st := (getSlice s key).state
  (getTile s (key / 64)).inService && (st == 1 || st == 3)

/-- USED of a space in a tile (TIN_FRAMES). -/
def framesUsed (s : State) (space t : Nat) : Nat :=
  (s.frames.filter (fun p => p.1 / 32768 / 64 == t && p.2.space == space)).length

/-- Whether n more frames of a space keep its quota in a tile (R200). -/
def quotaOk (s : State) (space t n : Nat) : Bool :=
  match getSpace s space with
  | some r => decide (framesUsed s space t + n ≤ r.quota)
  | none => false

/-- Marks n frames from f of a slice as allocated. -/
def markFrames (key f n space vpn : Nat) (shard exported : Bool) (s : State) : State :=
  (upto n).foldl (fun s i =>
    let e : Frame := ⟨space, vpn + i, false, decide (1 < n) && i == 0, decide (0 < i), exported, shard⟩
    { s with frames := tput s.frames (fkey key (f + i)) e }) s

/-- Marks n frames from f of a slice TABLE: page tables, space records or shard set data (Table 6.6). -/
def markTable (key f n : Nat) (s : State) : State :=
  (upto n).foldl (fun s i => { s with frames := tput s.frames (fkey key (f + i)) ⟨0, 0, true, false, false, false, false⟩ }) s

/-- Frees frames by their keys; exported frames stay (R196). -/
def freeFrames (fs : List Nat) (s : State) : State :=
  { s with frames := s.frames.filter (fun p => !(fs.contains p.1) || p.2.exported) }

/-- The keys of n frames of this module at a place; none for a place in another module. -/
def placeFrames (s : State) (p : Place) (n : Nat) : List Nat :=
  if p.module = s.myModule then (upto n).map (fun i => fkey (placeKey p) (p.frame + i)) else []

/-- Whether any frame at a place is exported. -/
def placeExported (s : State) (p : Place) (n : Nat) : Bool :=
  (placeFrames s p n).any (fun k => match s.frames.find? (fun q => q.1 == k) with | some q => q.2.exported | none => false)

/-! ### Shard sets (R214–R216) -/

/-- The state with a shard set changed. -/
def modSet (s : State) (i : Nat) (f : ShardSet → ShardSet) : State :=
  { s with sets := s.sets.map (fun p => if p.1 = i then (p.1, f p.2) else p) }

/-- The binding of a space that covers a page, and the page's number in its set. -/
def bindingOf (s : State) (space vpn : Nat) : Option (Nat × Nat) :=
  match getSpace s space with
  | none => none
  | some r => (r.bindings.find? (fun b => decide (b.base ≤ vpn) && decide (vpn < b.base + b.pages))).bind
      (fun b => (getSet? s b.set).bind (fun x => if x.base ≤ vpn ∧ vpn < x.base + x.pages then some (b.set, vpn - x.base) else none))

/-- Whether a valid backing shard set covers a page (R201). -/
def backed (s : State) (space vpn : Nat) : Bool :=
  match bindingOf s space vpn with
  | none => false
  | some (i, p) => match getSet? s i with
    | none => false
    | some x => x.state != 0 && x.state != 4 && decide (x.k ≤ (validShards (stripeOf x (p / x.k))).length)

/-- STATE of a set whose ENCODE has completed. -/
def setRefresh (x : ShardSet) : ShardSet :=
  { x with state := if x.m < worstMissing x then 4 else if x.stripes.any (fun l => l.any (·.rebuilding)) then 3
      else if 0 < worstMissing x then 2 else 1 }

/-- A page's entry becomes LOST (R209, R216). -/
def setLost (t pk : Nat) (s : State) : State :=
  countTile t 12 1 (resLog t 1 (pkSpace pk) (pkVpn pk * 65536) .poisoned
    (modPte s pk (fun p => { pteInit with ty := .lost, big := p.big, rd := p.rd, wr := p.wr, ex := p.ex })))

/-- The stripe of a set is lost: its ABSENT pages become LOST, and STRIPE_LOST (R216). -/
def stripeLost (t i n : Nat) (s : State) : State :=
  match getSet? s i with
  | none => s
  | some x =>
    let gone := s.pages.filter (fun p => p.2.ty == .absent && p.2.fill == 1 &&
      (upto (pkPages p.1)).any (fun j => match bindingOf s (pkSpace p.1) (pkVpn p.1 + j) with
        | some (i', q) => i' == i && q / x.k == n
        | none => false))
    let s := gone.foldl (fun s p => setLost t p.1 s) (modSet s i (fun x => { x with state := 4 }))
    raise (mkEv 0x0305 clsFault 1 7 t 0 evW2 (pack [(48, i), (0, n)])) (resLog t 4 x.space ((x.base + n * x.k) * 65536) .poisoned s)

/-- A shard becomes invalid (R216, SHARD_INVALID); the stripe is lost by it when one fewer than K stay valid. -/
def shardInvalid (t i n j : Nat) (s : State) : State :=
  match getSet? s i with
  | none => s
  | some x =>
    if !((stripeOf x n).getD j ⟨0, 0, 0, 0, false, false, 0⟩).valid then s else
    let s := modSet s i (fun x => setRefresh { x with stripes := x.stripes.modify n (fun l => l.modify j (fun h => { h with valid := false })) })
    let s := raise (mkEv 0x0306 clsNotice 1 7 t 0 evW2 (pack [(48, i), (32, j), (0, n)])) s
    match getSet? s i with
    | some x => if (validShards (stripeOf x n)).length + 1 = x.k then stripeLost t i n s else s
    | none => s

/-! ### Invalidation rounds and translation caches -/

/-- Drops the entries of a page range of a space from every translation cache. -/
def tlbDrop (space vpn pages : Nat) (s : State) : State :=
  { s with cores := s.cores.map (fun p => (p.1, { p.2 with tlb := p.2.tlb.filter (fun e =>
      !(e.1 == space && rangesOverlap e.2.1 (if e.2.2 then 32 else 1) vpn pages)) })) }

/-- The accesses translated to pages of a range that have not ended. -/
def flyingOps (s : State) (space vpn pages : Nat) : List (Nat × Nat) :=
  s.ports.flatMap (fun p => (p.2.ops.filter (fun o => o.waitPage.isNone && spaceOf o.space o.va == space &&
    decide (vpn ≤ o.va / 65536) && decide (o.va / 65536 < vpn + pages) &&
    (match o.kind with | .load _ | .const | .store | .mcast _ | .atomic _ | .reduce _ => true | _ => false))).map (fun o => (p.1, o.txn)))

/-- Starts an invalidation round of a tile (R195). -/
def startRound (t space vpn pages : Nat) (frees : List Nat) (remote : List Place) (cmd : Option Nat) (s : State) : State :=
  countTile t 9 1 (tlbDrop space vpn pages
    (modRes s t (fun r => { r with rounds := r.rounds ++ [⟨space, vpn, pages, frees, remote, cmd, flyingOps s space vpn pages⟩] })))

/-- A translation cache with one more entry: 256 entries of pages and 32 of large pages, first in, first out. DESIGN CHOICE
(log entry 140). -/
def tlbAdd (l : List (Nat × Nat × Bool)) (e : Nat × Nat × Bool) : List (Nat × Nat × Bool) :=
  let same := l.filter (fun x => x.2.2 == e.2.2)
  let drop := decide ((if e.2.2 then 32 else 256) ≤ same.length)
  (match same with
   | x :: _ => if drop then l.erase x else l
   | [] => l) ++ [e]

/-- The translation of an access of a core (R189, R190, R194): a walk that its cache does not spare reads its table lines,
and counts in WALKS unless it repeats one for an access that waits (`again`). -/
def translate (key space va : Nat) (a : Access) (system again : Bool) (s : State) : Walk × State :=
  let t := key / 64
  let walked (s : State) : State :=
    (walkLines s space va).foldl (fun s l => if sliceOut s l.1 then s else sliceTouch l.1 s) (if again then s else countTile t 3 1 s)
  let core := getCore s key
  let pk := leafKey s space va
  let e := (pkSpace pk, pkVpn pk, pkBig pk)
  let hit := core.tlb.contains e && (pkSpace pk != 0 || space == 0 || !va.testBit 47 || bit core.grants (nbits va 46 39))
  match walkWith hit s space va a system with
  | .at_ pk m tl c off reg =>
    let cached := (getPte s pk).ty == .page || (getPte s pk).ty == .large
    let s := if hit then s else walked (if cached && !core.tlb.contains e
      then putCore s key { core with tlb := tlbAdd core.tlb e } else s)
    (.at_ pk m tl c off reg, touchPte pk (a == .store) s)
  | .poisoned => (.poisoned, walkPoisoned t space va (walked s))
  | w => (w, if hit then s else walked s)

/-! ### Eviction (R201) -/

/-- The page key of the page that the frame at a key begins, when its entry names that frame; none for a shard, a table, a
tail, or a frame that another module's tables name. -/
def pageOfFrame (s : State) (k : Nat) (f : Frame) : Option Nat :=
  let pk := pkey f.space f.vpn f.head
  let p := getPte s pk
  if f.table || f.shard || f.tail then none
  else if (p.ty == .page || p.ty == .large || p.ty == .moving || p.ty == .filling) && p.module == s.myModule &&
    fkey (ck p.tile p.core) p.frame == k then some pk
  else none

/-- Whether a page may be evicted. -/
def evictable (s : State) (pk : Nat) : Bool :=
  let p := getPte s pk
  (p.ty == .page || p.ty == .large) && !p.pinned && !p.dirty && p.module == s.myModule &&
  !placeExported s (ptePlace p) (pkPages pk) && (upto (pkPages pk)).all (fun i => backed s (pkSpace pk) (pkVpn pk + i))

/-- The entry of an evicted page: ABSENT with FILL 1. -/
def evictedPte (p : Pte) : Pte :=
  { pteInit with ty := .absent, big := p.big, rd := p.rd, wr := p.wr, ex := p.ex, fill := 1, place := p.place, placeArg := p.placeArg, first := p.first }

/-- Evicts a page: its entry becomes ABSENT, and its frames are free at the end of the round. -/
def evictPage (t pk : Nat) (cmd : Option Nat) (s : State) : State :=
  let p := getPte s pk
  startRound t (pkSpace pk) (pkVpn pk) (pkPages pk) (placeFrames s (ptePlace p) (pkPages pk)) [] cmd
    (countTile t 7 1 (modPte s pk evictedPte))

/-- The clock over ACCESSED: clears it where it is set, and answers the first evictable page whose ACCESSED is clear. -/
def clockSweep : List (Nat × Frame) → State → Option (Nat × Nat) × State
  | [], s => (none, s)
  | (k, f) :: r, s =>
    match pageOfFrame s k f with
    | none => clockSweep r s
    | some pk =>
      if (getPte s pk).accessed then clockSweep r (modPte s pk (fun p => { p with accessed := false }))
      else if evictable s pk then (some (k, pk), s)
      else clockSweep r s

/-- Evicts one page of a tile: false when none is evictable. DESIGN CHOICE (log entry 47). -/
def evictOne (t : Nat) (s : State) : Bool × State :=
  let fs := s.frames.filter (fun p => p.1 / 32768 / 64 == t)
  let hand := (getRes s t).clockHand
  let l := fs.filter (fun p => decide (hand ≤ p.1)) ++ fs.filter (fun p => decide (p.1 < hand))
  match clockSweep (l ++ l) s with
  | (none, s) => (false, s)
  | (some (k, pk), s) => (true, evictPage t pk none (modRes s t (fun r => { r with clockHand := k + 1 })))

/-! ### Placement and allocation (R198–R200) -/

/-- The slice that Table 6.7 picks for page i of a range: `w3` is word 3 of the command, `miss` the core that misses
first. None for REMOTE and when no tile is in service. SPREAD counts the cores of the tiles in service, and begins again
after the last. DESIGN CHOICE (log entry 142). -/
def pickSlice (s : State) (place : Nat) (w3 i : Nat) (miss : Option Nat) : Option Nat :=
  let named := ck (nbits w3 49 45) (nbits w3 44 39)
  let ts := tilesInService s
  match place with
  | 0 => some (miss.getD named)
  | 1 => some named
  | 2 => (ts[i % ts.length]?).map (fun t => ck t ((nbits w3 44 39 + i / ts.length) % 64))
  | 3 => (ts[i % 1536 / 64 % ts.length]?).map (fun t => ck t (i % 64))
  | _ => none

/-- How an allocation ends. -/
inductive Alloc where
  | got (key frame : Nat)
  | wait
  | quota
  | noRun
  | none_
  deriving DecidableEq, Repr

/-- The free slice of a tile from a core upward, wrapping at 63. -/
def freeInTile (s : State) (t core n : Nat) : Option (Nat × Nat) :=
  (upto 64).findSome? (fun i =>
    let key := ck t ((core + i) % 64)
    if sliceUsable s key then (freeFrame s key n).map (fun f => (key, f)) else none)

/-! ### Compaction (R202) -/

/-- Adds a transfer to a tile's page mover, under a number of its own. -/
def addXfer (t : Nat) (x : Xfer) (s : State) : Nat × State :=
  (s.nextId, modRes { s with nextId := s.nextId + 1 } t (fun r => { r with xfers := r.xfers ++ [{ x with id := s.nextId }] }))

/-- A transfer with nothing named yet. -/
def xferBlank (kind : XferKind) (key : Option Nat) (move : Bool) (cmd : Option Nat) : Xfer :=
  ⟨0, kind, key, (match key with | some k => pkBig k | none => false), move, ⟨0, 0, 0, 0⟩, ⟨0, 0, 0, 0⟩, 0, [], [], [], 0, 0, 0, 0, 0, cmd, 0, none, none, false⟩

/-- Whether compaction may move the page of the frame at a key. -/
def frameMovable (s : State) (k : Nat) (f : Frame) : Bool :=
  !f.head && !f.exported && (match pageOfFrame s k f with
    | none => false
    | some pk => (getPte s pk).ty == .page && !(getPte s pk).pinned)

/-- The run of 32 frames of a slice that is cheapest to empty: all its pages movable, fewest pages, lowest. -/
def compactRun (s : State) (key : Nat) : Option (Nat × List (Nat × Frame)) :=
  let fs := s.frames.filter (fun p => p.1 / 32768 == key)
  let runs := (fs.map (fun p => p.1 % 32768 / 32)).foldl addNew []
  let ok := (runs.filter (fun r => r != 0)).filterMap (fun r =>
    let l := fs.filter (fun p => p.1 % 32768 / 32 == r)
    if l.all (fun p => frameMovable s p.1 p.2) then some (r, l) else none)
  ok.foldl (fun m x => match m with
    | none => some x
    | some y => if x.2.length < y.2.length then some x else m) none

/-- Whether a tile's page mover is compacting a slice. -/
def compacting (s : State) (t key : Nat) : Bool := (getRes s t).xfers.any (fun x => x.kind == .compact && x.core == key)

/-- Starts the compaction of a slice that has 32 free frames and no free aligned run: false when it cannot help. -/
def compactSlice (t key : Nat) (s : State) : Bool × State :=
  if compacting s t key then (true, s)
  else if 32760 < (usedIn s key).length + 32 then (false, s)
  else match compactRun s key with
    | none => (false, s)
    | some (r, l) => (true, l.foldl (fun s p => match pageOfFrame s p.1 p.2 with
        | none => s
        | some pk => (addXfer t { xferBlank .compact (some pk) true none with core := key, stripe := r } s).2) s)

/-- The steps of R199 within one tile: a free frame or run, else an eviction that is awaited, or for a large page a
compaction, which alone makes it a run (R202). -/
def allocTile (t core space n : Nat) (evict : Bool) (s : State) : Alloc × State :=
  if !quotaOk s space t n then (.quota, s) else
  match freeInTile s t core n with
  | some (key, f) => (.got key f, s)
  | none =>
    if (getRes s t).rounds.any (fun r => !r.frees.isEmpty) then (.wait, s)
    else if n = 32 then
      match (upto 64).foldl (fun (r : Bool × State) i =>
        let key := ck t ((core + i) % 64)
        if r.1 || !sliceUsable r.2 key then r else compactSlice t key r.2) (false, s) with
      | (true, s) => (.wait, s)
      | (false, s) => (.noRun, s)
    else if !evict then (.none_, s)
    else match evictOne t s with
      | (true, s) => (.wait, s)
      | (false, s) => (.none_, s)

/-- The tiles of R199 after the picked one: in ascending hop count, and in ascending number among equals. -/
def tilesByHops (s : State) (t : Nat) : List Nat :=
  (upto 9).flatMap (fun h => (tilesInService s).filter (fun u => u != t && hops t u == h))

/-- Whether the module has no free frame and nothing that may be evicted (R199). -/
def moduleFull (s : State) : Bool :=
  (tilesInService s).all (fun t => (freeInTile s t 0 1).isNone) &&
  !s.frames.any (fun p => (pageOfFrame s p.1 p.2).any (evictable s))

/-- An allocation of n frames for a page of a space, from the slice that the placement picks; a further tile is entered at
the same core number (R199). A large page for which no run is found ends without an event (R202) unless the module is full. DESIGN CHOICE
(log entries 47, 141). -/
def allocate (key space n : Nat) (evict : Bool) (s : State) : Alloc × State :=
  let r := (key / 64 :: tilesByHops s (key / 64)).foldl (fun (r : Alloc × State) t =>
    match r.1 with
    | .none_ | .noRun => allocTile t (key % 64) space n evict r.2
    | _ => r) (.none_, s)
  match r.1 with
  | .noRun => (if moduleFull r.2 then .none_ else .noRun, r.2)
  | _ => r

/-! ### Tables (R187–R189, R214) -/

/-- The first free place of `bytes` bytes in the TABLE frames that already hold structures of that size, in a slice that
takes allocations. -/
def tabSlot (s : State) (bytes : Nat) : Option (Nat × Nat) :=
  let mine := s.tables.filter (fun l => l.bytes == bytes)
  let blocks := (mine.map (fun l => (ck l.tile l.core, l.off / 65536))).foldl addNew []
  (blocks.filter (fun b => sliceUsable s b.1)).findSome? (fun b =>
    ((upto (65536 / bytes)).find? (fun i => !mine.any (fun l => ck l.tile l.core == b.1 && l.off == b.2 * 65536 + i * bytes))).map
      (fun i => (b.1, b.2 * 65536 + i * bytes)))

/-- A place for a structure in TABLE frames, beside others of its size or in frames of its own, which count against
address space 0 (R200). DESIGN CHOICE (log entry 44). -/
def tabPlace (t level space prefix_ bytes : Nat) (s : State) : Alloc × State :=
  let add (key off : Nat) (s : State) : State := { s with tables := s.tables ++ [⟨level, space, prefix_, key / 64, key % 64, off, bytes⟩] }
  match (if bytes < 65536 then tabSlot s bytes else none) with
  | some (key, off) => (.got key off, add key off s)
  | none =>
    match allocate (ck t 0) 0 (cdiv bytes 65536) true s with
    | (.got key f, s) => (.got key f, add key (f * 65536) (markTable key f (cdiv bytes 65536) s))
    | r => r

/-- The levels of the page tables that a page of a space needs and that do not exist yet, from the top (R188). -/
def tabsMissing (s : State) (space vpn : Nat) (big : Bool) : List (Nat × Nat × Nat) :=
  ([(1, vpn / 2 ^ 23, 4096), (2, vpn / 2 ^ 14, 4096)] ++ (if big then [] else [(3, vpn / 32, 256)])).filter
    (fun l => (findTab s l.1 space l.2.1).isNone)

/-- Makes the tables that a page needs, as far as frames are found. -/
def tabsMake (t space vpn : Nat) (big : Bool) (s : State) : Alloc × State :=
  (tabsMissing s space vpn big).foldl (fun r l =>
    match r.1 with
    | .got _ _ => tabPlace t l.1 space l.2.1 l.2.2 r.2
    | _ => r) (.got 0 0, s)

/-- Whether a structure lies in the frame at a key. -/
def tabInFrame (s : State) (k : Nat) : Bool :=
  s.tables.any (fun l => ck l.tile l.core == k / 32768 && decide (l.off / 65536 ≤ k % 32768) && decide (k % 32768 * 65536 < l.off + l.bytes))

/-- Drops the structures that satisfy a predicate, and frees the frames that then hold none. -/
def tabDrop (f : TabLoc → Bool) (s : State) : State :=
  let frames := (s.tables.filter f).flatMap (fun l => (upto (cdiv (l.off % 65536 + l.bytes) 65536)).map (fun i => fkey (ck l.tile l.core) (l.off / 65536 + i)))
  let s := { s with tables := s.tables.filter (fun l => !f l) }
  freeFrames (frames.filter (fun k => !tabInFrame s k)) s

/-! ### Frames in other modules (R196) -/

/-- A free region number of a tile. -/
def freeIndex {α : Type} (used : Tab α) (bound : Nat) : Option Nat :=
  (upto (used.length + 1)).find? (fun i => decide (i < bound) && !used.any (fun p => p.1 == i))

/-- Opens a region of OWNER 1 over n frames of a slice of this module, marks the frames exported, and answers its
REGION and KEY (R196). The key is the manager's own choice of a nonzero number. DESIGN CHOICE (log entry 53). -/
def openOwned (key frame n : Nat) (s : State) : Option (Nat × Nat × State) :=
  let t := key / 64
  match freeIndex (getPort s t).regions 16384 with
  | none => none
  | some r =>
    let k := 1 + Config.rand s.free % (2 ^ 32 - 1)
    let w0 := pack [(63, 1), (61, 1), (60, 1), (59, 1), (58, 1), (56, 1), (32, key % 64), (0, k)]
    let s := modPort { s with free := s.free + 1 } t (fun p => { p with regions := tput p.regions r (w0, pack [(40, frame * 512), (15, 512 * n)]) })
    some (r, k, { s with frames := s.frames.map (fun p =>
      if fkey key frame ≤ p.1 ∧ p.1 < fkey key (frame + n) then (p.1, { p.2 with exported := true }) else p) })

/-- Writes the import of a placed page on every tile (R307). -/
def importEverywhere (module tile core frame n region key : Nat) (s : State) : State :=
  let w0 := pack [(63, 1), (61, 1), (60, 1), (59, 1), (58, 1), (56, 1), (32, core), (0, key)]
  let w1 := pack [(40, frame * 512), (15, 512 * n)]
  let w2 := pack [(50, module), (45, tile), (31, region)]
  (upto 24).foldl (fun s t => modPort s t (fun p =>
    match freeIndex p.imports 1024 with
    | none => p
    | some i => { p with imports := tput p.imports i (w0, w1, w2) })) s

/-- Clears the imports of a region of another module on every tile. -/
def unimportEverywhere (module tile region : Nat) (s : State) : State :=
  (upto 24).foldl (fun s t => modPort s t (fun p => { p with imports := p.imports.filter (fun e =>
    !(bit e.2.1 56 && fld e.2.2.2 63 50 == module && fld e.2.2.2 49 45 == tile && fld e.2.2.2 44 31 == region)) })) s

/-- Asks the residency manager of another module for n frames (operation 1, or 2 for a shard), under the number of the transfer that waits
for them: for page i of a range whose base core is `core` (Table 6.7), or for the frame at a place. The layout of RESIDENCY's type words
is the model's own. -/
def askFrames (t module op id n i core : Nat) (at_ : Option Place) (s : State) : State :=
  sendMsg t module (match at_ with | some p => p.tile | none => t) 0x38 (pack [(56, op), (0, id % 2 ^ 32)])
    (pack [(56, b2n at_.isSome), (40, core), (32, n), (0, i)])
    (match at_ with | some p => BitVec.ofNat 64 (placeGpa p 0) | none => 0) 0 [] s

/-- Gives frames of another module back (operation 3). -/
def returnFrames (t : Nat) (p : Place) (s : State) : State :=
  let region := (getPort s t).imports.find? (fun e => bit e.2.1 56 && fld e.2.2.2 63 50 == p.module && fld e.2.2.2 49 45 == p.tile &&
    fld e.2.1 37 32 == p.core && regBase e.2.2.1 == p.frame * 512)
  match region with
  | none => s
  | some e => sendMsg t p.module p.tile 0x38 (pack [(56, 3), (0, 0)]) 0 0 (BitVec.ofNat 64 (fld e.2.2.2 44 31)) []
      (unimportEverywhere p.module p.tile (fld e.2.2.2 44 31) s)

end Sys2Proof.Machine
end

