-- ==== Sys2Proof/Machine/Residency.lean ====
section
/-! DEFINITION. Residency: misses (R190–R192), the transfers of the page mover (R206–R210, Tables 6.10, 6.11), and the
rows that complete them. -/

namespace Sys2Proof.Machine

/-! ### Transfers -/

/-- A transfer of a tile's page mover. -/
def findXfer (s : State) (t id : Nat) : Option Xfer := (getRes s t).xfers.find? (fun x => x.id == id)
def setXfer (t : Nat) (x : Xfer) (s : State) : State :=
  modRes s t (fun r => { r with xfers := r.xfers.map (fun y => if y.id = x.id then x else y) })
def dropXfer (t id : Nat) (s : State) : State := modRes s t (fun r => { r with xfers := r.xfers.filter (fun y => y.id != id) })

/-- The rank of a transfer's kind (R206). VERIFY, which R206 does not name, comes after REBUILD. DESIGN CHOICE (log entry 144). -/
def xferRank : XferKind → Nat
  | .fill => 0 | .prefetch => 1 | .evacuate => 2 | .rebuild => 3 | .verify => 4 | .migrate | .encode => 5 | .compact => 6 | .hint => 7

/-- Whether a transfer is among the 64 that the page mover holds at once (R206). -/
def xferServed (s : State) (t : Nat) (x : Xfer) : Bool :=
  decide (((getRes s t).xfers.filter (fun y => decide (xferRank y.kind < xferRank x.kind) ||
    (xferRank y.kind == xferRank x.kind && decide (y.id < x.id)))).length < 64)

/-- Pages of 64 KiB that a transfer moves. -/
def xferPages (x : Xfer) : Nat := if x.big then 32 else 1

/-- Notes the end of a transfer in the command that it serves, with a code. -/
def cmdNote (t : Nat) (x : Xfer) (code : Code) (s : State) : State :=
  match x.cmd with
  | none => s
  | some c => modRes s t (fun r => { r with queue := r.queue.map (fun q =>
      if q.id = c then { q with waiting := q.waiting.filter (· != x.id), code := codeMerge q.code code } else q) })

/-- The accesses that wait for a page end with a code. -/
def failWaiters (pk : Nat) (code : Code) (s : State) : State :=
  { s with ports := s.ports.map (fun p => (p.1, { p.2 with ops := p.2.ops.map (fun o =>
      if o.waitPage = some pk then { o with answers := [(0, code)] } else o) })) }

/-- An entry that gives its page a frame which is being filled. -/
def fillingPte (new : Place) (p : Pte) : Pte :=
  { p with ty := .filling, module := new.module, tile := new.tile, core := new.core, frame := new.frame, dirty := false, accessed := false }

/-- An entry back to ABSENT. -/
def absentPte (p : Pte) : Pte :=
  { pteInit with ty := .absent, big := p.big, rd := p.rd, wr := p.wr, ex := p.ex, fill := p.fill, place := p.place, placeArg := p.placeArg, first := p.first }

/-- Gives back the frames that a transfer took: its own module's, or another's. -/
def releaseNew (t : Nat) (x : Xfer) (s : State) : State :=
  if x.phase = 0 ∨ x.phase = 1 then s
  else if x.new.module = s.myModule then freeFrames (placeFrames s x.new (xferPages x)) s
  else returnFrames t x.new s

/-- The mark REBUILDING of the shard that a rebuild reads ends. -/
def rebuildOver (x : Xfer) (s : State) : State :=
  if x.kind == .rebuild then
    modSet s x.set (fun st => setRefresh { st with stripes := st.stripes.modify x.stripe (fun l => l.modify x.shard (fun h => { h with rebuilding := false })) })
  else s

/-- The code of a transfer whose target failed: a rebuild ends with POISONED (Table 11.12). -/
def targetCode (x : Xfer) (code : Code) : Code := if x.kind == .rebuild then .poisoned else code

/-- A transfer that has taken nothing ends. -/
def dropQuiet (t : Nat) (x : Xfer) (code : Code) (s : State) : State := dropXfer t x.id (cmdNote t x code s)

/-- A transfer ends without its effect: a fill leaves its page ABSENT, a move leaves it in its old frame. -/
def abandon (t : Nat) (x : Xfer) (code : Code) (s : State) : State :=
  let s := rebuildOver x (if x.kind == .verify then s else releaseNew t x s)
  let s := match x.key with
    | none => s
    | some pk =>
      if x.move then modPte s pk (fun p => if p.ty == .moving then { p with ty := if p.big then .large else .page } else p)
      else failWaiters pk code (modPte s pk (fun p => if p.ty == .filling then absentPte p else p))
  dropXfer t x.id (cmdNote t x code s)

/-! ### Reading shards and pages of other modules -/

/-- Asks for the 64 KiB of a place in another module: its transactions, or none when no import qualifies. `index` names
the page in the transfer's buffer. -/
def gatherRemote (t id index : Nat) (p : Place) (part : Nat) (s : State) : Option (List Nat × State) :=
  (upto 16).foldl (fun r i => r.bind (fun (l, s) =>
    (bulkRead t 64 (.pageRead id) (index * 65536 + 4096 * i) 0 (placeGpa p (part * 65536 + 4096 * i)) 4096 none s).map
      (fun q => (l ++ [q.1], q.2)))) (some ([], s))

/-- One source shard: read or asked for, or none when it proves invalid. -/
def gatherOne (t : Nat) (l : List Shard) (x : Xfer) (j : Nat) (s : State) : Option Xfer × State :=
  let h := l.getD j ⟨0, 0, 0, 0, false, false, 0⟩
  if h.module = s.myModule then
    match pageLoad (ck h.tile h.core) h.frame s with
    | (some page, s) => (some { x with buf := tabPut x.buf (j * 65536) 65536 page }, s)
    | (none, s) => (none, s)
  else match gatherRemote t x.id j ⟨h.module, h.tile, h.core, h.frame⟩ 0 s with
    | some (ids, s) => (some { x with await := x.await ++ ids }, s)
    | none => (none, s)

/-- Whether a place is in a slice of this module that trains, so that its access waits (R167). -/
def placeTrains (s : State) (p : Place) : Bool := p.module == s.myModule && sliceTrains s (placeKey p)

/-- How the reads of a transfer start. -/
inductive Gathered where
  | read (x : Xfer)
  | waits (x : Xfer)
  | lost
  deriving DecidableEq, Repr

/-- Reads what shard `x.shard` of the transfer's stripe needs: the shard itself when it is valid, else K valid shards
(R209, R216); waits in phase 6 for a slice that trains. Lost when fewer than K are valid. -/
def gatherShards : Nat → Nat → Xfer → State → Gathered × State
  | 0, _, _, s => (.lost, s)
  | fuel + 1, t, x, s =>
    match getSet? s x.set with
    | none => (.lost, s)
    | some st =>
      let l := stripeOf st x.stripe
      let ok := validShards l
      let srcs := if ok.contains x.shard then [x.shard] else ok.take st.k
      if !ok.contains x.shard && decide (srcs.length < st.k) then (.lost, s)
      else if srcs.any (fun j => match l[j]? with | some h => placeTrains s ⟨h.module, h.tile, h.core, h.frame⟩ | none => false)
      then (.waits { x with phase := 6 }, s)
      else
        let (r, bad, s) := srcs.foldl (fun (r : Xfer × List Nat × State) j =>
          match gatherOne t l r.1 j r.2.2 with
          | (some x, s) => (x, r.2.1, s)
          | (none, s) => (r.1, r.2.1 ++ [j], s)) ({ x with srcs := srcs, await := [], buf := [] }, [], s)
        if bad.isEmpty then (.read { r with phase := if r.await.isEmpty then 4 else 2 }, s)
        else gatherShards fuel t x (bad.foldl (fun s j => shardInvalid t x.set x.stripe j s) s)

/-- Sets a fill's stripe and shard for its part, from the binding of its page; false when no set covers it. -/
def locateShard (x : Xfer) (s : State) : Option Xfer :=
  x.key.bind (fun pk => (bindingOf s (pkSpace pk) (pkVpn pk + x.part)).bind (fun (i, p) =>
    (getSet? s i).map (fun st => { x with set := i, stripe := p / st.k, shard := p % st.k })))

/-- A page that is evacuated and cannot be read or rebuilt is LOST, with its event; its old frame is free at the end of a round (R195,
R209). -/
def evacuateLost (t : Nat) (x : Xfer) (pk : Nat) (s : State) : State :=
  let s := freeFrames (placeFrames s x.new (xferPages x)) s
  let s := raise (mkEv 0x0302 clsFault 1 5 t 0 evW2 (resDetail (pkSpace pk) (pkVpn pk * 65536))) (setLost t pk s)
  dropXfer t x.id (cmdNote t x .poisoned (startRound t (pkSpace pk) (pkVpn pk) (pkPages pk) (placeFrames s x.old (xferPages x)) [] none s))

/-- No shards give what a transfer reads, its stripe being lost or no binding covering its page: a fill's page becomes LOST, any
other transfer ends with POISONED, and a page that moves stays in its old frame (R209). DESIGN CHOICE (log entry 48). -/
def xferLost (t : Nat) (x : Xfer) (s : State) : State :=
  match x.key with
  | none => abandon t x .poisoned s
  | some pk =>
    if x.move then (if x.kind == .evacuate then evacuateLost t x pk s else abandon t x .poisoned s)
    else
      let s := freeFrames (placeFrames s x.new (xferPages x)) s
      dropXfer t x.id (cmdNote t x .poisoned (setLost t pk s))

/-- Starts, or starts again, the reads of a fill, a rebuild or a verification. -/
def gather (t : Nat) (x : Xfer) (s : State) : State :=
  match gatherShards 32 t x s with
  | (.read x, s) | (.waits x, s) => setXfer t x s
  | (.lost, s) => xferLost t x s

/-- Starts the reads of a fill's part: zeros need none (R191). -/
def gatherFill (t : Nat) (x : Xfer) (s : State) : State :=
  let zero := !x.rebuild && (match x.key with | some pk => (getPte s pk).fill == 0 | none => false)
  if zero then setXfer t { x with phase := 4, srcs := [], buf := [] } s
  else match locateShard x s with
    | some x => gather t x s
    | none => xferLost t x s

/-! ### Starting -/

/-- How a page that must become resident stands. -/
inductive Miss where
  | started (id : Nat)
  | wait
  | failed (code : Code)
  deriving DecidableEq, Repr

/-- Gives an ABSENT page a frame and starts its fill (R190, R191, R199), under its own placement or under `pl`: a placement
code, word 3, and the number of the page in its range (R198). `core` is the key of the core that misses, `t` the tile whose
managers act. -/
def makeResident (t pk : Nat) (core : Option Nat) (kind : XferKind) (cmd : Option Nat) (evict : Bool) (pl : Option (Nat × Nat × Nat))
    (s : State) : Miss × State :=
  let p := getPte s pk
  let n := pkPages pk
  let (place, arg, i) := pl.getD (p.place, p.placeArg, (pkVpn pk - p.first) / n)
  if place = 4 then
    let x := { xferBlank kind (some pk) false cmd with phase := 1, new := ⟨nbits arg 63 50, 0, 0, 0⟩ }
    let (id, s) := addXfer t x (modPte s pk (fillingPte ⟨nbits arg 63 50, 0, 0, 0⟩))
    (.started id, askFrames t (nbits arg 63 50) 1 id n i (nbits arg 44 39) none s)
  else
    match pickSlice s place arg i core with
    | none => (.failed .retryLater, noFrame t (pkSpace pk) (pkVpn pk * 65536) s)
    | some key =>
      match allocate key (pkSpace pk) n evict s with
      | (.wait, s) => (.wait, s)
      | (.quota, s) => (.failed .rejected, quotaRefused t (pkSpace pk) (pkVpn pk * 65536) s)
      | (.noRun, s) => (.failed .retryLater, s)
      | (.none_, s) => (.failed .retryLater, noFrame t (pkSpace pk) (if cmd.isSome then 0 else pkVpn pk * 65536) s)
      | (.got k f, s) =>
        let new : Place := ⟨s.myModule, k / 64, k % 64, f⟩
        let s := modPte (markFrames k f n (pkSpace pk) (pkVpn pk) false false s) pk (fillingPte new)
        let (id, s) := addXfer t { xferBlank kind (some pk) false cmd with new := new, phase := 2 } s
        (.started id, gatherFill t { xferBlank kind (some pk) false cmd with id := id, new := new, phase := 2 } s)

/-- The miss of an access on a core (R190–R192), with the fills ahead of FILL_AHEAD. -/
def missPage (core pk : Nat) (s : State) : Miss × State :=
  let t := core / 64
  let r := getRes s t
  let fill := (getPte s pk).fill
  match makeResident t pk (some core) .fill none (bit r.ctrl 10) none s with
  | (.started id, s) =>
    let s := countTile t (if fill = 0 then 4 else 5) 1 s
    let ahead := if pkBig pk then [] else
      (upto (fld r.ctrl 4 0)).filterMap (fun i =>
        let v := pkVpn pk + 1 + i
        if v / 32 = pkVpn pk / 32 then some (pkey (pkSpace pk) v false) else none)
    (.started id, ahead.foldl (fun s k =>
      if (getPte s k).ty == .absent then (makeResident t k (some core) .fill none (bit r.ctrl 10) none s).2 else s) s)
  | r => r

/-- Queues the move of a resident page to the slice `key` under R199, or to another module: there `key` is the base core and `i` the number
of the page in its range. -/
def queueMove (t pk key : Nat) (kind : XferKind) (module i : Nat) (cmd : Option Nat) (s : State) : Nat × State :=
  addXfer t { xferBlank kind (some pk) true cmd with core := key, stripe := i, old := ptePlace (getPte s pk), new := ⟨module, 0, 0, 0⟩ } s

/-- The frame that a move of this module takes: within its own slice for compaction, in the slice that a hint names (R211), both within the
quota (R200), else under R199. -/
def moveFrame (x : Xfer) (pk : Nat) (s : State) : Alloc × State :=
  if x.kind == .compact || x.kind == .hint then
    if !quotaOk s (pkSpace pk) (x.core / 64) (xferPages x) || !sliceUsable s x.core then (.none_, s)
    else
      let used := usedIn s x.core ++ (upto 32).map (fun i => 32 * x.stripe + i)
      match (if x.kind == .compact then firstFree used 1 (used.length + 1) 8 else freeFrame s x.core (xferPages x)) with
      | some f => (.got x.core f, s)
      | none => (.none_, s)
  else allocate x.core (pkSpace pk) (xferPages x) true s

/-- Steps 1 and 2 of Table 6.10 for a queued move; a queued shard takes a TABLE frame, since it belongs to a set of this module
(Table 6.6). A page that has been exported meanwhile stays where it is (R196, R212). An evacuation or a MIGRATE waits for another transfer
or an ENCODE that holds the page (Table 6.11). An evacuation moves a PINNED page too. DESIGN CHOICE (log entry 163). -/
def xferStart (t : Nat) (x : Xfer) (s : State) : State :=
  if x.phase != 0 then s else
  match x.key with
  | none =>
    let space := match getSet? s x.set with | some st => st.space | none => 0
    match allocate x.core 0 1 true s with
    | (.wait, s) => s
    | (.got k f, s) =>
      setXfer t { x with new := ⟨s.myModule, k / 64, k % 64, f⟩, phase := 4 } (markTable k f 1 s)
    | (.quota, s) => dropQuiet t x .rejected (quotaRefused t 0 0 s)
    | (_, s) => dropQuiet t x .retryLater (noFrame t space 0 s)
  | some pk =>
    let p := getPte s pk
    if p.ty == .moving || p.ty == .filling then (if x.kind == .evacuate || x.kind == .migrate then s else dropQuiet t x .ok s)
    else if !(p.ty == .page || p.ty == .large) || (p.pinned && x.kind != .evacuate) || placeExported s (ptePlace p) (pkPages pk)
    then dropQuiet t x .ok s
    else
      let x := { x with old := ptePlace p }
      let go (x : Xfer) (s : State) : State :=
        startRound t (pkSpace pk) (pkVpn pk) (pkPages pk) [] [] none (setXfer t { x with phase := 5 } (modPte s pk (fun p => { p with ty := .moving })))
      if x.new.module != s.myModule then
        askFrames t x.new.module 1 x.id (xferPages x) x.stripe x.core none (setXfer t { x with phase := 1 } s)
      else
        match moveFrame x pk s with
        | (.wait, s) => s
        | (.got k f, s) => go { x with new := ⟨s.myModule, k / 64, k % 64, f⟩ } (markFrames k f (xferPages x) (pkSpace pk) (pkVpn pk) false false s)
        | (.quota, s) => if x.kind == .evacuate then s else dropQuiet t x .rejected s
        | (.noRun, s) => if x.kind == .evacuate then s else dropQuiet t x .retryLater s
        | (.none_, s) => if x.kind == .evacuate then s else dropQuiet t x .retryLater (if x.cmd.isSome then noFrame t (pkSpace pk) 0 s else s)

/-- A move whose first round has ended begins to copy: at once within the module, after its reads from another one. -/
def moveCopy (t : Nat) (x : Xfer) (s : State) : State :=
  if x.old.module = s.myModule then setXfer t { x with phase := 4 } s
  else match gatherRemote t x.id 0 x.old x.part s with
    | some (l, s) => setXfer t { x with phase := 2, await := l, buf := [], srcs := [0] } s
    | none => abandon t x .keyFault s

/-! ### Completion -/

/-- A page becomes resident in the frame that its transfer names. -/
def residentPte (x : Xfer) (p : Pte) : Pte :=
  { p with ty := if p.big then .large else .page, module := x.new.module, tile := x.new.tile, core := x.new.core, frame := x.new.frame, region := x.region }

/-- Whether a transfer fills a page for a PIN. -/
def xferPins (s : State) (t : Nat) (x : Xfer) : Bool :=
  x.cmd.any (fun c => (getRes s t).queue.any (fun q => q.id == c && fld q.desc.w0 63 56 == 7))

/-- The last step of a transfer whose bytes are all written. A page that ENCODE reads from another module stays in the transfer's
buffer, in phase 7. -/
def xferEnd (t : Nat) (x : Xfer) (s : State) : State :=
  match x.kind, x.key with
  | .verify, _ => dropXfer t x.id (cmdNote t x .ok s)
  | .encode, some _ => setXfer t { x with phase := 7 } (cmdNote t x .ok s)
  | _, none =>
    let h (q : Shard) : Shard := { q with module := x.new.module, tile := x.new.tile, core := x.new.core, frame := x.new.frame, valid := true, rebuilding := false }
    let s := modSet s x.set (fun st =>
      let st := { st with stripes := st.stripes.modify x.stripe (fun l => l.modify x.shard h) }
      if st.state = 0 then st else setRefresh st)
    dropXfer t x.id (cmdNote t x .ok s)
  | _, some pk =>
    let pin := xferPins s t x
    let s := modPte s pk (fun p => { residentPte x p with pinned := p.pinned || pin })
    if x.move then
      let s := countTile t 8 1 s
      let frees := placeFrames s x.old (xferPages x)
      let remote := if x.old.module = s.myModule then [] else [x.old]
      dropXfer t x.id (cmdNote t x .ok (startRound t (pkSpace pk) (pkVpn pk) (pkPages pk) frees remote none s))
    else dropXfer t x.id (cmdNote t x .ok s)

/-- A part of a transfer is written: the next part of a large page, or its end. DESIGN CHOICE (log entry 45). -/
def partEnd (t : Nat) (x : Xfer) (s : State) : State :=
  if x.part + 1 < xferPages x then
    let x := { x with part := x.part + 1, phase := 2, await := [], buf := [] }
    if x.move && !x.rebuild then moveCopy t x s else gatherFill t x s
  else xferEnd t x s

/-- Writes a page of a transfer to its frame: in this module at once, in another one by MOVE_WRITE. -/
def xferWrite (t : Nat) (x : Xfer) (page : Tab Byte) (s : State) : State :=
  if x.new.module = s.myModule then partEnd t x (putPage (placeKey x.new) (x.new.frame + x.part) page s)
  else
    let r := (upto 16).foldl (fun r i => r.bind (fun (l, s) =>
      (bulkWrite t 64 (.pageWrite x.id) (placeGpa x.new (x.part * 65536 + 4096 * i))
        ((upto 4096).map (fun j => tget 0 page (4096 * i + j))) none s).map (fun q => (l ++ [q.1], q.2)))) (some ([], s))
    match r with
    | some (l, s) => setXfer t { x with phase := 3, await := l } s
    | none => abandon t x (targetCode x .keyFault) s

/-- The page that a transfer's reads give: none when a source fails its CRC-32C, with that source marked invalid. -/
def assembled (t : Nat) (x : Xfer) (s : State) : Option (Tab Byte) × State :=
  match x.srcs with
  | [] => (some [], s)
  | srcs =>
    match getSet? s x.set with
    | none => (some (tabSlice x.buf 0 65536), s)
    | some st =>
      let l := stripeOf st x.stripe
      let pages := srcs.map (fun j => (j, tabSlice x.buf (j * 65536) 65536))
      match pages.filter (fun p => pageCrc p.2 != (l.getD p.1 ⟨0, 0, 0, 0, false, false, 0⟩).crc) with
      | [] => (some (if srcs.contains x.shard then tabSlice x.buf (x.shard * 65536) 65536 else recoverPage st.k pages x.shard), s)
      | bad => (none, bad.foldl (fun s p => shardInvalid t x.set x.stripe p.1 s) s)

/-- Whether the stack of a transfer's destination holds writes. -/
def destHolds (s : State) (x : Xfer) : Bool := x.new.module == s.myModule && (getTile s x.new.tile).hold

/-- A move is taken back: the page stays in its old frame, and the move is queued again, after the hold of the destination's stack (R208). -/
def moveBack (t : Nat) (x : Xfer) (pk : Nat) (s : State) : State :=
  let s := freeFrames (placeFrames s x.new (xferPages x)) s
  setXfer t { x with phase := 0, heldSince := none, heldTile := some x.new.tile, rebuild := false, part := 0, new := ⟨s.myModule, 0, 0, 0⟩ }
    (modPte s pk (fun p => { p with ty := if p.big then .large else .page }))

/-- A destination slice left service. A fill takes another frame (Table 6.11), a move begins again, and a rebuild ends with POISONED
(Table 11.12). -/
def retarget (t : Nat) (x : Xfer) (s : State) : State :=
  match x.key with
  | none => if x.kind == .rebuild then abandon t x .poisoned s else setXfer t { x with phase := 0 } (freeFrames (placeFrames s x.new 1) s)
  | some pk =>
    if x.move then moveBack t x pk s else
    match allocate (placeKey x.new) (pkSpace pk) (xferPages x) true (freeFrames (placeFrames s x.new (xferPages x)) s) with
    | (.got k f, s) =>
      let new : Place := ⟨s.myModule, k / 64, k % 64, f⟩
      setXfer t { x with new := new } (modPte (markFrames k f (xferPages x) (pkSpace pk) (pkVpn pk) false false s) pk (fillingPte new))
    | _ => s

/-- PAGE_FILL_COMPLETE (R191, R208, R209, R213–R216): a fill, a rebuild, an encoded shard or a verification has all its
bytes. `badShards` has a bit for each shard of the stripe whose line was uncorrectable or whose CRC-32C failed. DESIGN CHOICE (log entry 45). -/
def pageFillCompleteOp (t id badShards : Nat) (s : State) : State :=
  match findXfer s t id with
  | none => s
  | some x =>
    if (x.move && !x.rebuild) || x.phase != 4 || !xferServed s t x || (x.kind != .verify && placeTrains s x.new) then s
    else if x.new.module == s.myModule && x.kind != .verify && !sliceUsable s (placeKey x.new) then retarget t x s
    else if x.kind != .verify && destHolds s x then (if x.move then setXfer t { x with heldSince := some (x.heldSince.getD s.now) } s else s)
    else
      let bad := x.srcs.filter (fun j => badShards.testBit j)
      if !bad.isEmpty then gather t x (bad.foldl (fun s j => shardInvalid t x.set x.stripe j s) s)
      else if x.kind == .encode then xferWrite t x x.buf s
      else
        match assembled t x s with
        | (none, s) => if x.kind == .verify then xferEnd t x s else gather t x s
        | (some page, s) =>
          let s := if x.key.isSome && !x.srcs.isEmpty && !x.srcs.contains x.shard then countTile t 6 1 s else s
          if x.kind == .verify then xferEnd t x s else xferWrite t x page s

/-- The move of a page whose old frame cannot be read: its new frame is rebuilt from the page's shard set where one is valid, the page
staying MOVING in its old frame meanwhile; else the move is abandoned, and an evacuated page is LOST (R209). -/
def moveUnreadable (t : Nat) (x : Xfer) (pk : Nat) (s : State) : State :=
  if !(getPte s pk).dirty && (upto (pkPages pk)).all (fun i => backed s (pkSpace pk) (pkVpn pk + i)) then
    gatherFill t { x with rebuild := true, part := 0, phase := 2, buf := [], await := [], srcs := [] } s
  else xferLost t x s

/-- The pages of 64 KiB of a transfer's old place from `from_` on, read by the page mover; none when one cannot be read. -/
def oldPages (x : Xfer) (from_ n : Nat) (s : State) : Option (List (Tab Byte)) × State :=
  (upto n).foldl (fun r i => match r with
    | (none, s) => (none, s)
    | (some l, s) => match pageLoad (placeKey x.old) (x.old.frame + from_ + i) s with
      | (some p, s) => (some (l ++ [p]), s)
      | (none, s) => (none, s)) (some [], s)

/-- PAGE_MOVE_COMPLETE (R207–R209): steps 3–5 of Table 6.10. A slice that trains or a destination that holds writes makes the
move wait; a destination slice that takes no writes any more (Table 5.4) makes it begin again. -/
def pageMoveCompleteOp (t id : Nat) (readable : Bool) (s : State) : State :=
  match findXfer s t id with
  | none => s
  | some x =>
    match x.key with
    | none => s
    | some pk =>
      if !x.move || x.rebuild || x.phase != 4 || !xferServed s t x || placeTrains s x.new || placeTrains s x.old then s
      else if destHolds s x then setXfer t { x with heldSince := some (x.heldSince.getD s.now) } s
      else if x.new.module == s.myModule && !sliceUsable s (placeKey x.new) then moveBack t x pk s
      else if !readable then moveUnreadable t x pk s
      else if x.old.module != s.myModule then xferWrite t x (tabSlice x.buf 0 65536) s
      else if x.new.module = s.myModule then
        match oldPages x 0 (xferPages x) s with
        | (none, s) => moveUnreadable t x pk s
        | (some l, s) => xferEnd t x (l.zipIdx.foldl (fun s p => putPage (placeKey x.new) (x.new.frame + p.2) p.1 s) s)
      else match oldPages x x.part 1 s with
        | (some [p], s) => xferWrite t x p s
        | (_, s) => moveUnreadable t x pk s

/-- MOVE_HOLD_TIMEOUT (R208): 32 µs after a move met a write hold, it is taken back and queued again. -/
def moveHoldTimeoutOp (t id : Nat) (s : State) : State :=
  match findXfer s t id with
  | none => s
  | some x =>
    match x.key, x.heldSince with
    | some pk, some since =>
      if !x.move || !destHolds s x then s else moveBack t x pk { s with now := max s.now (since + 32000) }
    | _, _ => s

/-- INVALIDATION_ROUND_COMPLETE (R195): once no access is under way that was translated with an entry it dropped, the oldest
round of the tile ends; its frames are free, and the moves that it
opened begin to copy. -/
def roundCompleteOp (t : Nat) (s : State) : State :=
  match (getRes s t).rounds with
  | [] => s
  | r :: rest =>
    if r.flying.any (fun f => (findOp s f.1 f.2).isSome) then s else
    let s := modRes (tlbDrop r.space r.vpn r.pages s) t (fun x => { x with rounds := rest })
    let s := r.remote.foldl (fun s p => returnFrames t p s) (freeFrames r.frees s)
    let s := match r.cmd with
      | none => s
      | some c => modRes s t (fun x => { x with queue := x.queue.map (fun q => if q.id = c then { q with rounds := q.rounds - 1 } else q) })
    ((getRes s t).xfers.filter (fun x => x.phase == 5 && x.key.any (fun pk => pkSpace pk == r.space && pkVpn pk == r.vpn))).foldl
      (fun s x => moveCopy t x s) s

/-! ### Bytes that arrive for a transfer -/

/-- A transfer whose read or write in another module failed. DESIGN CHOICE (log entry 48). -/
def xferFail (t : Nat) (x : Xfer) (index : Nat) (code : Code) (s : State) : State :=
  if x.kind == .encode then abandon t x code s
  else if x.phase = 2 ∧ (!x.move || x.rebuild) then gather t x (shardInvalid t x.set x.stripe index s)
  else if x.phase = 2 then
    match x.key with
    | some pk => moveUnreadable t x pk s
    | none => abandon t x code s
  else abandon t x code s

/-- MOVE_DATA for a transfer. -/
def xferData (t id txn off : Nat) (code : Code) (bs : List Byte) (s : State) : State :=
  match findXfer s t id with
  | none => s
  | some x =>
    if !x.await.contains txn then s
    else if code != .ok then xferFail t x (off / 65536) code s
    else
      let x := { x with buf := memWrite x.buf off bs, await := x.await.filter (· != txn) }
      if !x.await.isEmpty then setXfer t x s
      else if x.kind == .encode then xferEnd t x s
      else setXfer t { x with phase := 4 } s

/-- MOVE_DONE for a transfer. -/
def xferDone (t id txn : Nat) (code : Code) (s : State) : State :=
  match findXfer s t id with
  | none => s
  | some x =>
    if !x.await.contains txn then s
    else if code != .ok then abandon t x (targetCode x code) s
    else
      let x := { x with await := x.await.filter (· != txn) }
      if x.await.isEmpty then partEnd t x s else setXfer t x s

/-! ### Messages of residency managers (R196) -/

/-- RESIDENCY at the manager of tile t: frames asked for or given back. -/
def residencyTake (t : Nat) (p : Packet) (s : State) : State :=
  let op := fld p.w3 63 56
  let n := fld p.w4 39 32
  let reply (c : Code) (a region key : Nat) (s : State) : State :=
    sendMsg t (pSrcModule p) (pSrcTile p) 0x39 p.w3 (pack [(56, codeNum c), (32, n)]) (BitVec.ofNat 64 a)
      (pack [(32, key), (0, region)]) [] s
  let open_ (k f : Nat) (s : State) : State :=
    match openOwned k f n (markFrames k f n 0 0 (op == 2) true s) with
    | some (r, key, s) => reply .ok (gpaMake s.myModule (k / 64) (k % 64) 0 (f * 65536)) r key s
    | none => reply .retryLater 0 0 0 s
  if op = 3 then
    let r := fld p.w6 13 0
    match (getPort s t).regions.find? (fun e => e.1 == r) with
    | none => s
    | some e =>
      if !bit e.2.1 56 then s else
      let key := ck t (fld e.2.1 37 32)
      let f := regBase e.2.2 / 512
      let m := regLines e.2.2 / 512
      let s := modPort s t (fun x => { x with regions := tdel x.regions r })
      { s with frames := s.frames.filter (fun q => !(decide (fkey key f ≤ q.1) && decide (q.1 < fkey key (f + m)))) }
  else if !(op == 1 || op == 2) || !(n == 1 || n == 32) then reply .rejected 0 0 0 s
  else if bit p.w4 56 then
    let a := p.w5.toNat
    let k := ck (gTile a) (gCore a)
    let f := gOff a / 65536
    if gTile a = t ∧ sliceUsable s k ∧ frameFree s k f then open_ k f s else reply .conflict 0 0 0 s
  else
    match (pickSlice s 2 (fld p.w4 45 40 * 2 ^ 39) (fld p.w4 31 0) none) with
    | none => reply .retryLater 0 0 0 (noFrame t 0 0 s)
    | some key => match allocate key 0 n true s with
      | (.got k f, s) => open_ k f s
      | (.wait, s) => modRes s t (fun r => { r with asks := r.asks ++ [p] })
      | (.quota, s) => reply .rejected 0 0 0 (quotaRefused t 0 0 s)
      | (.noRun, s) => reply .retryLater 0 0 0 s
      | (.none_, s) => reply .retryLater 0 0 0 (noFrame t 0 0 s)

/-- The requests of other modules that wait for a frame, tried again in their order. -/
def residencyAgain (t : Nat) (s : State) : State :=
  let l := (getRes s t).asks
  if l.isEmpty then s else l.foldl (fun s p => residencyTake t p s) (modRes s t (fun r => { r with asks := [] }))

/-- RESIDENCY_REPLY at the manager that asked. -/
def residencyReplyTake (t : Nat) (p : Packet) (s : State) : State :=
  let code := codeReceived (fld p.w4 63 56)
  let a := p.w5.toNat
  match (getRes s t).xfers.find? (fun x => x.id % 2 ^ 32 == fld p.w3 31 0 && x.phase == 1) with
  | none => s
  | some x =>
    let s := receivedEvent t (fld p.w4 63 56) s
    if code != .ok then abandon t x code s else
    let new : Place := ⟨gModule a, gTile a, gCore a, gOff a / 65536⟩
    let region := fld p.w6 13 0
    let s := importEverywhere new.module new.tile new.core new.frame (fld p.w4 39 32) region (fld p.w6 63 32) s
    let x := { x with new := new, region := region }
    match x.key with
    | none => if x.kind == .rebuild then gather t { x with phase := 2 } s else setXfer t { x with phase := 4 } s
    | some pk =>
      if x.move then
        let q := getPte s pk
        let x := { x with old := ptePlace q }
        if !(q.ty == .page || q.ty == .large) || (q.pinned && x.kind != .evacuate) || placeExported s (ptePlace q) (pkPages pk)
        then dropQuiet t x .ok (returnFrames t new s) else
        startRound t (pkSpace pk) (pkVpn pk) (pkPages pk) [] [] none
          (setXfer t { x with phase := 5 } (modPte s pk (fun q => { q with ty := .moving })))
      else gatherFill t { x with phase := 2 } (setXfer t { x with phase := 2 } (modPte s pk (fillingPte new)))

end Sys2Proof.Machine
end

