-- ==== Sys2Proof/Machine/ResCommands.lean ====
section
/-! DEFINITION. ResCommands: the residency commands of Table 6.9 with the refusals of R204, background compaction (R202),
placement hints (R211, R212) and the evacuation of a slice (R210). -/

namespace Sys2Proof.Machine

/-! ### The descriptor (Table 6.8) -/

def rOp (d : CmdDesc) : Nat := fld d.w0 63 56
def rPlace (d : CmdDesc) : Nat := fld d.w0 55 52
def rBig (d : CmdDesc) : Bool := bit d.w0 48
def rFill (d : CmdDesc) : Nat := fld d.w0 46 45
def rSpace (d : CmdDesc) : Nat := fld d.w0 31 20
def rVa (d : CmdDesc) : Nat := fld d.w1 47 0
def rVpn (d : CmdDesc) : Nat := fld d.w1 47 16
def rCount (d : CmdDesc) : Nat := fld d.w2 31 0
def rSet (d : CmdDesc) : Nat := fld d.w4 63 48
def rK (d : CmdDesc) : Nat := fld d.w4 47 43
def rM (d : CmdDesc) : Nat := fld d.w4 42 40
/-- The segment of GRANT. -/
def rSegment (d : CmdDesc) : Nat := fld d.w3 49 45 + fld d.w3 41 39 <<< 5
/-- Pages of 64 KiB per page of the range, and in the range. -/
def rUnit (d : CmdDesc) : Nat := if rBig d then 32 else 1
def rPages (d : CmdDesc) : Nat := rCount d * rUnit d
/-- The first page numbers of the pages of the range, ascending. -/
def rRange (d : CmdDesc) : List Nat := (upto (rCount d)).map (fun i => rVpn d + i * rUnit d)

/-- A command that acts on a range of pages. -/
def rangeOp (op : Nat) : Bool := (decide (4 ≤ op) && decide (op ≤ 0xB)) || op == 0xD

/-- Reserved codes and fields (R204). -/
def resReserved (d : CmdDesc) : Bool :=
  rOp d == 0 || decide (0xF < rOp d) || decide (4 < rPlace d) || decide (1 < rFill d) || fld d.w0 44 32 != 0 || fld d.w0 19 16 != 0 ||
  fld d.w1 63 48 != 0 || fld d.w2 63 32 != 0 || fld d.w3 37 0 != 0 || fld d.w4 2 0 != 0 || (rOp d == 0xE && fld d.w5 21 0 != 0) || d.w6 != 0 || d.w7 != 0

/-- The module numbers of ENCODE's LIST, and the read's traces. -/
def encodeLoad (s : State) (d : CmdDesc) : Option (List Nat) × State :=
  let r := gpaLoad d.w5.toNat (8 * (rK d + rM d)) s
  (r.1.map (fun bs => (upto (rK d + rM d)).map (fun i => leNat ((bs.drop (8 * i)).take 8))), r.2)

/-- The module numbers of ENCODE's LIST. -/
def encodeList (s : State) (d : CmdDesc) : Option (List Nat) := (encodeLoad s d).1

/-- Whether an entry of a space overlaps a page range. -/
def mappedIn (s : State) (space vpn n : Nat) : List (Nat × Pte) :=
  s.pages.filter (fun p => pkSpace p.1 == space && p.2.ty != .invalid && rangesOverlap (pkVpn p.1) (pkPages p.1) vpn n)

/-- A segment of the shared half as a page range. -/
def segmentVpn (seg : Nat) : Nat := 2 ^ 31 + seg * 2 ^ 23

/-- The cases in which a command ends with REJECTED and changes nothing (R204), and those that the model adds: a range of the
shared half in a tin's space, an ENCODE to a set that exists or with K outside 1–16, and a LIST that cannot be read; and a REBUILD of a
location whose REBUILDING bit is set (Table 11.12). DEDUCED
(log entry 46). DESIGN CHOICE (log entry 143). -/
def resRejects (s : State) (d : CmdDesc) : Bool :=
  let op := rOp d
  let sp := getSpace s (rSpace d)
  let form := rVa d % (65536 * rUnit d) != 0 || rCount d == 0
  let range := rangeOp op && (decide (2 ^ 32 < rVpn d + rPages d) ||
    (decide (rVpn d < 2 ^ 31) && decide (2 ^ 31 < rVpn d + rPages d)) || (decide (2 ^ 31 ≤ rVpn d) && rSpace d != 0))
  let space := if op = 1 then sp.isSome else sp.isNone
  let map := op == 4 && (!(mappedIn s (rSpace d) (rVpn d) (rPages d)).isEmpty || (rFill d == 1 &&
    ((match getSet? s (rSet d) with | some x => !(decide (x.base ≤ rVpn d) && decide (rVpn d + rPages d ≤ x.base + x.pages) && x.space == rSpace d) | none => true) ||
     (match sp with | some r => decide (64 ≤ r.bindings.length) | none => false))))
  let grant := op == 0xC && (findTab s 1 0 (256 + rSegment d)).isNone
  let unmap := op == 5 && decide (2 ^ 31 ≤ rVpn d) &&
    (s.spaces.any (fun p => (upto 256).any (fun g => bit p.2.grants g && rangesOverlap (segmentVpn g) (2 ^ 23) (rVpn d) (rPages d))))
  let evict := op == 0xA && (mappedIn s (rSpace d) (rVpn d) (rPages d)).any (fun p =>
    (p.2.ty == .page || p.2.ty == .large || p.2.ty == .moving || p.2.ty == .filling) && (p.2.dirty || p.2.pinned ||
      !(upto (pkPages p.1)).all (fun i => backed s (pkSpace p.1) (pkVpn p.1 + i))))
  let encode := op == 0xD && (decide (20 < rK d + rM d) || decide (4 < rM d) || rK d == 0 || decide (16 < rK d) || (getSet? s (rSet d)).isSome ||
    (match encodeList s d with | none => true | some l => decide ((l.foldl addNew []).length < l.length)))
  let set := (op == 0xE && (match getSet? s (rSet d) with
      | none => true
      | some x => decide (x.stripes.length ≤ fld d.w4 39 8) || decide (x.k + x.m ≤ fld d.w4 7 3) ||
          (match (stripeOf x (fld d.w4 39 8))[fld d.w4 7 3]? with | some h => h.rebuilding | none => false))) ||
    (op == 0xF && (getSet? s (rSet d)).isNone)
  resReserved d || form || range || space || map || grant || unmap || evict || encode || set

/-! ### Pages of a command -/

/-- What one page of a command needs. -/
inductive PageRes where
  | done
  | pend (id : Nat)
  | wait
  | fail (code : Code)
  deriving DecidableEq, Repr

/-- The entry that MAP writes for the page at a key. -/
def mapPte (d : CmdDesc) : Pte :=
  { pteInit with ty := .absent, big := rBig d, rd := bit d.w0 51, wr := bit d.w0 50, ex := bit d.w0 49, pinned := bit d.w0 47,
                 fill := rFill d, place := rPlace d, placeArg := d.w3.toNat, first := rVpn d }

/-- The move of one page of MIGRATE: where it goes, or none when it is there. In another module that is CORE of word 3 (Table 6.7). -/
def migrateTo (s : State) (d : CmdDesc) (pk : Nat) : Option (Nat × Nat) :=
  let p := getPte s pk
  if rPlace d = 4 then (if p.module = fld d.w3 63 50 then none else some (fld d.w3 63 50, fld d.w3 44 39))
  else match pickSlice s (rPlace d) d.w3.toNat ((pkVpn pk - rVpn d) / rUnit d) none with
    | none => none
    | some key => if p.module = s.myModule ∧ ck p.tile p.core = key then none else some (s.myModule, key)

/-- One page of a command, at its first page number (Tables 6.9 and 6.11). PREFETCH and PIN place under the command's own
PLACE and word 3 (R198), a command of the admission controller under the page's. A page mapped with the other page size ends
the command with REJECTED. DEDUCED (log entry 46). DESIGN CHOICE (log entry 143). -/
def cmdPage (t : Nat) (c : ResCmd) (vpn : Nat) (s : State) : ResCmd × PageRes × State :=
  let d := c.desc
  let op := rOp d
  let pk := pkey (rSpace d) vpn (rBig d)
  let p := getPte s pk
  let other := (mappedIn s (rSpace d) vpn (rUnit d)).any (fun q => q.1 != pk)
  let busy := p.ty == .filling || p.ty == .moving
  let resident := p.ty == .page || p.ty == .large
  let out (r : PageRes) (s : State) := (c, r, s)
  let fill (pl : Option (Nat × Nat × Nat)) (s : State) :=
    match makeResident t pk none .prefetch (some c.id) true pl s with
    | (.started id, s) => out (.pend id) s
    | (.wait, s) => out .wait s
    | (.failed code, s) => out (.fail code) s
  let pl := if c.admin.isSome then none else some (rPlace d, d.w3.toNat, (vpn - rVpn d) / rUnit d)
  if op = 4 then
    match tabsMake t (rSpace d) vpn (rBig d) s with
    | (.got _ _, s) => out .done { s with pages := tput s.pages pk (mapPte d) }
    | (.wait, s) => out .wait s
    | (.quota, s) => out (.fail .rejected) (quotaRefused t 0 0 s)
    | (_, s) => out (.fail .retryLater) (noFrame t (rSpace d) 0 s)
  else if other then out (.fail .rejected) s
  else if op = 5 then
    if p.ty == .invalid then out .done s
    else if busy then out .wait s
    else
      ({ c with frees := c.frees ++ (if resident then placeFrames s (ptePlace p) (rUnit d) else [])
                remote := c.remote ++ (if resident && p.module != s.myModule then [ptePlace p] else []) },
        .done, { s with pages := tdel s.pages pk })
  else if p.ty == .invalid then out (.fail .rejected) s
  else if op = 6 then
    if busy then out .wait s
    else out .done (modPte s pk (fun p => { p with rd := bit d.w0 51, wr := bit d.w0 50, ex := bit d.w0 49 }))
  else if op = 7 then
    if busy then out .wait s
    else if p.ty == .lost then out (.fail .poisoned) s
    else if p.ty == .absent then fill pl s
    else out .done (modPte s pk (fun p => { p with pinned := true }))
  else if op = 8 then out .done (modPte s pk (fun p => { p with pinned := false }))
  else if op = 9 then
    if p.ty == .absent then fill pl s else if p.ty == .filling then out .wait s else out .done s
  else if op = 0xA then
    if (resident || p.ty == .moving) && p.dirty then out (.fail .rejected) s
    else if evictable s pk then
      ({ c with frees := c.frees ++ placeFrames s (ptePlace p) (rUnit d) }, .done, countTile t 7 1 (modPte s pk evictedPte))
    else out .done s
  else if op = 0xB then
    if busy then out .wait s
    else if !resident then out .done s
    else if p.pinned || placeExported s (ptePlace p) (rUnit d) then out (.fail .conflict) s
    else match migrateTo s d pk with
      | none => out .done s
      | some (m, key) =>
        let (id, s) := queueMove t pk key .migrate m ((vpn - rVpn d) / rUnit d) (some c.id) s
        out (.pend id) s
  else if op = 0xD then
    if busy then out .wait s
    else if p.ty == .lost then out (.fail .poisoned) s
    else if p.ty == .absent then fill none s
    else out .done (modPte s pk (fun p => { p with ty := .moving }))
  else out .done s

/-- The command as the tile holds it. -/
def findCmd (s : State) (t id : Nat) : Option ResCmd := (getRes s t).queue.find? (fun c => c.id == id)
def setCmd (t : Nat) (c : ResCmd) (s : State) : State :=
  modRes s t (fun r => { r with queue := r.queue.map (fun q => if q.id = c.id then c else q) })

/-- Works through the pages of a command, in order, until one must be awaited. An ENCODE that must first make a page
resident comes to it again. DESIGN CHOICE (log entry 51). -/
def runPages (t : Nat) : Nat → ResCmd → State → ResCmd × State
  | 0, c, s => (c, s)
  | fuel + 1, c, s =>
    match c.todo with
    | [] => (c, s)
    | v :: r =>
      match cmdPage t c v s with
      | (c, .done, s) => runPages t fuel { c with todo := r } s
      | (c, .pend id, s) =>
        runPages t fuel { c with todo := if rOp c.desc = 0xD then v :: r else r, waiting := c.waiting ++ [id] } s
      | (c, .wait, s) => (c, s)
      | (c, .fail code, s) => ({ c with todo := [], code := codeMerge c.code code }, s)

/-- Completes a command: RES_CMD_STATUS, or the admission command that it serves. -/
def completeCmd (t : Nat) (c : ResCmd) (s : State) : State :=
  if c.admin.isSome then setCmd t { c with stage := 100 } s
  else modRes s t (fun r => { r with queue := r.queue.filter (fun q => q.id != c.id), statTag := BitVec.ofNat 16 c.tag,
                                     statCode := c.code, statSeq := r.statSeq + 1 })

/-! ### ENCODE, REBUILD and VERIFY -/

/-- The set that a range is bound to. -/
def oldSet (s : State) (d : CmdDesc) : Option Nat := (bindingOf s (rSpace d) (rVpn d)).map (·.1)

/-- The transfer in which ENCODE holds a page that it read from another module. -/
def encodeRead (s : State) (t : Nat) (c : ResCmd) (pk : Nat) : Option Xfer :=
  (getRes s t).xfers.find? (fun x => x.kind == .encode && x.key == some pk && x.cmd == some c.id)

/-- A page of the range as ENCODE reads it, zeros beyond the range; none when it cannot be read. -/
def encodePage (t : Nat) (c : ResCmd) (i : Nat) (s : State) : Option (Tab Byte) × State :=
  let d := c.desc
  if rPages d ≤ i then (some [], s) else
  let v := rVpn d + i
  let pk := pkey (rSpace d) (if rBig d then v - i % 32 else v) (rBig d)
  let part := if rBig d then i % 32 else 0
  let p := getPte s pk
  if p.module = s.myModule then pageLoad (ck p.tile p.core) (p.frame + part) s
  else ((encodeRead s t c pk).map (fun x => tabSlice x.buf (part * 65536) 65536), s)

/-- The pages of the range, with the zeros that fill the last stripe; none when one cannot be read. -/
def encodePages (t : Nat) (c : ResCmd) (n : Nat) (s : State) : Option (List (Tab Byte)) × State :=
  (upto n).foldl (fun r i => match r with
    | (none, s) => (none, s)
    | (some l, s) => match encodePage t c i s with
      | (some p, s) => (some (l ++ [p]), s)
      | (none, s) => (none, s)) (some [], s)

/-- The pages of ENCODE's range that lie in other modules and have not been asked for. -/
def encodeFar (s : State) (t : Nat) (c : ResCmd) : List Nat :=
  ((rRange c.desc).map (fun v => pkey (rSpace c.desc) v (rBig c.desc))).filter (fun pk =>
    (getPte s pk).module != s.myModule && (encodeRead s t c pk).isNone)

/-- Asks for the pages of ENCODE's range that lie in other modules. -/
def encodeAsk (t : Nat) (c : ResCmd) (far : List Nat) (s : State) : State :=
  let r := far.foldl (fun (r : ResCmd × State) pk =>
    let place := ptePlace (getPte r.2 pk)
    let (id, s) := addXfer t { xferBlank .encode (some pk) false (some c.id) with phase := 2 } r.2
    match (upto (pkPages pk)).foldl (fun q i => q.bind (fun (l, s) => (gatherRemote t id i place i s).map (fun u => (l ++ u.1, u.2)))) (some ([], s)) with
    | some (l, s) => ({ r.1 with waiting := r.1.waiting ++ [id] },
        match findXfer s t id with | some x => setXfer t { x with await := l } s | none => s)
    | none => ({ r.1 with code := codeMerge r.1.code .keyFault }, dropXfer t id s)) (c, s)
  setCmd t r.1 r.2

/-- One shard of a new set: its record with its CRC-32C, and the transfer that places it (R214). -/
def encodeShard (t : Nat) (c : ResCmd) (modules : List Nat) (n j : Nat) (page : Tab Byte) (s : State) : Nat × State :=
  let m := modules.getD j s.myModule
  let x := { xferBlank .encode none false (some c.id) with
    set := rSet c.desc, stripe := n, shard := j, buf := page
    core := (pickSlice s 2 c.desc.w3.toNat n none).getD 0, phase := if m = s.myModule then 0 else 1, new := ⟨m, 0, 0, 0⟩ }
  let (id, s) := addXfer t x s
  (id, if m = s.myModule then s else askFrames t m 2 id 1 n (fld c.desc.w3 44 39) none s)

/-- Whether a slice that holds a page of ENCODE's range trains. -/
def encodeTrains (s : State) (d : CmdDesc) : Bool :=
  (rRange d).any (fun v => placeTrains s (ptePlace (getPte s (pkey (rSpace d) v (rBig d)))))

/-- The encoding proper (R213, R214): a place for the descriptor, then every shard of every stripe, from the pages that
ENCODE holds MOVING. It begins again while it waits for a frame. -/
def encodeStart (t : Nat) (c : ResCmd) (s : State) : State :=
  let d := c.desc
  let stop (code : Code) (s : State) : State := setCmd t { c with code := code, stage := 3 } s
  if gpaTrains s d.w5.toNat then s else
  match encodeLoad s d with
  | (none, s) => stop .rejected s
  | (some modules, s) =>
    let stripes := cdiv (rPages d) (rK d)
    if encodeTrains s d then s else
    match tabPlace t 4 (rSet d) 0 (descBytes (rK d + rM d) stripes) s with
    | (.wait, s) => s
    | (.got _ _, s) =>
      let gen := match (oldSet s d).bind (getSet? s) with | some x => x.generation + 1 | none => 1
      match encodePages t c (stripes * rK d) s with
      | (none, s) => stop .poisoned s
      | (some all, s) =>
        let pages := (upto stripes).map (fun n =>
          let data := (all.drop (n * rK d)).take (rK d)
          data ++ (upto (rM d)).map (parityPage data))
        let st : ShardSet := ⟨rK d, rM d, rSpace d, 0, rVpn d, rPages d, gen,
          pages.map (fun l => l.map (fun p => ⟨0, 0, 0, 0, false, false, pageCrc p⟩))⟩
        let s := { s with sets := tput s.sets (rSet d) st }
        let s := modRes s t (fun r => { r with xfers := r.xfers.filter (fun x => !(x.kind == .encode && x.key.isSome && x.cmd == some c.id)) })
        let r := pages.zipIdx.foldl (fun r l => l.1.zipIdx.foldl (fun (r : List Nat × State) p =>
          let (id, s) := encodeShard t c modules l.2 p.2 p.1 r.2
          (r.1 ++ [id], s)) r) ([], s)
        setCmd t { c with waiting := r.1, stage := 2 } r.2
    | (.quota, s) => stop .rejected (quotaRefused t 0 0 s)
    | (_, s) => stop .retryLater (noFrame t (rSpace d) 0 s)

/-- Frees the shard frames of a set, those of invalid shards too, its descriptor's frames and its directory entry (R215). A shard that was
never placed names frame 0, which holds no shard. -/
def releaseSet (t i : Nat) (s : State) : State :=
  match getSet? s i with
  | none => tabDrop (fun l => l.level == 4 && l.space == i) s
  | some x =>
    let s := x.stripes.foldl (fun s l => l.foldl (fun s h =>
      if h.frame = 0 then s
      else if h.module = s.myModule then freeFrames [fkey (ck h.tile h.core) h.frame] s
      else returnFrames t ⟨h.module, h.tile, h.core, h.frame⟩ s) s) s
    tabDrop (fun l => l.level == 4 && l.space == i) { s with sets := tdel s.sets i }

/-- The bindings of a space with a range taken out of them: what lies before and after it keeps its set. -/
def unbind (l : List Binding) (vpn n : Nat) : List Binding :=
  l.flatMap (fun b =>
    if !rangesOverlap b.base b.pages vpn n then [b] else
    (if b.base < vpn then [{ b with pages := vpn - b.base }] else []) ++
    (if vpn + n < b.base + b.pages then [⟨vpn + n, b.base + b.pages - (vpn + n), b.set⟩] else []))

/-- The sets that a range was bound to and that no binding of the space names any more. -/
def setsFreed (old new : List Binding) (vpn n : Nat) : List Nat :=
  ((old.filter (fun b => rangesOverlap b.base b.pages vpn n)).map (·.set)).foldl addNew [] |>.filter (fun i => !new.any (fun b => b.set == i))

/-- The end of ENCODE (R215): with every shard placed the range is bound to the new set, its pages are clean, and the frames of
each old set that no binding names any more are free; otherwise the new set is given up. A space may come to hold more than 64 bindings.
DESIGN CHOICE (log entries 147, 165). -/
def encodeEnd (t : Nat) (c : ResCmd) (s : State) : State :=
  let d := c.desc
  let ok := c.code == .ok
  let s := modRes s t (fun r => { r with xfers := r.xfers.filter (fun x => !(x.kind == .encode && x.key.isSome && x.cmd == some c.id)) })
  let held (pk : Nat) : Bool := s.res.any (fun r => r.2.xfers.any (fun x => x.key == some pk))
  let s := (rRange d).foldl (fun s v => modPte s (pkey (rSpace d) v (rBig d)) (fun p =>
    if p.ty == .moving && !held (pkey (rSpace d) v (rBig d)) then
      { p with ty := if p.big then .large else .page, dirty := p.dirty && !ok } else p)) s
  let s := if ok then
      let old := match getSpace s (rSpace d) with | some r => r.bindings | none => []
      let new := unbind old (rVpn d) (rPages d) ++ [⟨rVpn d, rPages d, rSet d⟩]
      let s := modSet s (rSet d) setRefresh
      let s := { s with spaces := s.spaces.map (fun p => if p.1 = rSpace d then (p.1, { p.2 with bindings := new }) else p) }
      (setsFreed old new (rVpn d) (rPages d)).foldl (fun s i => releaseSet t i s) s
    else resLog t 5 (rSpace d) (rVa d) c.code (releaseSet t (rSet d) s)
  completeCmd t c s

/-- REBUILD (R216): the shard is read from its stripe and written to the location in LIST; in another module, once that module's residency
manager has given the frame (R196). -/
def rebuildStart (t : Nat) (c : ResCmd) (s : State) : State :=
  let d := c.desc
  let n := fld d.w4 39 8
  let j := fld d.w4 7 3
  let new : Place := ⟨fld d.w5 63 50, fld d.w5 49 45, fld d.w5 44 39, fld d.w5 38 24⟩
  let x := { xferBlank .rebuild none false (some c.id) with set := rSet d, stripe := n, shard := j, new := new, phase := 2 }
  let here := new.module == s.myModule
  let free := decide (new.tile < 24) && frameFree s (placeKey new) new.frame && sliceUsable s (placeKey new)
  if here && !free then completeCmd t { c with code := .conflict } s
  else
    let s := if here then markTable (placeKey new) new.frame 1 s else s
    let s := modSet s (rSet d) (fun st => setRefresh { st with stripes := st.stripes.modify n (fun l => l.modify j (fun h => { h with rebuilding := true })) })
    let (id, s) := addXfer t (if here then x else { x with phase := 1 }) s
    let s := setCmd t { c with waiting := [id], stage := 2 } s
    if here then gather t { x with id := id } s else askFrames t new.module 2 id 1 0 0 (some new) s

/-- VERIFY: one transfer for every valid shard of the set. -/
def verifyStart (t : Nat) (c : ResCmd) (s : State) : State :=
  match getSet? s (rSet c.desc) with
  | none => completeCmd t { c with code := .rejected } s
  | some st =>
    let all := st.stripes.zipIdx.flatMap (fun l => (validShards l.1).map (fun j => (l.2, j)))
    let r := all.foldl (fun (r : List Xfer × State) q =>
      let x := { xferBlank .verify none false (some c.id) with set := rSet c.desc, stripe := q.1, shard := q.2, phase := 2 }
      let (id, s) := addXfer t x r.2
      (r.1 ++ [{ x with id := id }], s)) ([], s)
    r.1.foldl (fun s x => gather t x s) (setCmd t { c with waiting := r.1.map (·.id), stage := 2 } r.2)

/-! ### The queue -/

/-- Whether any transfer acts for a space. -/
def spaceBusy (s : State) (space : Nat) : Bool :=
  s.res.any (fun r => r.2.xfers.any (fun x => x.key.any (fun pk => pkSpace pk == space)))

/-- The first action of a command (Table 6.9). -/
def startCmd (t : Nat) (c : ResCmd) (s : State) : State :=
  let d := c.desc
  let space (f : Space → Space) (s : State) : State :=
    { s with spaces := s.spaces.map (fun p => if p.1 = rSpace d then (p.1, f p.2) else p) }
  if (match getSpace s (rSpace d) with | some r => r.withdrawn | none => false) then completeCmd t { c with code := .withdrawn } s
  else if rOp d == 0xD && !resReserved d && gpaTrains s d.w5.toNat then s
  else if resRejects s d then completeCmd t { c with code := .rejected } (if rOp d = 0xD then (encodeLoad s d).2 else s)
  else match rOp d with
    | 1 =>
      match tabPlace t 0 (rSpace d) 0 8192 s with
      | (.got _ _, s) => completeCmd t c { s with spaces := tput s.spaces (rSpace d) ⟨min (rCount d) (2 ^ 21 - 1), [], 0, false⟩ }
      | (.wait, s) => s
      | (.quota, s) => completeCmd t { c with code := .rejected } (quotaRefused t 0 0 s)
      | (_, s) => completeCmd t { c with code := .retryLater } (noFrame t (rSpace d) 0 s)
    | 2 => setCmd t { c with stage := 1 } (space (fun r => { r with withdrawn := true }) s)
    | 3 => completeCmd t c (space (fun r => { r with quota := min (rCount d) (2 ^ 21 - 1) }) s)
    | 0xC =>
      let on := bit d.w3 38
      let s := space (fun r => { r with grants := if on then r.grants ||| BitVec.twoPow 256 (rSegment d) else r.grants &&& ~~~(BitVec.twoPow 256 (rSegment d)) }) s
      if on then completeCmd t c s
      else
        let s := { s with cores := s.cores.map (fun p => (p.1, { p.2 with grants :=
          match p.2.kernel with
          | some k => if k.image.space = rSpace d then p.2.grants &&& ~~~(BitVec.twoPow 256 (rSegment d)) else p.2.grants
          | none => p.2.grants })) }
        setCmd t { c with stage := 1 } s
    | 0xE => rebuildStart t c s
    | 0xF => verifyStart t c s
    | _ =>
      let s := if rOp d = 4 ∧ rFill d = 1 then space (fun r => { r with bindings := r.bindings ++ [⟨rVpn d, rPages d, rSet d⟩] }) s else s
      setCmd t { c with stage := 1, todo := rRange d } s

/-- What a command does once its pages and transfers are done: its invalidation round, its encoding, its end. The round of an ENCODE comes
before its reads, so that no store that was under way lands after them (R195, Table 6.11). DESIGN CHOICE (log entry 51). -/
def advanceCmd (t : Nat) (c : ResCmd) (s : State) : State :=
  let d := c.desc
  let op := rOp d
  if c.stage = 1 then
    if op = 2 then
      if spaceBusy s (rSpace d) then s else
      let mine := s.pages.filter (fun p => pkSpace p.1 == rSpace d && (p.2.ty == .page || p.2.ty == .large))
      let frees := mine.flatMap (fun p => placeFrames s (ptePlace p.2) (pkPages p.1))
      let remote := (mine.filter (fun p => p.2.module != s.myModule)).map (fun p => ptePlace p.2)
      startRound t (rSpace d) 0 (2 ^ 32) frees remote (some c.id)
        (setCmd t { c with rounds := 1, stage := 2 } { s with pages := s.pages.filter (fun p => pkSpace p.1 != rSpace d) })
    else if op = 5 ∨ op = 6 ∨ op = 0xA then
      let s := if op = 5 then { s with spaces := s.spaces.map (fun p => if p.1 = rSpace d then
        (p.1, { p.2 with bindings := unbind p.2.bindings (rVpn d) (rPages d) }) else p) } else s
      startRound t (rSpace d) (rVpn d) (rPages d) c.frees c.remote (some c.id) (setCmd t { c with rounds := 1, stage := 2 } s)
    else if op = 0xC then
      startRound t 0 (segmentVpn (rSegment d)) (2 ^ 23) [] [] (some c.id) (setCmd t { c with rounds := 1, stage := 2 } s)
    else if op = 0xD then
      if c.code != .ok then encodeEnd t c s
      else startRound t (rSpace d) (rVpn d) (rPages d) [] [] (some c.id) (setCmd t { c with rounds := 1, stage := 4 } s)
    else completeCmd t c s
  else if op = 0xD && c.stage = 4 && c.code == .ok then
    match encodeFar s t c with
    | [] => encodeStart t c s
    | far => encodeAsk t c far s
  else if op = 0xD then encodeEnd t c s
  else if op = 2 then completeCmd t c (tabDrop (fun l => decide (l.level < 4) && l.space == rSpace d)
    { s with spaces := tdel s.spaces (rSpace d), kernels := s.kernels.filter (fun i => i.space != rSpace d) })
  else completeCmd t c s

/-- Whether two commands name overlapping ranges, or one of them a whole space. -/
def cmdsOverlap (a b : CmdDesc) : Bool :=
  rSpace a == rSpace b && (!rangeOp (rOp a) || !rangeOp (rOp b) || rangesOverlap (rVpn a) (rPages a) (rVpn b) (rPages b))

/-- One command of a tile's queue goes on as far as it can; it waits for earlier commands on overlapping ranges, and a
DESTROY_SPACE for the withdrawal of the tin (R252). -/
def stepCmd (t id : Nat) (s : State) : State :=
  match findCmd s t id with
  | none => s
  | some c =>
    let tin := s.tins.any (fun p => p.1 == rSpace c.desc && p.2.state != .free)
    if c.stage = 0 && rOp c.desc = 2 && tin && !resRejects s c.desc then
      { s with tins := s.tins.map (fun p => if p.1 = rSpace c.desc then (p.1, { p.2 with thenDestroy := true }) else p) }
    else
    let earlier := (getRes s t).queue.takeWhile (fun q => q.id != id)
    if c.stage = 100 || (c.stage = 0 && earlier.any (fun q => q.stage != 100 && cmdsOverlap q.desc c.desc)) then s else
    let s := if c.stage = 0 then startCmd t c s else s
    match findCmd s t id with
    | none => s
    | some c =>
      if c.stage = 0 || c.stage = 100 then s else
      let again := rOp c.desc = 0xD && c.stage = 1 && !c.waiting.isEmpty
      let (c, s) := if again then (c, s) else runPages t (c.todo.length + 1) c s
      let s := setCmd t c s
      if c.todo.isEmpty && c.waiting.isEmpty && c.rounds = 0 then advanceCmd t c s else s

/-- Submission of a residency command (R203). -/
def resSubmit (rq : Requester) (t : Nat) (d : CmdDesc) (s : State) : State :=
  let r := getRes s t
  let system := match rq with | .systemKernel _ _ => true | _ => false
  if rSpace d = 0 && !system && !expertOk rq 2 s then ends .keyFault s
  else if 64 ≤ (r.queue.filter (fun q => q.admin.isNone)).length then ends .retryLater s
  else
    let id := s.nextId
    stepCmd t id (ends .ok (modRes { s with nextId := id + 1 } t (fun r => { r with queue := r.queue ++
      [⟨id, fld d.w0 15 0, d, rq, .ok, [], [], 0, [], [], 0, none⟩] })))

/-- A residency command that the admission controller issues for its command `adm`; it takes no place of R203's queue. -/
def resInternal (t : Nat) (d : CmdDesc) (adm : Nat) (s : State) : State :=
  let id := s.nextId
  stepCmd t id (modRes { s with nextId := id + 1 } t (fun r => { r with queue := r.queue ++
    [⟨id, 0, d, .keeper, .ok, [], [], 0, [], [], 0, some adm⟩] }))

/-! ### Compaction, hints and evacuation -/

/-- Free aligned runs of a slice. -/
def freeRuns (s : State) (key : Nat) : Nat :=
  1023 - ((((usedIn s key).map (· / 32)).filter (fun r => r != 0)).foldl addNew []).length

/-- BACKGROUND_COMPACTION (R202). -/
def backgroundCompactionOp (key : Nat) (s : State) : State :=
  let t := key / 64
  let r := getRes s t
  if bit r.ctrl 9 && sliceUsable s key && decide (freeRuns s key < fld r.ctrl 31 24) then (compactSlice t key s).2 else s

/-- The pages of a hint that its action may take, within the first 64 (R211, R212). -/
def hintPages (s : State) (h : Hint) : List Nat :=
  let ks := ((upto h.pages).map (fun i => leafKey s h.space.toNat ((h.vpn.toNat + i) * 65536))).foldl addNew []
  ks.filter (fun pk =>
    let p := getPte s pk
    match h.action with
    | .evict => evictable s pk
    | .prefetch => p.ty == .absent
    | .prefer _ _ => (p.ty == .page || p.ty == .large) && !p.pinned && p.module == s.myModule && !placeExported s (ptePlace p) (pkPages pk))

/-- Free frames of a slice. -/
def freeCount (s : State) (key : Nat) : Nat := 32760 - (usedIn s key).length

/-- The slice that a hinted transfer of a page fills, if any: none for a page that is mapped with placement REMOTE, whose prefetch hint is
dropped. DESIGN CHOICE (log entry 164). -/
def hintTarget (s : State) (h : Hint) (pk : Nat) : Option Nat :=
  match h.action with
  | .prefer t c => some (ck t.val c.val)
  | .prefetch => pickSlice s (getPte s pk).place (getPte s pk).placeArg ((pkVpn pk - (getPte s pk).first) / pkPages pk) none
  | .evict => none

/-- The new frames that a hinted transfer of a page takes in its target tile. -/
def hintFrames (h : Hint) (pk : Nat) : Nat :=
  match h.action with
  | .prefetch | .prefer _ _ => pkPages pk
  | .evict => 0

/-- HINT_APPLY (R211): the oldest hint of the tile. A hint that breaks a limit is dropped and counted. The rate counts the hinted
transfers, evictions among them, of each second of module time. A module whose firmware is halted applies none (R418). DESIGN CHOICE (log
entry 145). -/
def hintApplyOp (t : Nat) (s : State) : State :=
  let r := getRes s t
  match r.hints with
  | [] => s
  | h :: rest =>
    if s.keeper.fw.halted then s else
    let window := s.now / 1000000000
    let used := if r.hintWindow = window then r.hintCount else 0
    let s := modRes s t (fun r => { r with hints := rest, hintWindow := window, hintCount := used })
    let drop (s : State) : State := countTile t 11 1 s
    let ks := hintPages s h
    let exists_ := match getSpace s h.space.toNat with | some x => !x.withdrawn | none => false
    let target (pk : Nat) : Option Nat := hintTarget s h pk
    let room := ks.all (fun pk => match target pk with
      | some key => sliceUsable s key &&
          decide (fld r.ctrl 23 16 + ((ks.filter (fun q => target q == some key)).map pkPages).sum < freeCount s key) &&
          quotaOk s (pkSpace pk) (key / 64) ((ks.filter (fun q => (target q).map (· / 64) == some (key / 64))).map (fun q => hintFrames h q)).sum
      | none => (match h.action with | .evict => true | _ => false))
    if !bit r.ctrl 8 || decide (64 < h.pages) || h.pages = 0 || ks.isEmpty || !exists_ || decide (1000 * fld r.ctrl 39 32 < used + ks.length) || !room
    then drop s
    else
      let s := countTile t 10 1 (modRes s t (fun r => { r with hintCount := used + ks.length }))
      ks.foldl (fun s pk => match h.action with
        | .evict => evictPage t pk none s
        | .prefetch => (makeResident t pk none .hint none false none s).2
        | .prefer pt pc =>
          if placeKey (ptePlace (getPte s pk)) = ck pt.val pc.val then s
          else (queueMove t pk (ck pt.val pc.val) .hint s.myModule 0 none s).2) s

/-- SUBMIT_HINT (R211): a full queue drops the hint. -/
def submitHintOp (t : Nat) (h : Hint) (s : State) : State :=
  if 64 ≤ (getRes s t).hints.length then countTile t 11 1 s
  else modRes s t (fun r => { r with hints := r.hints ++ [h] })

/-- Relocates the structures that lie in a slice to TABLE frames elsewhere; those for which no frame is found stay (R210). -/
def tabEvacuate (key : Nat) (s : State) : State :=
  (s.tables.filter (fun l => ck l.tile l.core == key)).foldl (fun s l =>
    match tabPlace (key / 64) l.level l.space l.prefix_ l.bytes s with
    | (.got _ _, s) => tabDrop (fun q => q == l) s
    | (_, s) => s) s

/-- Relocates the own shards that lie in a slice to frames elsewhere; one that cannot be read becomes invalid (R210, R216). It waits while a
slice trains (R167) or the destination's stack holds writes (Table 5.7). -/
def shardEvacuate (key : Nat) (s : State) : State :=
  let all := s.sets.flatMap (fun p => p.2.stripes.zipIdx.flatMap (fun l => l.1.zipIdx.map (fun h => (p.1, l.2, h.2, h.1))))
  (all.filter (fun q => q.2.2.2.valid && !placeExported s ⟨q.2.2.2.module, q.2.2.2.tile, q.2.2.2.core, q.2.2.2.frame⟩ 1 && q.2.2.2.module == s.myModule && ck q.2.2.2.tile q.2.2.2.core == key)).foldl (fun s q =>
    let h := q.2.2.2
    let before := s
    match allocate key 0 1 true s with
    | (.got k f, s) =>
      if sliceTrains s key || sliceTrains s k || (getTile s (k / 64)).hold then before else
      match pageLoad key h.frame s with
      | (some page, s) =>
        let s := putPage k f page (markTable k f 1 (freeFrames [fkey key h.frame] s))
        modSet s q.1 (fun x => { x with stripes := x.stripes.modify q.2.1 (fun l => l.modify q.2.2.1 (fun h => { h with tile := k / 64, core := k % 64, frame := f })) })
      | (none, s) => freeFrames [fkey key h.frame] (shardInvalid (key / 64) q.1 q.2.1 q.2.2.1 s)
    | (_, s) => s) s

/-- Starts the evacuation of a slice: a move for every page whose frames are not exported; tables and own shards are relocated at
once (R210). DESIGN CHOICE (log entry 148). -/
def evacuateStart (key : Nat) (s : State) : State :=
  let t := key / 64
  let s := (s.frames.filter (fun p => p.1 / 32768 == key && !p.2.exported)).foldl (fun s p =>
    match pageOfFrame s p.1 p.2 with
    | none => s
    | some pk => if (getRes s t).xfers.any (fun x => x.key == some pk) then s
      else (queueMove t pk key .evacuate s.myModule 0 none s).2) s
  shardEvacuate key (tabEvacuate key s)

/-- Whether a slice in EVACUATE still holds a frame that can move. -/
def evacuating (s : State) (key : Nat) : Bool :=
  sliceEvac s key && s.frames.any (fun p => p.1 / 32768 == key && !p.2.exported && (p.2.table || (pageOfFrame s p.1 p.2).isSome))

/-- What the residency manager of a tile does without a command: queued transfers and requests of other modules start, reads
that a training slice held up begin again, queued commands go on, and the
lease of a finished evacuation ends. -/
def resSettle (t : Nat) (s : State) : State :=
  let s := ((getRes s t).xfers.filter (fun x => x.phase == 0)).foldl (fun s x =>
    if x.heldTile.any (fun u => (getTile s u).hold) then s else xferStart t { x with heldTile := none } s) s
  let s := ((getRes s t).xfers.filter (fun x => x.phase == 6)).foldl (fun s x => gather t x s) s
  let s := residencyAgain t s
  let s := (getRes s t).queue.foldl (fun s c => stepCmd t c.id s) s
  let held := s.topo.leases.filter (fun l => l.activity == 3 && l.tile == t)
  held.foldl (fun s l =>
    let key := ck t l.unit_
    match l.act with
    | .evacuate _ _ _ => if evacuating s key then evacuateStart key s else leaseRelease 3 t l.unit_ s
    | _ => s) s

end Sys2Proof.Machine
end

