-- ==== Sys2Proof/Machine/Remote.lean ====
section
/-! DEFINITION. Remote: remote loads, stores, atomics and reductions at their source and at their home (R301–R325). -/

namespace Sys2Proof.Machine

/-! ### The operations (Tables 9.1, 9.2) -/

/-- The signed value of the low n bytes of a word. -/
def sval (n : Nat) (x : Nat) : Int := sext (8 * n) x

/-- The new value of a target of n bytes: x its old value, y the operand, z the compare value (Table 9.2). -/
def atomicNew (op n x y z : Nat) : Nat :=
  match op with
  | 0 => (x + y) % 2 ^ (8 * n)
  | 1 => x &&& y
  | 2 => x ||| y
  | 3 => x ^^^ y
  | 4 => if sval n x ≤ sval n y then x else y
  | 5 => if sval n x ≤ sval n y then y else x
  | 6 => min x y
  | 7 => max x y
  | 8 => y
  | 9 => if x = z then y else x
  | _ => (fAdd (BitVec.ofNat 32 x) (BitVec.ofNat 32 y)).1.toNat

/-! ### The end of an operation at its source (Table 9.9) -/

/-- The event of a load whose target has died, at most one per target tile per millisecond (R317). DEDUCED (log entry 76). -/
def targetDead (t module tile : Nat) (s : State) : State :=
  let p := getPort s t
  let k := module * 32 + tile
  if p.dead.any (fun q => q.1 == k && decide (s.now < q.2 + 1000000)) then s else
  raise (mkEv 0x0601 clsFault 0 7 t 0 evW2 (pack [(50, module), (45, tile)]) .poisoned)
    (modPort s t (fun p => { p with dead := p.dead.filter (fun q => q.1 != k) ++ [(k, s.now)] }))

/-- The register that a load or atomic writes, with the value of its code. -/
def opResult (o : RemOp) (code : Code) (v : Word) (k : Kernel) : Kernel :=
  let n := 2 ^ o.size
  let write (v : Word) : Kernel :=
    let k := { k with gWait := putBit k.gWait o.reg false }
    if code = .ok then putG k o.reg v false else putG k o.reg (BitVec.allOnes 64) true
  match o.kind with
  | .load true => write (BitVec.ofInt 64 (sext (8 * n) v.toNat))
  | .load false | .const | .atomic _ => write (BitVec.ofNat 64 (v.toNat % 2 ^ (8 * n)))
  | _ => k

/-- Ends a remote operation of a kernel with a code and a value (R316). -/
def endOp (t : Nat) (o : RemOp) (code : Code) (v : Word) (s : State) : State :=
  let value := match o.kind with | .load _ | .const | .atomic _ => true | _ => false
  let s := modPort s t (dropOp o.txn)
  let s := modCore s (ck t o.core) (fun c => modKernel c (fun k =>
    let k := opResult o code v k
    if o.kind = .const then k else ticketEnd k 3 o.ticket code))
  let s := if value && code != .ok then countTile t 31 1 s else s
  if code = .unknownOutcome then countTile t 32 1 s else s

/-- An answer of a member of a multicast store: the operation ends once every member has answered (R324). -/
def memberAnswer (t : Nat) (o : RemOp) (module : Nat) (code : Code) (s : State) : State :=
  if !o.expect.contains module then s else
  let g := match o.kind with | .mcast g => g | _ => 0
  let s := if codeFailed code then
    raise (mkEv 0x0602 clsNotice 0 7 t 0 evW2 (pack [(50, module), (0, g)]) code) s else s
  let o := { o with answers := o.answers ++ [(module, code)], expect := o.expect.filter (· != module) }
  if o.expect.isEmpty then endOp t o (codeMergeAll (o.answers.map (·.2))) 0 s else modPort s t (setOp o)

/-- Every member that has not answered answers with a code. -/
def membersFail (t txn : Nat) (code : Code) (s : State) : State :=
  match findOp s t txn with
  | none => s
  | some o => o.expect.foldl (fun s m => match findOp s t txn with
    | some o => memberAnswer t o m code s
    | none => s) s

/-- The code of an operation that no answer reaches: by its kind, when the request was undeliverable or its flow reset
(`late` false), or when it was acknowledged and 128 µs have passed. -/
def noAnswer (k : RemKind) (late : Bool) : Code :=
  match k with
  | .atomic _ | .reduce _ => .unknownOutcome
  | .load _ | .const => .poisoned
  | _ => if late then .timeout else .poisoned

/-! ### The home (Table 9.7) -/

/-- The bytes that a request reads or writes. -/
def reqSize (p : Packet) : Nat :=
  if pType p = 0x21 then fld p.w5 63 51 else if pType p = 0x20 then (pBytes p).length else 2 ^ fld p.w4 11 10

/-- Whether a request writes, and its permission bit of Table 9.5. -/
def reqWrites (p : Packet) : Bool := !(pType p == 1 || pType p == 0x21)
def reqPerm (p : Packet) : Nat :=
  match pType p with | 1 | 0x21 => 61 | 3 => 59 | 4 => 58 | _ => 60

/-- The target of a request at this module. -/
def reqTarget (s : State) (p : Packet) : Nat := if pType p = 5 then p.w3.toNat + s.myModule <<< 50 else p.w3.toNat

/-- A request of R303 that runs in its own slice's line unit is held in the shape of a packet with FORMAT 0. -/
def isDirect (p : Packet) : Bool := pFormat p == 0

/-- The reply of a request: by message, or at once to a direct one. -/
def homeReply (t : Nat) (p : Packet) (code : Code) (v : Word) (s : State) : State :=
  let v := if code = .ok then v else BitVec.allOnes 64
  let w5 := pack [(32, codeNum code), (0, pTxn p)]
  if isDirect p then
    match findOp s t (pTxn p) with | some o => endOp t o code v s | none => s
  else
    let to_ (type : Nat) (w5 w6 : Word) (bs : List Byte) (s : State) : State := sendMsg t (pSrcModule p) (pSrcTile p) type 0 0 w5 w6 bs s
    match pType p with
    | 1 => to_ 0x10 w5 v [] s
    | 3 => to_ 0x12 w5 v [] s
    | 0x20 => to_ 0x23 (BitVec.ofNat 64 (pTxn p)) (BitVec.ofNat 64 (codeNum code)) [] s
    | 0x21 => to_ 0x22 (BitVec.ofNat 64 (pTxn p)) (BitVec.ofNat 64 (codeNum code)) (List.replicate (if code = .ok then 0 else reqSize p) 0xFF) s
    | _ => to_ 0x11 w5 (BitVec.ofNat 64 s.myModule) [] s

/-- The key of a request in the atomic result cache (R315). -/
def arcMatch (p : Packet) (e : ArcEntry) : Bool := e.module == pSrcModule p && e.tile == pSrcTile p && e.txn == pTxn p
/-- Drops the expired entries of the cache. -/
def arcPurge (t : Nat) (s : State) : State :=
  modPort s t (fun p => { p with arc := p.arc.filter (fun e => match e.result with | some (_, _, x) => decide (s.now < x) | none => true) })

/-- A message of several MOVE_WRITE packets (R283): notes the outcome of one packet and answers when the message is
complete, or when its packets disagree in MSG_PKTS. -/
def notePart (t : Nat) (p : Packet) (code : Code) (s : State) : State :=
  match findRx (getPort s t) (rxKey p) with
  | none => if pMsgPkts p ≤ 1 then homeReply t p code 0 s else s
  | some f =>
    let m := (f.msgs.find? (fun m => m.id == pMsgId p)).getD ⟨pMsgId p, pMsgPkts p, [], false, .ok⟩
    let rest := f.msgs.filter (fun x => x.id != pMsgId p)
    if m.pkts != pMsgPkts p then homeReply t p .rejected 0 (modPort s t (fun x => setRx x { f with msgs := rest }))
    else
      let m := { m with seen := addNew m.seen (pIndex p), code := codeMerge m.code code }
      if m.pkts ≤ m.seen.length then homeReply t p m.code 0 (modPort s t (fun x => setRx x { f with msgs := rest }))
      else modPort s t (fun x => setRx x { f with msgs := rest ++ [m] })

/-- Refuses a request: a reserved entry of the cache is freed. -/
def homeRefuse (t : Nat) (p : Packet) (code : Code) (s : State) : State :=
  let s := if pType p = 3 ∨ pType p = 4 then
    modPort s t (fun x => { x with arc := x.arc.filter (fun e => !(arcMatch p e && e.result.isNone)) }) else s
  if pType p = 0x20 then notePart t p code s else homeReply t p code 0 s

/-- A line enters the line buffers of its slice (R320), in place of the one used least recently when all 16 hold lines. -/
def bufferLine (t core line : Nat) (s : State) : State :=
  modPort s t (fun p =>
    let mine := p.lineBuffers.filter (fun b => b.1 == core)
    let l := p.lineBuffers.filter (fun b => !(b.1 == core && b.2.1 == line))
    let l := if mine.any (fun b => b.2.1 == line) || decide (mine.length < 16) then l else
      match mine with
      | [] => l
      | b :: r => l.erase (r.foldl (fun m x => if x.2.2 < m.2.2 then x else m) b)
    { p with lineBuffers := l ++ [(core, line, s.now)] })

/-- Writes the bytes of a request's target; a write by the move engine does not enter a line buffer. -/
def homeWrite (key space off : Nat) (bs : List Byte) (s : State) : State :=
  if space = 0 then sliceWrite key off bs s else modCore s key (fun c => benchWrite c off bs)

/-- The last row of Table 9.7: applies the operation, whose target held the bytes `bs`, and answers. An operation under R303 takes no
entry of the atomic result cache. -/
def homeApply (t : Nat) (p : Packet) (bs : List Byte) (s : State) : State :=
  let a := reqTarget s p
  let key := ck (gTile a) (gCore a)
  let n := reqSize p
  let off := gOff a
  let s := if gSpace a = 0 ∧ pType p < 0x20 then bufferLine t (gCore a) (off / 128) s else s
  let x := leNat bs
  let y := p.w6.toNat % 2 ^ (8 * n)
  match pType p with
  | 1 => homeReply t p .ok (BitVec.ofNat 64 x) (countTile t 22 1 s)
  | 2 | 5 => homeReply t p .ok 0 (countTile t 23 1 (homeWrite key (gSpace a) off (leBytes n y) s))
  | 3 | 4 =>
    let z := leNat ((pBytes p).take n)
    let new := atomicNew (fld p.w4 17 12) n x y z
    let s := homeWrite key (gSpace a) off (leBytes n new) s
    let s := if isDirect p then s else modPort s t (fun q => { q with arc := q.arc.filter (fun e => !arcMatch p e) ++
      [⟨pSrcModule p, pSrcTile p, pTxn p, some (.ok, BitVec.ofNat 64 x, s.now + 200000)⟩] })
    homeReply t p .ok (BitVec.ofNat 64 x) (countTile t (if pType p = 3 then 24 else 25) 1 s)
  | 0x20 => notePart t p .ok (homeWrite key (gSpace a) off (pBytes p) s)
  | _ => sendMsg t (pSrcModule p) (pSrcTile p) 0x22 0 0 (BitVec.ofNat 64 (pTxn p)) 0 bs s

/-- Rows 2–6 of Table 9.7: KEY_FAULT. -/
def homeKeyRows (t : Nat) (p : Packet) (s : State) : Bool :=
  let a := reqTarget s p
  let key := ck (gTile a) (gCore a)
  let e := tget (0, 0) (getPort s t).regions (fld p.w4 31 18)
  (pSrcModule p != s.myModule && !isDirect p &&
    (!bit e.1 63 || bit e.1 62 || fld p.w4 63 32 != fld e.1 31 0 || !bit e.1 (reqPerm p) || gTile a != t || !entryCovers e.1 e.2 a (reqSize p))) ||
  (gSpace a == 1 && ((getCore s key).withdrawn || (getGroup s (gTile a) (groupOf key)).pstate == .off ||
    bit (getGroup s (gTile a) (groupOf key)).off (posOf s key)))

/-- Rows 2–8 of Table 9.7, R187, and Table 7.13 for the regions of a withdrawn tin: the code of a refusal. DEDUCED (log entry 77). -/
def homeRefusal (t : Nat) (p : Packet) (s : State) : Option Code :=
  let a := reqTarget s p
  let n := reqSize p
  let key := ck (gTile a) (gCore a)
  let other := pSrcModule p != s.myModule && !isDirect p
  if homeKeyRows t p s then some .keyFault
  else if pType p = 5 && !isDirect p && pGroupFlow p && s.routing.gone.contains (pGroup p) then some .keyFault
  else if other && gSpace a = 0 && (match frameAt s key (gOff a / 65536) with | some f => spaceGone s f.space | none => false)
  then some .keyFault
  else if 1 < gSpace a then some .keyFault
  else if gSpace a = 1 then none
  else if reqWrites p && touchesTables s key (gOff a) n then some .keyFault
  else if sliceEvac s key && reqWrites p then some .rejected
  else if sliceOut s key then some .poisoned
  else none

/-- Whether a request must wait at its target, and why: for the wake of a group (R398) or a shift (0), for a slice that
trains (R167) or a place among a stack's held writes (1), or for a bench lock (2). -/
def homeWaits (p : Packet) (s : State) : Option Nat :=
  let a := reqTarget s p
  let key := ck (gTile a) (gCore a)
  let n := reqSize p
  if gSpace a = 1 && (groupAsleep s (gTile a) (groupOf key) || inShift s key) then some 0
  else if gSpace a = 0 && sliceTrains s key then some 1
  else if !reqWrites p then none
  else if gSpace a = 1 then (if benchLocked (getCore s key) (gOff a) n then some 2 else none)
  else if writeRoom s key (gOff a) n then none else some 1

/-- What row 11 of Table 9.7 finds: the bytes that the request reads, whether a line or word that it reads, in whole or to
change a part of it, is uncorrectable, and the target after that read (R162, R179). DEDUCED (log entry 76). -/
def homeRead (p : Packet) (s : State) : List Byte × Bool × State :=
  let a := reqTarget s p
  let key := ck (gTile a) (gCore a)
  let n := reqSize p
  if gSpace a = 1 then
    if pType p = 0x20 then ([], false, s) else
    let bad := decide (2 ≤ benchErrAt (getCore s key) (gOff a) n)
    (benchRead (getCore s key) (gOff a) n, bad, (benchScan key (gOff a) n s).2)
  else if pType p = 0x20 then
    let bad := edgeLines s key (gOff a) n
    ([], !bad.isEmpty, bad.foldl (lineFailed key) (sliceAccess key (cdiv (gOff a % 128 + n) 128) s))
  else sliceLoad key (gOff a) n s

/-- Rows 11 and 12, for a slice that still serves the request (Table 5.4). MOVE_READ of uncorrectable lines carries ones in their
place (R163). -/
def homeLast (t : Nat) (p : Packet) (s : State) : State :=
  let a := reqTarget s p
  let key := ck (gTile a) (gCore a)
  if gSpace a = 0 && sliceOut s key then homeRefuse t p .poisoned s
  else if gSpace a = 0 && sliceEvac s key && reqWrites p then homeRefuse t p .rejected s
  else match homeRead p s with
    | (bs, false, s) => homeApply t p bs s
    | (bs, true, s) =>
      if pType p = 0x21 && gSpace a = 0 then
        sendMsg t (pSrcModule p) (pSrcTile p) 0x22 0 0 (BitVec.ofNat 64 (pTxn p)) (BitVec.ofNat 64 (codeNum .poisoned)) bs s
      else homeRefuse t p .poisoned s

/-- Whether a request must stay behind one that already waits: of the same source tile, or for the same bytes (R311,
R312). DEDUCED (log entry 75). -/
def homeBehind (p : Packet) (w : TargetWait) : Bool :=
  (pSrcModule w.pkt == pSrcModule p && pSrcTile w.pkt == pSrcTile p && isDirect w.pkt == isDirect p) ||
  (fld w.pkt.w3 49 36 == fld p.w3 49 36 && rangesOverlap (fld w.pkt.w3 35 0) (reqSize w.pkt) (fld p.w3 35 0) (reqSize p))

/-- Rows 2–12 of Table 9.7. -/
def homeTake (t : Nat) (p : Packet) (s : State) : State :=
  match homeRefusal t p s with
  | some code =>
    let s := if homeKeyRows t p s then countTile t 29 1 s else s
    if pType p = 0x20 then notePart t p code s else homeReply t p code 0 s
  | none =>
    let s := arcPurge t s
    let atomic := (pType p == 3 || pType p == 4) && !isDirect p
    if atomic && decide (4096 ≤ (getPort s t).arc.length) then homeReply t p .retryLater 0 (countTile t 28 1 s)
    else
      let s := if atomic then modPort s t (fun x => { x with arc := x.arc ++ [⟨pSrcModule p, pSrcTile p, pTxn p, none⟩] }) else s
      let behind := (getPort s t).waits.any (homeBehind p)
      let a := reqTarget s p
      let s := if gSpace a = 1 then wakeGroup (gTile a) (groupOf (ck (gTile a) (gCore a))) s else s
      match (if behind then some 3 else homeWaits p s) with
      | some why => modPort s t (fun x => { x with waits := x.waits ++ [⟨p, s.now, why, s.now⟩] })
      | none => homeLast t p s

/-- A repeat (R314). DEDUCED (log entry 75). -/
def homeRepeat (t : Nat) (p : Packet) (s : State) : State :=
  let s := countTile t 26 1 (arcPurge t s)
  if pType p = 3 ∨ pType p = 4 then
    match (getPort s t).arc.find? (arcMatch p) with
    | none => homeReply t p .retryLater 0 s
    | some e => match e.result with
      | some (code, old, _) => homeReply t p code old (countTile t 27 1 s)
      | none => s
  else s

/-- A request of chapter 9 or of Table 8.5 delivered by its flow, with the check of R313. The copies of a multicast store for other tiles
of LOCAL_MASK than its target's change nothing (R323). DESIGN CHOICE (log entry 150). -/
def deliverRequest (t : Nat) (p : Packet) (s : State) : State :=
  if 24 ≤ t || (pType p == 5 && gTile (reqTarget s p) != t) then s
  else if 0x20 ≤ pType p then homeTake t p s
  else match findRx (getPort s t) (rxKey p) with
    | none => homeTake t p s
    | some f =>
      match f.applied with
      | some a => if serialDiff 24 (pSeq p) a ≤ 0 then homeRepeat t p s else fresh f s
      | none => fresh f s
where
  fresh (f : FlowRx) (s : State) : State :=
    homeTake t p (modPort s t (fun x => setRx x { f with applied := some (pSeq p), lastRemote := s.now }))

/-- A waiting request that still waits, for the reason that now holds. -/
def stillWaits (w : TargetWait) (why now : Nat) : TargetWait := if w.why = why then w else { w with why := why, whySince := now }

/-- The requests that wait at a tile, tried again in their order (row 10 of Table 9.7): rows 2–9 are behind them. -/
def retryWaits (t : Nat) (s : State) : State :=
  let l := (getPort s t).waits
  let r := l.foldl (fun (r : State × List TargetWait) w =>
    match (if r.2.any (homeBehind w.pkt) then some 3 else homeWaits w.pkt r.1) with
    | some why => (r.1, r.2 ++ [stillWaits w why r.1.now])
    | none => (homeLast t w.pkt r.1, r.2)) (s, [])
  if l.isEmpty then s else modPort r.1 t (fun x => { x with waits := r.2 })

/-- ARC_ENTRY_EXPIRE (R315): the instant at which the oldest held result expires. -/
def arcEntryExpireOp (t : Nat) (s : State) : State :=
  match ((getPort s t).arc.filterMap (fun e => e.result.map (fun r => r.2.2))) with
  | [] => s
  | x :: r => arcPurge t { s with now := max s.now (r.foldl min x) }

/-- LINE_BUFFER_WRITEBACK (R320): 2 µs after the last operation on a buffered line. -/
def lineBufferWritebackOp (t core line : Nat) (s : State) : State :=
  match (getPort s t).lineBuffers.find? (fun b => b.1 == core && b.2.1 == line) with
  | none => s
  | some b => modPort { s with now := max s.now (b.2.2 + 2000) } t (fun p => { p with lineBuffers := p.lineBuffers.erase b })

/-! ### Operations enter the endpoint (R303, R311) -/

/-- The mark of an operation that has not been translated yet. -/
def notEntered : Nat := 2 ^ 60

/-- The packet-shaped request of an operation that runs in the issuing core's own slice. DESIGN CHOICE (log entry 74). -/
def directReq (s : State) (t : Nat) (o : RemOp) : Packet :=
  { (mkPkt s.myModule t s.myModule t (kindType o.kind) 0 1 0 (BitVec.ofNat 64 o.gpa)
      (pack [(12, kindOp o.kind), (10, o.size)]) (BitVec.ofNat 64 o.txn) o.operand
      (if kindCas o.kind then leBytes 64 o.compare.toNat else [])) with w0 := 0 }

/-- The member modules that answer a multicast store. -/
def mcastExpect (s : State) (g t : Nat) : List Nat :=
  groupMembers s g ++ (if bit (groupEntry (bankSel s true) g).1 t then [s.myModule] else [])

/-- An operation whose address is translated goes to its home. DESIGN CHOICE (log entry 74). -/
def opGo (t : Nat) (o : RemOp) (m tl c off reg : Nat) (s : State) : State :=
  let a := gpaMake m tl c 0 off
  let o := { o with waitPage := none, gpa := a, module := m, tile := tl }
  let here := m == s.myModule
  match o.kind with
  | .mcast g =>
    match selectImport (getPort s t) a (2 ^ o.size) (if here then none else some reg) with
    | none => endOp t o .keyFault 0 s
    | some (key, region) =>
      let o := { o with expect := mcastExpect s g tl }
      if o.expect.isEmpty then endOp t o .rejected 0 s else remSend t o key region (modPort s t (setOp o))
  | _ =>
    if here && tl == t && c == o.core then
      homeTake t (directReq s t o) (modPort s t (setOp { o with sentNs := some s.now }))
    else if here then remSend t o 0 0 (modPort s t (setOp o))
    else match selectImport (getPort s t) a (2 ^ o.size) (some reg) with
      | none => endOp t o .keyFault 0 s
      | some (key, region) => remSend t o key region (modPort s t (setOp o))

/-- Whether an operation writes its target. -/
def kindWrites : RemKind → Bool
  | .load _ | .const => false
  | _ => true

/-- One operation tries to enter: true when it still waits for its page. -/
def opEnter (t : Nat) (o : RemOp) (s : State) : Bool × State :=
  let key := ck t o.core
  match o.answers with
  | (_, code) :: _ => (false, endOp t { o with answers := [] } code 0 s)
  | [] =>
    let acc := if kindWrites o.kind then Access.store else Access.load
    let pk := o.waitPage.getD notEntered
    let ty := (getPte s pk).ty
    if pk != notEntered && (ty == .filling || (ty == .moving && kindWrites o.kind)) then (true, s) else
    let system := match (getCore s key).kernel with | some k => k.image.flags.testBit 0 | none => false
    match translate key o.space o.va acc system (pk != notEntered) s with
    | (.ends code, s) => (false, endOp t o code 0 s)
    | (.poisoned, s) => (false, endOp t o .poisoned 0 s)
    | (.at_ _ m tl c off reg, s) => (false, opGo t o m tl c off reg s)
    | (.waits pk, s) => (true, modPort s t (setOp { o with waitPage := some pk }))
    | (.miss pk, s) => match missPage key pk s with
      | (.failed code, s) => (false, endOp t o code 0 s)
      | (_, s) => (true, modPort s t (setOp { o with waitPage := some pk }))

/-- The operations of a tile that have not entered its endpoint, in program order per core. -/
def enterOps (t : Nat) (s : State) : State :=
  (((getPort s t).ops.filter (fun o => o.waitPage.isSome)).foldl (fun (r : State × List Nat) o =>
    if r.2.contains o.core then r else
    match findOp r.1 t o.txn with
    | none => r
    | some o => if o.waitPage.isNone then r else
      match opEnter t o r.1 with
      | (true, s) => (s, r.2 ++ [o.core])
      | (false, s) => (s, r.2)) (s, [])).1

/-! ### Replies and timeouts at the source (R316, R317, R323–R325) -/

/-- LOAD_REPLY, DONE or ATOMIC_REPLY at the source tile. -/
def replyTake (t : Nat) (p : Packet) (s : State) : State :=
  let code := codeReceived (fld p.w5 39 32)
  let fits (o : RemOp) : Bool := match pType p, o.kind with
    | 0x10, .load _ | 0x10, .const | 0x12, .atomic _ | 0x11, .store | 0x11, .reduce _ => pSrcModule p == o.module && pSrcTile p == o.tile
    | 0x11, .mcast _ => o.expect.contains (fld p.w6 13 0)
    | _, _ => false
  match (findOp s t (pTxn p)).filter (fun o => fits o && o.waitPage.isNone) with
  | none => countTile t 33 1 s
  | some o =>
    let s := receivedEvent t (fld p.w5 39 32) s
    match o.kind with
    | .mcast _ => memberAnswer t o (fld p.w6 13 0) code s
    | _ => endOp t o code p.w6 s

/-- Whether the request of a transaction has been sent and acknowledged. -/
def opAcked (s : State) (t txn : Nat) : Bool :=
  let p := getPort s t
  !p.queue.any (fun q => isRequest q.2 && pTxn q.2 == txn) &&
  !p.tx.any (fun f => f.unacked.any (fun x => isRequest x.pkt && pTxn x.pkt == txn))

/-- REMOTE_REPLY_TIMEOUT (Table 9.9): an acknowledged request without a reply 128 µs after its first send. -/
def remoteReplyTimeoutOp (t txn : Nat) (s : State) : State :=
  match findOp s t txn with
  | none => s
  | some o =>
    match o.sentNs with
    | none => s
    | some at_ =>
      let bulk := match o.kind with | .moveRead _ _ | .moveWrite _ _ | .pageRead _ | .pageWrite _ | .batchWrite _ => true | _ => false
      if o.waitPage.isSome || !opAcked s t txn || bulk then s else
      let s := { s with now := max s.now (at_ + 128000) }
      match o.kind with
      | .mcast _ => membersFail t txn .timeout s
      | k =>
        let s := match k with | .load _ | .const => targetDead t o.module o.tile s | _ => s
        endOp t o (noAnswer k true) 0 s

/-! ### The instructions (R301) -/

/-- The sizes that Tables 9.1 and 9.2 list. -/
def remSizes (k : RemKind) (size : Nat) : Bool :=
  match k with
  | .atomic 10 | .reduce 11 => size == 2
  | .atomic _ | .reduce _ => size == 2 || size == 3
  | _ => decide (size < 4)

/-- Whether an instruction uses g(D+1): the compare value of CAS, or the group of a multicast store. -/
def remSecond (k : RemKind) : Bool :=
  match k with
  | .atomic 9 | .mcast _ => true
  | _ => false

/-- RLD, RST, RATOM and RRED (R301, R304): the operation takes a transaction and a ticket of class 3 and enters the
endpoint; a load or atomic leaves its register waiting. DESIGN CHOICE (log entry 132). -/
def remOp (kind : RemKind) : IOp where
  legal w := remSizes kind (wSize w) && !(remSecond kind && wD w == 31)
  regs w := [wD w, wA w] ++ (if remSecond kind then [wD w + 1] else [])
  fetch _ _ := false
  run key k w s :=
    let value := match kind with | .load _ | .atomic _ => true | _ => false
    let uses := match kind with | .load _ => false | _ => true
    let a := memAddr k w
    if gTag k (wA w) || (uses && gTag k (wD w)) || (remSecond kind && gTag k (wD w + 1)) then .trap .poisonUse 0
    else if a % sizeBytes w != 0 then .trap .misaligned 0
    else if !remRoom s key then .stall
    else
      let (k, ticket) := ticketIssue k 3
      let k := if value then { k with gWait := putBit k.gWait (wD w) true } else k
      let kind := match kind with | .mcast _ => .mcast (fld (gReg k (wD w + 1)) 11 0) | x => x
      let (sp, va, bad) := match windowOf s k a with | some (sp, va) => (sp, va, []) | none => (0, 0, [(0, Code.rejected)])
      let t := key / 64
      let (_, s) := remAdd t (fun n => { remBlank n (key % 64) kind with
        reg := wD w, size := wSize w, ticket := ticket, space := sp, va := va, operand := if uses then gReg k (wD w) else 0
        compare := if remSecond kind then gReg k (wD w + 1) else 0, waitPage := some notEntered, answers := bad }) (putKernel s key k)
      .next (enterOps t s)

end Sys2Proof.Machine
end

