-- ==== Sys2Proof/Machine/Moves.lean ====
section
/-! DEFINITION. Moves: the move engine of a core (R96, R97, R99, Tables 3.6, 5.7): issue, start, bytes from and to other
modules, and completion. A register of a control space is read and written through the functions that a SYSTEM kernel's
move of kinds 0x5 and 0x6 is given (R432). -/

namespace Sys2Proof.Machine

/-! ### The descriptor (Table 3.6) -/

def mKind (m : MoveOp) : Nat := fld m.w0 63 60
def mNotify (m : MoveOp) : Bool := bit m.w0 59
def mRow (m : MoveOp) : Nat := fld m.w0 55 32
def mRows (m : MoveOp) : Nat := fld m.w0 31 16
def mTag (m : MoveOp) : Nat := fld m.w0 15 0

/-- Row r of a move: its source and destination addresses. -/
def mRowAddrs (m : MoveOp) (r : Nat) : Nat × Nat := (m.w1.toNat + r * fld m.w3 63 32, m.w2.toNat + r * fld m.w3 31 0)

/-- Whether a move reads the bench, and the bench and far ends of one row (far end first). -/
def mToFar (m : MoveOp) : Bool := mKind m == 1 || mKind m == 4 || mKind m == 6

/-- A row's pieces that lie in one block of 4,096 bytes at its far end: far address, bench offset, bytes. -/
def pieces : Nat → Nat → Nat → Nat → List (Nat × Nat × Nat)
  | 0, _, _, _ => []
  | fuel + 1, far, bench, n =>
    if n = 0 then [] else
    let k := min n (4096 - far % 4096)
    (far, bench, k) :: pieces fuel (far + k) (bench + k) (n - k)

/-- The pieces of a move with a far end (kinds other than 0x2). -/
def mPieces (m : MoveOp) : List (Nat × Nat × Nat) :=
  (upto (mRows m)).flatMap (fun r =>
    let (src, dst) := mRowAddrs m r
    let (far, bench) := if mToFar m then (dst, src) else (src, dst)
    pieces (mRow m / 4096 + 2) far bench (mRow m))

/-- A DESCRIPTOR condition of a move's own fields (R104): a reserved kind or field, a zero count, a tin virtual address
above bit 47 in any row. -/
def moveFieldsBad (m : MoveOp) : Bool :=
  let last := mRowAddrs m (mRows m - 1)
  decide (6 < mKind m) || fld m.w0 58 56 != 0 || mRow m == 0 || mRows m == 0 ||
  (mKind m == 3 && (decide (2 ^ 48 ≤ m.w1.toNat) || decide (2 ^ 48 < last.1 + mRow m))) ||
  (mKind m == 4 && (decide (2 ^ 48 ≤ m.w2.toNat) || decide (2 ^ 48 < last.2 + mRow m)))

/-- The kinds of SYSTEM kernels (Table 3.6). -/
def movePrivileged (m : MoveOp) : Bool := mKind m == 0 || mKind m == 1 || mKind m == 5 || mKind m == 6

/-- Whether every bench range of a move lies in the kernel's window (R91). -/
def moveInWindow (k : Kernel) (m : MoveOp) : Bool :=
  (moveSrcRange m ++ moveDstRange m ++ (if mKind m = 2 then [(m.w1.toNat, (mRows m - 1) * fld m.w3 63 32 + mRow m)] else [])).all
    (fun r => inWindow k r.1 r.2)

/-- MOVE (Table 3.4, R95, R104). DEDUCED (log entry 37). -/
def opMove : IOp where
  legal w := wSel w == 0 && wZero w 39 0
  regs w := [wD w, wA w]
  fetch _ _ := false
  run key k w s :=
    let a := (gReg k (wA w)).toNat
    if gTag k (wA w) then .trap .poisonUse 0
    else if !inWindow k a 32 then .trap .benchRange 0
    else withDesc key a 32 s fun bs s =>
      let c := getCore s key
      let (k', ticket) := ticketIssue k 2
      let m : MoveOp := ⟨ticket, c.enqSeq, descPart bs 0, descPart bs 1, descPart bs 2, descPart bs 3, false, [], [], .ok, k.image.flags.testBit 0, [], false⟩
      if moveFieldsBad m then .trap .descriptor 0
      else if movePrivileged m && !k.image.flags.testBit 0 then .trap .privilege 0
      else if !moveInWindow k m then .trap .benchRange 0
      else if (moveDstRange m).any (fun r => savedLocked c r.1 r.2) then .trap .lockViolation 0
      else .next (putCore s key { c with kernel := some (putG k' (wD w) (BitVec.ofNat 64 ticket) false),
                                         moves := c.moves ++ [m], enqSeq := c.enqSeq + 1 })

/-! ### Start -/

/-- Whether the bench order of R99 lets a move start: every earlier pass and move that touches its destination or writes
its source has ended. -/
def moveOrdered (c : Core) (m : MoveOp) : Bool :=
  let src := moveSrcRange m ++ (if mKind m = 2 then [(m.w1.toNat, (mRows m - 1) * fld m.w3 63 32 + mRow m)] else [])
  let dst := moveDstRange m
  (allPasses c).all (fun p => decide (m.seq ≤ p.seq) || p.stage == .saved ||
    (!linesOverlap (passOut p.desc) src && !linesOverlap (passOut p.desc) dst)) &&
  c.moves.all (fun q => decide (m.seq ≤ q.seq) ||
    (!linesOverlap (moveDstRange q) src && !linesOverlap (moveDstRange q ++ moveSrcRange q) dst))

/-- Where the far end of a piece lies: a global physical address with the REGION of its entry, a page that must be awaited, or
the code that its translation ends with. -/
inductive Far where
  | at_ (gpa : Nat) (region : Option Nat)
  | waits
  | ends (code : Code)
  deriving DecidableEq, Repr

/-- Whether a row's far address is past what its kind can name (Table 3.6): a slice offset of 2^36 or more, or a global
physical address of more than 64 bits; Table 1.5 refuses both. -/
def farBad (m : MoveOp) (far : Nat) : Bool :=
  match mKind m with
  | 0 | 1 => decide (2 ^ 36 ≤ far)
  | 5 | 6 => decide (2 ^ 64 ≤ far)
  | _ => false

/-- The translation of the far end of a piece (R189, R190): an absent page is missed, and the piece waits. DESIGN CHOICE (log
entry 38). -/
def pieceFar (key : Nat) (k : Kernel) (m : MoveOp) (again : Bool) (far : Nat) (s : State) : Far × State :=
  if farBad m far then (.ends .rejected, s) else
  match mKind m with
  | 0 | 1 => (.at_ (gpaMake s.myModule (key / 64) (key % 64) 0 far) none, s)
  | 5 | 6 => (.at_ far none, s)
  | _ =>
    match windowOf s k far with
    | none => (.ends .rejected, s)
    | some (sp, va) =>
      match translate key sp va (if mKind m = 4 then .store else .load) (k.image.flags.testBit 0) again s with
      | (.at_ _ md t c off reg, s) => (.at_ (gpaMake md t c 0 off) (some reg), s)
      | (.ends e, s) => (.ends e, s)
      | (.poisoned, s) => (.ends .poisoned, s)
      | (.waits _, s) => (.waits, s)
      | (.miss pk, s) => match missPage key pk s with
        | (.failed e, s) => (.ends e, s)
        | (_, s) => (.waits, s)

/-- The translation of every page that a move of kinds 0x3 and 0x4 names: whether one must be awaited, and the code of
those that fail. -/
def movePages (key : Nat) (k : Kernel) (m : MoveOp) (again : Bool) (s : State) : Bool × Code × State :=
  (((mPieces m).map (fun p => p.1 / 65536)).foldl addNew []).foldl (fun r page =>
    match pieceFar key k m again (page * 65536) r.2.2 with
    | (.at_ _ _, s) => (r.1, r.2.1, s)
    | (.waits, s) => (true, r.2.1, s)
    | (.ends e, s) => (r.1, codeMerge r.2.1 e, s)) (false, .ok, s)

/-- The global physical address and REGION of a piece's far end. DESIGN CHOICE (log entry 38). -/
def pieceGpa (s : State) (key : Nat) (k : Kernel) (m : MoveOp) (far : Nat) : Option (Nat × Option Nat) :=
  if farBad m far then none else
  match mKind m with
  | 0 | 1 => some (gpaMake s.myModule (key / 64) (key % 64) 0 far, none)
  | 5 | 6 => some (far, none)
  | _ =>
    match windowOf s k far with
    | none => none
    | some (sp, va) =>
      match walk s sp va (if mKind m = 4 then .store else .load) (k.image.flags.testBit 0) with
      | .at_ _ md t c off reg => some (gpaMake md t c 0 off, some reg)
      | _ => none

/-- The pieces of a move whose far end lies in another module. -/
def remotePieces (s : State) (key : Nat) (k : Kernel) (m : MoveOp) : List (Nat × Nat × Nat) :=
  if mKind m = 2 then [] else
  (mPieces m).filter (fun p => match pieceGpa s key k m p.1 with
    | some (a, _) => gModule a != s.myModule
    | none => false)

/-- The core with a move replaced. -/
def setMove (m : MoveOp) (c : Core) : Core := { c with moves := c.moves.map (fun x => if x.ticket = m.ticket then m else x) }

/-- Starts one move, when its order and its pages let it. DESIGN CHOICE (log entry 38). -/
def moveStart (key : Nat) (m : MoveOp) (s : State) : State :=
  let c := getCore s key
  match c.kernel with
  | none => s
  | some k =>
    if !moveOrdered c m || inShift s key then s
    else if mKind m = 3 ∨ mKind m = 4 then
      match movePages key k m m.walked s with
      | (true, .ok, s) => modCore s key (setMove { m with walked := true })
      | (_, code, s) =>
        modCore s key (setMove { m with started := true, walked := true, code := code, todo := if code = .ok then remotePieces s key k m else [] })
    else modCore s key (setMove { m with started := true, todo := remotePieces s key k m })

/-- Moves of a core start in ticket order (R97). -/
def startMoves (key : Nat) (s : State) : State :=
  ((getCore s key).moves.foldl (fun (r : State × Bool) m =>
    if !r.2 || m.started then r else
    let s := moveStart key m r.1
    (s, (getCore s key).moves.any (fun x => x.ticket == m.ticket && x.started))) (s, true)).1

/-! ### Pieces in other modules -/

/-- Sends the requests of a move's remaining remote pieces, while the core's share of transactions lasts (R47), their pages are resident
and no shift stops the core (Table 11.6). An address that no module has (Table 1.5) ends with REJECTED, and KEY_FAULT
without an import comes first (R21). -/
def movePump : Nat → Nat → Nat → State → State
  | 0, _, _, s => s
  | fuel + 1, key, ticket, s =>
    let c := getCore s key
    match c.moves.find? (fun m => m.ticket == ticket && m.started), c.kernel with
    | some m, some k =>
      match m.todo with
      | [] => s
      | (far, bench, n) :: rest =>
        if !remRoom s key || inShift s key then s else
        let fail (code : Code) : State := modCore s key (setMove { m with todo := [], code := codeMerge m.code code })
        match pieceFar key k m true far s with
        | (.waits, s) => s
        | (.ends code, s) => modCore s key (setMove { m with todo := [], code := codeMerge m.code code })
        | (.at_ a region, s) =>
          let t := key / 64
          if gModule a = s.myModule then movePump fuel key ticket (modCore s key (setMove { m with todo := rest }))
          else
            let sent := if mToFar m
              then let (bs, s) := benchLoad key bench n s
                bulkWrite t (key % 64) (.moveWrite ticket bench) a bs region s
              else bulkRead t (key % 64) (.moveRead ticket bench) bench 0 a n region s
            match sent with
            | none => fail .keyFault
            | some (txn, s) =>
              if gpaRefused a then fail .rejected else movePump fuel key ticket (modCore s key (setMove { m with todo := rest, await := m.await ++ [txn] }))
    | _, _ => s

/-- Whether a bench write of the move at place `seq` to [o, o+n) meets the lock of an earlier pass or of a link adder (R68). -/
def moveWriteLocked (c : Core) (seq o n : Nat) : Bool :=
  (allPasses c).any (fun e => holdsBench e && decide (e.seq < seq) && anyOverlap (passIn e.desc) o n) ||
  c.linkLocks.any (fun l => rangesOverlap l.2.1 l.2.2 o n)

/-- The end of one request of a move: its code, and its bytes for a read. The bytes wait in the move until it completes, so that a
load sees each 128-byte line whole (R100) and no byte enters a locked range or a core that a shift stops (R68, Table 11.6). -/
def movePart (key ticket txn : Nat) (code : Code) (bytes : Option (Nat × List Byte)) (s : State) : State :=
  let c := getCore s key
  match c.moves.find? (fun m => m.ticket == ticket) with
  | none => s
  | some m =>
    let m := { m with await := m.await.filter (· != txn), code := codeMerge m.code code }
    let m := match bytes with
      | some p => { m with parts := m.parts ++ [p] }
      | none => m
    movePump (m.todo.length + 1) key ticket (putCore s key (setMove m c))

/-! ### Completion -/

/-- The bench write of a move meets a lock of a pass or of a link adder. DESIGN CHOICE (log entry 25). -/
def moveLocked (c : Core) (m : MoveOp) : Bool :=
  (moveDstRange m).any (fun r => moveWriteLocked c m.seq r.1 r.2)

/-- The functions through which a move reaches a register (Table 1.5): a write that must wait for a lock answers none. -/
structure RegPath where
  read : State → Requester → Nat → Word × State
  write : State → Requester → Nat → Word → Option State

/-- One piece whose far end lies in this module: the state and the code it adds; none when it must wait for a slice that
trains (R167), for a place among the held writes of its stack (R172), or for the wake, a shift or a lock of a core (R68, R372,
R398). Where several conditions hold R21 ranks the codes. -/
def localPiece (rp : RegPath) (key : Nat) (m : MoveOp) (a bench n : Nat) (s : State) : Option (Code × State) :=
  let far := ck (gTile a) (gCore a)
  let off := gOff a
  let who := Requester.systemKernel (Fin.ofNat 24 (key / 64)) (Fin.ofNat 64 key)
  let moved (bad : Bool) : Code := if bad then .poisoned else .ok
  let idle := groupAsleep s (gTile a) (groupOf far) || inShift s far
  if gpaRefused a then some (.rejected, s)
  else if mToFar m then
    let (bs, s) := benchLoad key bench n s
    match gSpace a with
    | 0 =>
      if 2 ^ 31 < off + n then some (.rejected, s)
      else if touchesTables s far off n then some (.keyFault, s)
      else if sliceEvac s far then some (.rejected, s)
      else if sliceOut s far then some (.poisoned, s)
      else if sliceTrains s far || !writeRoom s far off n then none
      else let (bad, s) := sliceStore far off bs s
        some (moved bad, s)
    | 1 =>
      if (getCore s far).withdrawn && far != key then some (.keyFault, s)
      else if 0x600000 < off + n then some (.rejected, s)
      else if idle || benchLocked { getCore s far with moves := (getCore s far).moves.filter (fun x => !(far == key && x.ticket == m.ticket)) } off n
      then none
      else some (.ok, modCore s far (fun c => benchWrite c off bs))
    | _ =>
      if off % 8 != 0 || n % 8 != 0 then some (.rejected, s)
      else (upto (n / 8)).foldl (fun (r : Option (Code × State)) i => r.bind (fun r =>
        (rp.write r.2 who (a + 8 * i) (BitVec.ofNat 64 (leNat ((bs.drop (8 * i)).take 8)))).map (fun s =>
        (codeMerge r.1 s.lastCode, s)))) (some (.ok, s))
  else
    let put (bs : List Byte) (s : State) : State := modCore s key (fun c => benchWrite c bench bs)
    match gSpace a with
    | 0 =>
      if 2 ^ 31 < off + n then some (.rejected, s)
      else if sliceOut s far then some (.poisoned, put (List.replicate n 0xFF) s)
      else if sliceTrains s far then none
      else let (bs, bad, s) := sliceLoad far off n s
        some (moved bad, put bs s)
    | 1 =>
      if (getCore s far).withdrawn && far != key then some (.keyFault, s)
      else if 0x600000 < off + n then some (.rejected, s)
      else if idle then none
      else let (bs, s) := benchLoad far off n s
        some (.ok, put bs s)
    | _ =>
      if off % 8 != 0 || n % 8 != 0 then some (.rejected, s)
      else
        let r := (upto (n / 8)).foldl (fun (r : Code × List Byte × State) i =>
          let (v, s) := rp.read r.2.2 who (a + 8 * i)
          (codeMerge r.1 s.lastCode, r.2.1 ++ leBytes 8 v.toNat, s)) (.ok, [], s)
        some (r.1, put r.2.1 r.2.2)

/-- The bytes of a move inside the module, row by row: none when part of it must wait. The rows of a copy within the bench go one after
another, so that rows which overlap read what earlier rows wrote. DESIGN CHOICE (log entry 157). -/
def moveLocal (rp : RegPath) (key : Nat) (k : Kernel) (m : MoveOp) (s : State) : Option (Code × State) :=
  if mKind m = 2 then
    some (.ok, (upto (mRows m)).foldl (fun s r =>
      let (src, dst) := mRowAddrs m r
      let (bs, s) := benchLoad key src (mRow m) s
      modCore s key (fun c => benchWrite c dst bs)) s)
  else
    (mPieces m).foldl (fun r p => r.bind (fun (code, s) =>
      match pieceGpa s key k m p.1 with
      | none =>
        if farBad m p.1 then some (codeMerge code .rejected, s) else
        (match windowOf s k p.1 with
         | none => some (codeMerge code .rejected, s)
         | some (sp, va) => match walk s sp va (if mKind m = 4 then .store else .load) (k.image.flags.testBit 0) with
           | .ends e => some (codeMerge code e, s)
           | .poisoned => some (codeMerge code .poisoned, s)
           | _ => none)
      | some (a, _) =>
        if gModule a != s.myModule then some (code, s)
        else (localPiece rp key m a p.2.1 p.2.2 s).map (fun q => (codeMerge code q.1, q.2)))) (some (.ok, s))

/-- A move that reaches the bench or control space of a core wakes the core's group (R398). -/
def moveWake (key : Nat) (k : Kernel) (m : MoveOp) (s : State) : State :=
  (mPieces m).foldl (fun s p => match pieceGpa s key k m p.1 with
    | some (a, _) =>
      if gModule a == s.myModule && decide (gTile a < 24) && (gSpace a == 1 || gSpace a == 2) then wakeGroup (gTile a) (gCore a / 16) s else s
    | none => s) s

/-- The end of a move: its ticket, its wake, its event (R97, Table 3.7), and the locks that it held. -/
def moveEnd (key : Nat) (m : MoveOp) (code : Code) (s : State) : State :=
  let c := getCore s key
  let c := { c with moves := c.moves.filter (fun x => x.ticket != m.ticket) }
  let c := modKernel c (fun k =>
    let k := ticketEnd k 2 m.ticket code
    if mNotify m then { k with wake := k.wake ||| 2#5 } else k)
  let s := putCore s key (applyWaiting c)
  if codeFailed code then
    raise (mkEv 0x0107 clsNotice 0 4 (key / 64) (key % 64) (evW2 (unit := key % 64)) (pack [(0, mTag m), (16, mKind m)]) code) s
  else s

/-- The bytes that waited in a move are written. -/
def moveFlush (key : Nat) (m : MoveOp) (s : State) : State :=
  modCore s key (fun c => m.parts.foldl (fun c p => benchWrite c p.1 p.2) c)

/-- MOVE_COMPLETE: a started move whose far pieces have been answered writes what lies in this module and ends. A page that is no
longer resident is missed again. -/
def moveCompleteOp (rp : RegPath) (key ticket : Nat) (s : State) : State :=
  let c := getCore s key
  match c.moves.find? (fun m => m.ticket == ticket), c.kernel with
  | some m, some k =>
    let paged := mKind m == 3 || mKind m == 4
    if !m.started || !m.todo.isEmpty || !m.await.isEmpty || moveLocked c m || inShift s key then s
    else if codeFailed m.code && paged then moveEnd key m m.code (moveFlush key m s)
    else match (if paged then movePages key k m true s else (false, .ok, s)) with
    | (true, .ok, s) => s
    | (_, .ok, s) => match moveLocal rp key k m s with
      | none => moveWake key k m s
      | some (code, s) => moveEnd key m (codeMerge m.code code) (moveFlush key m s)
    | (_, code, s) => moveEnd key m (codeMerge m.code code) (moveFlush key m s)
  | _, _ => s

/-! ### Bulk answers at their source (Table 8.5) -/

def modJob (s : State) (num : Nat) (f : Job → Job) : State := { s with jobs := s.jobs.map (fun j => if j.num.toNat = num then f j else j) }

/-- A job whose batch list cannot be written starts nothing: every position ends with the code. DEDUCED (log entry 59). -/
def failBatch (num : Nat) (code : Code) (s : State) : State :=
  modJob s num (fun j => { j with killed := true, codes := j.codes ++ [code], tiles := j.tiles.map (fun p => (p.1, { p.2 with pend := [] })) })

/-- A request that carries a part of a job's batch list has ended. -/
def batchSent (num : Nat) (code : Code) (s : State) : State :=
  let s := modJob s num (fun j => { j with batch := match j.batch with | .sent (n + 2) => .sent (n + 1) | .sent _ => .done | b => b })
  if codeFailed code then failBatch num code s else s

/-- MOVE_DATA or MOVE_DONE: the end of a bulk transaction with a code and its bytes. -/
def bulkEnd (t : Nat) (o : RemOp) (code : Code) (bs : List Byte) (s : State) : State :=
  let s := modPort s t (dropOp o.txn)
  match o.kind with
  | .moveRead ticket bench =>
    let n := o.size
    let data := if code = .ok ∨ (code = .poisoned ∧ n ≤ bs.length) then bs.take n else if code = .poisoned then List.replicate n 0xFF else []
    movePart (ck t o.core) ticket o.txn code (some (bench, data)) s
  | .moveWrite ticket _ => movePart (ck t o.core) ticket o.txn code none s
  | .pageRead id => xferData t id o.txn o.operand.toNat code (bs.take o.size) s
  | .pageWrite id => xferDone t id o.txn code s
  | .batchWrite num => batchSent num code s
  | _ => s

/-- MOVE_DATA and MOVE_DONE at the tile that asked. -/
def bulkTake (t : Nat) (p : Packet) (s : State) : State :=
  let fits (o : RemOp) : Bool := match pType p, o.kind with
    | 0x22, .moveRead _ _ | 0x22, .pageRead _ | 0x23, .moveWrite _ _ | 0x23, .pageWrite _ | 0x23, .batchWrite _ =>
      pSrcModule p == o.module && pSrcTile p == o.tile
    | _, _ => false
  match (findOp s t (pTxn p)).filter fits with
  | none => s
  | some o => bulkEnd t o (codeReceived (fld p.w6 7 0)) (pBytes p) (receivedEvent t (fld p.w6 7 0) s)

/-! ### Packets that the fabric gave up -/

/-- A request that had no route, was undeliverable, met a reset flow or lost its group (Table 9.9, R280, R281, R285, R293), for a
multicast packet at the modules `members` alone (R292); an event notice counts in NOTICES_LOST (R463). What was sent
once may have been applied (R318). DEDUCED (log entry 70). -/
def failedOne (t : Nat) (p : Packet) (code : Code) (members : List Nat) (s : State) : State :=
  if pType p = 0x38 then
    if fld p.w3 63 56 = 3 then s else
    match (getRes s t).xfers.find? (fun x => x.id % 2 ^ 32 == fld p.w3 31 0 && x.phase == 1) with
    | none => s
    | some x => abandon t x .retryLater s
  else if pType p = 0x40 then countHearth 16 1 s
  else if !isRequest p then s
  else match findOp s t (pTxn p) with
    | none => s
    | some o =>
      let c (k : RemKind) : Code := match k with
        | .atomic _ | .reduce _ => if code = .rejected && !pRetry p then code else .unknownOutcome
        | k => if code = .timeout then noAnswer k false else code
      match o.kind with
      | .mcast _ => members.foldl (fun s m => match findOp s t o.txn with | some o => memberAnswer t o m (c o.kind) s | none => s) s
      | .moveRead _ _ | .moveWrite _ _ | .pageRead _ | .pageWrite _ | .batchWrite _ => bulkEnd t o code [] s
      | k =>
        let s := match k with | .load _ | .const => if code = .timeout then targetDead t o.module o.tile s else s | _ => s
        endOp t o (c k) 0 s

/-- Ends what the given-up packets carried. DESIGN CHOICE (log entry 14). DEDUCED (log entry 70). -/
def drainFailed (s : State) : State :=
  let l := s.failed
  l.foldl (fun s f => failedOne f.1 f.2.1 f.2.2.1 f.2.2.2 s) { s with failed := [] }

end Sys2Proof.Machine
end

