-- ==== Sys2Proof/Machine/IsaWork.lean ====
section
/-! DEFINITION. IsaWork: PASS, the waits and yield points, the special registers, and how a kernel starts, ends, is saved
and resumes (R82, R92–R111, Tables 3.7–3.9). -/

namespace Sys2Proof.Machine

/-! ### PASS -/

/-- A descriptor of 64 bytes. -/
def descOf (bs : List Byte) : CmdDesc :=
  ⟨descPart bs 0, descPart bs 1, descPart bs 2, descPart bs 3, descPart bs 4, descPart bs 5, descPart bs 6, descPart bs 7⟩

/-- PASS (R55, R92, R95): a full queue stalls; with both arrays out of service the pass ends with WITHDRAWN at once. DEDUCED (log entry 37). -/
def opPass : IOp where
  legal w := decide (wSel w < 2) && wZero w 39 0
  regs w := [wD w, wA w]
  fetch _ _ := false
  run key k w s :=
    let a := (gReg k (wA w)).toNat
    let sel := wSel w
    if gTag k (wA w) then .trap .poisonUse 0
    else if !inWindow k a 64 then .trap .benchRange 0
    else withDesc key a 64 s fun bs s =>
    let c := getCore s key
    let d := descOf bs
    if passFieldsBad d then .trap .descriptor 0
    else if !(passIn d ++ passOut d).all (fun r => inWindow k r.1 r.2) then .trap .benchRange 0
    else if passRangeBad d then .trap .descriptor 0
    else
      let (k', ticket) := ticketIssue k sel
      let k' := putG k' (wD w) (BitVec.ofNat 64 ticket) false
      match passFate c sel d with
      | .refused => .trap .descriptor 0
      | .full => .stall
      | .withdrawn =>
        let e : PassEntry := ⟨d, c.enqSeq, sel, some ticket, .queued, false, 0, true, none, none, none, false⟩
        .next (putCore s key (passPost { c with kernel := some k' } sel e .withdrawn))
      | .enqueue b => .next (putCore s key (passEnqueue { c with kernel := some k' } b sel (some ticket) d))

/-! ### WAIT, POLL and FENCE (R93, R102) -/

/-- Whether every operation of a class up to a ticket has ended. -/
def waitReady (k : Kernel) (cls ticket : Nat) : Bool := (getCls k cls).live.all (fun x => decide (ticket < x))

/-- The merged code of the operations up to a ticket that no WAIT or POLL has reported, written to gD. -/
def waitResult (k : Kernel) (d cls ticket : Nat) : Kernel :=
  let t := getCls k cls
  let code := codeMergeAll ((t.held.filter (fun x => decide (x.1 ≤ ticket))).map (·.2))
  putG (putCls k cls { t with held := t.held.filter (fun x => decide (ticket < x.1)) }) d (BitVec.ofNat 64 (codeNum code)) false

/-- WAIT and POLL name a class of 0–5. -/
def waitClass (w : BitVec 56) : Nat := fld w 2 0

/-- WAIT. -/
def opWait : IOp where
  legal w := wZero w 41 32 && wZero w 31 3 && decide (waitClass w < 6)
  regs w := [wD w, wA w]
  fetch _ _ := false
  run key k w s :=
    let n := (gReg k (wA w)).toNat
    let cls := waitClass w
    if (getCls k cls).issued < n then .trap .illegal 0
    else if gTag k (wA w) then .trap .poisonUse 0
    else if n = 0 then .next (putKernel s key (putG k (wD w) 0 false))
    else if waitReady k cls n then .next (putKernel s key (waitResult k (wD w) cls n))
    else .hold (putKernel s key { k with blocked := some (.wait (wD w) cls n) })

/-- POLL. -/
def opPoll : IOp where
  legal w := wZero w 41 32 && wZero w 31 7 && wZero w 3 3 && decide (waitClass w < 6)
  regs w := [wD w, wA w]
  fetch _ _ := false
  run key k w s :=
    let n := (gReg k (wA w)).toNat
    let cls := waitClass w
    let p := fld w 6 4
    if (getCls k cls).issued < n then .trap .illegal 0
    else if gTag k (wA w) then .trap .poisonUse 0
    else if n = 0 then .next (putKernel s key (putP (putG k (wD w) 0 false) p true))
    else if waitReady k cls n then .next (putKernel s key (putP (waitResult k (wD w) cls n) p true))
    else .next (putKernel s key (putP k p false))

/-- Whether every operation of the classes of a mask has ended. -/
def fenceReady (k : Kernel) (mask : Nat) : Bool := (upto 6).all (fun i => !mask.testBit i || (getCls k i).live.isEmpty)

/-- FENCE. -/
def opFence : IOp where
  legal w := wZero w 51 32 && wZero w 31 6
  regs _ := []
  fetch _ _ := false
  run key k w s :=
    let mask := fld w 5 0
    if fenceReady k mask then .next s
    else .hold (putKernel s key { k with blocked := some (.fence mask) })

/-! ### Yield points (R98, R108–R110) -/

/-- The lowest save slot that no saved kernel of the core holds. DESIGN CHOICE (log entry 32). -/
def freeSlot (c : Core) : Option Nat := (upto 15).find? (fun i => !c.saved.any (fun x => x.slot == i))

/-- The slot for a pre-emption at a yield point, when R108's conditions hold. DESIGN CHOICE (log entry 32). -/
def preemptSlot (c : Core) (k : Kernel) : Option Nat :=
  if c.preemptReq && k.gWait == 0 && [2, 3, 4, 5].all (fun i => (getCls k i).live.isEmpty) then freeSlot c else none

/-- Marks the passes of the running kernel as saved (Table 2.9, step 2 of Table 3.10); a running drain completes. -/
def savePasses (slot : Nat) (c : Core) : Core :=
  let mark (e : PassEntry) : PassEntry :=
    if e.ticket.isNone || e.savedSlot.isSome then e
    else if e.stage == .draining then { e with savedSlot := some slot }
    else { e with stage := .saved, savedSlot := some slot, fresh := false, reissued := e.reissued || e.stage == .active
                  cut := e.stage == .active }
  modArray (modArray c 0 (fun a => { a with queue := a.queue.map mark })) 1 (fun a => { a with queue := a.queue.map mark })

/-- The passes of a saved kernel re-enter their queues (R109). -/
def unsavePasses (slot : Nat) (c : Core) : Core :=
  let mark (e : PassEntry) : PassEntry :=
    if e.savedSlot = some slot then { e with stage := if e.stage == .saved then .queued else e.stage, savedSlot := none, cut := false } else e
  modArray (modArray c 0 (fun a => { a with queue := a.queue.map mark })) 1 (fun a => { a with queue := a.queue.map mark })

/-- The passes of a slot that pre-emption stopped while they were active: their resumption re-issues them (R71, Table 2.9). -/
def cutPasses (slot : Nat) (c : Core) : Nat := ((allPasses c).filter (fun e => e.savedSlot == some slot && e.cut)).length

/-- A pass whose kernel has gone without END: its drain completes, posts no ticket and offers nothing (R70, R138). DESIGN CHOICE
(log entry 131). -/
def passOrphan (e : PassEntry) : PassEntry :=
  { e with ticket := none, savedSlot := none, desc := { e.desc with w0 := e.desc.w0 &&& ~~~(BitVec.twoPow 64 46) } }

/-- The passes that the running kernel issued and whose drain goes on when a trap ends it. -/
def orphanPasses (c : Core) : Core :=
  let mark (e : PassEntry) : PassEntry := if e.ticket.isSome && e.savedSlot.isNone then passOrphan e else e
  modArray (modArray c 0 (fun a => { a with queue := a.queue.map mark })) 1 (fun a => { a with queue := a.queue.map mark })

/-- The kernel begins to be saved, to continue at a program counter. -/
def preemptBegin (key slot pc : Nat) (blocked : Option Blocked) (s : State) : State :=
  let c := savePasses slot (getCore s key)
  throttleEffect (key / 64) (groupOf key)
    (putCore s key (modKernel c (fun k => { k with phase := .saving slot, pc := pc, blocked := blocked, gap := 0 })))

/-- YIELD. -/
def opYield : IOp where
  legal w := wZero w 51 0
  regs _ := []
  fetch _ _ := false
  run key k _ s :=
    match preemptSlot (getCore s key) k with
    | some slot => .hold (preemptBegin key slot (k.pc + 8) none s)
    | none => .next (putKernel s key { k with gap := 0 })

/-- A WAITWAKE that finds set bits of its mask: gD takes them and they are cleared. -/
def wakeTake (k : Kernel) (d mask : Nat) : Kernel :=
  let set := k.wake.toNat &&& mask
  putG { k with wake := k.wake &&& ~~~(BitVec.ofNat 5 mask) } d (BitVec.ofNat 64 set) false

/-- WAITWAKE. -/
def opWaitwake : IOp where
  legal w := wZero w 46 32 && wZero w 31 5
  regs w := [wD w]
  fetch _ _ := false
  run key k w s :=
    let mask := fld w 4 0
    let k := { k with gap := 0 }
    match preemptSlot (getCore s key) k with
    | some slot => .hold (preemptBegin key slot k.pc (some (.waitwake (wD w) mask)) s)
    | none =>
      if k.wake.toNat &&& mask != 0 then .next (putKernel s key (wakeTake k (wD w) mask))
      else .hold (putKernel s key { k with blocked := some (.waitwake (wD w) mask) })

/-- A blocked instruction ends: the kernel that it leaves, when its condition holds. -/
def unblocked (k : Kernel) : Option Kernel :=
  match k.blocked with
  | none => none
  | some (.wait d cls n) => if waitReady k cls n then some (waitResult k d cls n) else none
  | some (.fence mask) => if fenceReady k mask then some k else none
  | some (.waitwake d mask) => if k.wake.toNat &&& mask != 0 then some (wakeTake k d mask) else none

/-- WAIT_UNBLOCK, FENCE_UNBLOCK and WAITWAKE_UNBLOCK: the instruction of that kind that blocks the core retires. -/
def unblockOp (kind : Blocked → Bool) (key : Nat) (s : State) : State :=
  match (getCore s key).kernel with
  | none => s
  | some k =>
    if k.phase != .running || !(k.blocked.any kind) || !groupRuns s key then s else
    match unblocked k with
    | none => s
    | some k' => retire key (k.pc + 8) (putKernel s key { k' with blocked := none })

/-! ### Special registers (R103, R115) -/

/-- The geometry registers of chapter 1. -/
def geometry : List Word :=
  [0x47454F4D010A0050, 0x001855221E140810, 0x0004111040044020, 0x0240401000402080, 0x1000010010200480,
   0x18000800108001F4, 0x1015300E00004000, 0x0001000010001000, 0x4000104040084004, 0x03E801F432320064]

/-- Table 3.8: the value of a special register, none for an unlisted number. -/
def specialRead (s : State) (key : Nat) (k : Kernel) (n : Nat) : Option Word :=
  let w (x : Nat) : Option Word := some (BitVec.ofNat 64 x)
  match n with
  | 0x00 => w k.cycles
  | 0x01 => w s.now
  | 0x02 => w (s.myModule <<< 11 + (key / 64) <<< 6 + key % 64)
  | 0x03 => w k.stream
  | 0x04 => w k.image.benchLow
  | 0x05 => w k.image.benchHigh
  | 0x06 => w k.fpFlags.toNat
  | 0x07 => some k.watchLine
  | 0x08 => w (b2n (getCore s key).preemptReq)
  | 0x09 => w (getGroup s (key / 64) (groupOf key)).mhz
  | 0x0A => w (k.image.maxYieldGap - k.gap)
  | n => if 0x10 ≤ n ∧ n ≤ 0x15 then w (getCls k (n - 0x10)).issued else none

/-- RSR. -/
def opRsr : IOp where
  legal w := wZero w 46 32 && wZero w 31 8 && (decide (wImmU w ≤ 0x0A) || (decide (0x10 ≤ wImmU w) && decide (wImmU w ≤ 0x15)))
  regs w := [wD w]
  fetch _ _ := false
  run key k w s :=
    match specialRead s key k (wImmU w) with
    | some v => .next (putKernel s key (putG k (wD w) v false))
    | none => .trap .illegal 0

/-- WSR. DEDUCED (log entry 29). -/
def opWsr : IOp where
  legal w := wZero w 51 47 && wZero w 41 32 && (wImmU w == 6 || wImmU w == 7)
  regs w := [wA w]
  fetch _ _ := false
  run key k w s :=
    if gTag k (wA w) then .trap .poisonUse 0
    else if wImmU w = 6 then .next (putKernel s key { k with fpFlags := (gReg k (wA w)).setWidth 5 })
    else .next (putKernel s key { k with watchLine := gReg k (wA w) &&& ~~~(0x7F#64) })

/-- GEO. -/
def opGeo : IOp :=
  regOp (fun w => wZero w 46 32 && wZero w 31 8) (fun w => [wD w]) (fun k w => putG k (wD w) (geometry.getD (wImmU w) 0) false)

/-- ABORT. -/
def opAbort : IOp := ⟨fun w => wZero w 51 16, fun _ => [], fun _ _ => false, fun _ _ w _ => .trap .abort (wImmU w)⟩

/-- BRK (R107). -/
def opBrk : IOp where
  legal w := wZero w 51 0
  regs _ := []
  fetch _ _ := false
  run key _ _ s :=
    if debugInForce s then .next (withKernel key (fun k => { k with phase := .halted }) s) else .trap .privilege 0

/-- The halts of BRK end when no enable that includes DEBUG remains in force (R107). -/
def endHalts (s : State) : State :=
  if debugInForce s then s else
  { s with cores := s.cores.map (fun p => (p.1, modKernel p.2 (fun k => if k.phase = .halted then { k with phase := .running } else k))) }

/-- GAP_EXCEEDED (R110): the instant at which the count of a running kernel passes MAX_YIELD_GAP. DESIGN CHOICE (log entry 31). -/
def gapExceededOp (key : Nat) (s : State) : State :=
  match (getCore s key).kernel with
  | none => s
  | some k =>
    if k.phase != .running || !groupRuns s key then s
    else takeTrap key .gapExceeded 0 (withKernel key (fun k => { k with
      cycles := k.cycles + (k.image.maxYieldGap + 1 - k.gap), gap := max k.gap (k.image.maxYieldGap + 1) }) s)

/-! ### Start, end, save and resume -/

/-- The grant bits that a core loads for a kernel's space (R194). -/
def grantsFor (s : State) (k : Kernel) : BitVec 256 := match getSpace s k.image.space with | some r => r.grants | none => 0

/-- KERNEL_START (R82): the placed kernel of a core begins at ENTRY. R82 and Table 3.8 give no value for FP_FLAGS and WATCH_LINE
at a start: both are 0, so that a write to bench line 0 sets wake-pending bit 3. DESIGN CHOICE (log entry 136). -/
def kernelStartOp (key : Nat) (s : State) : State :=
  let c := getCore s key
  match c.kernel with
  | none => s
  | some k =>
    if k.phase != .placed || !groupRuns s key then s else
    let word (i : Nat) : Word := BitVec.ofNat 64 (leNat ((k.args.drop (8 * i)).take 8))
    let k := { k with
      g := (upto 15).foldl (fun g i => tset 0 g (i + 1) (word i)) []
      gPoison := 0, gWait := 0, p := 1, v := [], vPoison := 0, pc := k.image.entry, classes := [], wake := 0, fpFlags := 0
      watchLine := 0, cycles := 0, gap := 0, blocked := none, kwriteRefused := 0, kwriteFirst := 0, trackers := [], phase := .running }
    putCore s key { c with kernel := some k, gen := k.seed, grants := grantsFor s k, lastStream := k.stream, lastKernel := k.image.kernelId }

/-- A kernel ends for a withdrawal (R106): its queued passes end with WITHDRAWN, its active pass completes, and moves that
have not started are cancelled. One that is being saved is not saved (R111). -/
def withdrawKernel (key : Nat) (s : State) : State :=
  let c := getCore s key
  match c.kernel with
  | none => s
  | some k =>
    match k.phase with
    | .ending _ => s
    | .placed => putCore s key { c with kernel := some { k with phase := .ending .withdrawn } }
    | p =>
      let c := match p with | .saving slot => unsavePasses slot c | _ => c
      let c := { c with kernel := some { k with phase := .ending .withdrawn, blocked := none } }
      putCore s key (applyWaiting (cancelMoves (flushArray (flushArray c 0 false) 1 false)))

/-- Whether everything that R105 waits for has ended. -/
def endReady (c : Core) (k : Kernel) (e : EndKind) : Bool :=
  c.moves.isEmpty && k.gWait == 0 && [3, 4, 5].all (fun i => (getCls k i).live.isEmpty) &&
  (match e with | .trap _ _ _ => true | _ => [0, 1].all (fun i => (getCls k i).live.isEmpty))

/-- Every code of a kernel's operations that no WAIT has reported. -/
def unreported (k : Kernel) : List Code := k.classes.flatMap (fun p => p.2.held.map (·.2))

/-- KWRITE_BLOCKED at the end of a run that had scale-register writes refused (R134). DEDUCED (log entry 30). -/
def kwriteEvent (key : Nat) (k : Kernel) (s : State) : State :=
  if k.kwriteRefused = 0 then s else
  raise (mkEv 0x0105 clsNotice 0 4 (key / 64) (key % 64) (evW2 (unit := key % 64)) (pack [(0, k.kwriteFirst), (32, min k.kwriteRefused 65535)])) s

/-- The end of a kernel under R105: its commits, its trap record and event, and what it reports to the dispatcher: the
kernel, its code and its trips. None while something that R105 waits for goes on. -/
def kernelEnd (key : Nat) (s : State) : Option (Kernel × Code × List TripReport × State) :=
  let c := getCore s key
  match c.kernel with
  | none => none
  | some k =>
    match k.phase with
    | .ending e =>
      if !endReady c k e then none else
      let s := kwriteEvent key k (modCore s key cfgHeldApply)
      let clear (s : State) : State := commitDeferred key (modCore s key (fun c => { c with kernel := none }))
      match e with
      | .fin =>
        let (s, trips) := commitRun key s
        some (k, codeMergeAll (unreported k), trips, clear s)
      | .trap cause imm pc =>
        let code := causeCode cause
        let s := modCore s key (fun c => { orphanPasses (discardRun k.trackers c) with
          trap := pack [(48, imm), (40, codeNum code), (32, causeNum cause), (31, 1), (0, pc % 2 ^ 20)] })
        let s := raise (mkEv 0x0103 clsFault 0 4 (key / 64) (key % 64) (evW2 (unit := key % 64) (position := posOf s key))
          (pack [(48, imm), (32, causeNum cause), (0, pc % 2 ^ 20)]) code) s
        some (k, code, [], clear s)
      | .withdrawn =>
        some (k, .withdrawn, [], clear (modCore s key (discardRun k.trackers)))
    | _ => none

/-- The bytes of a save record (R109): the manual gives what the record holds and its 8,704 bytes, but no place of a field in
it, so each byte is a free value; the machine keeps what the record stands for in `Core.saved`. DESIGN CHOICE (log entry 33). -/
def savedRecord (n : Nat) : List Byte := (upto 1088).flatMap (fun i => leBytes 8 (Config.free64 (n + i)).toNat)

/-- The slice offset of save area `slot`: from the start of frame 6 (R234). -/
def saveArea (slot : Nat) : Nat := 6 * 65536 + 8704 * slot

/-- The save record is written (step 5 of Table 3.10): the kernel leaves the core. Its 68 lines never fit among the 64 held writes
of a stack, so the save ends after the hold (R172); a slice in EVACUATE or out of service takes no record (Table 5.4). DESIGN CHOICE (log entry 33). -/
def kernelSaved (key : Nat) (s : State) : Option State :=
  let c := getCore s key
  match c.kernel with
  | none => none
  | some k =>
    match k.phase with
    | .saving slot =>
      if sliceTrains s key || !writeRoom s key (saveArea slot) 8704 then none else
      let s' := countTile (key / 64) 1 1 (putCore s key { cfgHeldApply c with
        saved := c.saved ++ [⟨slot, { k with phase := .running }, c.gen⟩], kernel := none, preemptReq := false })
      let s' := { s' with free := s.free + 1088 }
      some (if sliceOut s key || sliceEvac s key then s' else (sliceStore key (saveArea slot) (savedRecord s.free) s').2)
    | _ => none

/-- RESUME (R109): on the dispatcher's order, a saved kernel returns to its core, and its passes to their queues. DESIGN CHOICE (log entry 33). DEDUCED (log entry 35). -/
def resumeOp (key slot : Nat) (s : State) : State :=
  let c := getCore s key
  if c.resumeReq != some slot || !groupRuns s key then s else
  match c.kernel, c.saved.find? (fun x => x.slot == slot) with
  | none, some x =>
    let n := cutPasses slot c
    let c := unsavePasses slot c
    countReissues key n (putCore s key { c with
      saved := c.saved.filter (fun y => y.slot != slot), kernel := some x.k, gen := x.gen, resumeReq := none
      grants := grantsFor s x.k, lastStream := x.k.stream, lastKernel := x.k.image.kernelId })
  | _, _ => s

/-! ### Constants -/

/-- A constant fetch from another module (Table 6.4): a LOAD with the entry's REGION, which leaves the register waiting. -/
def ldcSend (key : Nat) (k : Kernel) (d size space va m t c off reg : Nat) (s : State) : State :=
  let tile := key / 64
  let (txn, s) := remAdd tile (fun n => { remBlank n (key % 64) .const with reg := d, size := size, space := space, va := va })
    (putKernel s key { k with gWait := putBit k.gWait d true })
  match findOp s tile txn with
  | some o => opGo tile o m t c off reg s
  | none => s

/-- LDC (R90, R194): constant fetch translates with EXEC through the core's cache, takes a miss and waits for it. A poisoned or
lost page gives the poison value, and a page in another module is asked for there (Table 6.4). For a line that is uncorrectable the
manual states no value: a free one. DESIGN CHOICE (log entry 27). DEDUCED (log entry 28). -/
def opLdc : IOp where
  legal := sizeLegal
  regs w := [wD w, wA w]
  fetch k w := decide (wSize w < 4) && decide (k.image.constBytes < memAddr k w + sizeBytes w)
  run key k w s :=
    let a := memAddr k w
    let n := sizeBytes w
    let free (s : State) : IRes := .next (putKernel { s with free := s.free + 1 } key
      (putG k (wD w) (BitVec.ofNat 64 ((Config.free64 s.free).toNat % 2 ^ (8 * n))) false))
    let poison (s : State) : IRes := .next (putKernel s key (putG k (wD w) (BitVec.allOnes 64) true))
    if gTag k (wA w) then .trap .poisonUse 0
    else if a % n != 0 then .trap .misaligned 0
    else match windowOf s k (k.image.va + k.image.constOffset + a) with
      | none => free s
      | some (sp, va) =>
        match translate key sp va .fetch (k.image.flags.testBit 0) false s with
        | (.at_ _ m t c off reg, s) =>
          if m != s.myModule then (if remRoom s key then .next (ldcSend key k (wD w) (wSize w) sp va m t c off reg s) else .stall)
          else if sliceTrains s (ck t c) then .stall
          else if sliceOut s (ck t c) then poison s
          else match sliceLoad (ck t c) off n s with
            | (bs, false, s) => .next (putKernel s key (putG k (wD w) (BitVec.ofNat 64 (leNat bs)) false))
            | (_, true, s) => free s
        | (.poisoned, s) | (.ends .poisoned, s) => poison s
        | (.ends _, s) => free s
        | (.waits _, _) => .stall
        | (.miss pk, s) =>
          match missPage key pk s with
          | (.failed _, s) => free s
          | (_, s) => .hold s
/-- LDC issued by a core. -/
def execKLdc (at_ : CoreRef) (w : BitVec 56) (s : State) : Out := answer s (isaStep opLdc at_ w s)

end Sys2Proof.Machine
end

