-- ==== Sys2Proof/Machine/Admission.lean ====
section
/-! DEFINITION. Admission: tins and streams (R219–R228), pricing and the admission test (R236–R243), and the requests
OPEN, STEP and CLOSE (R220–R225, R240–R242). -/

namespace Sys2Proof.Machine

/-! ### Records -/

/-- A FREE tin entry. -/
def tinInit : Tin := ⟨.free, [], false, 0, 0, 0, 0, 0, 0, [], 0, none, 0, [], false⟩
def getTin (s : State) (t : Nat) : Tin := tget tinInit s.tins t
def modTin (s : State) (t : Nat) (f : Tin → Tin) : State := { s with tins := tput s.tins t (f (getTin s t)) }

/-- A FREE stream entry. -/
def streamInit : Stream where
  state := .free
  cls := 0
  tin := 0
  model := 0
  deadlineUs := 0
  lastCode := .ok
  cold := false
  dueUs := 0
  step := 0
  seed := 0
  chunksLeft := 0
  batchPos := 0
  replyModule := 0
  replyTile := 0
  ioVa := 0
  tokens := 0
  tokenPos := 0
  coldWait := false
  merged := .ok
  conds := []
  slow := false
  hurt := false
  closeReq := []
  closeCmd := []
def getStream (s : State) (e : Nat) : Stream := tget streamInit s.streams e
def modStream (s : State) (e : Nat) (f : Stream → Stream) : State := { s with streams := tput s.streams e (f (getStream s e)) }

/-- An empty model record. -/
def modelInit : Model := ⟨0, 0, 0, 0, 0, 0, 0, 0, false, [], [], 0, 0⟩
def getModel (s : State) (m : Nat) : Model := tget modelInit s.models m
def modModel (s : State) (m : Nat) (f : Model → Model) : State := { s with models := tput s.models m (f (getModel s m)) }

/-- A bake-time row with nothing loaded. -/
def bakeInit : BakeRow := ⟨0, 0, 0, 0, 0, 0, 0, 0, false⟩
def getRow (m : Model) (r : Nat) : BakeRow := tget bakeInit m.rows r

/-- Module time in µs. -/
def nowUs (s : State) : Nat := s.now / 1000

/-- A free value, and the state that has taken it. DESIGN CHOICE (log entry 10). -/
def freeWord (s : State) : Word × State := (Config.free64 s.free, { s with free := s.free + 1 })

/-- The accepted streams: the entries that are not FREE. -/
def accepted (s : State) : List (Nat × Stream) := s.streams.filter (fun p => p.2.state != .free)

/-- The accepted streams of a slot and class, in ascending entry. -/
def slotStreams (s : State) (m cls : Nat) : List (Nat × Stream) := (accepted s).filter (fun p => p.2.model == m && p.2.cls == cls)

/-- Whether a tile mask has a tile. -/
def maskHas (m : Model) (t : Nat) : Bool := bit m.mask t

/-- The loaded slots of the serving group of slot m (R229), in ascending order. -/
def groupSlots (s : State) (m : Nat) : List Nat :=
  (s.models.filter (fun p => p.2.state != 0 && p.2.mask == (getModel s m).mask)).map (·.1)

/-- The tiles of a slot's mask. -/
def maskTiles (m : Model) : List Nat := (upto 24).filter (maskHas m)

/-- The lowest tile of a slot's mask that is in service: the tile whose residency manager takes the admission
controller's own commands. -/
def homeTile (s : State) (m : Nat) : Nat := ((maskTiles (getModel s m)).find? (fun t => (getTile s t).inService)).getD 0

/-! ### Pricing (R236, R238) -/

/-- The committed floor in force, in MHz. -/
def committedFloor (s : State) : Nat := fld s.power.inForce 21 12

/-- The smallest row that prices n positions. -/
def rowFor (n : Nat) : Nat := ((upto 9).find? (fun r => decide (n ≤ 2 ^ r))).getD 9

/-- Whether a row is usable (R236). -/
def rowUsable (s : State) (b : BakeRow) : Bool := b.loaded && b.measStepNs != 0 && decide (b.measMhz ≤ committedFloor s)

/-- The distinct LAYER_IDs of a plan. -/
def planLayers (m : Model) : List Nat := (m.ops.map (·.layer)).foldl addNew []

/-- The pinned LAYER_IDs of a tin for a model: every layer when all are pinned (R148). -/
def tinLayers (s : State) (m t : Nat) : List Nat := if (getTin s t).pinAll then planLayers (getModel s m) else (getTin s t).pins

/-- The distinct pinned LAYER_IDs of a list of tins. -/
def pinCount (s : State) (m : Nat) (tins : List Nat) : Nat := ((tins.flatMap (tinLayers s m)).foldl addNew []).length

/-- The wake term of R238: the wake time of the deepest DEEPEST_STATE among the slot's tiles. -/
def wakeTerm (s : State) (m : Nat) : Nat :=
  match ((maskTiles (getModel s m)).map (fun t => fld (getTile s t).dispCtrl 1 0)).foldl max 0 with
  | 3 => wakeNs .sleep
  | 2 => wakeNs .nap
  | _ => wakeNs .idle

def faultAllowUs (s : State) : Nat := fld s.adm.ctrl 31 22
def coldPerBeat (s : State) : Nat := fld s.adm.ctrl 21 18
def tuneReserve (s : State) : Nat := fld s.adm.ctrl 15 6

/-- The priced cost of one job step in ns (R238). -/
def priced (s : State) (m r pins cold : Nat) : Nat :=
  let b := getRow (getModel s m) r
  max b.stepNs b.measStepNs + max b.rerunNs b.measRerunNs + min (pins * b.pinNs) (b.allWideNs - b.stepNs) + cold * b.missNs +
    wakeTerm s m + 1000 * faultAllowUs s

/-- The remaining cost of a prefill job in ns (R238). -/
def prefillCost (s : State) (m tin chunks : Nat) : Nat :=
  (getRow (getModel s m) 9).missNs + chunks * priced s m 9 (pinCount s m [tin]) 0

/-! ### The admission test (R239) -/

/-- What a request asks to be admitted: its slot, class, DEADLINE_US, tin and prefill chunks. -/
structure Ask where
  slot : Nat
  cls : Nat
  deadline : Nat
  tin : Nat
  chunks : Nat
  deriving DecidableEq, Repr

/-- The beat of a smallest deadline, in µs. -/
def beatOf (d : Nat) : Nat := 10 * ((d - 2) / 20)

/-- DEADLINE_US and tin of the interactive streams of a slot, the request counted in. -/
def interOf (s : State) (a : Option Ask) (m : Nat) : List (Nat × Nat) :=
  (slotStreams s m 0).map (fun p => (p.2.deadlineUs, p.2.tin)) ++
    (match a with | some a => if a.cls = 0 ∧ a.slot = m then [(a.deadline, a.tin)] else [] | none => [])

/-- The tins with accepted streams on a slot, the request counted in. -/
def slotTins (s : State) (a : Option Ask) (m : Nat) : List Nat :=
  (((accepted s).filter (fun p => p.2.model == m)).map (·.2.tin)) ++
    (match a with | some a => if a.slot = m then [a.tin] else [] | none => [])

/-- The beat of a slot with interactive streams. -/
def slotBeat (l : List (Nat × Nat)) : Nat :=
  match l with | [] => 0 | x :: r => beatOf (r.foldl (fun m y => min m y.1) x.1)

/-- The sum of two fractions. -/
def fracAdd (a b : Nat × Nat) : Nat × Nat := (a.1 * b.2 + b.1 * a.2, a.2 * b.2)

/-- The utilisation of one slot, as a fraction: none when R239 rejects for it. -/
def slotUtil (s : State) (a : Option Ask) (m : Nat) : Option (Nat × Nat) :=
  let l := interOf s a m
  if l.isEmpty then some (0, 1)
  else if 256 < l.length then none
  else
    let r := rowFor l.length
    if !rowUsable s (getRow (getModel s m) r) then none
    else some (priced s m r (pinCount s m (slotTins s a m)) (coldPerBeat s), 1000 * slotBeat l)

/-- u of R239 over a group's slots. -/
def groupUtil (s : State) (a : Option Ask) (slots : List Nat) : Option (Nat × Nat) :=
  slots.foldl (fun u m => match u, slotUtil s a m with | some u, some v => some (fracAdd u v) | _, _ => none)
    (some (tuneReserve s, 1000))

/-- b of R239 in µs, as a fraction. -/
def groupB (s : State) (slots : List Nat) : Nat × Nat :=
  let floor := committedFloor s
  let gap := slots.foldl (fun g m => (getModel s m).ops.foldl (fun g o =>
    match s.kernels.find? (fun k => k.space == (getModel s m).space && k.kernelId == o.kernelId) with
    | some k => max g k.maxYieldGap
    | none => g) g) 0
  let op := slots.foldl (fun g m => max g (getModel s m).opMaxNs) 0
  (1000 * floor + max (1000 * gap) (op * floor), 1000 * floor)

/-- The shortest beat of a group, when a slot has interactive streams. -/
def groupBeat (s : State) (a : Option Ask) (slots : List Nat) : Option Nat :=
  match (slots.map (fun m => interOf s a m)).filter (fun l => !l.isEmpty) with
  | [] => none
  | x :: r => some (r.foldl (fun m y => min m (slotBeat y)) (slotBeat x))

/-- u + b / min P, as a fraction; without interactive streams, u alone. -/
def groupLoad (s : State) (a : Option Ask) (slots : List Nat) : Option (Nat × Nat) :=
  (groupUtil s a slots).map (fun u => match groupBeat s a slots with
    | none => u
    | some p => fracAdd u ((groupB s slots).1, (groupB s slots).2 * p))

/-- Due time in µs, slot, tin and chunks of the prefill jobs of a group, the request counted in. -/
def prefillJobs (s : State) (a : Option Ask) (slots : List Nat) : List (Nat × Nat × Nat × Nat) :=
  (slots.flatMap (fun m => (slotStreams s m 1).map (fun p => (p.2.dueUs, m, p.2.tin, p.2.chunksLeft)))) ++
    (match a with | some a => if a.cls = 1 then [(nowUs s + a.deadline, a.slot, a.tin, a.chunks)] else [] | none => [])

/-- The prefill part of R239: the demand up to each due time. -/
def prefillFits (s : State) (u b : Nat × Nat) (l : List (Nat × Nat × Nat × Nat)) : Bool :=
  l.all (fun j =>
    rowUsable s (getRow (getModel s j.2.1) 9) &&
    (let ns := ((l.filter (fun k => decide (k.1 ≤ j.1))).map (fun k => prefillCost s k.2.1 k.2.2.1 k.2.2.2)).sum
     decide ((b.1 * 1000 + ns * b.2) * u.2 ≤ (u.2 - u.1) * (j.1 - nowUs s) * b.2 * 1000)))

/-- The test of R239 over the serving group of a slot. -/
def admits (s : State) (a : Ask) : Bool :=
  let slots := groupSlots s a.slot
  match groupUtil s (some a) slots, groupLoad s (some a) slots with
  | some u, some v => decide (v.1 ≤ v.2) && prefillFits s u (groupB s slots) (prefillJobs s (some a) slots)
  | _, _ => false

/-- The smallest number of (lo, hi] that passes a monotone test, hi being known to pass. -/
def bisect (f : Nat → Bool) : Nat → Nat → Nat → Nat
  | 0, _, hi => hi
  | fuel + 1, lo, hi => if hi ≤ lo + 1 then hi else
      let mid := (lo + hi) / 2
      if f mid then bisect f fuel lo mid else bisect f fuel mid hi

/-- The hint of a capacity rejection (R241). DESIGN CHOICE (log entry 56). -/
def admHint (s : State) (a : Ask) : Nat :=
  let top := if a.cls = 0 then 1000000 else 16000000
  let f (d : Nat) : Bool := admits s { a with deadline := d }
  if !f top then 2 ^ 32 - 1 else bisect f 25 999 top

/-! ### Requests and replies (Tables 7.3–7.5) -/

/-- A little-endian field of a payload. -/
def plField (b : List Byte) (off n : Nat) : Nat := leNat ((b.drop off).take n)

/-- A message of the admission controller or a dispatcher: 64 bytes. -/
def plPack (l : List (Nat × Nat)) : List Byte :=
  let b := l.flatMap (fun p => leBytes p.1 p.2)
  b ++ List.replicate (64 - b.length) 0

/-- Sends an admission reply from tile 30. -/
def admReply (m t type : Nat) (code : Code) (stream hint : Nat) (reqId : Word) (due : Nat) (s : State) : State :=
  sendMsg 30 m t 0x31 0 0 0 0
    (plPack [(1, (type + 0x80) % 256), (1, codeNum code), (2, stream), (4, hint), (8, reqId.toNat), (8, due)]) s

/-- A reply to a request that was not accepted and whose hint and due time the manual does not give: free values. DESIGN CHOICE (log entry 56). -/
def admRefuse (p : Packet) (code : Code) (hint : Option Nat) (s : State) : State :=
  let b := pBytes p
  let (w, s) := freeWord s
  let (d, s) := freeWord s
  let s := countHearth 2 1 s
  admReply (pSrcModule p) (pSrcTile p) (plField b 0 1) code (plField b 8 2) (hint.getD (fld w 31 0)) (BitVec.ofNat 64 (plField b 0x20 8)) d.toNat s

/-- Whether a request breaks R225: its length, its TYPE or a reserved bit. DESIGN CHOICE (log entry 54). -/
def reqReserved (b : List Byte) : Bool :=
  b.length != 64 || plField b 0 1 == 0 || decide (3 < plField b 0 1) || plField b 2 2 / 4096 != 0 || plField b 0xB 1 != 0 ||
  (b.drop 0x28).any (· != 0)

/-- R220: KEY_FAULT, and WITHDRAWN for a tin that is WITHDRAWING (Table 7.13). -/
def tinCheck (s : State) (b : List Byte) : Option Code :=
  let t := plField b 2 2 % 4096
  let x := getTin s t
  if t = 0 || x.state == .free || plField b 4 4 != x.key.toNat then some .keyFault
  else if x.state == .withdrawing then some .withdrawn
  else none

/-- Whether any page of a tin's adapter range is not resident. -/
def adapterCold (s : State) (t : Nat) : Bool :=
  let x := getTin s t
  (upto x.adapterPages).any (fun i =>
    let p := getPte s (leafKey s t (x.adapterVa + i * 65536))
    p.ty != .page && p.ty != .large && p.ty != .moving)

/-- The descriptor of a PIN (7) or UNPIN (8) on a range of a space. -/
def pinDesc (op space va pages : Nat) : CmdDesc :=
  { descZero with w0 := pack [(56, op), (20, space)], w1 := BitVec.ofNat 64 va, w2 := BitVec.ofNat 64 pages }

/-- The pages of a range of bytes. -/
def rangePages (va n : Nat) : List Nat := (upto ((va % 65536 + n + 65535) / 65536)).map (fun i => (va / 65536 + i) * 65536)

/-- The pages of a range of bytes as the space maps it, large ones once. -/
def rangeKeys (s : State) (space va n : Nat) : List Nat :=
  ((rangePages va n).map (leafKey s space)).foldr (fun k l => if l.head? = some k then l else k :: l) []

/-- The runs of pages of one size in a list of pages: whether they are large, the space and page of the first, and how many. -/
def pageRuns : List Nat → List (Bool × Nat × Nat × Nat)
  | [] => []
  | k :: r =>
    match pageRuns r with
    | (b, sp, v, n) :: l =>
      if b == pkBig k && sp == pkSpace k && v == pkVpn k + pkPages k then (b, sp, pkVpn k, n + 1) :: l
      else (pkBig k, pkSpace k, pkVpn k, 1) :: (b, sp, v, n) :: l
    | [] => [(pkBig k, pkSpace k, pkVpn k, 1)]

/-- PIN or UNPIN of a list of pages: one command for each run of pages of one size. -/
def pinPages (tile op mark : Nat) (pks : List Nat) (s : State) : State :=
  (pageRuns pks).foldl (fun s r =>
    let d := pinDesc op r.2.1 (65536 * r.2.2.1) r.2.2.2
    resInternal tile (if r.1 then { d with w0 := setFld d.w0 48 48 1 } else d) mark s) s

/-- PIN or UNPIN of a tin's adapter range (R221). The mark 2·t + 1 names the tin's PIN; 0 says that nothing waits. -/
def adapterPin (t : Nat) (pin : Bool) (tile : Nat) (s : State) : State :=
  let x := getTin s t
  if x.adapterVa = 0 || x.adapterPages = 0 then s
  else pinPages tile (if pin then 7 else 8) (if pin then 2 * t + 1 else 0) (rangeKeys s t x.adapterVa (65536 * x.adapterPages)) s

/-- The accepted interactive and prefill streams of a tin. -/
def promised (s : State) (t : Nat) : List (Nat × Stream) := (accepted s).filter (fun p => p.2.tin == t && decide (p.2.cls < 2))

/-- The lowest free stream entry from 1 on (R224). -/
def freeEntry (used : List Nat) : Nat → Nat → Option Nat
  | 0, _ => none
  | fuel + 1, e => match used with
    | [] => some e
    | u :: r => if u = e then freeEntry r fuel (e + 1) else some e

/-- The lowest free stream entry of the 65,535. -/
def nextEntry (s : State) : Option Nat := freeEntry ((accepted s).map (·.1)) 65535 1

/-- Whether a core that the step plan of a loaded slot names is withdrawn on one of its tiles (R380). -/
def slotCoreGone (s : State) (m : Nat) : Bool :=
  let x := getModel s m
  x.state == 1 && (maskTiles x).any (fun t => (upto 64).any (fun c =>
    (getCore s (ck t c)).withdrawn && x.ops.any (fun o => bit o.coreMask c)))

/-- The REJECTED cases of an OPEN (R222, R224, R225, R240, R380): whether it is rejected, with the hint of all ones wherever a rule that
gives it applies. DEDUCED (log entry 63). -/
def openRejected (s : State) (b : List Byte) : Option (Option Nat) :=
  let cls := plField b 1 1
  let m := getModel s (plField b 0xA 1)
  let d := plField b 0xC 4
  let va := plField b 0x10 8
  let tokens := plField b 0x18 4
  let t := getTin s (plField b 2 2 % 4096)
  if !bit s.adm.ctrl 0 || (maskTiles m).any (fun i => !(getTile s i).inService) || slotCoreGone s (plField b 0xA 1) || decide (t.maxStreams ≤ t.openStreams)
  then some (some (2 ^ 32 - 1))
  else if reqReserved b || decide (2 < cls) || (cls == 0 && (decide (d < 1000) || decide (1000000 < d))) ||
     (cls == 1 && (decide (d < 1000) || decide (16000000 < d) || tokens == 0 || decide (1048576 < tokens))) || (cls == 2 && d != 0) ||
     va % 128 != 0 || decide (2 ^ 38 ≤ va) || decide (63 < plField b 0xA 1) || m.state != 1 then some none
  else none

/-- The accepted OPEN: the entry, its due time (R242) and the tin's PIN (R221). A tune OPEN's due time is 0, and a slot without a beat in
progress starts its first one at the acceptance. DESIGN CHOICE (log entry 167). -/
def openAccept (p : Packet) (e : Nat) (s : State) : State :=
  let b := pBytes p
  let cls := plField b 1 1
  let t := plField b 2 2 % 4096
  let m := plField b 0xA 1
  let d := plField b 0xC 4
  let tokens := if cls = 1 then plField b 0x18 4 else 0
  let md := getModel s m
  let first := (promised s t).isEmpty && decide (cls < 2)
  let cold := adapterCold s t
  let beat := slotBeat (interOf s (some ⟨m, 0, d, t, 0⟩) m)
  let endUs := if md.beat = 0 then nowUs s + beat else md.beatEndUs
  let due := if cls = 0 then max (nowUs s + d) (endUs + beat + 2) else if cls = 1 then nowUs s + d else 0
  let (pos, s) := if cls = 1 then (0, s) else ((freeWord s).1.toNat % 2 ^ 32, (freeWord s).2)
  let s := if cls = 0 && md.beat = 0 then modModel s m (fun x => { x with beat := beat, beatEndUs := endUs, beatUsed := false }) else s
  let st : Stream := { streamInit with
    state := .due, cls := cls, tin := t, model := m, deadlineUs := d, cold := cold, coldWait := cold, dueUs := due
    seed := BitVec.ofNat 32 (plField b 0x1C 4), chunksLeft := cdiv tokens 512, replyModule := pSrcModule p, replyTile := pSrcTile p
    ioVa := plField b 0x10 8, tokens := tokens, tokenPos := pos }
  let s := modTin { s with streams := tput s.streams e st } t (fun x => { x with openStreams := x.openStreams + 1 })
  let s := countHearth 0 1 s
  let s := admReply (pSrcModule p) (pSrcTile p) 1 .ok e 0 (BitVec.ofNat 64 (plField b 0x20 8)) due s
  if first then adapterPin t true (homeTile s m) (modTin s t (fun x => { x with pinFor := some e })) else s

/-- OPEN (R220–R225, R239–R242). DESIGN CHOICE (log entry 54). -/
def openTake (p : Packet) (s : State) : State :=
  let b := pBytes p
  match tinCheck s b with
  | some c => admRefuse p c none s
  | none =>
    match openRejected s b with
    | some hint => admRefuse p .rejected hint s
    | none =>
      let a : Ask := ⟨plField b 0xA 1, plField b 1 1, plField b 0xC 4, plField b 2 2 % 4096, cdiv (plField b 0x18 4) 512⟩
      if a.cls < 2 && !admits s a then
        let (d, s) := freeWord s
        admReply (pSrcModule p) (pSrcTile p) 1 .rejected 0 (admHint s a) (BitVec.ofNat 64 (plField b 0x20 8)) d.toNat (countHearth 1 1 s)
      else if a.cls = 1 && decide (255 ≤ (prefillJobs s none (groupSlots s a.slot)).length) then admRefuse p .retryLater none s
      else match nextEntry s with
        | none => admRefuse p .retryLater none s
        | some e => openAccept p e s

/-- Whether a request names an accepted stream of its tin. -/
def namesStream (s : State) (b : List Byte) : Bool :=
  let x := getStream s (plField b 8 2)
  x.state != .free && x.tin == plField b 2 2 % 4096

/-- STEP (R223). -/
def stepTake (p : Packet) (s : State) : State :=
  let b := pBytes p
  let e := plField b 8 2
  let x := getStream s e
  match tinCheck s b with
  | some c => admRefuse p c none s
  | none =>
    if reqReserved b || !namesStream s b || x.cls != 0 || x.state != .open_ || !x.closeReq.isEmpty || !x.closeCmd.isEmpty
    then admRefuse p .rejected none s
    else
      let due := nowUs s + x.deadlineUs
      admReply (pSrcModule p) (pSrcTile p) 2 .ok e 0 (BitVec.ofNat 64 (plField b 0x20 8)) due
        (modStream s e (fun x => { x with state := .due, dueUs := due }))

/-- Completes an admission command: ADM_CMD_STATUS (R253). -/
def admDone (tag : Nat) (code : Code) (s : State) : State :=
  { s with adm := { s.adm with statTag := BitVec.ofNat 16 tag, statCode := code, statSeq := s.adm.statSeq + 1 } }

/-- Completes a queued admission command; a SYSTEM_LOAD that it carries learns its code. -/
def admFinish (id : Nat) (code : Code) (s : State) : State :=
  match s.adm.queue.find? (fun c => c.id == id) with
  | none => s
  | some c =>
    let loads := s.keeper.loads.map (fun (l : LoadWork) => if l.id = id then { l with done := some code } else l)
    admDone c.tag code { s with adm := { s.adm with queue := s.adm.queue.filter (fun c => c.id != id) }
                                keeper := { s.keeper with loads := loads } }

/-- A stream's entry becomes FREE: what asked for its close ends with OK, and the tin's last promised stream releases
the adapter (R221). -/
def freeStream (e : Nat) (s : State) : State :=
  let x := getStream s e
  let s := x.closeReq.foldl (fun s q =>
    let (d, s) := freeWord s
    admReply q.1 q.2.1 3 .ok e 0 q.2.2 d.toNat s) s
  let s := x.closeCmd.foldl (fun s id => admFinish id .ok s) s
  let s := modTin { s with streams := tdel s.streams e } x.tin (fun t => { t with openStreams := t.openStreams - 1,
                                                                                  pinFor := if t.pinFor = some e then none else t.pinFor })
  if x.cls < 2 && (promised s x.tin).isEmpty && (getTin s x.tin).state == .active then adapterPin x.tin false (homeTile s x.model) s else s

/-- CLOSE (R223): at once when no step is outstanding, else when the outstanding step completes. -/
def closeTake (p : Packet) (s : State) : State :=
  let b := pBytes p
  let e := plField b 8 2
  match tinCheck s b with
  | some c => admRefuse p c none s
  | none =>
    if reqReserved b || !namesStream s b then admRefuse p .rejected none s
    else
      let s := modStream s e (fun x => { x with closeReq := x.closeReq ++ [(pSrcModule p, pSrcTile p, BitVec.ofNat 64 (plField b 0x20 8))] })
      if (getStream s e).state = .open_ then freeStream e s else s

/-- An ADMISSION_REQUEST delivered to tile 30: TYPE names the request. A reserved TYPE ends with REJECTED. -/
def admissionTake (t : Nat) (p : Packet) (s : State) : State :=
  if t != 30 then s else
  match plField (pBytes p) 0 1 with
  | 1 => openTake p s
  | 2 => stepTake p s
  | 3 => closeTake p s
  | _ => match tinCheck s (pBytes p) with
    | some c => admRefuse p c none s
    | none => admRefuse p .rejected none s

/-! ### ADM_CTRL and GROUP_STATE -/

/-- The serving groups: the lowest slot of each mask. -/
def groups (s : State) : List Nat := ((s.models.filter (fun p => p.2.state != 0)).map (fun p => (groupSlots s p.1).headD p.1)).foldl addNew []

/-- GROUP_STATE of a group (R239, register). DESIGN CHOICE (log entry 66). -/
def groupState (s : State) (g : Nat) : Word :=
  let slots := groupSlots s g
  if !(groups s).contains g then 0 else
  let load := match groupLoad s none slots with
    | none => 0xFFFF
    | some v => if v.2 ≤ v.1 then 0xFFFF else min 0xFFFF (cdiv (v.1 * 65536) v.2)
  let b := groupB s slots
  pack [(48, load), (32, cdiv b.1 b.2 % 65536), (16, (groupBeat s none slots).getD 0 / 10), (8, (prefillJobs s none slots).length % 256),
        (0, slots.length)]

/-- ADM_CTRL_WRITE: CONFLICT when it would take the load of a group with accepted streams above 1, REJECTED for a reserved
TUNE_RESERVE_PM (R17, R21). -/
def admCtrlWriteOp (rq : Requester) (v : Word) (s : State) : State :=
  withExpert rq 3 s (fun s =>
    let new := pack [(22, fld v 31 22), (18, fld v 21 18), (6, fld v 15 6), (0, fld v 0 0)]
    let s' := { s with adm := { s.adm with ctrl := new } }
    if (groups s).any (fun g =>
        let slots := groupSlots s g
        (accepted s).any (fun p => slots.contains p.2.model) &&
        (match groupLoad s' none slots with | some u => decide (u.2 < u.1) | none => false)) then ends .conflict s
    else if 500 < fld v 15 6 then ends .rejected s
    else ends .ok s')

/-- The rows in use: the row that prices each slot's interactive streams, and row 9 where a slot has a prefill job. -/
def rowsInUse (s : State) : List BakeRow :=
  s.models.flatMap (fun p =>
    let n := (slotStreams s p.1 0).length
    (if n = 0 then [] else [getRow p.2 (rowFor n)]) ++ (if (slotStreams s p.1 1).isEmpty then [] else [getRow p.2 9]))

/-- Whether lowering the committed floor to a value ends with CONFLICT (R251). -/
def floorConflict (s : State) (mhz : Nat) : Bool :=
  (accepted s).any (fun p => decide (p.2.cls < 2)) && (rowsInUse s).any (fun b => decide (mhz < b.measMhz))

/-- DISP_CTRL_WRITE (R251). -/
def dispCtrlWriteOp (rq : Requester) (t : Nat) (v : Word) (s : State) : State :=
  withExpert rq 3 s (fun s =>
    let new := fld v 1 0
    if new = 0 then ends .rejected s
    else if fld (getTile s t).dispCtrl 1 0 < new && (accepted s).any (fun p => decide (p.2.cls < 2)) then ends .conflict s
    else ends .ok (modTile s t (fun x => { x with dispCtrl := BitVec.ofNat 64 new })))

end Sys2Proof.Machine
end

