-- ==== Sys2Proof/Machine/Jobs.lean ====
section
/-! DEFINITION. Jobs: beats and the release of jobs (R232, R242, R244), the dispatchers' order, placement and pre-emption
(R231, R235, R245, R246), wide re-runs and charges (R142–R149), the end of jobs and steps (R247–R250), and the withdrawal
of a tin (R252, Table 7.13). -/

namespace Sys2Proof.Machine

/-! ### Jobs -/

def getJob (s : State) (num : Nat) : Option Job := s.jobs.find? (fun j => j.num.toNat == num)
def jobTile (j : Job) (t : Nat) : TileRun := tget ⟨0, [], [], []⟩ j.tiles t
def putJobTile (t : Nat) (x : TileRun) (j : Job) : Job := { j with tiles := tput j.tiles t x }

/-- The state with the progress of a job's tile changed. -/
def modTileRun (num t : Nat) (f : TileRun → TileRun) (s : State) : State := modJob s num (fun j => putJobTile t (f (jobTile j t)) j)
/-- The codes of one of a job's kernel runs. -/
def addCodes (num : Nat) (l : List Code) (s : State) : State := modJob s num (fun j => { j with codes := j.codes ++ l })
/-- The one code of a run. -/
def addCode (num : Nat) (code : Code) (s : State) : State := addCodes num [code] s
/-- Changes every job. -/
def mapJobs (f : Job → Job) (s : State) : State := { s with jobs := s.jobs.map f }

/-- The plan operator of a run of a job. -/
def runOp (s : State) (j : Job) (r : OpRun) : PlanOp := ((getModel s j.slot).ops[r.op]?).getD ⟨0, 0, 0, 0, 0⟩

/-- The cores of CORE_MASK. -/
def opCores (o : PlanOp) : List Nat := (upto 64).filter (fun i => bit o.coreMask i)

/-- The cores of a job's run of an index; none past the last. -/
def runCores (s : State) (j : Job) (idx : Nat) : List Nat :=
  match j.seq[idx]? with | some r => opCores (runOp s j r) | none => []

/-- Whether the next runs wait until the run of an index has ended on every tile: a TRACKED operator's, a wide re-run, and
one that a trip has been reported of (R231, R143). -/
def runGates (s : State) (j : Job) (i : Nat) : Bool :=
  j.trips.any (fun t => t.1 == i) ||
  (match j.seq[i]? with | some r => r.rerun || bit (BitVec.ofNat 16 (runOp s j r).flags) 0 | none => false)

/-- Whether a tile has ended a run: it neither runs it nor has it before it. -/
def tileEnded (x : TileRun) (i : Nat) : Bool := !x.todo.contains i && (x.idx != i || (x.pend.isEmpty && x.runs.isEmpty))

/-- A further run, which comes next on the tiles that f names. DEDUCED (log entry 57). -/
def pushRun (r : OpRun) (f : TileRun → Bool) (j : Job) : Job :=
  { j with seq := j.seq ++ [r]
           tiles := j.tiles.map (fun p => (p.1, if f p.2 then { p.2 with todo := j.seq.length :: p.2.todo } else p.2)) }

/-- Whether a job has ended on every core, with every trip acted on. -/
def jobOver (j : Job) : Bool :=
  j.tiles.all (fun p => p.2.runs.isEmpty && (j.killed || (p.2.pend.isEmpty && p.2.todo.isEmpty))) &&
  (j.killed || j.trips.all (fun t => j.handled.contains t.1))

/-- The tins of a job. -/
def jobTins (j : Job) : List Nat := (j.positions.map (·.tin)).foldl addNew []

/-! ### Charges and pins (R147, R148) -/

/-- One charge of a tin for a LAYER_ID. DESIGN CHOICE (log entry 58). -/
def chargeTin (layer t : Nat) (s : State) : State :=
  modTin s t (fun x =>
    if x.charges.any (fun c => c.1 == layer) then { x with charges := x.charges.map (fun c => if c.1 = layer then (c.1, c.2.1 + 1, c.2.2) else c) }
    else { x with charges := x.charges ++ [(layer, 1, 0)] })

/-- The charges of one wide run: to the tins at the marked positions, or to every tin after an underflow trip. -/
def chargeRun (j : Job) (layer : Nat) (trips : List TripReport) (s : State) : State :=
  let rows := trips.foldl (fun m t => if t.under then m else m ||| t.rows) 0
  let all := trips.any (·.under)
  let tins := ((j.positions.zipIdx.filter (fun p => all || bit rows (p.2 % 64))).map (·.1.tin)).foldl addNew []
  tins.foldl (fun s t => chargeTin layer t s) (countTile (getModel s j.slot).replyTile 2 tins.length s)

/-- Pins a tin wide for a LAYER_ID; a 65th pin pins every layer (R148). DESIGN CHOICE (log entry 58). -/
def pinTin (t layer : Nat) (s : State) : State :=
  let x := getTin s t
  if x.pinAll || x.pins.contains layer then s
  else
    let full := decide (64 ≤ x.pins.length)
    let s := modTin s t (fun x => if full then { x with pins := [], pinAll := true } else { x with pins := x.pins ++ [layer] })
    raise (mkEv 0x0402 clsNotice 0 7 30 0 evW2 (pack [(48, if full then 0xFFFF else layer), (32, t)])) s

/-- WIDE_CHARGE_WINDOW_END (R147, R148): 1,024 steps of the tin's streams have ended. -/
def wideChargeWindowEndOp (t : Nat) (s : State) : State :=
  let x := getTin s t
  if x.state = .free || x.windowSteps < 1024 then s else
  let excess := (x.charges.filter (fun c => decide (x.wideAllow < c.2.1) && decide (x.wideAllow < c.2.2))).map (·.1)
  let s := modTin s t (fun x => { x with windowSteps := x.windowSteps - 1024,
                                         charges := (x.charges.filter (fun c => c.2.1 != 0)).map (fun c => (c.1, 0, c.2.1)) })
  excess.foldl (fun s l => pinTin t l s) s

/-! ### Progress of a job -/

/-- The operator run that consumes the tensor of a trip with FOLDED 0 (R142): the next run of the operator that carries
its LAYER_ID, else the run of the next operator. DEDUCED (log entry 57). -/
def consumerRun (s : State) (j : Job) (r : OpRun) (layer : Nat) : Nat :=
  let l := j.seq.zipIdx.filter (fun p => decide (r.op < p.1.op))
  (((l.find? (fun p => (runOp s j p.1).layer == layer)).orElse (fun _ => l.head?)).map (·.2)).getD j.seq.length

/-- The runs of the operator after an operator take a wide input (R143). DEDUCED (log entry 57). -/
def wideAfter (op : Nat) (l : List OpRun) : List OpRun :=
  match l.find? (fun r => decide (op < r.op)) with
  | none => l
  | some q => l.map (fun r => if r.op = q.op then { r with wideInput := true } else r)

/-- A consumer runs in wide mode; on the tiles that have begun it already it runs again (R143). DEDUCED (log entry 57). -/
def markWide (k : Nat) (j : Job) : Job :=
  match j.seq[k]? with
  | none => j
  | some q =>
    let q := { q with wide := true, rerun := true }
    let j := { j with seq := wideAfter q.op (j.seq.modify k (fun _ => q)) }
    if j.tiles.any (fun p => !p.2.todo.contains k) then pushRun q (fun x => !x.todo.contains k) j else j

/-- Acts on the trips of the run of index i, which has ended on every tile (R143, R146, R147). -/
def actTrips (num i : Nat) (s : State) : State :=
  match getJob s num with
  | none => s
  | some j =>
    let trips := (j.trips.filter (fun t => t.1 == i)).map (·.2)
    match j.seq[i]? with
    | none => s
    | some r =>
      let folded := trips.filter (·.folded)
      let rest := trips.filter (fun t => !t.folded)
      let ks := (rest.map (fun t => consumerRun s j r t.layer)).foldl addNew []
      let fresh := ks.filter (fun k => match j.seq[k]? with | some q => !q.wide | none => false)
      let s := fresh.foldl (fun s k => match j.seq[k]? with
        | some q => chargeRun j (runOp s j q).layer (rest.filter (fun t => consumerRun s j r t.layer == k)) s
        | none => s) s
      let s := modJob s num (fun j => fresh.foldl (fun j k => markWide k j) j)
      if folded.isEmpty || r.wide then s
      else chargeRun j (runOp s j r).layer folded (modJob s num (fun j =>
        pushRun { r with wide := true, rerun := true } (fun _ => true) { j with seq := wideAfter r.op j.seq, rerun := true }))

/-- Runs of a job that have ended on every tile are handled in order; the trips reported of them are acted on (R143). -/
def handleRuns (num : Nat) : Nat → State → State
  | 0, s => s
  | fuel + 1, s =>
    match getJob s num with
    | none => s
    | some j =>
      match (upto j.seq.length).find? (fun i => !j.handled.contains i && j.tiles.all (fun p => tileEnded p.2 i)) with
      | none => s
      | some i => if j.killed then s else handleRuns num fuel (actTrips num i (modJob s num (fun j => { j with handled := j.handled ++ [i] })))

/-- A tile moves on to its next run when it has ended the present one and nothing before it gates. -/
def advanceTile (num t : Nat) : Nat → State → State
  | 0, s => s
  | fuel + 1, s =>
    match getJob s num with
    | none => s
    | some j =>
      let x := jobTile j t
      let blocked := (upto j.seq.length).any (fun i => !x.todo.contains i && !j.handled.contains i && runGates s j i)
      if j.killed || !tileEnded x x.idx || blocked then s else
      match x.todo with
      | [] => s
      | i :: rest => advanceTile num t fuel (modJob s num (putJobTile t ⟨i, runCores s j i, [], rest⟩))

/-- A job whose batch list stands goes on as far as it can without a command. -/
def advanceJob (num : Nat) (s : State) : State :=
  match getJob s num with
  | none => s
  | some j =>
    if j.batch != .done then s else
    let one (s : State) : State := j.tiles.foldl (fun s p => advanceTile num p.1 2049 s) (handleRuns num 2049 s)
    one (one s)

/-! ### Release (R232, R244) -/

/-- The flag of Table 7.8 that a class runs. -/
def classFlag (cls : Nat) : Nat := match cls with | 0 => 1 | 1 => 2 | _ => 3

/-- The runs of a job at its release: the operators of its class, wide where a tin at a position has a pin (R149). -/
def planRuns (s : State) (m : Nat) (cls : Nat) (tins : List Nat) : List OpRun :=
  let ops := ((getModel s m).ops.zipIdx).filter (fun p => bit (BitVec.ofNat 16 p.1.flags) (classFlag cls))
  let wide (o : PlanOp) : Bool := tins.any (fun t => (getTin s t).pinAll || (getTin s t).pins.contains o.layer)
  ops.zipIdx.map (fun p => ⟨p.1.2, wide p.1.1, (match p.2 with | 0 => false | k + 1 => match ops[k]? with | some q => wide q.1 | none => false), false⟩)

/-- TOKENS of one step of a stream: 1 for decode, up to 512 for a chunk. The manual gives none for tune: a free value. DESIGN CHOICE (log entry 55). -/
def stepTokens (st : Stream) (s : State) : Nat × State :=
  if st.cls = 0 then (1, s)
  else if st.cls = 1 then (min 512 (st.tokens - 512 * (cdiv st.tokens 512 - st.chunksLeft)), s)
  else ((freeWord s).1.toNat % 2 ^ 32, (freeWord s).2)

/-- What the batch list shows of a position: a stream's entry, or for a calibration job (R237) the tin, the I/O block
CAL_IO_VA + p × 64 KiB and, for what the manual leaves open, free values. DEDUCED (log entry 59). DESIGN CHOICE (log entry 62). -/
def batchStream (j : Job) (p : JobPos × Nat) (s : State) : Stream × State :=
  match j.cal with
  | none => (getStream s p.1.stream, s)
  | some (id, _) =>
    let io := ((s.adm.queue.find? (fun c => c.id == id)).map (fun c => fld c.desc.w2 47 0)).getD 0
    let (w, s) := freeWord s
    ({ streamInit with cls := j.cls, tin := p.1.tin, ioVa := io + 65536 * p.2, tokens := 512, chunksLeft := 1, tokenPos := fld w 31 0 }, s)

/-- The 32 bytes of one position of the batch list (Table 7.9). -/
def batchEntry (j : Job) (p : JobPos × Nat) (s : State) : List Byte × State :=
  let md := getModel s j.slot
  let (st, s) := batchStream j p s
  let (n, s) := stepTokens st s
  let pinned := j.seq.any (fun r => match md.ops[r.op]? with | some o => (tinLayers s j.slot p.1.tin).contains o.layer | none => false)
  (leBytes 2 p.1.stream ++ leBytes 2 st.tin ++ leBytes 2 (b2n st.cold + 2 * b2n pinned) ++ leBytes 2 0 ++ leBytes 4 st.tokenPos ++
    leBytes 4 n ++ leBytes 8 st.ioVa ++ leBytes 8 (getTin s st.tin).adapterVa, s)

/-- The batch list of a job. -/
def batchBytes (j : Job) (s : State) : List Byte × State :=
  j.positions.zipIdx.foldl (fun (r : List Byte × State) p => let e := batchEntry j p r.2; (r.1 ++ e.1, e.2)) ([], s)

/-- The core on whose behalf the module brings in pages that it reads or writes itself. -/
def ownCore (s : State) : Nat := ck ((tilesInService s).headD 0) 0

/-- Sends the batch list to its page in another module, 4 KiB with each request. -/
def batchSend (num t gpa : Nat) (bs : List Byte) (region : Option Nat) (s : State) : Option (Nat × State) :=
  (upto (cdiv bs.length 4096)).foldl (fun (r : Option (Nat × State)) i => r.bind (fun r =>
    (bulkWrite t 64 (.batchWrite num) (gpa + 4096 * i) ((bs.drop (4096 * i)).take 4096) region r.2).map (fun q => (r.1 + 1, q.2))))
    (some (0, s))

/-- Writes the batch list of a job before the job starts (R232); it waits while its page is brought in, or while the slice takes
no write. DEDUCED (log entry 59). -/
def writeBatch (num : Nat) (s : State) : State :=
  match getJob s num with
  | none => s
  | some j =>
    if j.killed || j.batch != .todo then s else
    let md := getModel s j.slot
    let va := md.batchVa + 8192 * (num % 16)
    match walk s md.space va .store true with
    | .ends code => failBatch num code s
    | .poisoned => failBatch num .poisoned (walkPoisoned md.replyTile md.space va s)
    | .miss pk => (missPage (ownCore s) pk s).2
    | .waits _ => s
    | .at_ pk m t c off region =>
      let key := ck t c
      let n := 32 * j.positions.length
      if m != s.myModule then
        let (bs, s) := batchBytes j (touchPte pk true s)
        match batchSend num md.replyTile (gpaMake m t c 0 off) bs (some region) s with
        | none => failBatch num .keyFault s
        | some (n, s) => modJob s num (fun j => { j with batch := .sent n })
      else if sliceEvac s key then failBatch num .rejected s
      else if sliceOut s key then failBatch num .poisoned s
      else if sliceTrains s key || !writeRoom s key off n then s
      else
        let (bs, s) := batchBytes j (touchPte pk true s)
        match sliceStore key off bs s with
        | (true, s) => failBatch num .poisoned s
        | (false, s) => modJob s num (fun j => { j with batch := .done })

/-- Whether any group clock of a slot's tiles runs below the committed floor, or one of their stacks holds writes (R249). -/
def belowFloorNow (s : State) (m : Nat) : Bool :=
  (maskTiles (getModel s m)).any (fun t => (getTile s t).hold ||
    (upto 4).any (fun g => let x := getGroup s t g; x.pstate != .off && decide (x.mhz < committedFloor s)))

/-- The job of a slot and class for a list of positions, with nothing begun. -/
def newJob (s : State) (m cls : Nat) (positions : List JobPos) : Job where
  num := s.adm.nextJob
  slot := m
  cls := cls
  chunk := 0
  positions := positions
  deadlineUs := none
  releasedUs := nowUs s
  seq := planRuns s m cls ((positions.map (·.tin)).foldl addNew [])
  tiles := []
  notices := []
  trips := []
  handled := []
  codes := []
  rerun := false
  fault := false
  belowFloor := belowFloorNow s m
  killed := false
  batch := .todo
  cal := none

/-- The tiles of a list that the hearth's release notice cannot reach: a link on its way is down (R29, R45). DESIGN CHOICE (log entry 155). -/
def noticesHeld (s : State) (l : List Nat) : List Nat := l.filter (fun t => !pathUp s 9 30 t)

/-- A job is released: it takes its number, its runs wait on every tile of the mask, the notice goes to these tiles, and its batch
list is written. -/
def addJob (j : Job) (s : State) : State :=
  let mask := maskTiles (getModel s j.slot)
  let j := { j with tiles := mask.map (fun t => (t, ⟨0, runCores s j 0, [], (upto j.seq.length).drop 1⟩)), notices := noticesHeld s mask }
  advanceJob j.num.toNat (writeBatch j.num.toNat { s with jobs := s.jobs ++ [j], adm := { s.adm with nextJob := j.num + 1 } })

/-- Releases a job of a slot for a list of stream entries. -/
def releaseJob (m cls : Nat) (l : List Nat) (deadline : Option Nat) (s : State) : State :=
  let l := sortBy (fun (a b : Nat) => decide ((getStream s a).tin < (getStream s b).tin) || ((getStream s a).tin == (getStream s b).tin && decide (a ≤ b))) l
  let chunk := match l with | e :: _ => let st := getStream s e; if cls = 1 then cdiv st.tokens 512 - st.chunksLeft else 0 | [] => 0
  let j := { newJob s m cls (l.map (fun e => ⟨e, (getStream s e).tin, .ok, false⟩)) with chunk := chunk, deadlineUs := deadline }
  addJob j (l.zipIdx.foldl (fun s p => modStream s p.1 (fun st => { st with state := .running, coldWait := false, batchPos := p.2 })) s)

/-- The DUE interactive streams of a slot that its next job takes: at most COLD_PER_BEAT cold adapters (Table 7.12). -/
def dueStreams (s : State) (m : Nat) : List Nat :=
  let l := (slotStreams s m 0).filter (fun p => p.2.state == .due)
  (l.foldl (fun (r : List Nat × List Nat) p =>
    if !p.2.coldWait || r.2.contains p.2.tin then (r.1 ++ [p.1], r.2)
    else if r.2.length < coldPerBeat s then (r.1 ++ [p.1], r.2 ++ [p.2.tin])
    else r) ([], [])).1

/-- BEAT_BOUNDARY (R242, R244): the beat in progress ends, the next begins, and the slot releases its job. -/
def beatBoundaryOp (m : Nat) (s : State) : State :=
  let md := getModel s m
  if md.beat = 0 then s else
  let s := { s with now := max s.now (1000 * md.beatEndUs) }
  let l := interOf s none m
  if l.isEmpty then modModel s m (fun x => { x with beat := 0, beatEndUs := 0, beatUsed := false })
  else
    let endUs := md.beatEndUs + slotBeat l
    let due := dueStreams s m
    let s := modModel s m (fun x => { x with beat := slotBeat l, beatEndUs := endUs, beatUsed := !due.isEmpty })
    if due.isEmpty then s else releaseJob m 0 due (some endUs) s

/-- The early release of an interactive slot: every accepted stream has a step DUE (R244). -/
def earlyRelease (m : Nat) (s : State) : State :=
  let md := getModel s m
  let l := slotStreams s m 0
  let due := dueStreams s m
  if md.beat = 0 || md.beatUsed || l.isEmpty || !l.all (fun p => p.2.state == .due) || due.isEmpty then s
  else releaseJob m 0 due (some md.beatEndUs) (modModel s m (fun x => { x with beatUsed := true }))

/-- Releases the chunk jobs of prefill streams and the tune job of a slot: one tune job of a slot at a time, with the DUE streams of the
256 lowest entries. DESIGN CHOICE (log entry 166). -/
def releaseRest (m : Nat) (s : State) : State :=
  let s := ((slotStreams s m 1).filter (fun p => p.2.state == .due)).foldl (fun s p => releaseJob m 1 [p.1] (some p.2.dueUs) s) s
  let tune := ((slotStreams s m 2).filter (fun p => p.2.state == .due)).map (·.1)
  if tune.isEmpty || s.jobs.any (fun j => j.slot == m && j.cls == 2) then s else releaseJob m 2 (tune.take 256) none s

/-! ### The dispatcher (R235, R245, R246) -/

/-- Whether a job comes before another in the order of R245, JOB in serial-number arithmetic (R235); tune jobs come last, in
release order. -/
def jobLe (a b : Job) : Bool :=
  if a.cls = 2 then b.cls == 2
  else if b.cls = 2 then true
  else
    let x := a.deadlineUs.getD 0
    let y := b.deadlineUs.getD 0
    decide (x < y) || (x == y && (decide (a.cls < b.cls) || (a.cls == b.cls && (decide (a.slot < b.slot) ||
      (a.slot == b.slot && decide (0 ≤ serialDiff 32 b.num.toNat a.num.toNat))))))

/-- The jobs of a tile in the order of R245. -/
def jobOrder (s : State) (t : Nat) : List Job := sortBy jobLe (s.jobs.filter (fun j => j.tiles.any (fun p => p.1 == t)))

/-- Whether a job wants a core: it has a run to start there, its notice being held (R45) and its batch list written (R232), or a saved
kernel. -/
def jobWants (c : Core) (t core : Nat) (j : Job) : Bool :=
  (j.batch == .done && !j.notices.contains t && (jobTile j t).pend.contains core) || c.saved.any (fun x => x.k.job == j.num.toNat)

/-- The image of the run that a job has to start on a tile. -/
def runImage (s : State) (j : Job) (t : Nat) : Option (OpRun × KernelImage) :=
  match j.seq[(jobTile j t).idx]? with
  | none => none
  | some r => (s.kernels.find? (fun k => k.space == (getModel s j.slot).space && k.kernelId == (runOp s j r).kernelId)).map (fun k => (r, k))

/-- Whether a bench window overlaps a range of a saved pass (R109) or a range that a link adder still locks (Table
10.11). -/
def savedOverlap (c : Core) (i : KernelImage) : Bool :=
  c.linkLocks.any (fun l => rangesOverlap l.2.1 l.2.2 i.benchLow (i.benchHigh - i.benchLow)) ||
  (allPasses c).any (fun e => e.savedSlot.isSome && anyOverlap (passIn e.desc ++ passOut e.desc) i.benchLow (i.benchHigh - i.benchLow))

/-- What the dispatcher can say of the argument template of a run. -/
inductive Template where
  | ready (bs : List Byte)
  | missing (pks : List Nat)
  | fails (code : Code)

/-- Reads the 96 bytes of a template; pages that are absent are named. None are while a slice that holds it trains: the read waits (R167). -/
def readTemplate (s : State) (space va : Nat) : Template :=
  if vaTrains s space va 96 then .missing [] else
  match vaRead s space va 96 with
  | some bs => .ready bs
  | none =>
    let ws := [va, va + 95].map (fun a => walk s space a .load true)
    let codes := ws.filterMap (fun w => match w with | .ends c => some c | .poisoned => some .poisoned | _ => none)
    let pks := ws.filterMap (fun w => match w with | .miss k => some k | _ => none)
    if !codes.isEmpty then .fails (codeMergeAll codes)
    else if ws.all (fun w => match w with | .at_ _ _ _ _ _ _ => true | _ => false) then .fails .poisoned
    else .missing pks

/-- A run that ends without a kernel. -/
def failRun (num t core : Nat) (code : Code) (s : State) : State :=
  addCode num code (modTileRun num t (fun x => { x with pend := x.pend.filter (· != core) }) s)

/-- The seed of R228; a zero seed becomes 1 (R131). -/
def runSeed (st : Stream) (op : Nat) : Word :=
  let x : Word := (st.seed.setWidth 64 <<< 32 ||| st.step.setWidth 64) ^^^ (BitVec.ofNat 64 op * 0x9E3779B97F4A7C15)
  if x = 0 then 1 else x

/-- STEP_CTL (R235). -/
def stepCtl (j : Job) (r : OpRun) : Word :=
  pack [(63, b2n r.wide), (62, b2n r.wideInput), (60, j.cls), (48, j.chunk % 2048), (32, j.positions.length), (0, j.num.toNat)]

/-- The slice offset of a job's argument block: in frame 5 (R234). -/
def argBlock (j : Job) : Nat := 5 * 65536 + 128 * (j.num.toNat % 512)

/-- Places the kernel of a run on a free core: its argument block in frame 5 of the core's slice, and its start state. DESIGN CHOICE (log entry 58). -/
def placeKernel (t core : Nat) (j : Job) (r : OpRun) (i : KernelImage) (tmpl : List Byte) (s : State) : State :=
  let key := ck t core
  let md := getModel s j.slot
  let (due, s) := match j.deadlineUs with | some d => (BitVec.ofNat 64 (1000 * d), s) | none => freeWord s
  let args := tmpl ++ leBytes 8 (stepCtl j r).toNat ++ leBytes 8 (md.batchVa + 8192 * (j.num.toNat % 16)) ++ leBytes 8 due.toNat
  let first := match j.positions with | p :: _ => p.stream | [] => 0
  let k : Kernel :=
    { image := i, job := j.num.toNat, op := r.op, wide := r.wide, wideInput := r.wideInput, stream := first, args := args
      seed := runSeed (getStream s first) r.op, g := [], gPoison := 0, gWait := 0, p := 1, v := [], vPoison := 0, pc := i.entry, classes := []
      wake := 0, fpFlags := 0, watchLine := 0, cycles := 0, gap := 0, blocked := none, kwriteRefused := 0, kwriteFirst := 0, trackers := []
      phase := .placed }
  let s := (sliceStore key (argBlock j) args s).2
  let s := modCore s key (fun c => { c with kernel := some k })
  let s := if r.wide then countCore key 9 1 s else s
  modTileRun j.num.toNat t (fun x => { x with pend := x.pend.filter (· != core), runs := x.runs ++ [core] }) (wakeGroup t (core / 16) s)

/-- The save slot whose passes keep a run's window from its core (R109). -/
def blockingSave (s : State) (c : Core) (j : Job) (t : Nat) : Option Nat :=
  (runImage s j t).bind (fun q => ((allPasses c).find? (fun e => e.savedSlot.isSome &&
    anyOverlap (passIn e.desc ++ passOut e.desc) q.2.benchLow (q.2.benchHigh - q.2.benchLow))).bind (·.savedSlot))

/-- The dispatcher orders the resumption of a save slot, and wakes its core. -/
def resumeSlot (t core slot : Nat) (s : State) : State :=
  wakeGroup t (core / 16) (modCore s (ck t core) (fun c => { c with resumeReq := some slot }))

/-- Starts a run on a free core, when its image, its template and the saved passes allow it. A withdrawn core refuses it
with WITHDRAWN (R24); an image that is gone ends it with REJECTED. The argument block is a write to the core's slice: it waits
while the slice trains or its stack's held writes leave no room (R167, R172), and ends as Table 5.4 states. -/
def tryStart (t core : Nat) (j : Job) (s : State) : State :=
  let key := ck t core
  let c := getCore s key
  if c.withdrawn then failRun j.num.toNat t core .withdrawn s else
  match runImage s j t with
  | none => failRun j.num.toNat t core .rejected s
  | some (r, i) =>
    if savedOverlap c i then s
    else if sliceOut s key then failRun j.num.toNat t core .poisoned s
    else if sliceEvac s key then failRun j.num.toNat t core .rejected s
    else if sliceTrains s key || !writeRoom s key (argBlock j) 128 then s else
    let va := (runOp s j r).argVa + 96 * (64 * t + core)
    let seen := vaSeen t (getModel s j.slot).space va 96 s
    match readTemplate s (getModel s j.slot).space va with
    | .ready bs => placeKernel t core j r i bs seen
    | .missing pks => pks.foldl (fun s pk => (missPage key pk s).2) s
    | .fails code => failRun j.num.toNat t core code seen

/-- The dispatcher's decision for one core. Where the passes of a saved run keep the first job's kernel from the core, it waits for that
run's operator (R246), which goes on. -/
def dispatchCore (t : Nat) (s : State) (core : Nat) : State :=
  let key := ck t core
  let c := getCore s key
  let order := jobOrder s t
  match order.find? (jobWants c t core) with
  | none => s
  | some j =>
    match c.kernel with
    | none =>
      match c.saved.find? (fun x => x.k.job == j.num.toNat) with
      | some x => resumeSlot t core x.slot s
      | none =>
        if c.resumeReq.isSome then s else
        match blockingSave s c j t with
        | some slot => resumeSlot t core slot s
        | none => tryStart t core j s
    | some k =>
      let before := (order.takeWhile (fun q => q.num.toNat != k.job)).any (fun q => q.num == j.num)
      let overlap := match runImage s j t with
        | some (_, i) => rangesOverlap i.benchLow (i.benchHigh - i.benchLow) k.image.benchLow (k.image.benchHigh - k.image.benchLow)
        | none => true
      let goes := match k.phase with | .placed | .running | .halted => true | _ => false
      if before && goes && !overlap && (jobTile j t).pend.contains core && decide (c.saved.length < 15) then
        modCore s key (fun c => { modKernel c (fun k => { k with wake := k.wake ||| 16#5 }) with preemptReq := true })
      else s

/-- OPERATOR_START (R231, R246): the dispatcher of a tile takes every core in turn. -/
def operatorStartOp (t : Nat) (s : State) : State := (upto 64).foldl (dispatchCore t) s

/-- KERNEL_END_COMPLETE (R105, R142): the core reports the run's end, its code with the conditions merged into it (R22) and its
trips to the dispatcher. -/
def kernelEndCompleteOp (key : Nat) (s : State) : State :=
  match kernelEnd key s with
  | none => s
  | some (k, code, trips, s) =>
    let t := key / 64
    let s := modCore s key (fun c => { c with preemptReq := false })
    let s := modJob s k.job (fun j => { j with trips := j.trips ++ trips.map (fun r => ((jobTile j t).idx, r)) })
    addCodes k.job (code :: completedConds (unreported k)) (modTileRun k.job t (fun x => { x with runs := x.runs.filter (· != key % 64) }) s)

/-- PREEMPT_SAVE_COMPLETE (R109). -/
def preemptSaveCompleteOp (key : Nat) (s : State) : State := (kernelSaved key s).getD s

/-! ### Ending under R106 -/

/-- Drops a saved kernel (R106): each of its passes ends with WITHDRAWN and its locks end; a pass whose drain runs completes
(R70). The scale-register writes that the run had refused raise their event (R134), and commits that its locks deferred run (R140). -/
def dropSaved (key slot : Nat) (s : State) : State :=
  let s := ((getCore s key).saved.filter (fun x => x.slot == slot)).foldl (fun s x => kwriteEvent key x.k s) s
  commitDeferred key <| modCore s key (fun c =>
    let gone := c.saved.filter (fun x => x.slot == slot)
    let of (e : PassEntry) : Bool := e.savedSlot == some slot && e.stage != .draining
    let strip (a : ArrayState) : ArrayState :=
      { a with queue := (a.queue.filter (fun e => !of e)).map (fun e => if e.savedSlot = some slot then passOrphan e else e) }
    let ends (i : Nat) (c : Core) : Core := withdrawPasses c i ((getArray c i).queue.filter of)
    let c := ends 1 (ends 0 c)
    let c := modArray (modArray c 0 strip) 1 strip
    let c := gone.foldl (fun c x => discardRun x.k.trackers c) c
    applyWaiting { c with saved := c.saved.filter (fun x => x.slot != slot), resumeReq := if c.resumeReq = some slot then none else c.resumeReq })

/-- A saved kernel run ends under R106. -/
def dropRun (key : Nat) (x : SavedKernel) (s : State) : State :=
  addCode x.k.job .withdrawn (modTileRun x.k.job (key / 64) (fun r => { r with runs := r.runs.filter (· != key % 64) }) (dropSaved key x.slot s))

/-- Ends a job under R106 on every core. -/
def killJob (num : Nat) (s : State) : State :=
  match getJob s num with
  | none => s
  | some j =>
    let s := modJob s num (fun j => { j with killed := true, tiles := j.tiles.map (fun p => (p.1, { p.2 with pend := [] })) })
    j.tiles.foldl (fun s p => p.2.runs.foldl (fun s core =>
      let key := ck p.1 core
      let c := getCore s key
      if c.kernel.any (fun k => k.job == num) then withdrawKernel key s
      else (c.saved.filter (fun x => x.k.job == num)).foldl (fun s x => dropRun key x s) s) s) s

/-! ### The end of a step (R226, R247–R250) -/

/-- One byte of a stream's I/O block; a byte that cannot be read is a free value. DESIGN CHOICE (log entry 64). -/
def resultBytes (st : Stream) (s : State) : List Byte × State :=
  let s := vaSeen (ownCore s / 64) st.tin st.ioVa 48 s
  match vaRead s st.tin st.ioVa 48 with
  | some bs => (bs, s)
  | none => (upto 48).foldl (fun (r : List Byte × State) i =>
      match vaByte r.2 st.tin (st.ioVa + i) with
      | some b => (r.1 ++ [b], r.2)
      | none => (r.1 ++ [(freeWord r.2).1.setWidth 8], (freeWord r.2).2)) ([], s)

/-- Sends the completion of a step (Table 7.5) from the REPLY_TILE of its slot. -/
def sendCompletion (e : Nat) (code : Code) (s : State) : State :=
  let st := getStream s e
  let (bs, s) := resultBytes st s
  sendMsg (getModel s st.model).replyTile st.replyModule st.replyTile 0x32 0 0 0 0
    (plPack ([(1, 0x90), (1, codeNum code), (2, e), (4, st.step.toNat), (4, st.dueUs % 2 ^ 32), (4, 0)] ++ bs.map (fun b => (1, b.toNat)))) s

/-- DEADLINE_MISS of a late step (R250): its cause, event and counter. -/
def deadlineMiss (e : Nat) (code : Code) (cause : Nat) (s : State) : State :=
  let st := getStream s e
  let late := min (2 ^ 32 - 1) (nowUs s - st.dueUs)
  raise (mkEv 0x0401 clsNotice 0 7 30 0 evW2 (pack [(48, e), (36, st.tin), (32, cause), (0, late)]) code)
    (countHearth (match cause with | 1 => 3 | 2 => 4 | _ => 5) 1 s)

/-- A step that completes: the events of the Completed conditions that applied to it (R22), FORFEIT and DEADLINE_MISS when it is late, its completion, and the state of its entry. -/
def finishStep (e : Nat) (code : Code) (ends : Bool) (s : State) : State :=
  let st := getStream s e
  let late := decide (st.cls < 2) && decide (1000 * st.dueUs < s.now)
  let code := if late && st.slow then codeMerge code .forfeit else code
  let s := conditionEvents 30 0 7 (st.conds ++ (if late && st.slow then [.forfeit] else [])) s
  let s := if late then deadlineMiss e code (if code = .forfeit then 1 else if st.hurt then 2 else 0) s else s
  let s := sendCompletion e code (modStream s e (fun x => { x with lastCode := code, merged := .ok, conds := [], slow := false, hurt := false, coldWait := false }))
  let tin := getTin s st.tin
  let s := modStream s e (fun x => { x with state := if x.cls = 2 && tin.state == .active then .due else .open_ })
  if tin.state != .withdrawing && (ends || st.cls = 1 || !st.closeReq.isEmpty || !st.closeCmd.isEmpty) then freeStream e s else s

/-- The end of one position of a job. DESIGN CHOICE (log entry 55). DEDUCED (log entry 60). -/
def endPosition (j : Job) (base : Code) (p : JobPos) (s : State) : State :=
  let code := codeMerge base p.code
  let gone := (getTin s p.tin).state == .withdrawing
  let s := modTin s p.tin (fun t => { t with windowSteps := t.windowSteps + 1 })
  let (n, s) := if (getStream s p.stream).cls = 2 then (0, s) else stepTokens (getStream s p.stream) s
  let s := modStream s p.stream (fun x => { x with step := x.step + 1, tokenPos := (x.tokenPos + n) % 2 ^ 32,
                                                   chunksLeft := x.chunksLeft - 1, merged := codeMerge x.merged code, lastCode := code
                                                   slow := x.slow || j.belowFloor, hurt := x.hurt || j.fault
                                                   conds := x.conds ++ completedConds (j.codes ++ [p.code, if j.rerun then .wideRerun else .ok]) })
  let st := getStream s p.stream
  if j.cls = 1 && st.chunksLeft != 0 && !gone && !p.ends then modStream s p.stream (fun x => { x with state := .due })
  else
    let code := if j.cls = 1 && gone then codeMerge st.merged .withdrawn else st.merged
    finishStep p.stream code p.ends s

/-! ### MEASURE (R237, Table 7.11) -/

/-- The growth fills of a job step of a MEASURE: for each of n positions one absent page of the calibration tin with FILL 0 is filled
(Table 7.11). DESIGN CHOICE (log entry 62). -/
def calGrow (tin n : Nat) (s : State) : State :=
  ((s.pages.filter (fun p => pkSpace p.1 == tin && p.2.ty == .absent && p.2.fill == 0)).take n).foldl (fun s p => (missPage (ownCore s) p.1 s).2) s

/-- Whether every clock of a slot's tiles stands at the committed floor. -/
def calSteady (s : State) (m : Nat) : Bool :=
  (maskTiles (getModel s m)).all (fun t => (upto 4).all (fun g =>
    let x := getGroup s t g
    x.pstate == .off || x.target == committedFloor s))

/-- Releases the next job step of a MEASURE, once its clocks stand at the floor: 2^ROW positions, 1 for row 9, all in the calibration tin.
DESIGN CHOICE (log entry 62). -/
def calRelease (c : AdmCmd) (s : State) : State :=
  let row := fld c.desc.w0 49 46
  let n := if row = 9 then 1 else 2 ^ row
  if !calSteady s (fld c.desc.w0 55 50) || s.jobs.any (fun j => j.cal.any (fun q => q.1 == c.id)) then s else
  let j := newJob s (fld c.desc.w0 55 50) (if row = 9 then 1 else 0) (List.replicate n ⟨0, fld c.desc.w0 43 32, .ok, false⟩)
  addJob { j with cal := some (c.id, c.ran) } (calGrow (fld c.desc.w0 43 32) n s)

/-- The end of a MEASURE whose steps have run: the row keeps the largest values found. -/
def calDone (c : AdmCmd) (s : State) : State :=
  admFinish c.id .ok (modModel s (fld c.desc.w0 55 50) (fun x =>
    let b := getRow x (fld c.desc.w0 49 46)
    let b := { b with measStepNs := max b.measStepNs c.found.stepNs, measRerunNs := max b.measRerunNs c.found.rerunNs }
    { x with opMaxNs := max x.opMaxNs c.found.opMaxNs, rows := tput x.rows (fld c.desc.w0 49 46) b }))

/-- One step of a MEASURE has ended: a Failed code ends the command, and so does the withdrawal of the calibration tin. DESIGN
CHOICE (log entry 62). -/
def calStepEnd (id : Nat) (code : Code) (s : State) : State :=
  match s.adm.queue.find? (fun c => c.id == id) with
  | none => s
  | some c =>
    let c := { c with ran := c.ran + 1 }
    let s := { s with adm := { s.adm with queue := s.adm.queue.map (fun x => if x.id = id then c else x) } }
    if codeFailed code then admFinish id code s
    else if (getTin s (fld c.desc.w0 43 32)).state != .active then admFinish id .withdrawn s
    else if fld c.desc.w1 15 0 ≤ c.ran then calDone c s
    else calRelease c s

/-- Whether a position's I/O block lies in a slice that trains, so that the completion that carries it waits (R167). -/
def ioTrains (s : State) (p : JobPos) : Bool := vaTrains s (getStream s p.stream).tin (getStream s p.stream).ioVa 48

/-- JOB_END (R247): the job has ended on every core. -/
def jobEndOp (num : Nat) (s : State) : State :=
  match getJob s num with
  | none => s
  | some j =>
    if !jobOver j || (j.cal.isNone && j.positions.any (ioTrains s)) then s else
    let base := codeMerge (codeMergeAll j.codes) (if j.rerun then .wideRerun else .ok)
    let s := { s with jobs := s.jobs.filter (fun q => q.num != j.num) }
    let s := j.tiles.foldl (fun s p => countTile p.1 0 1 s) s
    match j.cal with
    | some (id, _) => calStepEnd id (codeMergeAll (base :: j.positions.map (·.code))) s
    | none => j.positions.foldl (fun s p => endPosition j base p s) s

/-! ### Withdrawing a tin (R252, Table 7.13) -/

/-- A tune job that loses a tin: the other tins' steps go back to a new job, and the job ends under R106. -/
def splitTune (j : Job) (t : Nat) (s : State) : State :=
  let s := (j.positions.filter (fun p => p.tin != t)).foldl (fun s p => modStream s p.stream (fun x => { x with state := .due })) s
  killJob j.num.toNat (modJob s j.num.toNat (fun j => { j with positions := (j.positions.filter (fun p => p.tin == t)).map (fun p => { p with code := .withdrawn }) }))

/-- The withdrawal of a tin begins. -/
def withdrawTin (t : Nat) (s : State) : State :=
  let s := modTin s t (fun x => { x with state := .withdrawing, withdrawAt := s.now })
  let s := s.jobs.foldl (fun s j =>
    if !(jobTins j).contains t then s
    else if j.cls = 1 then s
    else if j.cls = 2 then splitTune j t s
    else
      let s := modJob s j.num.toNat (fun j => { j with positions := j.positions.map (fun p => if p.tin = t then { p with code := codeMerge p.code .withdrawn } else p) })
      if (jobTins j).all (· == t) then killJob j.num.toNat s else s) s
  ((accepted s).filter (fun p => p.2.tin == t && p.2.state == .due)).foldl (fun s p =>
    finishStep p.1 (codeMerge p.2.merged .withdrawn) false (modStream s p.1 (fun x => { x with step := x.step + 1 }))) s

/-- TIN_DRAIN_TIMEOUT (R252): 1.5 s after the withdrawal began. -/
def tinDrainTimeoutOp (t : Nat) (s : State) : State :=
  let x := getTin s t
  if x.state != .withdrawing then s else
  let s := { s with now := max s.now (x.withdrawAt + 1500000000) }
  (s.jobs.filter (fun j => (jobTins j).contains t)).foldl (fun s j =>
    killJob j.num.toNat (modJob s j.num.toNat (fun j => { j with positions := j.positions.map (fun p => { p with code := .withdrawn }) }))) s

/-- The end of a tin's drain: UNPIN, the pins cleared, every entry FREE, and the commands that waited. -/
def tinDrained (t : Nat) (s : State) : State :=
  let x := getTin s t
  if x.state != .withdrawing || s.jobs.any (fun j => (jobTins j).contains t) then s else
  let mine := (accepted s).filter (fun p => p.2.tin == t)
  let tile := match mine with | p :: _ => homeTile s p.2.model | [] => 0
  let s := if mine.any (fun p => decide (p.2.cls < 2)) then adapterPin t false tile s else s
  let s := mine.foldl (fun s p => freeStream p.1 s) s
  let s := { s with tins := tdel s.tins t }
  x.withdrawCmd.foldl (fun s id => admFinish id .ok s) s

/-! ### What the dispatch section does without a command -/

/-- The end of a tin's adapter PIN (R221): a Failed code ends the first step of the stream that asked for it. -/
def adapterPinned (t : Nat) (code : Code) (s : State) : State :=
  match (getTin s t).pinFor with
  | none => s
  | some e =>
    let more := s.res.any (fun r => r.2.queue.any (fun c => c.admin == some (2 * t + 1)))
    if !codeFailed code then (if more then s else modTin s t (fun x => { x with pinFor := none })) else
    let s := modTin s t (fun x => { x with pinFor := none })
    if (getStream s e).state = .free then s
    else if (getStream s e).state = .due then finishStep e code true (modStream s e (fun x => { x with step := x.step + 1 }))
    else mapJobs (fun j => { j with positions := j.positions.map (fun p =>
        if p.stream = e then { p with code := codeMerge p.code code, ends := true } else p) }) s

/-- Ends a job with WITHDRAWN (R380): it starts nothing more, and kernels that run may reach END (R379). DEDUCED (log entry 159). -/
def withdrawJob (j : Job) (s : State) : State :=
  if j.killed then s else
  modJob (addCode j.num.toNat .withdrawn s) j.num.toNat (fun j =>
    { j with killed := true, tiles := j.tiles.map (fun p => (p.1, { p.2 with pend := [] })) })

/-- Jobs, beats, releases, tins and what R249 and R380 require. -/
def jobsSettle (s : State) : State :=
  let s := (s.tins.filter (fun p => p.2.state == .active && p.2.thenDestroy)).foldl (fun s p => withdrawTin p.1 s) s
  let s := mapJobs (fun j => { j with belowFloor := j.belowFloor || belowFloorNow s j.slot }) s
  let s := (s.jobs.filter (fun j => slotCoreGone s j.slot)).foldl (fun s j => withdrawJob j s) s
  let s := (s.adm.queue.filter (fun c => c.stage == 3)).foldl (fun s c => calRelease c s) s
  let s := mapJobs (fun j => { j with notices := noticesHeld s j.notices }) s
  let s := s.jobs.foldl (fun s j => advanceJob j.num.toNat (writeBatch j.num.toNat s)) s
  let s := (s.tins.filter (fun p => p.2.state == .withdrawing)).foldl (fun s p => tinDrained p.1 s) s
  let slots := (s.models.filter (fun p => p.2.state == 1)).map (·.1)
  slots.foldl (fun s m => releaseRest m (earlyRelease m s)) s

end Sys2Proof.Machine
end

