-- ==== Sys2Proof/Machine/AdmCommands.lean ====
section
/-! DEFINITION. AdmCommands: the admission commands of Tables 7.14 and 7.15 (R229, R230, R236, R237, R253, R254), with
the checks of a kernel image (R113, R114) and of a step plan (Tables 7.7, 7.8). -/

namespace Sys2Proof.Machine

/-! ### The descriptor (Table 7.14) -/

def aOp (d : CmdDesc) : Nat := fld d.w0 63 56
def aModel (d : CmdDesc) : Nat := fld d.w0 55 50
def aRow (d : CmdDesc) : Nat := fld d.w0 49 46
def aTin (d : CmdDesc) : Nat := fld d.w0 43 32

/-- Whether a command carries a reserved OP or a nonzero field that its operation does not use (R254). -/
def admReserved (d : CmdDesc) : Bool :=
  let rest := fld d.w0 45 44 != 0 || fld d.w0 31 16 != 0 || d.w4 != 0 || d.w5 != 0 || d.w6 != 0 || d.w7 != 0
  let model := aModel d != 0
  let row := aRow d != 0
  let tin := aTin d != 0
  rest || (match aOp d with
    | 1 => model || row || fld d.w1 63 48 != 0 || fld d.w3 63 24 != 0
    | 2 => model || row || d.w1 != 0 || d.w2 != 0 || d.w3 != 0
    | 3 => model || row || fld d.w1 63 48 != 0 || d.w2 != 0 || d.w3 != 0
    | 4 => row || tin || fld d.w3 39 12 != 0
    | 5 => row || tin || d.w1 != 0 || d.w2 != 0 || d.w3 != 0
    | 6 => tin || fld d.w3 63 32 != 0
    | 7 => fld d.w1 63 16 != 0 || fld d.w2 63 48 != 0 || d.w3 != 0
    | 8 => model || row || fld d.w1 63 17 != 0 || d.w2 != 0 || d.w3 != 0
    | 9 => model || row || fld d.w1 63 16 != 0 || d.w2 != 0 || d.w3 != 0
    | _ => true)

/-! ### SET_TIN, UNPIN, LOAD_ROW -/

/-- SET_TIN (R219): the tin's address space exists and is no model's serving space. DEDUCED (log entry 61). -/
def setTinCmd (d : CmdDesc) (s : State) : Code × State :=
  let t := aTin d
  let va := fld d.w1 47 0
  let pages := fld d.w2 31 0
  if t = 0 || (getSpace s t).isNone || s.models.any (fun p => p.2.state != 0 && p.2.space == t) || va % 65536 != 0 || decide (2 ^ 38 ≤ va)
  then (.rejected, s)
  else (.ok, modTin s t (fun x => { x with
    state := .active, wideAllow := fld d.w3 23 16, key := BitVec.ofNat 32 (fld d.w2 63 32), adapterVa := va, adapterPages := pages
    maxStreams := fld d.w3 15 0 }))

/-- UNPIN (R149, R243). -/
def admUnpinCmd (d : CmdDesc) (s : State) : Code × State :=
  let t := aTin d
  if (getTin s t).state = .free then (.rejected, s)
  else (.ok, modTin s t (fun x => if bit d.w1 16 then { x with pins := [], pinAll := false } else { x with pins := x.pins.filter (· != fld d.w1 15 0) }))

/-- LOAD_ROW (R236). -/
def loadRowCmd (d : CmdDesc) (s : State) : Code × State :=
  let m := aModel d
  if (getModel s m).state != 1 || decide (9 < aRow d) || decide (fld d.w2 31 0 < fld d.w1 63 32) then (.rejected, s)
  else (.ok, modModel s m (fun x => { x with rows := tput x.rows (aRow d) { getRow x (aRow d) with
    stepNs := fld d.w1 63 32, rerunNs := fld d.w1 31 0, pinNs := fld d.w2 63 32, allWideNs := fld d.w2 31 0, missNs := fld d.w3 31 0
    loaded := true } }))

/-- Whether the group of a slot holds any accepted interactive or prefill stream. -/
def groupPromised (s : State) (m : Nat) : Bool :=
  (accepted s).any (fun p => decide (p.2.cls < 2) && (groupSlots s m).contains p.2.model)

def modAdmCmd (id : Nat) (f : AdmCmd → AdmCmd) (s : State) : State :=
  { s with adm := { s.adm with queue := s.adm.queue.map (fun c => if c.id = id then f c else c) } }

/-- Sets the clock target of a group. An emergency stops the active passes and changes the clock at once; an ordinary
change waits for R394's moment; a group that sleeps takes the target at its wake. DEDUCED (log entry 93). -/
def setGroupClock (t mhz : Nat) (emergency : Bool) (s : State) (g : Nat) : State :=
  let x := getGroup s t g
  let x := { x with target := mhz, emergency := emergency }
  if x.pstate != .run && x.pstate != .idle || x.waking.isSome then putGroup s t g x
  else if x.mhz = mhz && !x.changing then putGroup s t g { x with request := none }
  else if emergency then
    let s := putGroup s t g { x with request := none, changing := true }
    (upto 16).foldl (fun s i => stopActive (ck t (16 * g + i)) 1 (stopActive (ck t (16 * g + i)) 0 s)) s
  else throttleEffect t g (putGroup s t g { x with request := some s.now })

/-- Sets the clock target of a tile (R405: a tile's decision applies to all four groups). -/
def setTileClock (t mhz : Nat) (emergency : Bool) (s : State) : State := (upto 4).foldl (setGroupClock t mhz emergency) s

/-- The tiles of a slot take up the conditions of Table 7.11: their stacks go to ×4 refresh, and the governor brings their clocks to the
committed floor (governTile). -/
def calStart (m : Nat) (s : State) : State :=
  (maskTiles (getModel s m)).foldl (fun s t => modTile s t (fun x => { x with refreshMult := 2 })) s

/-- MEASURE (R237): a new floor clears what an older one measured, and the job steps run. One MEASURE runs at a time. DESIGN CHOICE (log entry 62). -/
def measureCmd (c : AdmCmd) (s : State) : State :=
  let d := c.desc
  let m := aModel d
  let floor := committedFloor s
  if (getModel s m).state != 1 || decide (9 < aRow d) || fld d.w1 15 0 == 0 || (getTin s (aTin d)).state != .active then admFinish c.id .rejected s
  else if s.adm.queue.any (fun x => x.stage == 3) then s
  else
    let s := modModel s m (fun x =>
      let b := getRow x (aRow d)
      let b := if b.measMhz = floor then b else { b with measStepNs := 0, measRerunNs := 0 }
      let b := { b with measMhz := floor }
      { x with rows := tput x.rows (aRow d) b })
    calRelease c (calStart m (modAdmCmd c.id (fun c => { c with stage := 3 }) s))

/-! ### REGISTER_KERNEL (R113, R114, R230) -/

/-- What the module can say of bytes that it has to read in a space. -/
inductive Readable where
  | ready (bs : List Byte)
  | missing (pks : List Nat)
  | fails (code : Code)

/-- Reads n bytes of a space; absent pages are named. None are while a slice that holds some trains: the read waits (R167). -/
def readSpace (s : State) (space va n : Nat) : Readable :=
  if vaTrains s space va n then .missing [] else
  match vaRead s space va n with
  | some bs => .ready bs
  | none =>
    let ws := (rangePages va n).map (fun a => walk s space a .load true)
    let codes := ws.filterMap (fun w => match w with | .ends c => some c | .poisoned => some .poisoned | _ => none)
    let pks := ws.filterMap (fun w => match w with | .miss k => some k | _ => none)
    if !codes.isEmpty then .fails (codeMergeAll codes)
    else if ws.all (fun w => match w with | .at_ _ _ _ _ _ _ => true | _ => false) then .fails .poisoned
    else .missing pks

/-- The fields of an image header (Table 3.11). -/
def imageOf (space va : Nat) (b : List Byte) : KernelImage where
  space := space
  va := va
  flags := plField b 6 2
  imageBytes := plField b 8 4
  codeOffset := plField b 0x10 4
  codeBytes := plField b 0x14 4
  constOffset := plField b 0x18 4
  constBytes := plField b 0x1C 4
  entry := plField b 0x20 4
  maxYieldGap := plField b 0x24 4
  benchLow := plField b 0x28 4
  benchHigh := plField b 0x2C 4
  kernelId := BitVec.ofNat 64 (plField b 0x38 8)

/-- A byte list with n bytes from an offset taken as zero. -/
def zeroField (b : List Byte) (off n : Nat) : List Byte := b.take off ++ List.replicate n 0 ++ b.drop (off + n)

/-- Whether NAME breaks R114: a byte above 0x7F, or a nonzero byte after its first zero byte. -/
def nameBad (b : List Byte) : Bool := b.any (fun x => decide (0x7F < x.toNat)) || (b.dropWhile (· != 0)).any (· != 0)

/-- Whether an image breaks R114. `loader` says that the keeper's system loader registers it. -/
def imageBad (loader : Bool) (i : KernelImage) (b : List Byte) : Bool :=
  let secOut (o n : Nat) : Bool := o % 8 != 0 || decide (i.imageBytes < o + n)
  plField b 0 4 != 0x4E524B54 || plField b 0xC 4 != (crc32c (zeroField b 0xC 4)).toNat || plField b 4 2 != 1 ||
  i.flags / 4 != 0 || plField b 0x31 1 != 0 || plField b 0x36 2 != 0 || ((b.drop 0x60).take 32).any (· != 0) ||
  secOut i.codeOffset i.codeBytes || secOut i.constOffset i.constBytes || decide (i.codeOffset < 128) ||
  (i.constBytes != 0 && (decide (i.constOffset < 128) || rangesOverlap i.codeOffset i.codeBytes i.constOffset i.constBytes)) ||
  decide (i.codeBytes < 8) || decide (1048576 < i.codeBytes) || i.codeBytes % 8 != 0 || decide (65536 < i.constBytes) ||
  i.entry % 8 != 0 || decide (i.codeBytes ≤ i.entry) || decide (i.maxYieldGap < 1000) || decide (4000000 < i.maxYieldGap) ||
  i.benchLow % 128 != 0 || i.benchHigh % 128 != 0 || decide (i.benchHigh ≤ i.benchLow) || decide (0x600000 < i.benchHigh) ||
  nameBad ((b.drop 0x40).take 32) || decide (1 < plField b 0x30 1) || decide (2 ^ 13 ≤ plField b 0x32 2) || decide (64 ≤ plField b 0x34 2) ||
  (i.flags % 2 == 1 && !loader)

/-- Whether a requester is the keeper's system loader. -/
def isLoader (rq : Requester) : Bool := match rq with | .keeper => true | _ => false

/-- REGISTER_KERNEL, first part: the header is read, and the image's range is pinned. Registrations of one space follow one
another. DEDUCED (log entry 154). -/
def registerStart (c : AdmCmd) (s : State) : State :=
  let space := aTin c.desc
  let va := fld c.desc.w1 47 0
  if 2 ^ 48 < va + 128 then admFinish c.id .rejected s
  else if s.adm.queue.any (fun x => aOp x.desc == 3 && aTin x.desc == space && x.stage == 1) then s else
  let seen (s : State) : State := vaSeen (ownCore s / 64) space va 128 s
  match readSpace s space va 128 with
  | .fails code => admFinish c.id (if code = .keyFault then .rejected else code) (seen s)
  | .missing pks => pks.foldl (fun s pk => (missPage (ownCore s) pk s).2) s
  | .ready b =>
    let n := (imageOf space va b).imageBytes
    let s := seen s
    if n < 128 || 2 ^ 48 < va + n then admFinish c.id .rejected s
    else
      let pks := rangeKeys s space va n
      let fresh := pks.filter (fun k => !(getPte s k).pinned)
      pinPages (ownCore s / 64) 7 (2 * c.id) pks (modAdmCmd c.id (fun c => { c with stage := 1, left := (pageRuns pks).length, fresh := fresh }) s)

/-- A registration that does not succeed: the pages that it alone pinned are unpinned, and those of registered images and of
earlier PINs stay pinned. -/
def registerFail (c : AdmCmd) (code : Code) (s : State) : State := admFinish c.id code (pinPages (ownCore s / 64) 8 0 c.fresh s)

/-- REGISTER_KERNEL, second part: the PINs have ended; the image is checked and becomes runnable. It waits while a slice that holds a part
of it trains (R167). -/
def registerEnd (c : AdmCmd) (code : Code) (s : State) : State :=
  let space := aTin c.desc
  let va := fld c.desc.w1 47 0
  if codeFailed code then registerFail c code s else
  if vaTrains s space va 128 then s else
  match vaRead s space va 128 with
  | none => registerFail c .poisoned (vaSeen (ownCore s / 64) space va 128 s)
  | some h =>
    let i := imageOf space va h
    let mine := s.kernels.filter (fun k => k.space == space)
    if vaTrains s space va i.imageBytes then s else
    let found := vaRead s space va i.imageBytes
    let s := vaSeen (ownCore s / 64) space va i.imageBytes s
    match found with
    | none => registerFail c .poisoned s
    | some b =>
      if imageBad (isLoader c.who) i b || mine.any (fun k => k.kernelId == i.kernelId) || decide (1024 ≤ mine.length) then
        registerFail c .rejected s
      else admFinish c.id .ok { s with kernels := s.kernels ++ [i] }

/-- One PIN of a registration has ended with a code. -/
def registerPinned (c : AdmCmd) (code : Code) (s : State) : State :=
  let c := { c with left := c.left - 1, pinCode := codeMerge c.pinCode code }
  let s := modAdmCmd c.id (fun _ => c) s
  if c.left = 0 then registerEnd c c.pinCode s else s

/-! ### LOAD_MODEL and UNLOAD_MODEL (R229) -/

/-- One operator entry (Table 7.8). -/
def planOpOf (b : List Byte) : PlanOp :=
  ⟨BitVec.ofNat 64 (plField b 0 8), plField b 8 2, plField b 0xA 2, BitVec.ofNat 64 (plField b 0x10 8), plField b 0x18 8⟩

/-- Whether a plan breaks Table 7.7 or 7.8, or names a KERNEL_ID that its serving space does not register. -/
def planBad (s : State) (space : Nat) (mask : BitVec 24) (b : List Byte) : Bool :=
  let n := plField b 4 2
  let ops := (upto n).map (fun i => (b.drop (16 + 32 * i)).take 32)
  plField b 0 4 != 0x4E414C50 || n == 0 || decide (1024 < n) || decide (23 < plField b 6 1) || !bit mask (plField b 6 1) ||
  decide (63 < plField b 7 1) || plField b 0xC 4 != 0 || plField b 8 4 != (crc32c (zeroField b 8 4)).toNat ||
  ops.any (fun o => plField o 0xA 2 / 16 != 0 || plField o 0xC 4 != 0 ||
    !s.kernels.any (fun k => k.space == space && k.kernelId == (planOpOf o).kernelId))

/-- LOAD_MODEL: the plan is read where it lies; the code once it can be decided, none while pages come in. DEDUCED (log entries 59, 61). -/
def loadModel (c : AdmCmd) (s : State) : State :=
  let d := c.desc
  let m := aModel d
  let space := fld d.w3 11 0
  let mask := BitVec.ofNat 24 (fld d.w3 63 40)
  let plan := d.w1.toNat
  let reject (s : State) : State := admFinish c.id .rejected s
  let others := s.models.filter (fun p => p.2.state != 0 && p.1 != m)
  if (getSpace s space).isNone || (getTin s space).state != .free || mask == 0 || decide (2 ^ 48 ≤ plan) || d.w2.toNat % 65536 != 0 ||
     (upto 24).any (fun t => bit mask t && !(getTile s t).inService) ||
     others.any (fun p => p.2.mask != mask && p.2.mask &&& mask != 0) then reject s
  else
    let need (n : Nat) (f : List Byte → State → State) (s : State) : State :=
      let seen := vaSeen (ownCore s / 64) space plan n s
      match readSpace s space plan n with
      | .fails _ => reject seen
      | .missing pks => pks.foldl (fun s pk => (missPage (ownCore s) pk s).2) s
      | .ready b => f b seen
    need 16 (fun h s =>
      if plField h 4 2 = 0 || decide (1024 < plField h 4 2) then reject s else
      need (16 + 32 * plField h 4 2) (fun b s =>
        if planBad s space mask b then reject s else
        let ops := (upto (plField b 4 2)).map (fun i => planOpOf ((b.drop (16 + 32 * i)).take 32))
        admFinish c.id .ok { s with models := tput s.models m { modelInit with
          state := 1, space := space, mask := mask, planVa := plan, batchVa := d.w2.toNat, ops := ops, replyTile := plField b 6 1
          replyCore := plField b 7 1 } }) s) s

/-- UNLOAD_MODEL. -/
def unloadModelCmd (d : CmdDesc) (s : State) : Code × State :=
  if (getModel s (aModel d)).state = 0 then (.rejected, s) else (.ok, { s with models := tdel s.models (aModel d) })

/-! ### The queue (R253) -/

/-- WITHDRAW_TIN. DEDUCED (log entry 61). -/
def withdrawTinCmd (c : AdmCmd) (s : State) : State :=
  let t := aTin c.desc
  let wait (s : State) : State := modTin (modAdmCmd c.id (fun c => { c with stage := 2 }) s) t (fun x => { x with withdrawCmd := x.withdrawCmd ++ [c.id] })
  match (getTin s t).state with
  | .free => admFinish c.id .rejected s
  | .withdrawing => wait s
  | .active => withdrawTin t (wait s)

/-- CLOSE_STREAM, as a CLOSE request. -/
def closeStreamCmd (c : AdmCmd) (s : State) : State :=
  let e := fld c.desc.w1 15 0
  let x := getStream s e
  if x.state = .free || x.tin != aTin c.desc then admFinish c.id .rejected s
  else
    let s := modStream (modAdmCmd c.id (fun c => { c with stage := 2 }) s) e (fun x => { x with closeCmd := x.closeCmd ++ [c.id] })
    if x.state = .open_ then freeStream e s else s

/-- The code that ends a command before REJECTED does (R21): WITHDRAWN for a space that is gone, CONFLICT while streams hold the tin's
adapter, the slot or the group (R219, R229, R237), and the state of a closed stream's tin. DEDUCED (log entry 61). -/
def admEarlier (d : CmdDesc) (s : State) : Option Code :=
  let t := getTin s (aTin d)
  match aOp d with
  | 1 => if spaceGone s (aTin d) then some .withdrawn
         else if t.openStreams != 0 && (t.adapterVa != fld d.w1 47 0 || t.adapterPages != fld d.w2 31 0) then some .conflict else none
  | 4 | 5 => if (accepted s).any (fun p => p.2.model == aModel d) || s.jobs.any (fun j => j.slot == aModel d) then some .conflict else none
  | 7 => if groupPromised s (aModel d) then some .conflict else none
  | 9 => if t.state = .free then some .keyFault else if t.state = .withdrawing then some .withdrawn else none
  | _ => none

/-- A command of the queue goes on as far as it can. -/
def runAdm (c : AdmCmd) (s : State) : State :=
  let now (f : CmdDesc → State → Code × State) : State := let r := f c.desc s; admFinish c.id r.1 r.2
  match admEarlier c.desc s with
  | some code => admFinish c.id code s
  | none =>
  if admReserved c.desc then admFinish c.id .rejected s else
  match aOp c.desc with
  | 1 => now setTinCmd
  | 2 => withdrawTinCmd c s
  | 3 => registerStart c s
  | 4 => loadModel c s
  | 5 => now unloadModelCmd
  | 6 => now loadRowCmd
  | 7 => measureCmd c s
  | 8 => now admUnpinCmd
  | _ => closeStreamCmd c s

/-- Whether a command needs the expert level of ADMISSION (Table 7.15). -/
def admExpert (d : CmdDesc) : Bool := decide (4 ≤ aOp d) && decide (aOp d ≤ 7)

/-- Submission of an admission command by its word 7 (R253); `found` is what the calibration steps of a MEASURE find. -/
def admSubmit (rq : Requester) (d : CmdDesc) (found : MeasureFound) (s : State) : State :=
  if (admExpert d && !expertOk rq 3 s) || (aOp d == 3 && aTin d == 0 && !isLoader rq) then ends .keyFault s
  else if 64 ≤ s.adm.queue.length then ends .retryLater s
  else
    let id := s.nextId
    let c : AdmCmd := ⟨id, fld d.w0 15 0, d, rq, 0, 0, .ok, [], found, 0⟩
    runAdm c (ends .ok { s with nextId := id + 1, adm := { s.adm with queue := s.adm.queue ++ [c] } })

/-- Values that a MEASURE written without them finds: free values. DESIGN CHOICE (log entry 62). -/
def freeFound (s : State) : MeasureFound × State :=
  let (a, s) := freeWord s
  let (b, s) := freeWord s
  let (c, s) := freeWord s
  (⟨fld a 31 0, fld b 31 0, fld c 31 0⟩, s)

/-- The residency commands that the admission controller issued and that have ended. -/
def takeAdmin (s : State) : State :=
  let all := s.res.flatMap (fun r => (r.2.queue.filter (fun c => c.stage == 100)).map (fun c => (r.1, c)))
  all.foldl (fun s q =>
    let s := modRes s q.1 (fun r => { r with queue := r.queue.filter (fun c => c.id != q.2.id) })
    match q.2.admin with
    | none => s
    | some 0 => s
    | some k =>
      if k % 2 = 1 then adapterPinned (k / 2) q.2.code s
      else match s.adm.queue.find? (fun c => c.id == k / 2) with
        | some c => registerPinned c q.2.code s
        | none => s) s

/-- What admission and dispatch do without a command. -/
def streamsSettle (s : State) : State :=
  let s := takeAdmin s
  let s := (s.adm.queue.filter (fun c => c.stage == 0)).foldl (fun s c => runAdm c s) s
  let s := (s.adm.queue.filter (fun c => c.stage == 1 && c.left == 0)).foldl (fun s c => registerEnd c c.pinCode s) s
  jobsSettle s

end Sys2Proof.Machine
end

