-- ==== Sys2Proof/Machine/Crumbs.lean ====
section
/-! DEFINITION. Crumbs: collective groups (R328–R330), crumb rounds (R331–R340), late risers (R341, R342) and the
instruction CRUMB. -/

namespace Sys2Proof.Machine

/-! ### Groups (Table 10.1) -/

/-- An empty group entry. -/
def groupEmpty : CollGroup := ⟨0, 0, 0, 0, false, 0, [], 0, 0, 0, none, 0, 0, []⟩
def getColl (s : State) (g : Nat) : CollGroup := tget groupEmpty s.coll.groups g
def modColl (g : Nat) (f : CollGroup → CollGroup) (s : State) : State :=
  { s with coll := { s.coll with groups := tput s.coll.groups g (f (getColl s g)) } }

def cgVc (g : CollGroup) : Nat := fld g.w0 59 56
def cgRepeats (g : CollGroup) : Nat := fld g.w0 55 53
def cgLateUs (g : CollGroup) : Nat := fld g.w0 52 38
def cgT (g : CollGroup) : Nat := fld g.w0 37 36 + 1
def cgU (g : CollGroup) : Nat := fld g.w0 35 32 + 1
def cgV (g : CollGroup) : Nat := fld g.w0 31 24 + 1
def cgTiles (g : CollGroup) : List Nat := (upto 24).filter (fun t => bit g.w0 t)
def cgCores (g : CollGroup) : List Nat := bitsOf g.w1
def cgWaitUs (g : CollGroup) : Nat := fld g.w3 63 48

/-- The members of one rack, ascending. -/
def rackMembers (g : CollGroup) (rack : Nat) : List Nat := g.members.filter (fun m => m / 64 == rack)
/-- The member racks, ascending. -/
def memberRacks (g : CollGroup) : List Nat := (g.members.map (· / 64)).foldl addNew []

/-- Whether the engine still serves a group: VALID, or draining (R329). -/
def cgServed (g : CollGroup) : Bool := g.valid || g.closing.isSome

/-- The slots that a group reserves (R331). -/
def cgSlots (g : CollGroup) : Nat := if cgServed g then 4 * (cgT g * cgU g + cgV g) else 0
/-- SLOTS_FREE. -/
def slotsFree (s : State) : Nat := 262144 - (s.coll.groups.map (fun p => cgSlots p.2)).sum

/-- HASH: CRC-32C over words 0–1 and the member list (Table 10.1). DEDUCED (log entry 78). -/
def cgHash (w0 w1 : Word) (members : List Nat) : Nat :=
  (crc32c (leBytes 8 w0.toNat ++ leBytes 8 w1.toNat ++ members.flatMap (leBytes 2))).toNat % 65536

/-- Whether a list is strictly ascending. -/
def ascending : List Nat → Bool
  | a :: b :: r => decide (a < b) && ascending (b :: r)
  | _ => true

/-- Whether a group is regular (R328). DEDUCED (log entry 85). -/
def cgRegular (g : CollGroup) : Bool :=
  (memberRacks g).length == cgV g && (memberRacks g).all (fun r =>
    let l := rackMembers g r
    let trays := (l.map (· / 4)).foldl addNew []
    trays.length == cgU g && trays.all (fun t => (l.filter (fun m => m / 4 == t)).length == cgT g))

/-- The member list of a group as the hearth reads it: free values where LIST_ADDR names no readable bytes of this module, since R328 lists
no code for that. DESIGN CHOICE (log entry 168). -/
def memberList (a n : Nat) (s : State) : List Byte × State :=
  match gpaLoad a n s with
  | (some bs, s) => (bs, s)
  | (none, s) => ((upto n).map (fun i => (Config.free64 (s.free + i)).setWidth 8), { s with free := s.free + n })

/-- GROUP_ENTRY_WRITE (R328): the write of word 3. -/
def groupEntryWriteOp (rq : Requester) (g : Nat) (v : Word) (s : State) : State :=
  withExpert rq 5 s (fun s =>
    let x := getColl s g
    if cgServed x then ends .conflict s else
    let x := { x with w0 := setFld x.w0 63 63 1, w3 := setFld (setFld v 47 32 0) 31 0 0 }
    match memberList x.w2.toNat (2 * (cgT x * cgU x * cgV x)) s with
    | (bs, s) =>
      let members := (upto (cgT x * cgU x * cgV x)).map (fun i => leNat ((bs.drop (2 * i)).take 2))
      let x := { x with members := members, hash := cgHash x.w0 x.w1 members }
      if cgVc x < 8 || (cgTiles x).isEmpty || (cgTiles x).any (fun t => !(getTile s t).inService) || cgLateUs x = 0 || cgWaitUs x = 0 ||
         !ascending members || members.any (fun m => decide (16384 ≤ m)) || !members.contains s.myModule || !cgRegular x
      then ends .rejected s
      else if slotsFree s < 4 * (cgT x * cgU x + cgV x) then ends .retryLater s
      else ends .ok (modColl g (fun _ => { x with valid := true, failed := 0, failedAt0 := 0, failedAt1 := 0, closing := none, num0 := 0, num1 := 0, rounds := [],
                                                  w3 := setFld x.w3 47 32 x.hash }) s))

/-- A write of words 0–2 of an entry (R328): CONFLICT while it is VALID, except one that clears VALID. -/
def groupWordWrite (g i : Nat) (v : Word) (s : State) : State :=
  let x := getColl s g
  if cgServed x then
    if x.valid && i == 0 && !bit v 63 then ends .ok (modColl g (fun x => { x with valid := false, w0 := setFld x.w0 63 63 0, closing := some s.now }) s)
    else ends .conflict s
  else ends .ok (modColl g (fun x => match i with
    | 0 => { x with w0 := setFld (setFld v 63 60 0) 63 63 0 }
    | 1 => { x with w1 := v }
    | _ => { x with w2 := v }) s)

/-- GROUP_ENTRY_CLEAR (R329). -/
def groupEntryClearOp (rq : Requester) (g : Nat) (s : State) : State :=
  withExpert rq 5 s (fun s => if (getColl s g).valid then groupWordWrite g 0 0 s else ends .ok s)

/-! ### Operations (Table 10.2) -/

/-- Lanes that an operation admits, at most. -/
def crumbLanes (op : Nat) : Nat := if op = 0 then 0 else if op ≤ 3 then 2 else 4

/-- Bytes of a lane. -/
def crumbLaneBits (op : Nat) : Nat := if op ≤ 3 then 64 else 32

/-- Combine of one lane. -/
def crumbLane (op : Nat) (a b : Nat) : Nat :=
  let f (x : Word32 × FpFlags) : Nat := x.1.toNat
  match op with
  | 1 => (a + b) % 2 ^ 64
  | 2 => if sext 64 a ≤ sext 64 b then a else b
  | 3 => if sext 64 a ≤ sext 64 b then b else a
  | 4 => a &&& b
  | 5 => a ||| b
  | 6 => f (fAdd (BitVec.ofNat 32 a) (BitVec.ofNat 32 b))
  | 7 => f (fMin (BitVec.ofNat 32 a) (BitVec.ofNat 32 b))
  | _ => f (fMax (BitVec.ofNat 32 a) (BitVec.ofNat 32 b))

/-- Combine of two values over `lanes` lanes; the lanes beyond read as zero. -/
def crumbCombine (op lanes : Nat) (a b : BitVec 128) : BitVec 128 :=
  if op = 0 then 0 else
  let w := crumbLaneBits op
  BitVec.ofNat 128 ((upto lanes).foldl (fun n i =>
    n + crumbLane op (nbits a.toNat (w * i + w - 1) (w * i)) (nbits b.toNat (w * i + w - 1) (w * i)) <<< (w * i)) 0)

/-- A value with the lanes beyond `lanes` zero. -/
def crumbMask (op lanes : Nat) (v : BitVec 128) : BitVec 128 :=
  if op = 0 then 0 else BitVec.ofNat 128 (v.toNat % 2 ^ (crumbLaneBits op * lanes))

/-- A fold, left to right (R334). -/
def crumbFold (op lanes : Nat) (l : List (BitVec 128)) : BitVec 128 :=
  match l with | [] => 0 | x :: r => r.foldl (crumbCombine op lanes) x

/-! ### Rounds -/

/-- The round number in progress of a kind. -/
def cgNum (g : CollGroup) (kind : Nat) : Nat := if kind = 0 then g.num0 else g.num1
def roundEmpty (kind num : Nat) : CrumbRound := ⟨kind, num, [], none, 0, [], none, [], none, none, none⟩
def findRound (g : CollGroup) (kind num : Nat) : Option CrumbRound := g.rounds.find? (fun r => r.kind == kind && r.num == num)
/-- The group with a round replaced or added; only the last rounds of a kind stay (R338). -/
def putRound (r : CrumbRound) (g : CollGroup) : CollGroup :=
  let rest := g.rounds.filter (fun x => !(x.kind == r.kind && x.num == r.num))
  { g with rounds := rest.filter (fun x => x.kind != r.kind || decide (cgNum g r.kind ≤ x.num + 2)) ++ [r] }
/-- The state with a round changed, when the engine holds it. -/
def modRound (g kind num : Nat) (f : CrumbRound → CrumbRound) (s : State) : State :=
  modColl g (fun x => match findRound x kind num with | some r => putRound (f r) x | none => x) s

/-- Whether a round of a kind comes after one that marked the group FAILED (R339). -/
def cgFailed (g : CollGroup) (kind num : Nat) : Bool := bit g.failed kind && decide ((if kind = 0 then g.failedAt0 else g.failedAt1) ≤ num)

/-- The operation and lanes of this module's round: those of its first contribution. DEDUCED (log entry 78). -/
def roundOp (r : CrumbRound) : Option (Nat × Nat) := match r.ins with | i :: _ => some (i.op, i.lanes) | [] => none

/-- The operation and lanes that this module knows of a round: its own contributions', else those of its first input.
DEDUCED (log entry 79). -/
def roundShape (r : CrumbRound) : Option (Nat × Nat) :=
  match roundOp r with
  | some x => some x
  | none => (r.rack ++ r.hall).head?.map (fun v => (v.op, v.lanes))

/-- Whether every contributor of this module has contributed. -/
def roundFull (g : CollGroup) (r : CrumbRound) : Bool :=
  (cgTiles g).all (fun t => if r.kind = 0 then (cgCores g).all (fun c => r.ins.any (fun i => i.tile == t && i.core == c))
    else r.ins.any (fun i => i.tile == t))

/-- The module value (R334): each tile folds its cores, and the hearth its tiles. -/
def moduleFold (g : CollGroup) (r : CrumbRound) (op lanes : Nat) : BitVec 128 :=
  crumbFold op lanes ((cgTiles g).map (fun t =>
    let l := sortBy (fun (a b : CrumbIn) => decide (a.core ≤ b.core)) (r.ins.filter (fun i => i.tile == t))
    crumbFold op lanes (l.map (fun i => crumbMask op lanes i.value))))

/-- A fold of inputs by ascending origin. -/
def originFold (op lanes : Nat) (l : List CrumbVal) : BitVec 128 :=
  crumbFold op lanes ((sortBy (fun (a b : CrumbVal) => decide (a.origin ≤ b.origin)) l).map (·.value))

/-- The result of a completed round. -/
def roundResult (g : CollGroup) (r : CrumbRound) : BitVec 128 :=
  match roundOp r with
  | none => 0
  | some (op, lanes) => if cgV g = 1 then r.rackVal.getD 0 else originFold op lanes r.hall

/-! ### Packets (Tables 10.5, 10.6, R336) -/

/-- A crumb packet. -/
def crumbPkt (s : State) (dst type g kind op lanes num origin last code : Nat) (v : BitVec 128) : Packet :=
  let p := mkPkt s.myModule 30 dst 30 type 0 1 0
    (pack [(54, g), (46, op), (44, lanes), (43, kind), (35, num % 256), (21, origin), (5, (getColl s g).hash)])
    (pack [(50, last), (42, code)]) (v.setWidth 64) ((v >>> 64).setWidth 64) []
  { p with w0 := setFld p.w0 59 56 1 }

/-- Sends a crumb on the up strand of the needed role whose edge tile lies fewest hops from the hearth; within the rack with ROUTE DIRECT
(R336). -/
def crumbSend (p : Packet) (s : State) : State :=
  if (getPort s 30).hold && affected s p then modPort s 30 (fun x => { x with loose := x.loose ++ [p] }) else
  let b := bankSel s true
  let cs := ((candidates b s.myModule (pDstModule p)).filter (fun c => strandUp s c.1)).map (fun c =>
    if pDstModule p / 64 = s.myModule / 64 then (c.1, 0, 0) else c)
  let far (c : Nat × Nat × Nat) : Nat := hops 30 (servingTile (c.1 / 8))
  let least := cs.foldl (fun m c => min m (far c)) 100
  match pickOne (cs.filter (fun c => far c == least)) s with
  | (none, s) => s
  | (some (st, route, inter), s) =>
    strandSend 30 st (pktSeal (withRoute { p with w0 := setFld p.w0 11 4 (bankEpoch b) } 1 route inter)) s

/-- The other member modules of this module's rack. -/
def rackPeers (s : State) (g : CollGroup) : List Nat := (rackMembers g (s.myModule / 64)).filter (· != s.myModule)

/-- The counterparts of this module in the other member racks (R335). -/
def hallPeers (s : State) (g : CollGroup) : List Nat :=
  let j := (rackMembers g (s.myModule / 64)).idxOf s.myModule
  ((memberRacks g).filter (· != s.myModule / 64)).filterMap (fun r => (rackMembers g r)[j]?)

/-- Sends a value of a round. -/
def sendValue (g kind : Nat) (r : CrumbRound) (hall : Bool) (dst : Nat) (s : State) : State :=
  match roundOp r with
  | none => s
  | some (op, lanes) =>
    let last := match r.rack.getLast? with | some x => x.origin | none => 0
    if hall then
      match r.rackVal with
      | none => s
      | some v => crumbSend (crumbPkt s dst 0x51 g kind op (lanes - 1) r.num (s.myModule / 64) last 0 v) s
    else
      match r.moduleVal with
      | none => s
      | some v => crumbSend (crumbPkt s dst 0x50 g kind op (lanes - 1) r.num s.myModule 0 0 v) s

/-- Sends CRUMB_ABORT to every module to which the round sends values, with the round's operation, or that of the ABORT which it
forwards. -/
def sendAborts (g kind : Nat) (r : CrumbRound) (code : Code) (got : Nat × Nat) (s : State) : State :=
  let x := getColl s g
  let (op, lanes) := (roundShape r).getD got
  (rackPeers s x ++ hallPeers s x).foldl (fun s dst =>
    crumbSend (crumbPkt s dst 0x53 g kind op (lanes - 1) r.num s.myModule 0 (codeNum code) 0) s) s

/-! ### Ends of rounds (R333, R339–R342) -/

/-- The code of an operation of a group that would end with OK: SUSPECT while a member is marked (R342). -/
def suspectCode (s : State) (g : CollGroup) : Code := if g.members.any (fun m => s.coll.suspects.contains m) then .suspect else .ok

/-- The end of a core's crumb (R333): with OK its result and its wake, with a Failed code its event CRUMB_FAILED; and its ticket. -/
def crumbEnd (g : Nat) (i : CrumbIn) (code : Code) (v : BitVec 128) (s : State) : State :=
  if i.core = 64 then s else
  let key := ck i.tile i.core
  let s := if code = .ok then
      modCore s key (fun c => modKernel (benchWrite c i.off (leBytes 16 v.toNat)) (fun k => { k with wake := k.wake ||| 4#5 }))
    else if codeFailed code then
      raise (mkEv 0x0108 clsNotice 0 4 i.tile i.core (evW2 (unit := i.core)) (pack [(0, i.tag), (16, g)]) code) s
    else s
  modCore s key (fun c => modKernel c (fun k => ticketEnd k 4 i.ticket code))

/-- The group when round `num` of a kind has ended: the round in progress becomes the next that has not ended. An early end of the
next round (R340) leaves the one in progress as it is. -/
def advanceRound (kind num : Nat) (g : CollGroup) : CollGroup :=
  let done (n : Nat) : Bool := match findRound g kind n with | some r => r.ended.isSome | none => false
  let n := cgNum g kind
  let n := if num = n then (if done (n + 1) then n + 2 else n + 1) else n
  if kind = 0 then { g with num0 := n } else { g with num1 := n }

/-- Ends a round here, and the next round of its kind becomes the one in progress. -/
def endRound (g kind num : Nat) (code : Code) (s : State) : State :=
  match findRound (getColl s g) kind num with
  | none => s
  | some r =>
    if r.ended.isSome then s else
    let v := roundResult (getColl s g) r
    let s := modRound g kind num (fun r => { r with ended := some code }) s
    let s := modColl g (advanceRound kind num) s
    r.ins.foldl (fun s i => crumbEnd g i code v s) s

/-- Marks a group FAILED for a kind, from a round on: the earliest that did so counts. -/
def markFailed (g kind num : Nat) (s : State) : State :=
  let s := modColl g (fun x =>
    let at_ (old : Nat) : Nat := if bit x.failed kind then min old num else num
    { x with failed := x.failed ||| BitVec.twoPow 2 kind
             failedAt0 := if kind = 0 then at_ x.failedAt0 else x.failedAt0
             failedAt1 := if kind = 0 then x.failedAt1 else at_ x.failedAt1 }) s
  { s with coll := { s.coll with failedGroup := g, failedValid := true } }

/-- A crumb that differs from this module's round (R340). -/
def mismatchRound (g kind num origin : Nat) (s : State) : State :=
  match findRound (getColl s g) kind num with
  | none => s
  | some r =>
    if r.ended.isSome then s else
    let s := raise (mkEv 0x0702 clsFault 0 7 30 0 evW2 (pack [(50, origin), (10, kind), (0, g)]) .mismatch) (countHearth 8 1 (markFailed g kind num s))
    endRound g kind num .mismatch (sendAborts g kind r .mismatch (0, 1) s)

/-- With SUSPECT_EN set, marks the modules that are the late risers of 308 or more of the last 1,024 counting rounds (R342). -/
def markSuspects (l : List Nat) (s : State) : State :=
  if !bit s.coll.ctrl 0 then s else
  ((l.foldl addNew []).filter (fun m => !s.coll.suspects.contains m && decide (308 ≤ s.coll.late.count m))).foldl (fun s m =>
    raise (mkEv 0x0703 clsNotice 0 7 30 0 evW2 (pack [(0, m)]))
      (countHearth 10 1 { s with coll := { s.coll with suspects := s.coll.suspects ++ [m] } })) s

/-- Notes the late riser of a counting round, and marks it suspect at 308 of the last 1,024 (R341, R342). -/
def noteLate (g : CollGroup) (r : CrumbRound) (s : State) : State :=
  if g.members.length < 8 then s else
  let late := if cgV g = 1 then (match r.rack.getLast? with | some x => x.origin | none => s.myModule)
    else match r.hall.getLast? with | some x => x.last | none => s.myModule
  markSuspects [late] { s with coll := { s.coll with late := (late :: s.coll.late).take 1024 } }

/-! ### Progress -/

/-- When a NACK is due after now: NACK_US (R338). -/
def nackNext (s : State) : Nat := s.now + 1000 * fld s.coll.ctrl 15 8

/-- The first input of the rack fold sets the time of its next NACK (R338). -/
def nackDue (s : State) (r : CrumbRound) : CrumbRound := { r with nackAt := some (r.nackAt.getD (nackNext s)) }

/-- The first input of the hall fold sets the time of its next NACK (R338). -/
def nackDueHall (s : State) (r : CrumbRound) : CrumbRound := { r with nackHall := some (r.nackHall.getD (nackNext s)) }

/-- The module stage (R335). -/
def formModule (g kind num : Nat) (s : State) : State :=
  let x := getColl s g
  match findRound x kind num with
  | none => s
  | some r =>
    match roundOp r with
    | none => s
    | some (op, lanes) =>
      if r.moduleVal.isSome || r.ended.isSome || !roundFull x r then s else
      let v := moduleFold x r op lanes
      let r := nackDue s { r with moduleVal := some v, formed := s.now, rack := r.rack ++ [⟨s.myModule, op, lanes, v, 0⟩] }
      (rackPeers s x).foldl (fun s dst => sendValue g kind r false dst s) (modColl g (putRound r) s)

/-- The rack stage and the hall stage (R335). -/
def formRack (g kind num : Nat) (s : State) : State :=
  let x := getColl s g
  match findRound x kind num with
  | none => s
  | some r =>
    match roundOp r with
    | none => s
    | some (op, lanes) =>
      if r.moduleVal.isNone || r.rackVal.isSome || r.ended.isSome || r.rack.length < cgT x * cgU x then s else
      let v := originFold op lanes r.rack
      let last := match r.rack.getLast? with | some y => y.origin | none => 0
      let r := nackDueHall s { r with rackVal := some v, hall := r.hall ++ [⟨s.myModule / 64, op, lanes, v, last⟩] }
      (hallPeers s x).foldl (fun s dst => sendValue g kind r true dst s) (modColl g (putRound r) s)

/-- The completion of a round. -/
def finishRound (g kind num : Nat) (s : State) : State :=
  let x := getColl s g
  match findRound x kind num with
  | none => s
  | some r =>
    if r.ended.isSome || r.rackVal.isNone || r.hall.length < cgV x then s else
    let s := countHearth 6 1 (noteLate x r s)
    endRound g kind num (suspectCode s x) s

/-- The origin of an input or contribution that differs from this module's round, if any. -/
def roundDiffers (s : State) (r : CrumbRound) : Option Nat :=
  match roundOp r with
  | none => none
  | some (op, lanes) =>
    if r.ins.any (fun i => i.op != op || i.lanes != lanes) then some s.myModule
    else ((r.rack ++ r.hall).find? (fun v => v.op != op || v.lanes != lanes)).map (·.origin)

/-- A round goes on as far as its inputs let it. -/
def roundStep (g kind num : Nat) (s : State) : State :=
  match findRound (getColl s g) kind num with
  | none => s
  | some r =>
    match roundDiffers s r with
    | some o => mismatchRound g kind num o s
    | none => finishRound g kind num (formRack g kind num (formModule g kind num s))

/-- The round that a contributor's next crumb belongs to: the first of the last two that ended without it, else the one in
progress. -/
def nextRound (g : CollGroup) (kind tile core : Nat) : Nat :=
  let n := cgNum g kind
  let lacks (k : Nat) : Bool := match findRound g kind k with
    | some r => decide (k < n) && !r.ins.any (fun i => i.tile == tile && i.core == core)
    | none => false
  if lacks (n - 2) then n - 2 else if lacks (n - 1) then n - 1 else n

/-- A contribution enters the engine: the number of its round. In a FAILED group it ends at once with TIMEOUT (R339); in a
round that has already ended, with that round's code. -/
def contribute (g kind : Nat) (i : CrumbIn) (s : State) : State :=
  let x := getColl s g
  let num := nextRound x kind i.tile i.core
  let r := (findRound x kind num).getD (roundEmpty kind num)
  match r.ended with
  | some code => crumbEnd g i code 0 (modColl g (putRound { r with ins := r.ins ++ [i] }) s)
  | none =>
    if cgFailed x kind num then crumbEnd g i .timeout 0 s
    else roundStep g kind num (modColl g (putRound { r with ins := r.ins ++ [i] }) s)

/-! ### Arriving crumbs -/

/-- The round of this module that a packet's ROUND names: the one in progress, the next, or one of the last two. -/
def pktRound (g : CollGroup) (p : Packet) : Option Nat :=
  let n := cgNum g (fld p.w3 43 43)
  let d := serialDiff 8 (fld p.w3 42 35) (n % 256)
  if d = 0 ∨ d = 1 then some (n + d.toNat) else if (d = -1 ∧ 1 ≤ n) ∨ (d = -2 ∧ 2 ≤ n) then some (n - (-d).toNat) else none

/-- The operation and lanes that a crumb carries. -/
def pktShape (p : Packet) : Nat × Nat := (fld p.w3 53 46, fld p.w3 45 44 + 1)

/-- Whether a crumb's HASH, OP or lane count differs from this module's round (R330, R340). -/
def crumbDiffers (x : CollGroup) (r : CrumbRound) (p : Packet) : Bool :=
  fld p.w3 20 5 != x.hash || (match roundShape r with | some sh => sh != pktShape p | none => false)

/-- CRUMB_RACK and CRUMB_HALL (R331, R335, R340): an input of a fold; a duplicate is discarded. -/
def crumbTake (hall : Bool) (p : Packet) (s : State) : State :=
  let g := fld p.w3 63 54
  let kind := fld p.w3 43 43
  let x := getColl s g
  if !cgServed x || pDstTile p != 30 then s else
  match pktRound x p with
  | none => s
  | some num =>
    if num < cgNum x kind || cgFailed x kind num then s else
    let r := (findRound x kind num).getD (roundEmpty kind num)
    let origin := fld p.w3 34 21
    let v : CrumbVal := ⟨origin, fld p.w3 53 46, fld p.w3 45 44 + 1, (p.w6.setWidth 128) <<< 64 ||| p.w5.setWidth 128, fld p.w4 63 50⟩
    let l := if hall then r.hall else r.rack
    let known := if hall then (memberRacks x).contains origin else (rackMembers x (s.myModule / 64)).contains origin
    if r.ended.isSome || l.any (fun y => y.origin == origin) then s
    else if fld p.w3 20 5 != x.hash then mismatchRound g kind num origin (modColl g (putRound r) s)
    else if !known then s
    else
      let r := if hall then nackDueHall s { r with hall := r.hall ++ [v] } else nackDue s { r with rack := r.rack ++ [v] }
      roundStep g kind num (modColl g (putRound r) s)

/-- CRUMB_NACK (R338, R340): the value of a round that this module holds is sent again to the module that asks ORIGIN for it; one
that differs from a round in progress is a mismatch. DEDUCED (log entry 79). -/
def crumbNackOp (p : Packet) (s : State) : State :=
  let g := fld p.w3 63 54
  let kind := fld p.w3 43 43
  let x := getColl s g
  if !cgServed x || pDstTile p != 30 then s else
  let hall := pSrcModule p / 64 != s.myModule / 64
  let origin := fld p.w3 34 21
  match (pktRound x p).bind (findRound x kind) with
  | none => s
  | some r =>
    if crumbDiffers x r p then mismatchRound g kind r.num origin s
    else if origin != (if hall then s.myModule / 64 else s.myModule) then s
    else sendValue g kind r hall (pSrcModule p) s

/-- CRUMB_ABORT (R340): ends a round that has not ended, and is forwarded once; one that differs from the round is a mismatch like
any crumb. DEDUCED (log entry 79). -/
def crumbAbortOp (p : Packet) (s : State) : State :=
  let g := fld p.w3 63 54
  let kind := fld p.w3 43 43
  let x := getColl s g
  if !cgServed x || pDstTile p != 30 then s else
  match pktRound x p with
  | none => s
  | some num =>
    let r := (findRound x kind num).getD (roundEmpty kind num)
    if r.ended.isSome then s
    else if crumbDiffers x r p then mismatchRound g kind num (fld p.w3 34 21) (modColl g (putRound r) s) else
    let code := codeReceived (fld p.w4 49 42)
    endRound g kind num code (sendAborts g kind r code (pktShape p) (modColl g (putRound r) (receivedEvent 30 (fld p.w4 49 42) s)))

/-! ### Timers (R338, R339) -/

/-- The modules, and the origins of their values, that a fold lacks: this module's rack, or its counterparts in other racks. -/
def foldLacks (s : State) (g : CollGroup) (r : CrumbRound) (hall : Bool) : List (Nat × Nat) :=
  if hall then
    ((hallPeers s g).filter (fun m => !r.hall.any (fun v => v.origin == m / 64))).map (fun m => (m, m / 64))
  else
    ((rackMembers g (s.myModule / 64)).filter (fun m => m != s.myModule && !r.rack.any (fun v => v.origin == m))).map (fun m => (m, m))

/-- What a fold lacks once its first input has come (R338). -/
def foldMissing (s : State) (g : CollGroup) (r : CrumbRound) (hall : Bool) : List (Nat × Nat) :=
  if (if hall then r.hall else r.rack).isEmpty then [] else foldLacks s g r hall

/-- The origins that a round still lacks: modules of its rack, then counterparts of other racks (R339). -/
def missingOrigins (s : State) (g : CollGroup) (r : CrumbRound) : List (Nat × Nat) := foldLacks s g r false ++ foldLacks s g r true

/-- The folds of a kind that lack an input, with the time of their next NACK: of the round in progress, and of the next, whose
inputs may come early (R338). -/
def nacksDue (s : State) (g : CollGroup) (kind : Nat) : List (Nat × CrumbRound × Bool) :=
  [cgNum g kind, cgNum g kind + 1].flatMap (fun n => match findRound g kind n with
    | none => []
    | some r => if r.ended.isSome then [] else [false, true].filterMap (fun hall =>
        if (foldMissing s g r hall).isEmpty then none else ((if hall then r.nackHall else r.nackAt)).map (fun due => (due, r, hall))))

/-- CRUMB_NACK_TIMER: the fold whose NACK is due first asks the origin of each input it lacks (R338). -/
def crumbNackTimerOp (g kind : Nat) (s : State) : State :=
  let x := getColl s g
  match sortBy (fun (a b : Nat × CrumbRound × Bool) => decide (a.1 ≤ b.1)) (nacksDue s x kind) with
  | [] => s
  | (due, r, hall) :: _ =>
    let s := { s with now := max s.now due }
    let (op, lanes) := (roundShape r).getD (0, 1)
    let s := modRound g kind r.num (fun r => if hall then { r with nackHall := some (nackNext s) } else { r with nackAt := some (nackNext s) }) s
    (foldMissing s x r hall).foldl (fun s m => countHearth 9 1 (crumbSend (crumbPkt s m.1 0x52 g kind op (lanes - 1) r.num m.2 0 0 0) s)) s

/-- CRUMB_ROUND_TIMEOUT (R339): WAIT_US after the module value formed. -/
def crumbRoundTimeoutOp (g kind : Nat) (s : State) : State :=
  let x := getColl s g
  match findRound x kind (cgNum x kind) with
  | none => s
  | some r =>
    if r.moduleVal.isNone || r.ended.isSome then s else
    let s := { s with now := max s.now (r.formed + 1000 * cgWaitUs x) }
    let miss := (missingOrigins s x r).map (·.1)
    let low := match miss with | [] => 0 | a :: l => l.foldl min a
    let s := raise (mkEv 0x0701 clsFault 0 7 30 0 evW2 (pack [(50, low), (32, min 65535 miss.length), (10, kind), (0, g)]) .timeout)
      (countHearth 7 1 (markFailed g kind r.num s))
    endRound g kind r.num .timeout s

/-- SUSPECT_CLEAR (R342): the cleared bits of one SUSPECT_MAP register; their counts are forgotten. -/
def suspectClearOp (w : Nat) (mask : Word) (s : State) : State :=
  let gone (m : Nat) : Bool := m / 64 == w && bit mask (m % 64) && s.coll.suspects.contains m
  ends .ok { s with coll := { s.coll with late := s.coll.late.filter (fun m => !(gone m)), suspects := s.coll.suspects.filter (fun m => !(gone m)) } }

/-- The end of the rounds of a cleared group at its drain bound (R329). -/
def drainRounds (g : Nat) (s : State) : State :=
  (getColl s g).rounds.foldl (fun s r => if r.ended.isSome then s else endRound g r.kind r.num .withdrawn s) s

/-! ### CRUMB -/

/-- The DESCRIPTOR conditions of a crumb's own fields (R332, R104). -/
def crumbBad (s : State) (key : Nat) (w0 w1 : Word) : Bool :=
  let op := fld w0 63 56
  let g := getColl s (fld w0 53 44)
  decide (8 < op) || fld w0 43 16 != 0 || fld w1 63 23 != 0 || fld w1 22 0 % 16 != 0 ||
  (if op = 0 then fld w0 55 54 != 0 else decide (crumbLanes op ≤ fld w0 55 54)) || !g.valid || !bit g.w0 (key / 64) || !bit g.w1 (key % 64)

/-- Whether the core has a crumb of the group outstanding. -/
def crumbBusy (s : State) (g key : Nat) : Bool :=
  (getColl s g).rounds.any (fun r => r.kind == 0 && r.ended.isNone && r.ins.any (fun i => i.tile == key / 64 && i.core == key % 64))

/-- CRUMB (R332). Its result may lie in no saved pass's lock (Table 2.8). -/
def opCrumb : IOp where
  legal w := wSel w == 0 && wZero w 39 0
  regs w := [wD w, wA w]
  fetch _ _ := false
  run key k w s :=
    let a := (gReg k (wA w)).toNat
    if gTag k (wA w) then .trap .poisonUse 0
    else if !inWindow k a 32 then .trap .benchRange 0
    else withDesc key a 32 s fun bs s =>
      let word := descPart bs
      let g := fld (word 0) 53 44
      if crumbBad s key (word 0) (word 1) then .trap .descriptor 0
      else if !inWindow k (fld (word 1) 22 0) 16 then .trap .benchRange 0
      else if savedLocked (getCore s key) (fld (word 1) 22 0) 16 then .trap .lockViolation 0
      else if crumbBusy s g key then .stall
      else
        let (k', ticket) := ticketIssue k 4
        let i : CrumbIn := ⟨key / 64, key % 64, ticket, fld (word 1) 22 0, fld (word 0) 15 0, fld (word 0) 63 56, fld (word 0) 55 54 + 1,
          (word 3).setWidth 128 <<< 64 ||| (word 2).setWidth 128⟩
        .next (contribute g 0 i (putKernel s key (putG k' (wD w) (BitVec.ofNat 64 ticket) false)))

end Sys2Proof.Machine
end

