-- ==== Sys2Proof/Machine/LinkAdders.lean ====
section
/-! DEFINITION. LinkAdders: Quaric-R64 (R343–R345), the exchanges of Table 10.9, link-adder operations from LINKOP to
their end (R346–R356, Tables 10.7–10.12), and the collective packets (R357, R358). -/

namespace Sys2Proof.Machine

/-! ### The descriptor (Table 10.7) -/

def lOp (d : CmdDesc) : Nat := fld d.w0 63 56
def lLanes64 (d : CmdDesc) : Bool := fld d.w0 55 54 == 1
def lMean (d : CmdDesc) : Bool := bit d.w0 53
def lDeadline (d : CmdDesc) : Bool := bit d.w0 52
def lThin (d : CmdDesc) : Nat := fld d.w0 51 46 + 1
def lGroup (d : CmdDesc) : Nat := fld d.w0 45 36
def lTag (d : CmdDesc) : Nat := fld d.w0 15 0
def lStep (d : CmdDesc) : Nat := fld d.w1 63 32
def lElems (d : CmdDesc) : Nat := fld d.w1 31 0
def lIn (d : CmdDesc) : Nat := fld d.w2 63 41
def lOut (d : CmdDesc) : Nat := fld d.w2 40 18
def lWork (d : CmdDesc) : Nat := fld d.w3 63 41
def lAcc (d : CmdDesc) : Nat := fld d.w3 40 18
def lCounts (d : CmdDesc) : Nat := fld d.w4 63 41
/-- B, the number of blocks. -/
def lBlocks (d : CmdDesc) : Nat := cdiv (lElems d) 64
/-- Whether the operation is a reduction. -/
def lReduces (d : CmdDesc) : Bool := lOp d == 1 || lOp d == 2
/-- Whether the operation exchanges counts first (R354). -/
def lCountsFirst (d : CmdDesc) : Bool := lOp d == 4 || lOp d == 5
/-- Whether thinning applies: a reduction with N > 1 (R348). -/
def lThins (d : CmdDesc) : Bool := lReduces d && decide (1 < lThin d)
/-- Whether the values that a reduction sends are Quaric-R64 lanes; those of a thinning accumulator are FP32. -/
def lInts (d : CmdDesc) : Bool := lLanes64 d && !lThins d
/-- Whether a step sends: STEP mod N is N − 1 (R348). -/
def lSends (d : CmdDesc) : Bool := !lThins d || lStep d % lThin d == lThin d - 1

/-- The DESCRIPTOR conditions that the descriptor's own fields show (R346, R104). -/
def linkBad (s : State) (key : Nat) (d : CmdDesc) : Bool :=
  let g := getColl s (lGroup d)
  lOp d == 0 || decide (7 < lOp d) || decide (1 < fld d.w0 55 54) || fld d.w0 35 16 != 0 || fld d.w2 17 0 != 0 || fld d.w3 17 0 != 0 ||
  fld d.w4 40 0 != 0 || d.w5 != 0 || d.w6 != 0 || d.w7 != 0 || lElems d == 0 || !g.valid || !bit g.w0 (key / 64) ||
  (lMean d && (lLanes64 d || !lReduces d))

/-! ### Contributors and stages (Table 10.9) -/

/-- C, the number of contributors. -/
def cgC (g : CollGroup) : Nat := g.members.length * (cgTiles g).length
/-- The contributor index of a tile of a module. -/
def contributor (g : CollGroup) (module tile : Nat) : Nat := g.members.idxOf module * (cgTiles g).length + (cgTiles g).idxOf tile
/-- The module and tile of a contributor index. -/
def contributorAt (g : CollGroup) (c : Nat) : Nat × Nat :=
  let n := (cgTiles g).length
  (g.members.getD (c / n) 0, (cgTiles g).getD (c % n) 0)

/-- Participants of a stage. -/
def stageP (g : CollGroup) (st : Nat) : Nat := match st with | 0 => (cgTiles g).length | 1 => cgT g | 2 => cgU g | _ => cgV g
/-- The place of a contributor among the participants of a stage. -/
def stageMe (g : CollGroup) (c st : Nat) : Nat :=
  let n := (cgTiles g).length
  let i := c / n
  match st with | 0 => c % n | 1 => i % cgT g | 2 => i / cgT g % cgU g | _ => i / (cgT g * cgU g)
/-- The contributor that is participant j of a contributor's stage. -/
def stagePeer (g : CollGroup) (c st j : Nat) : Nat :=
  let n := (cgTiles g).length
  let i := c / n
  let (t, u, v) := (i % cgT g, i / cgT g % cgU g, i / (cgT g * cgU g))
  let mk (t u v : Nat) : Nat := ((v * cgU g + u) * cgT g + t) * n + c % n
  match st with | 0 => i * n + j | 1 => mk j u v | 2 => mk t j v | _ => mk t u j

/-- Piece j of P of the blocks from lo up to hi. -/
def piece (r : Nat × Nat) (p j : Nat) : Nat × Nat := (r.1 + j * (r.2 - r.1) / p, r.1 + (j + 1) * (r.2 - r.1) / p)

/-- The blocks that a contributor holds before a stage of the up phase. A ring of P leaves piece (i + 1) mod P with
participant i. DEDUCED (log entry 80). -/
def heldAt (g : CollGroup) (c b : Nat) : Nat → Nat × Nat
  | 0 => (0, b)
  | st + 1 =>
    let p := stageP g st
    if p = 1 then heldAt g c b st
    else piece (heldAt g c b st) p (if st < 2 then stageMe g c st else (stageMe g c st + 1) % p)

/-- The blocks of the sum that REDUCE_SCATTER gives a contributor (Table 10.8). -/
def scatterPiece (g : CollGroup) (b c : Nat) : Nat × Nat := (c * b / cgC g, (c + 1) * b / cgC g)

/-- What participant q of a contributor's stage is the home of in a REDUCE_SCATTER: the blocks of Table 10.8 of every contributor that it
stands for in the stages that follow. DEDUCED (log entry 80). -/
def scatterSet (g : CollGroup) (c b st q : Nat) : List (Nat × Nat) :=
  ((upto (cgC g)).filter (fun x => (upto 4).all (fun k => if k < st then stageMe g x k == stageMe g c k else k != st || stageMe g x k == q))).map
    (scatterPiece g b)

/-- The exchanges of the up phase: stage and ring step. -/
def upXchs (g : CollGroup) : List (Nat × Nat) :=
  (upto 4).flatMap (fun st => let p := stageP g st
                              if p = 1 then [] else if st < 2 then [(st, 0)] else (upto (p - 1)).map (fun s => (st, s)))
/-- The exchanges of the down phase: the stages in reverse order. -/
def downXchs (g : CollGroup) : List (Nat × Nat) :=
  [3, 2, 1, 0].flatMap (fun st => let p := stageP g st
                                  if p = 1 then [] else if st < 2 then [(st, 0)] else (upto (p - 1)).map (fun s => (st, s)))

/-- What a contributor sends in an exchange of a reduction: destination contributor and block range. -/
def redOut (scatter : Bool) (g : CollGroup) (c b : Nat) (down : Bool) (x : Nat × Nat) : List (Nat × Nat × Nat) :=
  let p := stageP g x.1
  let me := stageMe g c x.1
  let h := heldAt g c b x.1
  let out (j q : Nat) : Nat × Nat × Nat := (stagePeer g c x.1 j, (piece h p q).1, (piece h p q).2)
  if scatter then
    if x.1 < 2 then ((upto p).filter (· != me)).flatMap (fun j => (scatterSet g c b x.1 j).map (fun r => (stagePeer g c x.1 j, r)))
    else (scatterSet g c b x.1 ((me + 2 * p - 1 - x.2) % p)).map (fun r => (stagePeer g c x.1 ((me + 1) % p), r))
  else if x.1 < 2 then ((upto p).filter (· != me)).map (fun j => out j (if down then me else j))
  else [out ((me + 1) % p) ((me + (if down then 1 else 0) + p - x.2) % p)]

/-- What a contributor takes in in an exchange of a reduction: source contributor and block range. -/
def redIn (scatter : Bool) (g : CollGroup) (c b : Nat) (down : Bool) (x : Nat × Nat) : List (Nat × Nat × Nat) :=
  let p := stageP g x.1
  let me := stageMe g c x.1
  let h := heldAt g c b x.1
  let inp (j q : Nat) : Nat × Nat × Nat := (stagePeer g c x.1 j, (piece h p q).1, (piece h p q).2)
  if scatter then
    if x.1 < 2 then ((upto p).filter (· != me)).flatMap (fun j => (scatterSet g c b x.1 me).map (fun r => (stagePeer g c x.1 j, r)))
    else (scatterSet g c b x.1 ((me + 2 * p - 2 - x.2) % p)).map (fun r => (stagePeer g c x.1 ((me + p - 1) % p), r))
  else if x.1 < 2 then ((upto p).filter (· != me)).map (fun j => inp j (if down then j else me))
  else [inp ((me + p - 1) % p) ((me + (if down then 0 else p - 1) + p - x.2) % p)]

/-- The contributors whose slots participant q of a contributor's stage holds before that stage of a gather. -/
def gatherSet (g : CollGroup) (c st q : Nat) : List Nat :=
  (upto (cgC g)).filter (fun x =>
    (upto 4).all (fun k => if k < st then true else if k = st then stageMe g x k == q else stageMe g x k == stageMe g c k))

/-! ### Quaric-R64 (R343–R345) -/

/-- The lanes of a 512-byte block. -/
def blockLanes (bs : List Byte) : List Word := (upto 64).map (fun i => BitVec.ofNat 64 (leNat ((bs.drop (8 * i)).take 8)))
/-- The bytes of a block. -/
def laneBytes (l : List Word) : List Byte := l.flatMap (fun x => leBytes 8 x.toNat)
/-- The residue of a block (R343). -/
def blockResidue (l : List Word) : Nat := ((l.map (fun x => (x.toInt % 65521).toNat)).sum) % 65521

/-- Nearest integer to n ÷ d, ties to even. -/
def rneDiv (n d : Nat) : Nat := let q := n / d; if rneUp q (n % d) d then q + 1 else q

/-- R344's clamp: the lane, and whether it clamped. -/
def clampLane (v : Int) : Int × Bool :=
  let m : Int := 2 ^ 39 - 1
  if m < v then (m, true) else if v < -m then (-m, true) else (v, false)

/-- Encodes one FP32 value at exponent E: the lane, whether it clamped, and whether it was an infinity or a NaN. -/
def encodeLane (e : Int) (x : Word32) : Int × Bool × Bool :=
  if fExp x = 255 then (0, false, true) else
  let (n, d) := dyRat ((fDy x).1, (fDy x).2 + 38 - e)
  let q : Int := rneDiv n d
  let (v, c) := clampLane (if fNeg x then -q else q)
  (v, c, false)

/-- The local exponent of a list of values given as magnitudes num ÷ den: −150 when all are zero. DEDUCED (log entry 81). -/
def localExp (l : List (Nat × Nat)) : Int :=
  (l.filter (fun p => p.1 != 0)).foldl (fun m p => max m (flog2 p.1 p.2)) (-150)

/-- Decodes one lane (R345): S × 2^(E − 38) ÷ D, and whether it saturated. DEDUCED (log entry 83). -/
def decodeLane (e : Int) (d : Nat) (x : Word) : Word32 × Bool :=
  let (n, k) := dyRat (x.toInt, e - 38)
  let r := (fRound (decide (x.toInt < 0)) n (k * d)).1
  if isInf r then (r - 1, true) else (r, false)

/-! ### The state of an operation -/

def findLink (s : State) (t g : Nat) : Option LinkOp := s.coll.ops.find? (fun o => o.tile == t && o.group == g)
def modLink (t g : Nat) (f : LinkOp → LinkOp) (s : State) : State :=
  { s with coll := { s.coll with ops := s.coll.ops.map (fun o => if o.tile = t ∧ o.group = g then f o else o) } }
def dropLink (t g : Nat) (s : State) : State :=
  { s with coll := { s.coll with ops := s.coll.ops.filter (fun o => !(o.tile == t && o.group == g)) } }

/-- The issuing core of an operation. -/
def linkKey (o : LinkOp) : Nat := ck o.tile o.core
/-- The contributor index of an operation. -/
def linkMe (s : State) (o : LinkOp) : Nat := contributor (getColl s o.group) s.myModule o.tile

/-- Clears a bit of the status word of Table 10.10. -/
def clearBit (i : Nat) (o : LinkOp) : LinkOp := { o with status := o.status &&& ~~~(BitVec.twoPow 7 i) }

/-- Bench bytes as an adder reads them (R179). -/
def adderBytes (s : State) (key off n : Nat) : List Byte := (benchLoad key off n s).1
/-- A word of the bench. -/
def benchWord (s : State) (key off : Nat) : Word := BitVec.ofNat 64 (leNat (adderBytes s key off 8))
/-- Writes an adder's result into the bench of a core, at once. DESIGN CHOICE (log entry 160). -/
def benchPut (key off : Nat) (bs : List Byte) (s : State) : State := modCore s key (fun c => benchWrite c off bs)

/-- The lanes of block b in WORK. -/
def workLanes (s : State) (o : LinkOp) (b : Nat) : List Word := blockLanes (adderBytes s (linkKey o) (lWork o.desc + 512 * b) 512)
/-- Writes block b into WORK with its residue. -/
def putWork (o : LinkOp) (b : Nat) (l : List Word) (s : State) : State :=
  benchPut (linkKey o) (lWork o.desc + 512 * lBlocks o.desc + 2 * b) (leBytes 2 (blockResidue l))
    (benchPut (linkKey o) (lWork o.desc + 512 * b) (laneBytes l) s)

/-- The bench offset of the values that a reduction sends: ACC after thinning, else IN. -/
def linkSource (d : CmdDesc) : Nat := if lThins d then lAcc d else lIn d

/-- The FP32 values of an operation. -/
def linkValues (s : State) (o : LinkOp) : List Word32 :=
  (upto (lElems o.desc)).map (fun i => BitVec.ofNat 32 (leNat (adderBytes s (linkKey o) (linkSource o.desc + 4 * i) 4)))

/-- The lanes of an operation with INFMT 1. -/
def linkInts (s : State) (o : LinkOp) : List Word :=
  (upto (lElems o.desc)).map (fun i => benchWord s (linkKey o) (lIn o.desc + 8 * i))

/-- e of R344. -/
def linkExp (s : State) (o : LinkOp) : Int :=
  if !lReduces o.desc then -150
  else if lInts o.desc then localExp ((linkInts s o).map (fun x => (x.toInt.natAbs, 1)))
  else localExp ((linkValues s o).filterMap (fun x => if fExp x = 255 then none else some (dyRat (fDy x))))

/-- The adder has read the values that it sends (R179). -/
def sourceScan (o : LinkOp) (s : State) : State :=
  (benchScan (linkKey o) (linkSource o.desc) ((if lInts o.desc then 8 else 4) * lElems o.desc) s).2

/-- Thinning: ACC := ACC + IN in FP32 (R348). What a Quaric-R64 lane adds to FP32 the manual does not state: a free value. DESIGN
CHOICE (log entry 81). -/
def linkThin (o : LinkOp) (s : State) : State :=
  let d := o.desc
  let key := linkKey o
  let s' := (upto (lElems d)).foldl (fun s i =>
    let at_ (off : Nat) : Word32 := BitVec.ofNat 32 (leNat (adderBytes s key (off + 4 * i) 4))
    let (v, s) := if lLanes64 d then ((freeWord s).1.setWidth 32, (freeWord s).2) else ((fAdd (at_ (lAcc d)) (at_ (lIn d))).1, s)
    benchPut key (lAcc d + 4 * i) (leBytes 4 v.toNat) s) s
  benchScans key [(lIn d, (if lLanes64 d then 8 else 4) * lElems d), (lAcc d, 4 * lElems d)] s'

/-- Encoding into WORK (R344): clamps and replaced inputs are counted, and a clamp clears bit 6. -/
def linkEncode (o : LinkOp) (s : State) : State :=
  let lanes : List (Int × Bool × Bool) := if lInts o.desc
    then (linkInts s o).map (fun x => let c := clampLane x.toInt; (c.1, c.2, false))
    else (linkValues s o).map (encodeLane o.exp)
  let clamps := (lanes.filter (·.2.1)).length
  let bad := (lanes.filter (·.2.2)).length
  let s := sourceScan o s
  let s := (upto (lBlocks o.desc)).foldl (fun s b =>
    putWork o b ((upto 64).map (fun i => match lanes[64 * b + i]? with | some x => BitVec.ofInt 64 x.1 | none => 0)) s) s
  let s := modLink o.tile o.group (fun o => { (if clamps = 0 then o else clearBit 6 o) with blk := [] }) s
  countTile o.tile 40 clamps (countCore (linkKey o) 4 bad s)

/-! ### Packets (R353, R357, Table 10.12) -/

/-- DESC_HASH (R353). ELEMENTS is each contributor's own count in ALLGATHERV, and stands as zero there. DEDUCED (log entry 161). -/
def descHash (s : State) (o : LinkOp) : Nat :=
  let d := o.desc
  (crc32c (leBytes 2 o.group ++ leBytes 1 (lOp d) ++ leBytes 1 (fld d.w0 55 54) ++ leBytes 1 (b2n (lMean d)) ++ leBytes 1 (b2n (lDeadline d)) ++
    leBytes 1 (lThin d - 1) ++ leBytes 4 (lStep d) ++ leBytes 4 (if lOp d = 4 then 0 else lElems d) ++ leBytes 4 (BitVec.ofInt 32 o.exp).toNat ++
    leBytes 2 (getColl s o.group).hash ++ List.replicate 11 0)).toNat

/-- A collective packet from an operation to a contributor. -/
def collPkt (s : State) (o : LinkOp) (dst type stage phase ring first n : Nat) (bs : List Byte) : Packet :=
  let g := getColl s o.group
  let (m, t) := contributorAt g dst
  let p := mkPkt s.myModule o.tile m t type 0 1 0
    (pack [(54, o.group), (46, lOp o.desc), (44, stage), (43, phase), (35, ring % 256), (32, o.rep), (0, lStep o.desc)])
    (pack [(32, descHash s o), (8, first), (5, n)]) 0 0 bs
  { p with w0 := setFld p.w0 59 56 (cgVc g) }

/-- The payload of a COLL_DATA: blocks, then the trailer with residues and COUNTs. -/
def blockPayload (s : State) (o : LinkOp) (first n : Nat) : List Byte :=
  let bs := (upto n).map (fun i => workLanes s o (first + i))
  let res := bs.flatMap (fun l => leBytes 2 (blockResidue l))
  let cnt := (upto n).flatMap (fun i => leBytes 3 (tget 1 o.blk (first + i)))
  let trailer := res ++ List.replicate (16 - res.length) 0 ++ cnt
  bs.flatMap laneBytes ++ trailer ++ List.replicate (64 - trailer.length) 0

/-- Sends a block range to a contributor, at most 7 blocks in a packet. -/
def sendBlocks (t g dst stage phase ring : Nat) : Nat → Nat → Nat → State → State
  | 0, _, _, s => s
  | fuel + 1, lo, hi, s =>
    if hi ≤ lo then s else
    match findLink s t g with
    | none => s
    | some o =>
      let n := min 7 (hi - lo)
      let p := collPkt s o dst 0x60 stage phase ring lo (n - 1) (blockPayload s o lo n)
      sendBlocks t g dst stage phase ring fuel (lo + n) hi (sendLoose t p (benchScan (linkKey o) (lWork o.desc + 512 * lo) (512 * n) s).2)

/-- Sends words to a contributor, at most 512 in a packet. -/
def sendWords (t g dst stage phase ring : Nat) : Nat → Nat → List Word → State → State
  | 0, _, _, s => s
  | fuel + 1, first, ws, s =>
    if ws.isEmpty then s else
    match findLink s t g with
    | none => s
    | some o =>
      sendWords t g dst stage phase ring fuel (first + 512) (ws.drop 512)
        (sendLoose t (collPkt s o dst 0x61 stage phase ring first 0 ((ws.take 512).flatMap (fun w => leBytes 8 w.toNat))) s)

/-! ### Gathers and all-to-alls (R354–R356) -/

/-- The words of n words from a bench offset. -/
def benchWords (s : State) (key off n : Nat) : List Word := (upto n).map (fun i => benchWord s key (off + 8 * i))

/-- The bench offset of the received counts: COUNTS_BASE, or the C words after the send counts of ALLTOALLV (Table 10.8, R354). -/
def countsAt (c : Nat) (d : CmdDesc) : Nat := if lOp d = 5 then lCounts d + 8 * c else lCounts d

/-- The count of contributor i that the count exchange has brought. -/
def countOf (s : State) (o : LinkOp) (i : Nat) : Nat :=
  (benchWord s (linkKey o) (countsAt (cgC (getColl s o.group)) o.desc + 8 * i)).toNat

/-- Whether an operation is in its count exchange (R354). -/
def inCounts (o : LinkOp) : Bool := lCountsFirst o.desc && o.part == 0

/-- The bench offset of word k of what the present part of an operation receives: a count, or a word of the output. -/
def rawAt (s : State) (o : LinkOp) (k : Nat) : Nat :=
  if inCounts o then countsAt (cgC (getColl s o.group)) o.desc + 8 * k else lOut o.desc + 8 * k

/-- Words of what a part receives, as they stand in the bench, and their write on arrival (R358). -/
def rawGet (s : State) (o : LinkOp) (k n : Nat) : List Word := benchWords s (linkKey o) (rawAt s o k) n
def rawPut (o : LinkOp) (k : Nat) (ws : List Word) (s : State) : State :=
  benchPut (linkKey o) (rawAt s o k) (ws.flatMap (fun w => leBytes 8 w.toNat)) s

/-- Whether an operation gathers (0x3, 0x4, 0x6) rather than exchanges all to all. -/
def lGathers (d : CmdDesc) : Bool := lOp d == 3 || lOp d == 4 || lOp d == 6

/-- The words of each slot: fixed, or the counts of a counts-first operation's data part. -/
def slotWords (s : State) (o : LinkOp) (c : Nat) : Nat :=
  match lOp o.desc with
  | 3 => lElems o.desc
  | 4 | 5 => if o.part = 0 then 1 else countOf s o c
  | _ => 1 + lElems o.desc

/-- The first word of a contributor's slot among what a part receives. -/
def slotKey (s : State) (o : LinkOp) (c : Nat) : Nat := ((upto c).map (slotWords s o)).sum

/-- The words of the whole output. -/
def rawTotal (s : State) (o : LinkOp) : Nat := slotKey s o (cgC (getColl s o.group))

/-- The ranges that an operation uses: input, output, working blocks, accumulator, counts. The output of a counts-first operation is
known after its count exchange (linkGrow); until then it stands as ELEMENTS words. DEDUCED (log entry 85). -/
def linkRanges (s : State) (key : Nat) (d : CmdDesc) : List (Nat × Nat) :=
  let g := getColl s (lGroup d)
  let c := cgC g
  let e := lElems d
  let me := contributor g s.myModule (key / 64)
  let sums (base : Nat) : Nat := ((benchWords s key base c).map (·.toNat)).sum
  match lOp d with
  | 1 => [(lIn d, (if lLanes64 d then 8 else 4) * e), (lOut d, 4 * e), (lWork d, 514 * lBlocks d)] ++ (if lThins d then [(lAcc d, 4 * e)] else [])
  | 2 =>
    let h := scatterPiece g (lBlocks d) me
    [(lIn d, (if lLanes64 d then 8 else 4) * e), (lOut d, 256 * (h.2 - h.1)), (lWork d, 514 * lBlocks d)] ++ (if lThins d then [(lAcc d, 4 * e)] else [])
  | 3 => [(lIn d, 8 * e), (lOut d, 8 * c * e)]
  | 4 => [(lIn d, 8 * e), (lOut d, 8 * e), (lCounts d, 8 * c)]
  | 5 => [(lIn d, 8 * sums (lCounts d)), (lOut d, 8 * e), (lCounts d, 16 * c)]
  | 6 => [(lIn d, 8 * (1 + (benchWord s key (lIn d)).toNat)), (lOut d, 8 * c * (1 + e))]
  | _ => [(lIn d, 8 * (c + sums (lIn d))), (lOut d, 8 * c * (1 + e))]

/-- The slot of a capacity operation: the count word min(n, K), the words, and zeros (R356); and the words dropped. -/
def capSlot (k n : Nat) (ws : List Word) : List Word × Nat :=
  let m := min n k
  (BitVec.ofNat 64 m :: (ws.take m ++ List.replicate (k - m) 0), n - m)

/-- The segments that an all-to-all operation packs in destination order at IN: their counts and where the words begin. -/
def sendCounts (s : State) (o : LinkOp) (c : Nat) : List Nat :=
  let base := if lOp o.desc = 5 then lCounts o.desc else lIn o.desc
  (benchWords s (linkKey o) base c).map (·.toNat)

/-- What an operation sends to destination contributor j of an all-to-all. -/
def a2aWords (s : State) (o : LinkOp) (j : Nat) : List Word × Nat :=
  let c := cgC (getColl s o.group)
  let counts := sendCounts s o c
  let n := counts.getD j 0
  let before := (counts.take j).sum
  if lOp o.desc = 5 then (if o.part = 0 then ([BitVec.ofNat 64 n], 0) else (benchWords s (linkKey o) (lIn o.desc + 8 * before) n, 0))
  else capSlot (lElems o.desc) n (benchWords s (linkKey o) (lIn o.desc + 8 * (c + before)) n)

/-- The own slot of a gather. -/
def ownSlot (s : State) (o : LinkOp) : List Word × Nat :=
  let key := linkKey o
  match lOp o.desc with
  | 4 => if o.part = 0 then ([BitVec.ofNat 64 (lElems o.desc)], 0) else (benchWords s key (lIn o.desc) (lElems o.desc), 0)
  | 6 => let n := (benchWord s key (lIn o.desc)).toNat
         capSlot (lElems o.desc) n (benchWords s key (lIn o.desc + 8) (min n (lElems o.desc)))
  | _ => (benchWords s key (lIn o.desc) (lElems o.desc), 0)

/-- The exchanges of the present part of an operation. -/
def linkXchs (g : CollGroup) (o : LinkOp) : List (Nat × Nat) :=
  if lReduces o.desc then (if o.exp = -150 then [] else if o.phase = 3 then downXchs g else upXchs g)
  else if lGathers o.desc then upXchs g else if cgC g = 1 then [] else [(0, 0)]

/-- What an operation takes in in an exchange: the source contributor and the blocks or words due from it. -/
def linkExpect (s : State) (o : LinkOp) (x : Nat × Nat) : List (Nat × Nat × Nat) :=
  let g := getColl s o.group
  let me := linkMe s o
  if lReduces o.desc then redIn (lOp o.desc == 2) g me (lBlocks o.desc) (o.phase == 3) x
  else if lGathers o.desc then
    let p := stageP g x.1
    let k := stageMe g me x.1
    if x.1 < 2 then ((upto p).filter (· != k)).flatMap (fun j =>
        (gatherSet g me x.1 j).map (fun c => (stagePeer g me x.1 j, slotKey s o c, slotKey s o c + slotWords s o c)))
    else
      let q := (k + p - 1 + p - x.2) % p
      (gatherSet g me x.1 q).map (fun c => (stagePeer g me x.1 ((k + p - 1) % p), slotKey s o c, slotKey s o c + slotWords s o c))
  else ((upto (cgC g)).filter (· != me)).map (fun c => (c, slotKey s o c, slotKey s o c + slotWords s o c))

/-- The PHASE bit of an operation's packets: the down phase of a reduction, the data part of a counts-first operation. -/
def linkPhaseBit (o : LinkOp) : Nat := if lReduces o.desc then b2n (o.phase == 3) else if lCountsFirst o.desc then o.part else 0

/-- Sends what an operation owes in an exchange. -/
def linkSend (t gi : Nat) (x : Nat × Nat) (s : State) : State :=
  match findLink s t gi with
  | none => s
  | some o =>
    let g := getColl s gi
    let me := linkMe s o
    let ph := linkPhaseBit o
    if lReduces o.desc then
      (redOut (lOp o.desc == 2) g me (lBlocks o.desc) (o.phase == 3) x).foldl (fun s q => sendBlocks t gi q.1 x.1 ph x.2 (lBlocks o.desc) q.2.1 q.2.2 s) s
    else if lGathers o.desc then
      let p := stageP g x.1
      let k := stageMe g me x.1
      let dsts := if x.1 < 2 then ((upto p).filter (· != k)).map (stagePeer g me x.1) else [stagePeer g me x.1 ((k + 1) % p)]
      let q := if x.1 < 2 then k else (k + p - x.2) % p
      dsts.foldl (fun s dst => (gatherSet g me x.1 q).foldl (fun s c =>
        let n := slotWords s o c
        let k := slotKey s o c
        sendWords t gi dst x.1 ph x.2 (n + 1) k (rawGet s o k n) (benchScan (linkKey o) (rawAt s o k) (8 * n) s).2) s) s
    else
      (((upto (cgC g)).filter (· != me)).map (fun j => (j, (a2aWords s o j).1))).foldl (fun s q =>
        sendWords t gi q.1 x.1 ph x.2 (q.2.length + 1) 0 q.2 s) s

/-- The output of a gather or all-to-all holds again what it held before (Table 10.10: OUT untouched). -/
def rawRestore (o : LinkOp) (s : State) : State := if o.undo.isEmpty then s else benchPut (linkKey o) (lOut o.desc) o.undo s

/-- What a part reads of an operation's input: the send counts, or the words of IN. -/
def rawReads (s : State) (o : LinkOp) : List (Nat × Nat) :=
  if inCounts o then (if lOp o.desc = 5 then [(lCounts o.desc, 8 * cgC (getColl s o.group))] else [])
  else (linkRanges s (linkKey o) o.desc).take 1

/-- Begins a part of a gather or all-to-all: the own slot stands in the locked output, what the first exchange owes leaves, of an
all-to-all before the output is written, and dropped words are counted (R356, R358). DEDUCED (log entry 81). -/
def rawBegin (t gi : Nat) (s : State) : State :=
  match findLink s t gi with
  | none => s
  | some o =>
    let g := getColl s gi
    let me := linkMe s o
    let s := rawRestore o s
    let own := if lGathers o.desc then ownSlot s o else a2aWords s o me
    let dropped := if lGathers o.desc then own.2 else if lOp o.desc = 7 then (((upto (cgC g)).map (fun j => (a2aWords s o j).2)).sum) else 0
    let undo := if inCounts o then [] else benchRead (getCore s (linkKey o)) (lOut o.desc) (8 * rawTotal s o)
    let put (s : State) : State := rawPut o (slotKey s o me) own.1 s
    let send (s : State) : State := match (linkXchs g o)[0]? with | some x => linkSend t gi x s | none => s
    let s := benchScans (linkKey o) (rawReads s o) s
    let s := modLink t gi (fun o => { (if dropped = 0 then o else clearBit 3 o) with undo := undo }) s
    countTile t 41 dropped (if lGathers o.desc then send (put s) else put (send s))

/-! ### Ends -/

/-- The end of an operation towards its kernel: the ticket, LINK_FAILED for a Failed code, LINK_STATUS, and LINK_STEPS for a reduction
or gather step (Table 10.13). -/
def linkTell (o : LinkOp) (code : Code) (s : State) : State :=
  let key := linkKey o
  let s := if lReduces o.desc || lGathers o.desc then countTile o.tile 34 1 s else s
  let s := if codeFailed code then
      raise (mkEv 0x0109 clsNotice 0 4 o.tile o.core (evW2 (unit := o.core)) (pack [(0, lTag o.desc), (16, o.group), (32, lStep o.desc)]) code) s
    else s
  let s := modCore s key (fun c => modKernel c (fun k => ticketEnd k 5 o.ticket code))
  { s with coll := { s.coll with lastTag := tput s.coll.lastTag o.tile (BitVec.ofNat 16 (lTag o.desc)), lastCode := tput s.coll.lastCode o.tile code } }

/-- Ends the locks of an operation; waiting writes apply. -/
def linkUnlock (o : LinkOp) (work : Bool) (s : State) : State :=
  modCore s (linkKey o) (fun c => applyWaiting { c with linkLocks := c.linkLocks.filter (fun l => l.1 != o.group || (work && l.2.1 == lWork o.desc)) })

/-- Turns an operation towards its end with a code. -/
def linkFail (code : Code) (o : LinkOp) : LinkOp := { o with phase := 4, code := code }

/-- What a reduction step writes when it ends with OK or a Completed code: its decoded output, and ACC to zero; whether a value
saturated. The words of the other operations stand in the output already. DEDUCED (log entries 80, 83). -/
def linkDeliver (o : LinkOp) (s : State) : State × Bool :=
  let d := o.desc
  let g := getColl s o.group
  let key := linkKey o
  if !lReduces d then (s, false) else
    let r := if lOp d = 1 then (0, lBlocks d) else scatterPiece g (lBlocks d) (linkMe s o)
    let s := (benchScan key (lWork d + 512 * r.1) (512 * (r.2 - r.1)) s).2
    let res := (upto (r.2 - r.1)).foldl (fun (q : State × Bool) i =>
      let b := r.1 + i
      let n := if !lMean d then 1 else if lDeadline d then tget 1 o.blk b else cgC g
      let ls := (workLanes q.1 o b).map (decodeLane o.exp n)
      let keep := (upto 64).filter (fun j => decide (64 * b + j < lElems d))
      (keep.foldl (fun s j => benchPut key (lOut d + 4 * (64 * i + j)) (leBytes 4 (ls.getD j (0, false)).1.toNat) s) q.1,
       q.2 || keep.any (fun j => (ls.getD j (0, false)).2))) (s, false)
    let s := if lThins d then benchPut key (lAcc d) (List.replicate (4 * lElems d) 0) res.1 else res.1
    (s, res.2)

/-- The end of an operation whose code is decided (LINK_STEP_END); silent where the kernel has been told already. -/
def linkFinish (o : LinkOp) (s : State) : State :=
  let s := dropLink o.tile o.group s
  if o.ended then linkUnlock o false s
  else
    let (s, sat) := if codeFailed o.code then (rawRestore o s, false) else if lSends o.desc then linkDeliver o s else (s, false)
    let code := if sat then codeMerge o.code .saturated else o.code
    linkTell o code (conditionEvents o.tile o.core 4 (o.conds ++ (if sat then [.saturated] else [])) (linkUnlock o false s))

/-- LINK_STEP_END (R347). -/
def linkStepEndOp (t g : Nat) (s : State) : State :=
  match findLink s t g with
  | some o => if o.phase = 4 then linkFinish o s else s
  | none => s

/-! ### Progress (R347, R351, R352, Table 10.10) -/

/-- Contributes a link crumb of one lane. In a FAILED group the step ends with TIMEOUT. -/
def linkCrumb (t gi op : Nat) (v : BitVec 128) (s : State) : State :=
  let g := getColl s gi
  if cgFailed g 1 (nextRound g 1 t 64) || !cgServed g then modLink t gi (linkFail (if cgServed g then .timeout else .withdrawn)) s
  else
    let num := nextRound g 1 t 64
    contribute gi 1 ⟨t, 64, 0, 0, 0, op, 1, v⟩ (modLink t gi (fun o => { o with waitRound := num }) s)

/-- Arming (step 2 of R347). -/
def linkArm (t gi : Nat) (s : State) : State :=
  match findLink s t gi with
  | none => s
  | some o => linkCrumb t gi 3 ((BitVec.ofInt 64 (linkExp s o)).setWidth 128) (if lReduces o.desc then sourceScan o s else s)

/-- The commit crumb (step 5). -/
def linkCommit (t gi : Nat) (s : State) : State :=
  match findLink s t gi with
  | none => s
  | some o => linkCrumb t gi 4 (o.status.setWidth 128) (modLink t gi (fun o => { o with phase := if o.phase = 5 then 5 else 2 }) s)

/-- Whether an operation holds every block or word that an exchange owes it. -/
def linkHas (o : LinkOp) (i : Nat) (q : Nat × Nat × Nat) : Bool :=
  decide (q.2.2 - q.2.1 ≤ ((o.got.filter (fun r => r.xch == i && r.from_ == q.1 && decide (q.2.1 ≤ r.first) && decide (r.first < q.2.2))).map (·.n)).sum)

/-- The inputs that an exchange still lacks. -/
def linkLacks (s : State) (o : LinkOp) (i : Nat) : List (Nat × Nat × Nat) :=
  match (linkXchs (getColl s o.group) o)[i]? with
  | none => []
  | some x => (linkExpect s o x).filter (fun q => !linkHas o i q)

/-- What happens to the inputs that an exchange lacks at LATE_US: native mode clears bit 1 and ends the up phase;
deadline-and-divisor mode goes on without them (R351, R352). DEDUCED (log entry 82). -/
def linkLate (t gi : Nat) (s : State) : State :=
  match findLink s t gi with
  | none => s
  | some o =>
    let miss := linkLacks s o o.xch
    if miss.isEmpty then s
    else if !lDeadline o.desc then linkCommit t gi (modLink t gi (clearBit 1) s)
    else
      let g := getColl s gi
      miss.foldl (fun s q =>
        let have_ := (o.got.filter (fun r => r.xch == o.xch && r.from_ == q.1)).map (fun r => (r.first, r.n))
        let gone := (upto (q.2.2 - q.2.1)).filter (fun i => !have_.any (fun r => decide (r.1 ≤ q.2.1 + i) && decide (q.2.1 + i < r.1 + r.2)))
        let lo := q.2.1 + gone.headD 0
        let hi := q.2.1 + gone.getLastD 0
        let s := raise (mkEv 0x0706 clsNotice 0 7 t 0 evW2 (pack [(50, (contributorAt g q.1).1), (24, lo), (0, hi)])) (countTile t 38 1 s)
        modLink t gi (fun o => { o with got := o.got ++ gone.map (fun i => ⟨o.xch, q.1, q.2.1 + i, 1, true⟩) }) s) s

/-- Begins the exchanges of a part: step 3 of R347, or the slots of a gather. -/
def linkBegin (t gi : Nat) (s : State) : State :=
  match findLink s t gi with
  | none => s
  | some o =>
    let s := modLink t gi (fun o => { o with phase := 1, xch := 0, got := [], lateFrom := s.now }) s
    if !lReduces o.desc then rawBegin t gi s else
    let s := linkEncode { o with phase := 1 } s
    match (linkXchs (getColl s gi) { o with phase := 1 })[0]? with
    | some x => linkSend t gi x s
    | none => s

/-- The output of a counts-first operation, once its counts are known. -/
def countedOutput (s : State) (o : LinkOp) : Nat × Nat :=
  (lOut o.desc, 8 * ((upto (cgC (getColl s o.group))).map (countOf s o)).sum)

/-- Whether a range overlaps another, OUT_BASE equal to IN_BASE excepted (R346). -/
def linkOverlaps (d : CmdDesc) (l : List (Nat × Nat)) : Bool :=
  l.zipIdx.any (fun a => l.zipIdx.any (fun b => decide (a.2 < b.2) && rangesOverlap a.1.1 a.1.2 b.1.1 b.1.2 &&
    !(a.2 == 0 && b.2 == 1 && lIn d == lOut d)))

/-- Whether the output of a counts-first operation crosses BENCH_HIGH (R355), or overlaps another of its ranges, OUT_BASE equal to
IN_BASE excepted. DEDUCED (log entry 85). -/
def outputCrosses (s : State) (o : LinkOp) : Bool :=
  let out := countedOutput s o
  let high := match (getCore s (linkKey o)).kernel with | some k => k.image.benchHigh | none => 0x600000
  decide (high < out.1 + out.2) ||
  linkOverlaps o.desc ((linkRanges s (linkKey o) o.desc).zipIdx.map (fun r => if r.2 = 1 then out else r.1))

/-- The output range of a counts-first operation is locked to its end once the counts are known (R346). -/
def linkGrow (o : LinkOp) (s : State) : State :=
  modCore s (linkKey o) (fun c => { c with linkLocks := c.linkLocks ++ [(o.group, countedOutput s o)] })

/-- Where an omitted input of the up phase stands among the exchanges of the down phase (R352). -/
def omittedXch : Nat := 4096

/-- What the committed status word makes a member do (Table 10.10). -/
def linkDecide (t gi : Nat) (w : BitVec 7) (s : State) : State :=
  match findLink s t gi with
  | none => s
  | some o =>
    let g := getColl s gi
    let conds := [suspectCode s g] ++ (if !bit w 3 then [.droppedOverflow] else []) ++ (if !bit w 6 then [.saturated] else [])
    let done := codeMergeAll conds
    if !bit w 0 then modLink t gi (linkFail .mismatch) s
    else if !bit w 5 then modLink t gi (linkFail .withdrawn) s
    else if !bit w 4 then modLink t gi (linkFail .rejected) s
    else if !bit w 1 || !bit w 2 then
      if o.rep < cgRepeats g then linkBegin t gi (countTile t 35 1 (modLink t gi (fun o => { o with rep := o.rep + 1, status := 0x7F }) s))
      else modLink t gi (linkFail .timeout) s
    else if inCounts o then linkBegin t gi (modLink t gi (fun o => { o with part := 1, rep := 0, status := 0x7F }) (linkGrow o s))
    else if lOp o.desc = 1 && o.exp != -150 then
      let s := modLink t gi (fun o => { o with
        phase := 3, xch := 0, code := done, conds := conds
        got := (o.got.filter (·.omitted)).map (fun r => { r with xch := r.xch + omittedXch }) }) s
      match (downXchs g)[0]? with
      | some x => linkSend t gi x s
      | none => s
    else modLink t gi (fun o => { o with phase := 4, code := done, conds := conds }) s

/-- The end of the link round that an operation waits for. -/
def linkRound (s : State) (o : LinkOp) : Option (Code × BitVec 128) :=
  let g := getColl s o.group
  match findRound g 1 o.waitRound with
  | none => none
  | some r => r.ended.map (fun c => (c, roundResult g r))

/-- One move of an operation; false when nothing more can happen without a command. -/
def linkMove (take : Nat → Nat × Packet → State → State) (t gi : Nat) (s : State) : Bool × State :=
  match findLink s t gi with
  | none => (false, s)
  | some o =>
    let g := getColl s gi
    match o.phase with
    | 0 =>
      match linkRound s o with
      | none => (false, s)
      | some (code, v) =>
        if codeFailed code then (true, modLink t gi (linkFail code) s)
        else
          let s := modLink t gi (fun o => { o with exp := (v.setWidth 64).toInt, early := [] }) s
          (true, o.early.foldl (fun s p => take t p s) (linkBegin t gi s))
    | 1 =>
      if (linkXchs g o).length ≤ o.xch then
        let s := if inCounts o && outputCrosses s o then modLink t gi (clearBit 4) s else s
        (true, linkCommit t gi s)
      else if (linkLacks s o o.xch).isEmpty then
        let s := modLink t gi (fun o => { o with xch := o.xch + 1 }) s
        (true, match (linkXchs g o)[o.xch + 1]? with | some x => linkSend t gi x s | none => s)
      else if o.lateFrom + 1000 * cgLateUs g ≤ s.now then (true, linkLate t gi s)
      else (false, s)
    | 2 =>
      match linkRound s o with
      | none => (false, s)
      | some (code, v) =>
        if codeFailed code then (true, modLink t gi (linkFail code) s) else (true, linkDecide t gi (v.setWidth 7) s)
    | 3 =>
      if (downXchs g).length ≤ o.xch then (true, modLink t gi (fun o => { o with phase := 4 }) s)
      else if (linkLacks s o o.xch).isEmpty then
        let s := modLink t gi (fun o => { o with xch := o.xch + 1 }) s
        (true, match (downXchs g)[o.xch + 1]? with | some x => linkSend t gi x s | none => s)
      else (false, s)
    | 4 => if o.ended then (true, linkFinish o s) else (false, s)
    | _ =>
      match linkRound s o with
      | none => (false, s)
      | some (code, _) =>
        if o.part = 9 || codeFailed code then (true, dropLink t gi s)
        else (true, linkCommit t gi (modLink t gi (fun o => { o with part := 9, status := 0x5F }) s))

/-- An operation goes on as far as it can. -/
def linkRun (take : Nat → Nat × Packet → State → State) (t gi : Nat) : Nat → State → State
  | 0, s => s
  | fuel + 1, s => match linkMove take t gi s with
    | (true, s) => linkRun take t gi fuel s
    | (false, s) => s

/-! ### Arriving packets -/

/-- How a packet's STEP stands to an operation's: 0 for its own, positive for a later one. -/
def stepDiff (p : Packet) (o : LinkOp) : Int := serialDiff 32 (fld p.w3 31 0) (lStep o.desc)

/-- The operation that meets a collective packet, its exchange (past the last when it has none such), and the sender's
contributor index; none when the packet is of an earlier STEP or another REPEAT of the tile's operation: it is discarded (R358, Table
10.11). -/
def collMatch (t : Nat) (p : Packet) (s : State) : Option (LinkOp × Nat × Nat) :=
  match findLink s t (fld p.w3 63 54) with
  | none => none
  | some o =>
    let g := getColl s o.group
    let x := (fld p.w3 45 44, fld p.w3 42 35)
    if (stepDiff p o = 0 && fld p.w3 34 32 != o.rep) || stepDiff p o < 0 then none
    else
      let xs := if lReduces o.desc && bit p.w3 43 then downXchs g else linkXchs g { o with phase := 1 }
      some (o, xs.idxOf x, contributor g (pSrcModule p) (pSrcTile p))

/-- Whether a packet comes from a contributor of the group, on its VC. -/
def collMember (s : State) (o : LinkOp) (p : Packet) : Bool :=
  let g := getColl s o.group
  g.members.contains (pSrcModule p) && (cgTiles g).contains (pSrcTile p) && pVc p == cgVc g

/-- A packet whose DESC_HASH differs is discarded; in the up phase it clears bit 0 and ends that phase (R353). -/
def descDiffers (t gi phase : Nat) (s : State) : State :=
  if phase = 1 then linkCommit t gi (modLink t gi (clearBit 0) s) else s

/-- Whether a packet's DESC_HASH differs from the operation's: also with another OP or a later STEP, which the hash covers (R348). -/
def hashDiffers (s : State) (o : LinkOp) (p : Packet) : Bool :=
  fld p.w4 63 32 != descHash s o || fld p.w3 53 46 != lOp o.desc || stepDiff p o != 0

/-- The neighbour that hands a tile a packet inside the module, and the interface it stands at (R29). -/
def lastHop (src dst : Nat) : Nat × Nat :=
  let (r, c) := tileXY src
  let (r', c') := tileXY dst
  let at_ (y x : Nat) : Nat := let p := 5 * y + x; if p < 12 then p else if p = 12 then 30 else p - 1
  if r < r' then (at_ (r' - 1) c', 2) else if r' < r then (at_ (r' + 1) c', 0) else if c < c' then (at_ r' (c' - 1), 1) else (at_ r' (c' + 1), 3)

/-- An input that fails its residue check (R349): its count and its fault, raised at the sending hop: the die before, or for a packet that
came in at this tile's own crust path the strand `st` that brought it. -/
def residueFault (st t : Nat) (p : Packet) (gi b : Nat) (s : State) : State :=
  let s := countTile t 36 1 s
  let u := if pSrcModule p = s.myModule then pSrcTile p else servingTile (st / 8)
  if pSrcModule p = s.myModule || u != t then
    let (n, i) := lastHop u t
    raise (mkEv 0x0704 clsFault 0 6 n 0 evW2 (pack [(54, gi), (50, i), (0, b)])) s
  else
    let low := (upto 20).find? (fun e => servingTile e == t)
    raise (mkEv 0x0704 clsFault 0 7 t 0 (evW2 (strand := st)) (pack [(54, gi), (50, if low = some (st / 8) then 4 else 5), (0, b)])) s

/-- An output mismatch of adder `a` of a tile (R349, R350): it counts, clears bit 2 and is a fault; the second one within 3,600 s
takes the adder out of service while RESIDUE_RETIRE is 1. An adder that is out sums nothing. DESIGN CHOICE (log entry 84). -/
def adderMismatch (t gi b a : Nat) (s : State) : State :=
  let x := getTile s t
  if bit x.addersDown a then s else
  let again := x.adderMiss.any (fun p => p.1 == a && decide (s.now ≤ p.2 + 3600000000000))
  let s := countTile t 37 1 (modLink t gi (clearBit 2) s)
  let s := raise (mkEv 0x0704 clsFault 0 6 t 0 evW2 (pack [(54, gi), (53, 1), (50, a), (0, b)])) s
  let s := modTile s t (fun x => { x with adderMiss := tput x.adderMiss a s.now })
  if again && bit (tget 3 s.coll.linkCtrl t) 1 then
    raise (mkEv 0x0705 clsFault 0 6 t 0 evW2 (BitVec.ofNat 64 a)) (modTile s t (fun x => { x with addersDown := x.addersDown ||| BitVec.twoPow 7 a }))
  else s

/-- One block of a COLL_DATA at its combining point or in the down phase. After three failed re-sends of a block the member's kernel is
told TIMEOUT and nothing enters OUT; the adder goes on serving the down phase for the others (R349). -/
def takeBlock (st : Nat) (t : Nat) (wrong : Option Nat) (p : Packet) (i from_ k : Nat) (s : State) : State :=
  match findLink s t (fld p.w3 63 54) with
  | none => s
  | some o =>
    let down := bit p.w3 43
    let b := fld p.w4 31 8 + k
    let n := fld p.w4 7 5 + 1
    let lanes := blockLanes ((p.payload.drop (512 * k)).take 512)
    let trailer := p.payload.drop (512 * n)
    let res := leNat ((trailer.drop (2 * k)).take 2)
    let cnt := leNat ((trailer.drop (16 + 3 * k)).take 3)
    let took (s : State) : State := modLink t o.group (fun o => { o with got := o.got ++ [⟨i, from_, b, 1, false⟩] }) s
    match o.got.find? (fun r => r.xch == i && r.from_ == from_ && r.first == b) with
    | some r => if r.omitted then countTile t 39 1 s else s
    | none =>
      if res != blockResidue lanes then
        let s := residueFault st t p o.group b s
        if !down then took (modLink t o.group (clearBit 2) s)
        else
          let tries := tget 0 o.retries b
          let s := if tries = 3 && !o.ended then linkUnlock o true (linkTell o .timeout (modLink t o.group (fun o => { o with ended := true }) s)) else s
          sendLoose t (collPkt s o from_ 0x62 (fld p.w3 45 44) 1 (fld p.w3 42 35) b 0 []) (modLink t o.group (fun o => { o with retries := tput o.retries b (tries + 1) }) s)
      else if down then took (modLink t o.group (fun o => { o with blk := tput o.blk b cnt }) (putWork o b lanes s))
      else
        let s := took (modLink t o.group (fun o => { o with blk := tput o.blk b (tget 1 o.blk b + cnt) })
          (putWork o b (List.zipWith (· + ·) (workLanes s o b) lanes) (benchScan (linkKey o) (lWork o.desc + 512 * b) 512 s).2))
        match wrong with
        | some a => if k = 0 then adderMismatch t o.group b a s else s
        | none => s

/-- COLL_DATA at an armed member (R353, R358, Table 10.11). DEDUCED (log entry 82). -/
def collDataTake (st t : Nat) (wrong : Option Nat) (p : Packet) (s : State) : State :=
  match collMatch t p s with
  | none => s
  | some (o, i, from_) =>
    let down := bit p.w3 43
    let b := fld p.w4 31 8
    let n := fld p.w4 7 5 + 1
    if o.phase = 5 then s
    else if o.phase = 0 then modLink t o.group (fun o => { o with early := o.early ++ [(st, p)] }) s
    else if hashDiffers s o p then (if down then s else descDiffers t o.group o.phase s)
    else if !lReduces o.desc || 7 < n || !collMember s o p then s
    else
      let x := (fld p.w3 45 44, fld p.w3 42 35)
      let due := (redIn (lOp o.desc == 2) (getColl s o.group) (linkMe s o) (lBlocks o.desc) down x).any (fun q => q.1 == from_ && decide (q.2.1 ≤ b) && decide (b + n ≤ q.2.2))
      let at_ := if o.phase = 3 || o.phase = 4 then i + omittedXch else i
      let late := o.got.any (fun r => (r.xch == i || r.xch == at_) && r.from_ == from_ && r.first == b && r.omitted)
      if !due then s
      else if late && !down then countTile t 39 1 s
      else if (!down && o.phase != 1) || (down && o.phase != 3 && o.phase != 2) then s
      else if down && o.phase = 2 then modLink t o.group (fun o => { o with early := o.early ++ [(st, p)] }) s
      else (upto n).foldl (fun s k => takeBlock st t wrong p i from_ k s) s

/-- COLL_RAW at an armed member (R356, R358): its words are written into the locked output. -/
def collRawTake (t : Nat) (p : Packet) (s : State) : State :=
  match collMatch t p s with
  | none => s
  | some (o, i, from_) =>
    let ws := (upto ((pBytes p).length / 8)).map (fun k => (BitVec.ofNat 64 (leNat (((pBytes p).drop (8 * k)).take 8)) : Word))
    let w := fld p.w4 31 8
    if o.phase = 5 then s
    else if o.phase = 0 then modLink t o.group (fun o => { o with early := o.early ++ [(0, p)] }) s
    else if hashDiffers s o p then descDiffers t o.group o.phase s
    else if lReduces o.desc || !collMember s o p then s
    else if (o.phase = 1 || o.phase = 2) && inCounts o && bit p.w3 43
    then modLink t o.group (fun o => { o with early := o.early ++ [(0, p)] }) s
    else if (linkXchs (getColl s o.group) { o with phase := 1 }).length ≤ i then s
    else
      let key := if lGathers o.desc then w else slotKey s o from_ + w
      let dup := o.got.find? (fun r => r.xch == i && r.from_ == from_ && r.first == key)
      match dup with
      | some r => if r.omitted then countTile t 39 1 s else s
      | none => if o.phase != 1 then s else
        rawPut o key ws (modLink t o.group (fun o => { o with got := o.got ++ [⟨i, from_, key, ws.length, false⟩] }) s)

/-- A collective data packet at a tile. -/
def collTake (t : Nat) (q : Nat × Packet) (s : State) : State := if pType q.2 = 0x60 then collDataTake q.1 t none q.2 s else collRawTake t q.2 s

/-- The link adders of a module go on as far as they can. -/
def linkSettle (s : State) : State :=
  let one (s : State) : State := s.coll.ops.foldl (fun s o => linkRun collTake o.tile o.group 4096 s) s
  let replay (s : State) : State := s.coll.ops.foldl (fun s o =>
    if (o.phase = 3 || o.phase = 1) && !o.early.isEmpty then
      o.early.foldl (fun s p => collTake o.tile p s) (modLink o.tile o.group (fun o => { o with early := [] }) s)
    else s) s
  one (replay (one (one s)))

/-- COLL_DATA and COLL_RAW. -/
def collOp (p : Packet) (s : State) : State := if pDstTile p < 24 then collTake (pDstTile p) (0, p) s else s

/-- COLL_DATA with the strand that brought it, for a packet of another module, and the adder that finds an output mismatch in the sum of its
first block, if any (R349, R350). DESIGN CHOICE (log entry 84). -/
def collDataOp (st : Nat) (wrong : Option Nat) (p : Packet) (s : State) : State :=
  if pDstTile p < 24 && pType p == 0x60 then collDataTake st (pDstTile p) wrong p s else s

/-- COLL_NACK (R349): the blocks go again from WORK. -/
def collNackOp (p : Packet) (s : State) : State :=
  let t := pDstTile p
  match collMatch t p s with
  | none => s
  | some (o, _, from_) =>
    if (o.phase = 3 || o.phase = 4) && !hashDiffers s o p && collMember s o p then
      sendBlocks t o.group from_ (fld p.w3 45 44) 1 (fld p.w3 42 35) 8 (fld p.w4 31 8) (fld p.w4 31 8 + fld p.w4 7 5 + 1) s
    else s

/-- LATE_INPUT_TIMEOUT (R351, R352): LATE_US after the arming of an operation whose exchange lacks an input. DEDUCED (log entry 82). -/
def lateInputTimeoutOp (t g : Nat) (s : State) : State :=
  match findLink s t g with
  | none => s
  | some o =>
    if o.phase = 1 && !(linkLacks s o o.xch).isEmpty then
      linkLate t g { s with now := max s.now (o.lateFrom + 1000 * cgLateUs (getColl s g)) }
    else s

/-! ### LINKOP (R346, R348) -/

/-- Whether a tile's link adders are in service for new operations (LINK_CTRL, R350). -/
def linkEnabled (s : State) (t : Nat) : Bool := bit (tget 3 s.coll.linkCtrl t) 0 && !bit (getTile s t).addersDown 6

/-- LINKOP. A sending step that ENABLE 0 ends with WITHDRAWN leaves ACC + IN in ACC (R348); one that only adds is refused whole. DEDUCED
(log entry 81). Its output ranges may lie in no saved pass's lock (Table 2.8). -/
def opLinkop : IOp where
  legal w := wSel w == 0 && wZero w 39 0
  regs w := [wD w, wA w]
  fetch _ _ := false
  run key k w s :=
    let a := (gReg k (wA w)).toNat
    let t := key / 64
    if gTag k (wA w) then .trap .poisonUse 0
    else if !inWindow k a 64 then .trap .benchRange 0
    else withDesc key a 64 s fun bs s =>
    let d := descOf bs
    if linkBad s key d then .trap .descriptor 0
    else
      let rs := linkRanges s key d
      if !rs.all (fun r => inWindow k r.1 r.2) then .trap .benchRange 0
      else if linkOverlaps d rs then .trap .descriptor 0
      else if (rs.drop 1).any (fun r => savedLocked (getCore s key) r.1 r.2) then .trap .lockViolation 0
      else if (findLink s t (lGroup d)).isSome then .stall
      else
        let (k', ticket) := ticketIssue k 5
        let s := putKernel s key (putG k' (wD w) (BitVec.ofNat 64 ticket) false)
        let o : LinkOp :=
          { tile := t, group := lGroup d, core := key % 64, ticket := ticket, desc := d, phase := 0, part := 0, exp := -150, rep := 0, status := 0x7F
            xch := 0, lateFrom := s.now, got := [], blk := [], undo := [], early := [], retries := [], waitRound := 0, code := .ok, conds := [], ended := false }
        if !linkEnabled s t then .next (linkTell o .withdrawn (if lThins d && lSends d then linkThin o s else s))
        else
          let s := modCore s key (fun c => { c with linkLocks := c.linkLocks ++ rs.map (fun r => (lGroup d, r.1, r.2)) })
          let s := if lThins d then linkThin o s else s
          let only := !lSends d
          let sus := suspectCode s (getColl s (lGroup d))
          let s := { s with coll := { s.coll with ops := s.coll.ops ++ [if only then { o with phase := 4, code := sus, conds := [sus] } else o] } }
          .next (if only then s else linkArm t (lGroup d) s)

/-! ### Abandoning (Table 10.11) -/

/-- An operation ends towards its kernel before its time: before the commit it sends its commit with bit 5 clear and takes
nothing more; after it, it keeps serving the down phase from WORK. -/
def linkAbandon (o : LinkOp) (code : Code) (s : State) : State :=
  if o.ended || o.phase = 5 then s
  else if o.phase = 4 then linkFinish { o with code := code } s
  else
    let s := linkTell o code s
    if o.phase ≤ 1 then
      let s := linkUnlock o false (modLink o.tile o.group (fun o =>
        { clearBit 5 o with phase := 5, part := if o.phase = 1 then 9 else 0, early := [], ended := true }) (rawRestore o s))
      if o.phase = 1 then linkCommit o.tile o.group s else s
    else linkUnlock o true (modLink o.tile o.group (fun o => { o with ended := true }) s)

/-- The operations of kernels that end by a trap or a withdrawal are abandoned. -/
def abandonEnding (s : State) : State :=
  s.coll.ops.foldl (fun s o =>
    match (getCore s (linkKey o)).kernel with
    | some k => match k.phase with
      | .ending (.trap c _ _) => linkAbandon o (causeCode c) s
      | .ending .withdrawn => linkAbandon o .withdrawn s
      | _ => s
    | none => s) s

/-- With its bench-side adder out of service, every operation of a tile ends with WITHDRAWN (R350). -/
def abandonDown (s : State) : State :=
  s.coll.ops.foldl (fun s o => if bit (getTile s o.tile).addersDown 6 then linkAbandon o .withdrawn s else s) s

/-- LINK_ADDER_WITHDRAW (R24): ENABLE 0 in LINK_CTRL. -/
def linkAdderWithdrawOp (rq : Requester) (t : Nat) (s : State) : State :=
  withExpert rq 5 s (fun s =>
    let s := { s with coll := { s.coll with linkCtrl := tput s.coll.linkCtrl t (setFld (tget 3 s.coll.linkCtrl t) 0 0 0) } }
    ends .ok ((s.coll.ops.filter (fun o => o.tile == t)).foldl (fun s o => linkAbandon o .withdrawn s) s))

/-- COLLECTIVE_DRAIN_TIMEOUT (R329): 200 µs after the group was cleared. -/
def collectiveDrainTimeoutOp (g : Nat) (s : State) : State :=
  match (getColl s g).closing with
  | none => s
  | some t0 =>
    let s := drainRounds g { s with now := max s.now (t0 + 200000) }
    let s := (s.coll.ops.filter (fun o => o.group == g)).foldl (fun s o => linkFinish { o with code := .withdrawn } s) s
    modColl g (fun x => { x with closing := none, rounds := [] }) s

/-- What the collectives do without a command: abandoned and advancing operations, and cleared groups with nothing in
flight. -/
def collSettle (s : State) : State :=
  let s := linkSettle (abandonDown (abandonEnding s))
  { s with coll := { s.coll with groups := s.coll.groups.map (fun p =>
      if p.2.closing.isSome && !p.2.rounds.any (fun r => r.ended.isNone && !r.ins.isEmpty) && !s.coll.ops.any (fun o => o.group == p.1)
      then (p.1, { p.2 with closing := none, rounds := [] }) else p) } }

end Sys2Proof.Machine
end

