-- ==== Sys2Proof/Machine/Sparing.lean ====
section
/-! DEFINITION. Sparing: residue mismatches (R74), shift sparing (R370–R374), test bakes (R375–R378), the withdrawal
and return of cores (R179, R379), and the loss of a tile (R388). -/

namespace Sys2Proof.Machine

/-! ### Positions and shifts (R370–R372, Tables 11.5, 11.6) -/

/-- Whether the spare of a group is free: nothing retired and position 16 not Off. -/
def spareFree (s : State) (t g : Nat) : Bool := (getGroup s t g).retiredPos == 16 && !bit (getGroup s t g).off 16

/-- The logical core (0–63) that runs on a position of a group; none for the retired position or an idle spare. -/
def coreAt (s : State) (t g p : Nat) : Option Nat :=
  let r := (getGroup s t g).retiredPos
  if p = r || 16 < p then none else some (16 * g + (if p < r then p else p - 1))

/-- Marks the sparing record for writing (R374). -/
def sparingMark (s : State) : State := { s with topo := { s.topo with sparingDirty := true, sparingRetry := s.now } }

/-- Sets or clears the Off bit of a position. -/
def setOff (t g p : Nat) (v : Bool) (s : State) : State := modGroup s t g (fun x => { x with off := putBit x.off p v })

/-- A test bake in progress is abandoned and counted (R375). -/
def bakeAbandon (t g : Nat) (s : State) : State :=
  if (getGroup s t g).bake.isSome then countGroup t g 2 1 (modGroup s t g (fun x => { x with bake := none })) else s

/-- CORE_SHIFT (Table 14.8): a fault event for a shift out, a notice for a RESTORE (cause 4). -/
def shiftEvent (t g p cause : Nat) (s : State) : State :=
  raise (mkEv 0x0804 (if cause = 4 then clsNotice else clsFault) 0 5 t 0 (evW2 (unit := g) (position := p)) (BitVec.ofNat 64 cause)) s

/-- The passes of a core that goes to a new physical position: a queued CARRY pass behaves as LOAD there (R60). -/
def carriesMove (c : Core) : Core :=
  let mark (a : ArrayState) : ArrayState := { a with queue := a.queue.map (fun e => { e with fresh := false }) }
  modArray (modArray c 0 mark) 1 mark

/-- Steps 1 to 3 of Table 11.6: the cores that move stop, their active passes among them, and the copy starts. A vacated
position with an uncorrectable bench word has its core withdrawn first. DEDUCED (log entry 87). -/
def shiftStart (t g cause p : Nat) (restore byCmd : Bool) (s : State) : State :=
  let s := bakeAbandon t g (wakeGroup t g s)
  let c := getCore s (ck t (16 * g + p))
  let s := match c.benchErr.find? (fun e => decide (2 ≤ e.2)) with
    | some e => if restore || c.benchDead then s else benchFail (ck t (16 * g + p)) e.1 s
    | none => s
  let s := ((upto 16).filter (fun l => decide (p ≤ l))).foldl (fun s l =>
    modCore (stopActive (ck t (16 * g + l)) 1 (stopActive (ck t (16 * g + l)) 0 s)) (ck t (16 * g + l)) carriesMove) s
  modGroup s t g (fun x => { x with shift := some ⟨cause, p, restore, byCmd⟩ })

/-- The end of a SPARE_CMD command: RESULT, and BUSY clears. -/
def spareEnd (t : Nat) (code : Code) (s : State) : State := modTile s t (fun x => { x with spareBusy := false, spareResult := code })

/-- Both arrays of a logical core are in service after a sparing action (R80). DEDUCED (log entry 87). -/
def arraysBack (key : Nat) (s : State) : State :=
  let s := modCore s key (fun c =>
    modArray (modArray c 0 (fun a => { a with out := false, outByWrite := false })) 1 (fun a => { a with out := false, outByWrite := false }))
  modTile s (key / 64) (fun t => { t with coreHalf := t.coreHalf &&& ~~~(BitVec.twoPow 64 (key % 64)) })

/-- SHIFT_COPY_COMPLETE: steps 4 to 7 of Table 11.6. A group that still wakes does not copy yet. -/
def shiftCopyCompleteOp (t g : Nat) (s : State) : State :=
  let x := getGroup s t g
  match x.shift with
  | none => s
  | some h =>
    if x.waking.isSome || x.changing then s else
    let key := ck t (16 * g + h.position)
    let s := putGroup s t g { x with
      shift := none, retiredPos := if h.restore then 16 else h.position, off := putBit x.off h.position (!h.restore)
      misses := if h.restore then x.misses.filter (fun m => m.position != h.position) else x.misses }
    let s := arraysBack key s
    let s := modCore s key (fun c => if !h.restore && c.benchDead then { c with bench := [], benchErr := [], benchDead := false } else c)
    let s := ((upto 16).filter (fun l => decide (h.position ≤ l))).foldl (fun s l =>
      modCore s (ck t (16 * g + l)) (fun c => carriesMove { c with tlb := [] })) s
    let s := sparingMark (shiftEvent t g h.position h.cause (countTile t 42 1 s))
    throttleEffect t g (leaseRelease 4 t g (if h.byCmd then spareEnd t .ok s else s))

/-- Whether a RETIRE or RESTORE of a position ends with REJECTED by the state of the spare (R391, Table 11.5). -/
def shiftRejects (s : State) (t g p : Nat) (restore : Bool) : Bool :=
  let r := (getGroup s t g).retiredPos
  if restore then p != 16 && r != p else if p = 16 then r != 16 else !spareFree s t g

/-- Whether the core on a position is withdrawn for its bench, so that the tile does not shift it of its own accord (R179, R371). -/
def deadAt (s : State) (t g p : Nat) : Bool := (coreAt s t g p).any (fun l => (getCore s (ck t l)).benchDead)

/-- The outcome of a shift request whose lease is granted, by the state of the spare (Table 11.5), and of a RESTORE. -/
def shiftRun (t g cause p : Nat) (restore byCmd : Bool) (s : State) : State :=
  let refuse (s : State) : State := leaseRelease 4 t g (if byCmd then spareEnd t .rejected s else s)
  let x := getGroup s t g
  if !byCmd && deadAt s t g p then refuse s
  else if restore then
    if p = 16 then
      leaseRelease 4 t g (spareEnd t .ok (sparingMark (modGroup (setOff t g 16 false s) t g (fun x =>
        { x with spareMisses := if bit x.off 16 then [] else x.spareMisses }))))
    else if x.retiredPos = p then shiftStart t g cause p true byCmd s
    else refuse s
  else if p = 16 then
    if x.retiredPos != 16 then refuse s
    else leaseRelease 4 t g (spareEnd t .ok (sparingMark (shiftEvent t g 16 5 (bakeAbandon t g (setOff t g 16 true s)))))
  else if spareFree s t g then shiftStart t g cause p false byCmd s
  else if cause = 2 then
    refuse (sparingMark (setOff t g p true (match coreAt s t g p with | some l => withdrawCore (ck t l) s | none => s)))
  else refuse s

/-- A request of the tile for a shift (R371): with SHIFT_AUTO clear a quarantine withdraws the core and no other cause
acts; a core withdrawn under R179 is not shifted. -/
def shiftAuto (t g cause p : Nat) (s : State) : State :=
  if deadAt s t g p then s
  else if bit (getTile s t).bakeCtrl 2 then
    match leaseAsk 4 t g (.shift t g cause p false false) true s with
    | (.granted, s) => shiftRun t g cause p false false s
    | (_, s) => s
  else if cause = 2 then
    sparingMark (match coreAt s t g p with | some l => withdrawCore (ck t l) s | none => s)
  else s

/-! ### SPARE_CMD (R379, R391) -/

/-- A SPARE_CMD command: the expert level, BUSY, and the lease that it takes. While BUSY a command that would end with REJECTED
still does (R21). DEDUCED (log entry 86). -/
def spareCmd (rq : Requester) (act t g : Nat) (a : LeaseAct) (bad : Bool) (run : State → State) (s : State) : State :=
  withExpert rq 6 s fun s =>
    if (getTile s t).spareBusy then ends (if bad then .rejected else .retryLater) s
    else match leaseAsk act t g a false s with
      | (.full, s) => ends (if bad then .rejected else .retryLater) s
      | (.conflict, s) => ends .conflict (spareEnd t .conflict s)
      | (.waits, s) => ends .ok (modTile s t (fun x => { x with spareBusy := true }))
      | (.granted, s) =>
        let s := run (modTile s t (fun x => { x with spareBusy := true }))
        ends (if (getTile s t).spareBusy then .ok else (getTile s t).spareResult) s

/-- RETIRE (R371). -/
def retireOp (rq : Requester) (t g p : Nat) (s : State) : State :=
  withExpert rq 6 s fun s =>
    if 16 < p then ends .rejected s
    else spareCmd rq 4 t g (.shift t g 3 p false true) (shiftRejects s t g p false) (shiftRun t g 3 p false true) s

/-- RESTORE (R372). -/
def restoreOp (rq : Requester) (t g p : Nat) (s : State) : State :=
  withExpert rq 6 s fun s =>
    if 16 < p then ends .rejected s
    else spareCmd rq 4 t g (.shift t g 4 p true true) (shiftRejects s t g p true) (shiftRun t g 4 p true true) s

/-- What a WITHDRAW or RETURN does once its lease is granted. RETURN writes the bench to zero; a core in service has
nothing to return. The lease of a WITHDRAW lasts until the drain ends. DEDUCED (log entry 86). -/
def coreStateRun (key : Nat) (ret : Bool) (s : State) : State :=
  let t := key / 64
  if ret then
    let c := getCore s key
    leaseRelease 5 t (groupOf key) (if c.withdrawn then
      spareEnd t .ok (putCore s key { c with bench := [], benchErr := [], benchDead := false, withdrawn := false, withdrawBy := none })
    else spareEnd t .rejected s)
  else
    let s := spareEnd t .ok (withdrawCore key s)
    if (getCore s key).withdrawBy.isSome then s else leaseRelease 5 t (groupOf key) s

/-- WITHDRAW (R379). DEDUCED (log entry 86). -/
def withdrawCoreOp (rq : Requester) (key : Nat) (s : State) : State :=
  spareCmd rq 5 (key / 64) (groupOf key) (.coreState key false) false (coreStateRun key false) s

/-- RETURN (R379). -/
def returnCoreOp (rq : Requester) (key : Nat) (s : State) : State :=
  spareCmd rq 5 (key / 64) (groupOf key) (.coreState key true) (!(getCore s key).withdrawn) (coreStateRun key true) s

/-- CORE_DRAIN_TIMEOUT: 2 ms after its withdrawal a core's kernels end under R106, the saved ones too, and what is left in its queues
ends with WITHDRAWN (R24, R379). -/
def coreDrainTimeoutOp (key : Nat) (s : State) : State :=
  match (getCore s key).withdrawBy with
  | none => s
  | some due =>
    let s := withdrawKernel key { s with now := max s.now due }
    let s := (getCore s key).saved.foldl (fun s x => dropRun key x s) s
    let s := modCore s key (fun c => { flushArray (flushArray c 0 false) 1 false with withdrawBy := none })
    if s.topo.leases.any (fun l => l.act == .coreState key false) then leaseRelease 5 (key / 64) (groupOf key) s else s

/-! ### Residue mismatches (R74) -/

/-- RESIDUE_MISMATCH. -/
def residueMismatchOp (key a row col : Nat) (s : State) : State :=
  let c := getCore s key
  match (getArray c a).queue.find? (fun e => e.stage == .active) with
  | none => s
  | some e =>
    let second := decide (0 < e.mismatches)
    let n := min 255 (fld c.residueLog 47 40 + 1)
    let c := setEntry c a { e with mismatches := e.mismatches + 1 }
    let log := pack [(48, dTag e.desc), (40, n), (31, 1), (30, b2n second), (29, a), (18, row), (12, col)]
    let s := putCore s key { c with residueLog := log }
    let w2 := evW2 (unit := key % 64) (position := posOf s key) (array := a)
    let s := raise (mkEv 0x0101 clsFault 0 1 (key / 64) (key % 64) (w2 ||| pack [(6, row), (0, col)]) (BitVec.ofNat 64 (dTag e.desc)))
      (countCore key 1 1 s)
    if second then
      let s := raise (mkEv 0x0102 clsFault 0 3 (key / 64) (key % 64) w2 (BitVec.ofNat 64 (dTag e.desc))) (arrayOut key a false s)
      shiftAuto (key / 64) (groupOf key) 1 (posOf s key) (throttleEffect (key / 64) (groupOf key) s)
    else passStopOp key a s

/-! ### Test bakes (R375–R378) -/

/-- 24 hours in nanoseconds. -/
def dayNs : Nat := 86400000000000

/-- R378: the spare goes Off when its mismatches of 24 h involve three positions; they leave the positions' logs. -/
def spareSuspect (t g : Nat) (s : State) : State :=
  sparingMark (modGroup s t g (fun x => { x with
    off := putBit x.off 16 true
    misses := x.misses.filter (fun m => !x.spareMisses.contains m)
    spareMisses := [] }))

/-- R377: the quarantine of a position. -/
def quarantine (t g p : Nat) (s : State) : State :=
  shiftAuto t g 2 p (sparingMark (setOff t g p true (countTile t 43 1 s)))

/-- TEST_BAKE_COMPARE: the spare compares a baked pass; a mismatch is logged and charged, and a bake that the spare cannot keep up with is
abandoned (R375). DEDUCED (log entry 88). -/
def testBakeCompareOp (t g : Nat) (e : BakeEnd) (s : State) : State :=
  let x := getGroup s t g
  match x.bake with
  | none => s
  | some b =>
    if e = .behind then bakeAbandon t g s else if e = .agrees then putGroup s t g { x with bake := none } else
    let key := ck t b.core
    let p := posOf s key
    let m : BakeMiss := ⟨p, b.tempBin, b.utilBin, s.now⟩
    let old (l : List BakeMiss) : List BakeMiss := l.filter (fun q => decide (s.now ≤ q.at_ + dayNs))
    let log := pack [(48, b.tag), (31, 1), (26, p), (21, b.tempBin), (19, b.utilBin), (18, b.array)]
    let x := { x with bake := none, misses := old x.misses ++ [m], spareMisses := old x.spareMisses ++ [m], bakeLog := log }
    let s := raise (mkEv 0x0805 clsFault 0 4 t b.core (evW2 (unit := b.core) (position := p) (array := b.array))
      (pack [(48, b.tag), (40, 16), (32, b.tempBin), (28, b.utilBin)])) (countGroup t g 1 1 (putGroup s t g x))
    if 3 ≤ ((x.spareMisses.map (·.position)).foldl addNew []).length then spareSuspect t g s
    else if bit (getTile s t).bakeCtrl 1 &&
        decide (3 ≤ (x.misses.filter (fun q => q.position == p && q.temp == b.tempBin && q.util == b.utilBin)).length) &&
        !bit x.off p then quarantine t g p s
    else s

/-! ### The loss of a tile (R388, Table 11.11) -/

/-- Ends every accepted stream of a slot: an outstanding step ends with WITHDRAWN, and the entry becomes FREE. DEDUCED (log entry 89). -/
def dropSlot (m : Nat) (s : State) : State :=
  let s := (s.jobs.filter (fun j => j.slot == m)).foldl (fun s j => withdrawJob j s) s
  let s := s.jobs.foldl (fun s j => if j.slot = m then modJob s j.num.toNat (fun j => { j with positions := [] }) else s) s
  ((accepted s).filter (fun p => p.2.model == m)).foldl (fun s p =>
    let s := if p.2.state == .due || p.2.state == .running then
        finishStep p.1 (codeMerge p.2.merged .withdrawn) true (modStream s p.1 (fun x => { x with step := x.step + 1, hurt := true }))
      else s
    if (getStream s p.1).state = .free then s else freeStream p.1 s) s

/-- A tile leaves service while the module runs, under its TILE_WORK lease, which ends with it. DEDUCED (log entry 89). -/
def tileOutRun (t : Nat) (s : State) : State :=
  let s := leaseRelease 7 t 0 s
  if !(getTile s t).inService then s else
  let slots := (upto 64).filter (fun m => (getModel s m).state == 1 && maskHas (getModel s m) t)
  let all := (slots.flatMap (fun m => m :: groupSlots s m)).foldl addNew []
  let s := raise (mkEv 0x0808 clsFault 0 6 t 0 evW2 4) (modTile s t (fun x => { x with inService := false }))
  let s := (upto 64).foldl (fun s c => withdrawKernel (ck t c) s) s
  all.foldl (fun s m => dropSlot m s) s

/-- TILE_OUT: the withdrawal of the tile takes its lease (R385); while that is refused the module asks again (R387). -/
def tileOutOp (t : Nat) (s : State) : State :=
  if !(getTile s t).inService || s.topo.leaseRetries.any (fun l => l.act == .tileWork t) then s else
  match leaseAsk 7 t 0 (.tileWork t) true s with
  | (.granted, s) => tileOutRun t s
  | (_, s) => s

/-- DIE_TO_DIE_LINK_DOWN: the link carries no flits; the tiles at its ends set the D2D_DOWN bit of their edge (north, east, south, west),
and the one with the lower number raises LINK_REDUCED with no rate and no width (R8, R28). No link crosses an outer edge of the grid. -/
def d2dDownOp (t edge : Nat) (s : State) : State :=
  match linkOwner t edge with
  | none => s
  | some (u, f) =>
    if linkDown s t edge then s else
    raise (mkEv 0x0503 clsFault 0 6 u 0 evW2 (pack [(62, 0), (60, f)]))
      (linkMark (fun m x => { x with d2dDown := m x.d2dDown }) t edge s)

end Sys2Proof.Machine
end

