-- ==== Sys2Proof/Machine/Topology.lean ====
section
/-! DEFINITION. Topology: the link-division profile (R361–R363), HELLO and discovery (R364–R369), and what leases run
(R385–R387). -/

namespace Sys2Proof.Machine

/-! ### Link-division profile (R361, R362) -/

/-- ROLE and peer of a strand: for a tray strand the peer slot, for others the plane. -/
def strandPeer (s : State) (st : Nat) : Nat × Nat :=
  let p := profEntry s (st / 8)
  if p.1 = 1 then (1, Nat.xor s.topo.slot p.2 % 4) else if p.1 = 0 then (0, 0) else (p.1, p.2 + st % 8)

/-- Whether two engines of one role share a plane. -/
def profOverlap (p q : Nat × Nat) : Bool := p.1 == q.1 && (p.1 == 2 || p.1 == 3) && p.2 == q.2

/-- R362: reserved bits zero, FIRST in its role's range, no plane shared, a rack plane engine. -/
def profileValid (l : List (BitVec 16)) : Bool :=
  let es := l.map (fun w => (fld w 15 14, fld w 13 8))
  l.length == 20 && l.all (fun w => fld w 7 0 == 0) &&
  es.all (fun p => match p.1 with
    | 0 => true
    | 1 => decide (1 ≤ p.2) && decide (p.2 ≤ 3)
    | 2 => p.2 % 8 == 0 && decide (p.2 ≤ 56)
    | _ => p.2 % 8 == 0 && decide (p.2 ≤ 40)) &&
  (es.zipIdx.all (fun p => es.zipIdx.all (fun q => p.2 == q.2 || !profOverlap p.1 q.1))) && es.any (fun p => p.1 == 2)

/-! ### HELLO (R364, Table 11.3) -/

/-- A HELLO or its reply, for one hop of a strand. -/
def mkHello (s : State) (st : Nat) (reply : Bool) (seq : Nat) : Packet :=
  let r := strandPeer s st
  let w3 := pack [(61, b2n reply), (60, b2n s.topo.coordKnown), (58, r.1), (52, r.2), (36, s.topo.rack),
    (32, s.topo.tray), (30, s.topo.slot), (14, st)]
  let p := mkPkt s.myModule (servingTile (st / 8)) 0 0 0x70 0 1 0 w3 (pack [(32, seq)]) 0 0 []
  pktSeal { p with w0 := setFld p.w0 11 4 (bankEpoch (bankSel s true)) }

/-- The fields of a HELLO reply. -/
def helloRec (p : Packet) : HelloRec where
  kind := fld p.w3 63 62
  coordValid := bit p.w3 60
  role := fld p.w3 59 58
  plane := fld p.w3 57 52
  rack := fld p.w3 51 36
  tray := fld p.w3 35 32
  slot := fld p.w3 31 30
  port := fld p.w3 29 14
  bytes := pBytes p

/-- STRAND_WITHDRAWN: a strand that Table 11.4 withdraws, with the expected and the reported values. DEDUCED (log entry 71). -/
def topoWithdraw (st : Nat) (r : HelloRec) (s : State) : State :=
  if s.topo.leaseRetries.any (fun l => l.act == .strandAuto st 2) then s else
  let e := strandPeer s st
  let s := strandAuto 2 st s
  raise (mkEv 0x0801 clsFault 0 7 (servingTile (st / 8)) 0 (evStrand st)
    (pack [(62, e.1), (56, e.2), (54, r.kind), (48, r.plane), (32, r.rack), (28, r.tray), (26, r.slot)])) s

/-- Whether a reply's KIND or PLANE differs from the profile's role and peer for a switch strand, or a switch answers a
tray strand. -/
def kindWrong (s : State) (st : Nat) (r : HelloRec) : Bool :=
  let e := strandPeer s st
  match e.1 with
  | 1 => r.kind != 0
  | 2 => r.kind != 1 || r.plane != e.2
  | _ => r.kind != 2 || r.plane != e.2

/-- Whether a tray peer's reply names another place than the profile expects, once the module has accepted its coordinates (Table 11.4). -/
def trayWrong (s : State) (st : Nat) (r : HelloRec) : Bool :=
  (strandPeer s st).1 == 1 && r.kind == 0 && r.coordValid && s.topo.coordKnown &&
  (r.rack != s.topo.rack || r.tray != s.topo.tray || r.slot != (strandPeer s st).2)

/-- Whether a later reply differs from what the module accepted (the last row of Table 11.4). -/
def laterWrong (s : State) (st : Nat) (r : HelloRec) : Bool :=
  kindWrong s st r || trayWrong s st r ||
  ((strandPeer s st).1 == 2 && r.coordValid && s.topo.coordKnown &&
    (r.rack != s.topo.rack || r.tray != s.topo.tray || r.slot != s.topo.slot))

/-- A reply on a strand. -/
def helloReply (st : Nat) (p : Packet) (s : State) : State :=
  let x := getStrand s st
  let r := helloRec p
  let tray := (strandPeer s st).1 == 1
  let first := r.coordValid && !x.helloValid
  let s := { s with topo := { s.topo with replies := tput s.topo.replies st r } }
  let s := modStrand s st (fun x => { x with
    partner := r.kind + 1
    helloAnswered := x.helloAnswered || fld p.w4 63 32 == x.helloSeq.toNat
    helloMisses := if fld p.w4 63 32 = x.helloSeq.toNat then 0 else x.helloMisses
    helloValid := x.helloValid || r.coordValid
    helloDue := if first then some (s.now + 100000000) else x.helloDue })
  if tray && r.kind == 0 && !r.coordValid then
    if strandLive s st && !x.helloValid then strandLeave st .training s else s
  else
    let live := strandLive s st
    let s := if x.state == .training && r.coordValid then
        rxLight (st / 8) (modStrand s st (fun y => { y with state := if y.waves = 0xFFFF then .up else .degraded })) else s
    if !s.topo.discovering && (live || x.state == .training) && laterWrong s st r then topoWithdraw st r s else s

/-- HELLO: a request is answered; a reply is recorded (R364). A strand that has not trained receives nothing. -/
def helloOp (st : Nat) (p : Packet) (s : State) : State :=
  let x := getStrand s st
  if pType p != 0x70 || !x.trained || x.state == .withdrawn || x.state == .failed then s else
  match rxCheck (servingTile (st / 8)) p s with
  | (false, s) => s
  | (true, s) =>
    if bit p.w3 61 then helloReply st p s
    else egressPush st (mkHello s st true (fld p.w4 63 32)) s

/-- HELLO_TIMER: the strand's next HELLO leaves; at the 100 ms cadence a HELLO that stayed unanswered counts as missed. DEDUCED (log entry 90). -/
def helloTimerOp (st : Nat) (s : State) : State :=
  let x := getStrand s st
  match x.helloDue with
  | none => s
  | some due =>
    if !x.trained || x.state == .withdrawn || x.state == .failed then s else
    let s := { s with now := max s.now due }
    let missed := x.helloValid && !x.helloAnswered
    let s := if missed then countStrand st 4 1 s else s
    let seq := x.helloSeq + 1
    let step := if x.helloValid then 100000000 else 1000000
    let s := modStrand s st (fun x => { x with
      helloSeq := seq, helloAnswered := false, helloDue := some (due + step)
      helloMisses := if missed then x.helloMisses + 1 else x.helloMisses })
    egressPush st (mkHello s st false seq.toNat) s

/-- Whether every tray strand to the peer slot of a strand has missed its replies. DEDUCED (log entry 71). -/
def peerGone (s : State) (st : Nat) : Bool :=
  let e := strandPeer s st
  e.1 == 1 && (upto 160).all (fun q => strandPeer s q != e || q == st || !strandLive s q || decide (3 ≤ (getStrand s q).helloMisses))

/-- PEER_LOST (R369): a strand with three misses in a row leaves UP, retrains, and its partner is reported. DEDUCED (log entry 90). -/
def peerLostOp (st : Nat) (s : State) : State :=
  let x := getStrand s st
  if !strandLive s st || x.helloMisses < 3 then s else
  let r := (s.topo.replies.find? (fun q => q.1 == st)).map (·.2)
  let m := match r with
    | some r => if r.kind = 0 then 64 * r.rack + 4 * r.tray + r.slot else 16383
    | none => 16383
  let k := match r with | some r => r.kind | none => 0
  let ev := mkEv 0x0803 clsFault 0 7 (servingTile (st / 8)) 0 (evStrand st) (pack [(50, m), (48, k), (0, b2n (peerGone s st))])
  if s.topo.leaseRetries.any (fun l => l.act == .strandAuto st 1) then s else strandAuto 1 st (raise ev s)

/-! ### Discovery (R366–R368, Table 11.4) -/

/-- The trained strands of a role with their replies. -/
def repliesOf (s : State) (role : Nat) : List (Nat × HelloRec) :=
  s.topo.replies.filter (fun q => (getStrand s q.1).trained && (strandPeer s q.1).1 == role)

/-- Whether every trained strand has a valid reply. -/
def discoveryDone (s : State) : Bool :=
  s.strands.all (fun q => !q.2.trained || q.2.helloValid || q.2.state == .failed)

/-- The coordinates that a list of rack plane replies agrees on: those of more than half. -/
def majority (l : List (Nat × HelloRec)) : Option (Nat × Nat × Nat) :=
  let cs := l.map (fun q => (q.2.rack, q.2.tray, q.2.slot))
  cs.find? (fun c => decide (cs.length < 2 * (cs.filter (· == c)).length))

/-- COORD_FAULT with coordinates. -/
def coordFault (rack tray slot : Nat) (s : State) : State :=
  raise (mkEv 0x0802 clsFault 0 7 30 0 evW2 (pack [(32, rack), (28, tray), (26, slot)])) s

/-- Hall candidates i of every rack from a hall plane's reply (R368), into a bank. -/
def hallFill (s : State) (st i : Nat) (bytes : List Byte) (b : Bank) : Bank :=
  (upto 256).foldl (fun b r =>
    let pos := (bytes.getD r 0xFF).toNat
    let ok := pos != 0xFF && r != s.topo.rack && strandUp s st
    ⟨tset 0 b.mem (0x1000 + 192 * r + 4 * i) (pack [(31, b2n ok), (22, st), (0, pos % 64)])⟩) b

/-- Bank A at the end of discovery: EPOCH 1, VALID, the strand entries, the hall candidates; every group invalid. -/
def bankAtDiscovery (s : State) : Bank :=
  let b : Bank := ⟨tset 0 [] 0 (pack [(32, 1), (0, 1)])⟩
  let b := (upto 160).foldl (fun b st =>
    let e := strandPeer s st
    ⟨tset 0 b.mem (0x100 + 8 * st) (pack [(14, e.1), (8, e.2)])⟩) b
  (repliesOf s 3).foldl (fun b q => if q.2.kind = 2 then hallFill s q.1 (strandPeer s q.1).2 q.2.bytes b else b) b

/-- Step 13 of Table 13.7: the module decides its coordinates and strands under Table 11.4 and writes bank A. The answer
is the cause of START_FAILED (Table 14.8) when it does not become Ready. DEDUCED (log entry 90). -/
def discoveryDecide (s : State) : Option Nat × State :=
  let s := { s with topo := { s.topo with discovering := false } }
  let racks := (repliesOf s 2).filter (fun q => !kindWrong s q.1 q.2 && q.2.coordValid)
  let wrong := s.topo.replies.filter (fun q => (getStrand s q.1).trained && kindWrong s q.1 q.2)
  let s := wrong.foldl (fun s q => topoWithdraw q.1 q.2 s) s
  match racks with
  | [] =>
    let s := { s with moduleNumber := BitVec.ofNat 14 s.keeper.fallback, topo := { s.topo with reach := 1 } }
    (none, { s with routing := { s.routing with a := bankAtDiscovery s, activeB := false } })
  | first :: _ =>
    match majority racks with
    | none =>
      let low := (racks.foldl (fun m q => if q.2.plane < m.2.plane then q else m) first).2
      (some 6, coordFault low.rack low.tray low.slot s)
    | some (r, t, l) =>
      if 255 < r then (some 5, coordFault r t l s) else
      let halls := (repliesOf s 3).filter (fun q => !kindWrong s q.1 q.2)
      let s := { s with moduleNumber := BitVec.ofNat 14 (64 * r + 4 * t + l), topo := { s.topo with
        rack := r, tray := t, slot := l, coordKnown := true, reach := if halls.isEmpty then 2 else 3 } }
      let s := (racks.filter (fun q => (q.2.rack, q.2.tray, q.2.slot) != (r, t, l))).foldl (fun s q => topoWithdraw q.1 q.2 s) s
      let s := ((repliesOf s 1).filter (fun q => trayWrong s q.1 q.2)).foldl (fun s q => topoWithdraw q.1 q.2 s) s
      (none, { s with routing := { s.routing with a := bankAtDiscovery s, activeB := false } })

/-! ### What a lease runs once it is granted (R385, R387) -/

/-- Runs the activity of a granted lease. An explicit lease starts its time; its reply is the keeper's (see Igrin). -/
def runAct (a : LeaseAct) (s : State) : State :=
  match a with
  | .sliceRetrain key => retrainStart key s
  | .laneSpare key layer lane auto => spareGranted key layer lane auto s
  | .evacuate key _ _ => evacuateStart key s
  | .shift t g cause p restore byCmd => shiftRun t g cause p restore byCmd s
  | .coreState key ret => coreStateRun key ret s
  | .engineWork e => engineAuto e s
  | .strandAuto st how => strandWorkRun how st s
  | .tileWork t => tileOutRun t s
  | .strandWork _ | .routeSwap | .starter | .explicit _ _ _ => s

/-- What ends with CONFLICT when a request's wait reaches 100 ms. -/
def actConflict (a : LeaseAct) (s : State) : State :=
  match a with
  | .sliceRetrain key => modSlice s key (fun x => { x with trainResult := .conflict })
  | .laneSpare key _ _ false => modSlice s key (fun x => { x with trainResult := .conflict })
  | .shift t _ _ _ _ true => spareEnd t .conflict s
  | .coreState key _ => spareEnd (key / 64) .conflict s
  | _ => s

/-- Whether an activity is an automatic one, which asks again every 10 ms (R387). -/
def actAuto (a : LeaseAct) : Bool :=
  match a with
  | .laneSpare _ _ _ auto => auto
  | .evacuate _ _ _ => true
  | .shift _ _ _ _ _ byCmd => !byCmd
  | .engineWork _ | .strandAuto _ _ | .tileWork _ => true
  | _ => false

end Sys2Proof.Machine
end

