-- ==== Sys2Proof/Machine/Power.lean ====
section
/-! DEFINITION. Power: group clocks (R393, R394), low-power states (R396–R399), the housekeeping round with the thermal
model and the governor (R400–R408), GOV_CTRL (R409), latched shutdown (R410–R412) and the reference (R395). -/

namespace Sys2Proof.Machine

/-! ### Tiles and limits -/

/-- The power state of a tile at reset (R414). -/
def tpInit : TilePower := ⟨0, 0, [], 0, false, 0, [0, 0, 0], 0x08000000, 0x03E80014, 0, 0⟩
def getTP (s : State) (t : Nat) : TilePower := tget tpInit s.power.tiles t
def modTP (s : State) (t : Nat) (f : TilePower → TilePower) : State :=
  { s with power := { s.power with tiles := tput s.power.tiles t (f (getTP s t)) } }

def limitW (s : State) : Nat := fld s.power.inForce 63 48
def maxMhz (s : State) : Nat := fld s.power.inForce 31 22
def floorMhz (s : State) : Nat := fld s.power.inForce 21 12
def emergMhz (s : State) : Nat := fld s.power.inForce 11 2

/-- Whether the tiles and the hearth main domain run (Table 13.7 from step 5 on; FAILED_START keeps them). -/
def mainOn (s : State) : Bool := (decide (3 ≤ s.keeper.phase) && decide (s.keeper.phase ≤ 7)) || s.keeper.phase == 9

/-- A temperature of n °C in 1/16 °C. -/
def degC (n : Int) : Int := 16 * n

/-! ### Clock changes (R394, R399, Table 12.8) -/

/-- THROTTLE_STEP_TIMEOUT: 8 µs after an ordinary request the passes still active are stopped and the step takes
effect; a shift delays it (Table 12.8). DESIGN CHOICE (log entry 2). -/
def throttleStepTimeoutOp (t g : Nat) (s : State) : State :=
  let x := getGroup s t g
  match x.request with
  | none => s
  | some at_ =>
    if x.changing || x.shift.isSome then s else
    let s := { s with now := max s.now (at_ + 8000) }
    throttleEffect t g ((upto 16).foldl (fun s i => stopActive (ck t (16 * g + i)) 1 (stopActive (ck t (16 * g + i)) 0 s)) s)

/-- CLOCK_CHANGE_COMPLETE: the group's clock runs at its new frequency. -/
def clockChangeCompleteOp (t g : Nat) (s : State) : State :=
  let x := getGroup s t g
  if x.changing then putGroup s t g { x with changing := false, mhz := x.target } else s

/-! ### Nap and Sleep (R397–R399) -/

/-- Whether a core lets its group nap: no kernel, pass, move, remote operation, crumb or link-adder operation. -/
def coreQuiet (s : State) (key : Nat) : Bool :=
  let c := getCore s key
  c.kernel.isNone && (allPasses c).isEmpty && c.moves.isEmpty && c.writes.isEmpty &&
  !(getPort s (key / 64)).ops.any (fun o => o.core == key % 64 && (match o.kind with | .pageRead _ | .pageWrite _ | .batchWrite _ => false | _ => true)) &&
  !s.coll.ops.any (fun o => o.tile == key / 64 && o.core == key % 64) &&
  !s.coll.groups.any (fun g => g.2.rounds.any (fun r => r.ended.isNone && r.ins.any (fun i => i.tile == key / 64 && i.core == key % 64)))

/-- Whether every core of a group is quiet. -/
def groupQuiet (s : State) (t g : Nat) : Bool := (upto 16).all (fun i => coreQuiet s (ck t (16 * g + i)))

/-- Keeps, for each group that runs, since when all its cores are idle (R396, R397). -/
def idleTrack (s : State) : State :=
  s.groups.foldl (fun s p =>
    if p.2.pstate != .run && p.2.pstate != .idle then s
    else if !groupQuiet s (p.1 / 4) (p.1 % 4) then (if p.2.idleFrom.isSome then putGroup s (p.1 / 4) (p.1 % 4) { p.2 with idleFrom := none } else s)
    else if p.2.idleFrom.isSome then s
    else putGroup s (p.1 / 4) (p.1 % 4) { p.2 with idleFrom := some s.now }) s

/-- NAP_AFTER_US and SLEEP_AFTER_US of a tile in ns (STATE_CTRL). -/
def napAfter (s : State) (t : Nat) : Nat := 1000 * fld (getTP s t).stateCtrl 15 0
def sleepAfter (s : State) (t : Nat) : Nat := 1000 * fld (getTP s t).stateCtrl 31 16

/-- NAP_ENTRY: all cores of the group have been idle for NAP_AFTER_US. DESIGN CHOICE (log entry 100). -/
def napEntryOp (t g : Nat) (s : State) : State :=
  let x := getGroup s t g
  match x.idleFrom with
  | none => s
  | some at_ =>
    if (x.pstate != .run && x.pstate != .idle) || x.changing || x.waking.isSome || x.shift.isSome || !groupQuiet s t g ||
       decide (fld (getTile s t).dispCtrl 1 0 < 2) then s
    else
      let due := max s.now (at_ + napAfter s t)
      countGroup t g 3 1 (putGroup { s with now := due } t g { x with pstate := .nap, request := none, idleFrom := some due })

/-- What Sleep does not keep of a core (Table 12.1): its generator, trap record, last stream and kernel, caches. Their
values are free values. DEDUCED (log entry 99). -/
def coreSleep (key : Nat) (s : State) : State :=
  let (a, s) := freeWord s
  let (b, s) := freeWord s
  let (c, s) := freeWord s
  let (d, s) := freeWord s
  modCore s key (fun x => { x with gen := a, trap := b, lastKernel := c, lastStream := fld d 15 0, tlb := [] })

/-- SLEEP_ENTRY: the group has napped for SLEEP_AFTER_US. DESIGN CHOICE (log entry 100). -/
def sleepEntryOp (t g : Nat) (s : State) : State :=
  let x := getGroup s t g
  if x.pstate != .nap || x.waking.isSome || x.shift.isSome || decide (fld (getTile s t).dispCtrl 1 0 < 3) then s
  else
    let due := max s.now (x.idleFrom.getD s.now + sleepAfter s t)
    countGroup t g 4 1 ((upto 16).foldl (fun s i => coreSleep (ck t (16 * g + i)) s) (putGroup { s with now := due } t g { x with pstate := .sleep }))

/-- WAKE_COMPLETE: a group reaches Run at the clock set for its tile. -/
def wakeCompleteOp (t g : Nat) (s : State) : State :=
  let x := getGroup s t g
  match x.waking with
  | none => s
  | some due => putGroup { s with now := max s.now due } t g { x with pstate := .run, waking := none, mhz := x.target, idleFrom := none }

/-! ### The thermal model (R401–R403) -/

/-- The layer-temperature unit: 10^10 of it make 1/16 °C. -/
def tUnit : Nat := 10000000000

/-- The modelled temperatures of the 16 layers of a tile (R402): D in 1/16 °C, P in µW. -/
def layerTemps (x : TilePower) (d : Int) : List Int :=
  let mean := if x.hist.isEmpty then x.power else x.hist.sum / x.hist.length
  let p := min x.power mean
  (upto 16).map (fun l =>
    (d + 4 * fld x.modelCfg 31 24) * tUnit - 16 * (p * (fld x.modelCfg 23 12 + l * fld x.modelCfg 11 0) : Nat))

/-- A layer temperature in whole 1/16 °C, rounded down. DESIGN CHOICE (log entries 66, 128). -/
def sixteenths (x : Int) : Int := x.fdiv tUnit

/-- Whether a layer temperature is at or above n °C, and above n °C. -/
def atLeast (x n : Int) : Bool := decide (degC n * tUnit ≤ x)
def aboveC (x n : Int) : Bool := decide (degC n * tUnit < x)

/-- The hottest of a list of layers. -/
def hottest (l : List Int) : Int := l.foldl max (l.headD 0)

/-- The 5 × 5 grid position of a tile (R26). -/
def gridPos (t : Nat) : Nat × Nat := let n := if t < 12 then t else t + 1; (n / 5, n % 5)

/-- Whether two tiles are grid neighbours. -/
def gridNear (a b : Nat) : Bool :=
  let p := gridPos a
  let q := gridPos b
  (p.1 == q.1 && (p.2 + 1 == q.2 || q.2 + 1 == p.2)) || (p.2 == q.2 && (p.1 + 1 == q.1 || q.1 + 1 == p.1))

/-- Value and validity of a channel of a sample. -/
def hkVal (x : HkSample) (i : Nat) : Nat := (x.value.getD i 0).toNat
def hkSigned (x : HkSample) (i : Nat) : Int := sext 16 (hkVal x i)

/-- Whether a diode channel reads validly (R403). -/
def diodeOk (x : HkSample) (i : Nat) : Bool :=
  bit x.valid i && decide (degC (-40) ≤ hkSigned x i) && decide (hkSigned x i ≤ degC 150)

/-- The channels of the valid diodes of a tile's grid neighbours, with the hearth at the centre of the grid (R26, R28). DEDUCED (log entry 97). -/
def nearDiodes (x : HkSample) (t : Nat) : List Nat :=
  (upto 25).filter (fun u => (if u = 24 then [7, 11, 12, 16].contains t else gridNear t u) && diodeOk x u)

/-- D of a tile: its reading; after three invalid ones the highest valid diode of its grid neighbours plus 10 °C; else
the last reading. DEDUCED (log entry 96). -/
def diodeFor (x : HkSample) (t invalid : Nat) (last : Int) : Int :=
  if diodeOk x t then hkSigned x t
  else if invalid < 3 then last
  else match (nearDiodes x t).map (hkSigned x) with
    | [] => last
    | a :: r => r.foldl max a + degC 10

/-- The array cycles and the slice accesses of a tile up to now. -/
def tileCycles (s : State) (t : Nat) : Nat := ((s.cores.filter (fun p => p.1 / 64 == t)).map (fun p => p.2.arrayCycles)).sum
def tileAccesses (s : State) (t : Nat) : Nat := ((s.slices.filter (fun p => p.1 / 64 == t)).map (fun p => p.2.accesses)).sum

/-- The estimate in µW that a tile agent makes of its activity since the latest round (R401): the manual does not say how the counts
become watts. DESIGN CHOICE (log entry 95). -/
def tileEstimate (s : State) (t : Nat) : Nat :=
  Config.activityPower (tileCycles s t - (getTP s t).cycles) (tileAccesses s t - (getTP s t).accesses)

/-- The part of a rail's power that its even or odd tile takes, in proportion to the estimates. -/
def railShare (rail even odd : Nat) (isOdd : Bool) : Nat := rail * (if isOdd then odd else even) / (even + odd)

/-- P of a tile in µW (R401): its rail's power by the share of its estimate. Without an estimate on either tile the share
is a free value. DESIGN CHOICE (log entry 95). -/
def tileShare (x : HkSample) (even odd t : Nat) (s : State) : Nat × State :=
  let rail := 10000 * hkVal x (45 + t / 2)
  if even + odd = 0 then let (w, s) := freeWord s; (w.toNat % (rail + 1), s)
  else (railShare rail even odd (t % 2 == 1), s)

/-- The counts of activity as a round leaves them (R401). -/
def activityTaken (s : State) (t : Nat) : State := modTP s t (fun y => { y with cycles := tileCycles s t, accesses := tileAccesses s t })

/-- Takes a tile's diode and power of a round, and models its layers; `est` holds the tiles' estimates. DEDUCED (log entry 96). -/
def tileSample (x : HkSample) (est : List Nat) (s : State) (t : Nat) : State :=
  let (p, s) := tileShare x (est.getD (t / 2 * 2) 0) (est.getD (t / 2 * 2 + 1) 0) t s
  let ok := diodeOk x t
  let n := if ok then 0 else (getTP s t).invalid + 1
  let s := if ok then s else countTile t 48 1 s
  let y := getTP s t
  let d := diodeFor x t n y.diode
  let y := { y with diode := d, power := p, hist := (p :: y.hist).take 64, invalid := n, invalidEver := y.invalidEver || decide (3 ≤ n) }
  let s := if n = 3 then
      raise (mkEv 0x0903 clsFault 0 6 t 0 evW2 (pack [(0, hkVal x t), (32, b2n (!bit x.valid t))])) s else s
  let s := modTP s t (fun _ => y)
  modTile s t (fun z => { z with layerTemp := layerTemps y d })

/-! ### The write hold and refresh (R168, R169, R171–R173) -/

/-- REFRESH_MULT that a temperature asks for (Table 5.6). -/
def refreshFor (x : Int) : Nat := if aboveC x 95 then 2 else if aboveC x 85 then 1 else 0

/-- The refresh rule of a round (R169): a rise at once; each fall when the hottest layer has stayed at least 2 °C below
its threshold for ten rounds; never below the rate of the temperature in force. During a MEASURE the rate is ×4 (Table 7.11). DEDUCED (log entry 42). -/
def refreshRule (t : Nat) (s : State) : State :=
  modTile s t (fun z =>
    let h := hottest z.layerTemp
    let a := if aboveC h 93 then 0 else min 10 (z.coolRounds + 1)
    let b := if aboveC h 83 then 0 else min 10 (z.cool85 + 1)
    let m := if z.refreshMult = 2 && a == 10 then 1 else z.refreshMult
    let m := if m = 1 && b == 10 then 0 else m
    { z with refreshMult := if calibrating s t then 2 else max m (refreshFor h), coolRounds := a, cool85 := b })

/-- The held writes of a slice applied in arrival order. -/
def holdRelease (key : Nat) (s : State) : State :=
  let l := (getSlice s key).heldWrites
  l.foldl (fun s w => sliceWriteLine key s (w.1, w.2.2)) (modSlice s key (fun x => { x with heldWrites := [] }))

/-- Starts or ends the write hold of a tile's stack; the event of its start carries the lowest-numbered layer outside the window.
DEDUCED (log entry 41). DESIGN CHOICE (log entry 146). -/
def holdRule (t : Nat) (s : State) : State :=
  let z := getTile s t
  let out := z.layerTemp.zipIdx.filter (fun p => !atLeast p.1 0 || aboveC p.1 100)
  if z.hold then
    if z.layerTemp.all (fun x => atLeast x 1 && !aboveC x 99) then
      let s := modTile s t (fun z => { z with hold := false })
      let s := (upto 64).foldl (fun s n => holdRelease (ck t n) s) s
      raise (mkEv 0x0207 clsNotice 1 6 t 0 evW2
        (pack [(32, min z.holdWrites (2 ^ 32 - 1)), (0, min ((s.now - z.holdSince) / 1000) (2 ^ 32 - 1))])) s
    else s
  else match out with
    | [] => s
    | p :: _ =>
      raise (mkEv 0x0206 clsFault 1 6 t 0 (evW2 (layer := p.2)) (BitVec.ofInt 16 (sixteenths p.1) |>.setWidth 64))
        (modTile s t (fun z => { z with hold := true, holdSince := s.now, holdWrites := 0 }))

/-! ### Emergencies (Table 12.6, R407) -/

/-- EMERGENCY_START or EMERGENCY_END: the bit of EMERG_CAUSE, the reading, and the tile of a tile condition. DESIGN CHOICE (log entry 128). -/
def emergEvent (start : Bool) (tile : Option Nat) (cause : Nat) (reading : Int) (s : State) : State :=
  raise (mkEv (if start then 0x0901 else 0x0902) (if start then clsFault else clsNotice) 0 (if tile.isSome then 6 else 7)
    (tile.getD 30) 0 evW2 (pack [(32, cause), (0, (BitVec.ofInt 32 reading).toNat)])) s

/-- A condition's step in a round: detected, else towards its end (ten rounds in a row), and whether it is in force. -/
def emergStep (held detected clearing : Bool) (n : Nat) : Bool × Nat :=
  if detected then (true, 0)
  else if !held then (false, 0)
  else if !clearing then (true, 0)
  else if 9 ≤ n then (false, 0) else (true, n + 1)

/-- One condition of a tile: index 0 diode, 1 layer, 2 diode invalid. DEDUCED (log entry 97). -/
def tileCond (t i : Nat) (detected clearing : Bool) (reading : Int) (s : State) : State :=
  let y := getTP s t
  let (b, n) := emergStep (bit y.emerg i) detected clearing (y.clear.getD i 0)
  let s := modTP s t (fun y => { y with emerg := putBit y.emerg i b, clear := y.clear.set i n })
  if b == bit y.emerg i then s else emergEvent b (some t) (16 + i) reading s

/-- The conditions of a tile in a round. -/
def tileConds (x : HkSample) (t : Nat) (s : State) : State :=
  let ok := diodeOk x t
  let d := hkSigned x t
  let h := hottest (getTile s t).layerTemp
  let s := tileCond t 0 (ok && decide (degC 100 ≤ d)) (ok && decide (d < degC 95)) d s
  let s := tileCond t 1 (atLeast h 98) (!atLeast h 93) (sixteenths h) s
  tileCond t 2 (decide (3 ≤ (getTP s t).invalid)) ok d s

/-- One condition of the module: index 0 hearth, 1 power, 2 input voltage, 3 pin, 4 reference. DEDUCED (log entry 98). -/
def modCond (i : Nat) (detected clearing : Bool) (reading : Int) (s : State) : State :=
  let (b, n) := emergStep (bit s.power.emerg i) detected clearing (s.power.clear.getD i 0)
  let held := bit s.power.emerg i
  let s := { s with power := { s.power with emerg := putBit s.power.emerg i b, clear := s.power.clear.set i n } }
  if b == held then s else emergEvent b none (19 + i) reading s

/-- Ends a condition of the module at once. -/
def modCondEnd (i : Nat) (s : State) : State :=
  if bit s.power.emerg i then
    emergEvent false none (19 + i) 0 { s with power := { s.power with emerg := putBit s.power.emerg i false, clear := s.power.clear.set i 0 } }
  else s

/-- Input power in 100 mW above a limit in W, and above 105 % of it. -/
def overLimit (s : State) : Bool := decide (10 * limitW s < s.power.inputMw100)
def overFive (s : State) : Bool := decide (1050 * limitW s < 100 * s.power.inputMw100)

/-- The conditions of the module in a round. -/
def modConds (x : HkSample) (s : State) : State :=
  let ok := diodeOk x 24
  let d := hkSigned x 24
  let s := modCond 0 (ok && decide (degC 100 ≤ d)) (ok && decide (d < degC 95)) d s
  let low := (upto 24).all (fun t => decide ((getGroup s t 0).target ≤ floorMhz s))
  let n := if overFive s && low then s.power.overRounds + 1 else 0
  let s := { s with power := { s.power with overRounds := n } }
  let s := modCond 1 (decide (3 ≤ n)) (!overLimit s) (s.power.inputMw100 / 10) s
  let s := modCond 2 (bit x.valid 57 && decide (s.power.input10mV < 4000)) (decide (4050 ≤ s.power.input10mV)) s.power.input10mV s
  if s.power.pinThrottle then s else modCondEnd 3 s

/-! ### The governor (Table 12.5) -/

/-- Whether a tile runs in an emergency of its own or of the module. -/
def tileEmergency (s : State) (t : Nat) : Bool := (getTP s t).emerg != 0 || s.power.emerg != 0

/-- Whether a tile runs at EMERG_MHZ: from an emergency on, until a decision of a later round moves its clock (R407). -/
def runsEmergency (s : State) (t : Nat) : Bool := (upto 4).any (fun g => (getGroup s t g).emergency)

/-- The passes of a tile in a round of a MEASURE: a STOP to every active one, as an ordinary throttle step gives it in every
round (Table 7.11, R405). DESIGN CHOICE (log entry 62). -/
def calStops (t : Nat) (s : State) : State := (upto 64).foldl (fun s i => stopActive (ck t i) 1 (stopActive (ck t i) 0 s)) s

/-- Rows 2 to 7 of Table 12.5 for a tile, with its counters. In the round in which its last condition clears, the tile keeps
its clock, and row 5 acts at the next round (R407). During a MEASURE the clock goes down to the committed floor by steps of row 2, or up to
it as row 5 does, and stays there (Table 7.11). `held` lists the tiles in an emergency before the round's conditions. DEDUCED (log entries 94, 124). -/
def governTile (held : List Nat) (s : State) (t : Nat) : State :=
  let c := (getGroup s t 0).target
  let d := (getTP s t).diode
  let hot := decide (degC 90 ≤ d)
  let s :=
    if tileEmergency s t then setTileClock t (emergMhz s) true s
    else if held.contains t then s
    else if calibrating s t then calStops t (if floorMhz s < c then countTile t 44 1 (setTileClock t (max (floorMhz s) (c - 50)) false s)
      else if c < floorMhz s then setTileClock t (floorMhz s) false s else s)
    else if maxMhz s < c then countTile t 44 1 (setTileClock t (c - 50) false s)
    else if (hot || overLimit s) && decide (floorMhz s < c) then countTile t 44 1 (setTileClock t (c - 50) false s)
    else if c < floorMhz s && !hot && !overLimit s then setTileClock t (floorMhz s) false s
    else if c < maxMhz s && decide (d ≤ degC 87) && decide (s.power.inputMw100 + 1000 ≤ 10 * limitW s) then
      countTile t 45 1 (setTileClock t (c + 50) false s)
    else s
  let s := if runsEmergency s t then countTile t 46 1 s else s
  if (upto 4).any (fun g => (getGroup s t g).pstate != .off && decide ((getGroup s t g).mhz < floorMhz s)) then countTile t 47 1 s else s

/-! ### Latched shutdown (R410, Table 12.9) -/

/-- The first shutdown condition of a round: TRIP_RECORD's TEMP, SOURCE and layer. -/
def tripCond (x : HkSample) (s : State) : Option (Int × Nat × Option Nat) :=
  let ds := ((upto 24).filter (fun t => decide (degC 115 ≤ (getTP s t).diode))).map (fun t => ((getTP s t).diode, t, none))
  let h : List (Int × Nat × Option Nat) := if diodeOk x 24 && decide (degC 115 ≤ hkSigned x 24) then [(hkSigned x 24, 30, none)] else []
  let ls := (upto 24).flatMap (fun t => ((getTile s t).layerTemp.zipIdx.filter (fun p => atLeast p.1 110)).map
    (fun p => (sixteenths p.1, t, some p.2)))
  (ds ++ h ++ ls).head?

/-- TRIP_RECORD of a condition. -/
def tripWord (c : Int × Nat × Option Nat) : Word :=
  pack [(48, (BitVec.ofInt 16 c.1).toNat), (43, c.2.1), (39, c.2.2.getD 0), (38, b2n c.2.2.isSome), (35, 1)]

/-- The module with only its always-on domain left (R410, R437, R453): the log with its registers, the keeper's stores
and the governor's record stay; everything else is at reset. Test-bake logs stay (R374). -/
def alwaysOn (s : State) : State :=
  let k := s.keeper
  { State.reset with
    now := s.now, pending := s.pending, free := s.free, lastCode := s.lastCode, log := s.log
    stages := s.stages.filter (fun p => p.1 == 30)
    groups := (s.groups.filter (fun p => !p.2.misses.isEmpty || !p.2.spareMisses.isEmpty)).map (fun p =>
      (p.1, { groupInit with misses := p.2.misses, spareMisses := p.2.spareMisses }))
    power := { Power.initial with
      round := s.power.round, inputMw100 := s.power.inputMw100, input10mV := s.power.input10mV
      hearthTemp := s.power.hearthTemp, flashWindow := s.power.flashWindow, channels := s.power.channels
      pinThrottle := s.power.pinThrottle, refLost := s.power.refLost, refSince := s.power.refSince
      emerg := putBit (putBit 0 3 s.power.pinThrottle) 4 s.power.refLost }
    keeper := { Keeper.initial with slots := k.slots, verify1 := k.verify1, flash := k.flash, port := { k.port with buffer := [], next := 0 } }
    pins := s.pins }

/-- Latched shutdown: the thermal-trip output, TRIP_RECORD, and power removed from all but the always-on domain. The
hearth's counters stay readable (R459), and the enables and the explicit leases run to their own ends (R433, R436, Table 1.8). -/
def latchShutdown (c : Int × Nat × Option Nat) (s : State) : State :=
  let a := alwaysOn s
  { a with
    counters := s.counters.filter (fun p => p.1 / 2 ^ 45 == 30)
    moduleNumber := s.moduleNumber
    topo := { a.topo with leases := s.topo.leases.filter (fun l => match l.act with | .explicit _ _ _ => true | _ => false) }
    power := { a.power with shutdown := true, thermalTrip := true, trip := tripWord c }
    keeper := { a.keeper with phase := 10, starterSeq := s.keeper.starterSeq, copyB := s.keeper.copyB, enables := s.keeper.enables } }

/-! ### Laser bias (R404) -/

/-- The bias sample of an engine in a round: above 90 % of the limit in three samples in a row, the laser counts as
failed. INDEX 16 is the transmit spare and 17 the receive spare. DESIGN CHOICE (log entry 130). -/
def biasSample (x : HkSample) (n : Nat) (s : State) (e : Nat) : State :=
  let i := n % 18
  let high := bit x.valid (25 + e) && decide (9 * Config.biasLimit e < 10 * hkVal x (25 + e))
  let k := if high then min 3 (tget 0 s.power.bias (18 * e + i) + 1) else 0
  let was := tget 0 s.power.bias (18 * e + i)
  let s := { s with power := { s.power with bias := tset 0 s.power.bias (18 * e + i) k } }
  if k != 3 || was == 3 then s
  else if i < 16 then laserFailureOp e i s
  else if i = 16 then spareFailure e s
  else rxSpareFailure e s

/-! ### The reference (R395) -/

/-- REFERENCE_LOST: no edge for 10 µs, or a measured frequency (in 10 kHz) outside 99–101 MHz. DEDUCED (log entry 101). -/
def referenceLostOp (freq : Nat) (s : State) : State :=
  if !s.pins.powered || s.power.refLost || s.power.shutdown then s else
  let s := { s with power := { s.power with refLost := true, refSince := s.now } }
  let s := raise (mkEv 0x0904 clsFault 0 7 30 0 evW2 (BitVec.ofNat 64 (min freq (2 ^ 32 - 1)))) s
  let s := modCond 4 true false 0 s
  if mainOn s then (upto 24).foldl (fun s t => setTileClock t (emergMhz s) true s) s else s

/-- What a round's count of the reference finds (channel 63): a frequency outside 99–101 MHz loses the reference, or shows that it is not
back yet. -/
def referenceRound (x : HkSample) (s : State) : State :=
  let f := hkVal x 63
  if !bit x.valid 63 || (9900 ≤ f && f ≤ 10100) then s
  else if s.power.refLost then { s with power := { s.power with refSince := s.now } }
  else referenceLostOp f s

/-- The relock of a group's PLL, if it runs: the group's clock stops for at most 4 µs, which is a free value. DESIGN CHOICE (log entry 101). -/
def relockGroup (s : State) (i : Nat) : State :=
  let x := getGroup s (i / 4) (i % 4)
  if x.pstate != .run && x.pstate != .idle then s
  else let (w, s) := freeWord s; { s with now := s.now + w.toNat % 4001 }

/-- The reference has been back for 10 ms: the PLLs relock one group at a time, and the emergency clears. -/
def referenceBack (s : State) : State :=
  if !s.power.refLost then s else
  let s := { s with now := max s.now (s.power.refSince + 10000000), power := { s.power with refLost := false } }
  modCondEnd 4 ((upto 96).foldl relockGroup s)

/-! ### The round (R400, Table 12.4) -/

/-- The channels as a round leaves them. DEDUCED (log entry 96). -/
def takeChannels (x : HkSample) (n : Nat) (s : State) : State :=
  let ch : Tab HkChan := (upto 64).map (fun i => (i, ⟨BitVec.ofNat 16 (hkVal x i), n % 65536, if 25 ≤ i ∧ i < 45 then n % 18 else 0,
    if i < 25 then diodeOk x i else bit x.valid i⟩))
  { s with power := { s.power with
    channels := ch, round := n, inputMw100 := hkVal x 58, input10mV := hkVal x 57
    hearthTemp := if diodeOk x 24 then hkSigned x 24 else s.power.hearthTemp
    flashWindow := diodeOk x 24 && decide (degC 5 ≤ hkSigned x 24) && decide (hkSigned x 24 ≤ degC 85)
    inForce := s.power.govCtrl } }

/-- HOUSEKEEPING_ROUND on the samples of one round. In latched shutdown only the samples are taken; while the tiles are off, the thermal
model, the conditions and the shutdown test run, which belong to the always-on domain (Tables 1.7 and 13.8). -/
def housekeepingOp (x : HkSample) (s : State) : State :=
  if !s.pins.powered || s.keeper.phase == 0 then s else
  let n := s.now / 1000000 + 1
  let s := referenceRound x (takeChannels x n { s with now := n * 1000000 })
  if s.power.shutdown then s else
  let s := (upto 24).foldl activityTaken ((upto 24).foldl (tileSample x ((upto 24).map (tileEstimate s))) s)
  match tripCond x s with
  | some c => latchShutdown c s
  | none =>
    let s := if mainOn s then (upto 24).foldl (fun s t => holdRule t (refreshRule t s)) s else s
    let held := (upto 24).filter (fun t => tileEmergency s t)
    let s := modConds x ((upto 24).foldl (fun s t => tileConds x t s) s)
    if !mainOn s then s else
    let s := (upto 20).foldl (biasSample x n) s
    (upto 24).foldl (governTile held) s

/-! ### Pins and references -/

/-- EMERG_THROTTLE_ASSERT (Table 12.7): every group of every tile runs at EMERG_MHZ. Without input power and in latched shutdown only the
level of the input is kept (Table 15.8). -/
def emergAssertOp (s : State) : State :=
  let s := { s with power := { s.power with pinThrottle := true } }
  if !s.pins.powered || s.power.shutdown then s else
  let s := modCond 3 true false 0 s
  if mainOn s then (upto 24).foldl (fun s t => setTileClock t (emergMhz s) true s) s else s

/-- EMERG_THROTTLE_DEASSERT: the condition ends at the next round. -/
def emergDeassertOp (s : State) : State := { s with power := { s.power with pinThrottle := false } }

/-! ### GOV_CTRL and STATE_CTRL (R409, R414) -/

/-- Whether a clock field is a multiple of 50 MHz within 500–1,000 MHz. -/
def mhzOk (n : Nat) : Bool := n % 50 == 0 && decide (500 ≤ n) && decide (n ≤ 1000)

/-- GOV_CTRL_WRITE: of the two refusals CONFLICT comes first (R21, R251, R409). -/
def govCtrlWriteOp (rq : Requester) (v : Word) (s : State) : State :=
  withExpert rq 7 s fun s =>
    let mx := fld v 31 22
    let fl := fld v 21 12
    let em := fld v 11 2
    if fl < fld s.power.govCtrl 21 12 && floorConflict s fl then ends .conflict s
    else if !(mhzOk mx && mhzOk fl && mhzOk em) || decide (fl < em) || decide (mx < fl) || decide (fld v 63 48 < 600) ||
       decide (2400 < fld v 63 48) then ends .rejected s
    else ends .ok { s with power := { s.power with govCtrl := v &&& 0xFFFF0000FFFFFFFC } }

/-- A write of STATE_CTRL: the reserved values end with REJECTED (R17). -/
def stateCtrlWrite (rq : Requester) (t : Nat) (v : Word) (s : State) : State :=
  withExpert rq 7 s fun s =>
    if fld v 31 16 < 100 || fld v 15 0 = 0 then ends .rejected s
    else ends .ok (modTP s t (fun x => { x with stateCtrl := v &&& 0xFFFFFFFF }))

end Sys2Proof.Machine
end

