-- ==== Sys2Proof/Machine/Regions.lean ====
section
/-! DEFINITION. Regions: the region commands of a tile (R309, R310, R326, Table 9.8), the bounds on a request's wait at
its target (R68, R172, row 10 of Table 9.7), and a write of AMAX_CFG (R150). -/

namespace Sys2Proof.Machine

/-! ### Region commands (Table 9.8) -/

/-- OP, INDEX and CMD_TAG of a staged region command. -/
def rgOp (d : CmdDesc) : Nat := fld d.w0 63 56
def rgIndex (d : CmdDesc) : Nat := fld d.w0 55 42
def rgTag (d : CmdDesc) : Nat := fld d.w0 15 0

/-- The end of a region command: TAG, CODE and SEQ of REGION_CMD_STATUS. -/
def regionDone (t tag : Nat) (c : Code) (s : State) : State :=
  modPort s t (fun p => { p with regTag := BitVec.ofNat 16 tag, regCode := c, regSeq := p.regSeq + 1 })

/-- Whether a reserved field of the words of an OPEN or IMPORT is nonzero. -/
def rgReserved (d : CmdDesc) (isImport : Bool) : Bool :=
  fld d.w0 41 16 != 0 || fld d.w1 55 38 != 0 || fld d.w2 14 0 != 0 ||
  (if isImport then fld d.w3 30 0 != 0 else d.w3 != 0)

/-- The slice frames that lie in the range of an entry of a tile: the keys of all of them. -/
def rgFrames (t : Nat) (w0 w1 : Word) : List Nat :=
  if bit w0 57 || regLines w1 = 0 then [] else
  let first := regBase w1 / 512
  let last := (regBase w1 + regLines w1 - 1) / 512
  (upto (last + 1 - first)).map (fun i => fkey (ck t (fld w0 37 32)) (first + i))

/-- Whether every frame of a list is allocated. -/
def rgAllocated (s : State) (ks : List Nat) : Bool := ks.all (fun k => s.frames.any (fun p => p.1 == k))

/-- OPEN's conditions of REJECTED. -/
def openBad (s : State) (t : Nat) (d : CmdDesc) : Bool :=
  bit (tget (0, 0) (getPort s t).regions (rgIndex d)).1 63 || fld d.w1 31 0 == 0 || regLines d.w2 == 0 ||
  decide ((if bit d.w1 57 then 49152 else 16777216) < regBase d.w2 + regLines d.w2) ||
  rgReserved d false || !rgAllocated s (rgFrames t d.w1 d.w2)

/-- Marks frames as exported. DESIGN CHOICE (log entry 50). -/
def exportFrames (ks : List Nat) (s : State) : State :=
  { s with frames := s.frames.map (fun p => if ks.contains p.1 then (p.1, { p.2 with exported := true }) else p) }

/-- Whether an entry of this module's page tables names the frame of a reverse-map entry. -/
def frameNamed (s : State) (k : Nat) (f : Frame) : Bool :=
  let big := f.head || f.tail
  let p := getPte s (pkey f.space (if big then f.vpn / 32 * 32 else f.vpn) big)
  (p.ty == .page || p.ty == .large || p.ty == .moving || p.ty == .filling) && p.module == s.myModule &&
  ck p.tile p.core == k / 32768 && decide (p.frame ≤ k % 32768) && decide (k % 32768 < p.frame + (if big then 32 else 1))

/-- Clears EXPORTED on the frames of a closed region that no other open region of the tile covers; one that no page or
shard uses any more is then free (R310, R196). DESIGN CHOICE (log entry 50). -/
def unexportFrames (t : Nat) (ks : List Nat) (s : State) : State :=
  let others := (getPort s t).regions.flatMap (fun e => if bit e.2.1 63 then rgFrames t e.2.1 e.2.2 else [])
  let ks := ks.filter (fun k => !others.contains k)
  let l := s.frames.map (fun (p : Nat × Frame) => if ks.contains p.1 then (p.1, { p.2 with exported := false }) else p)
  { s with frames := l.filter (fun p => !ks.contains p.1 || p.2.shard || p.2.table || frameNamed s p.1 p.2) }

/-- A region command with its words (Table 9.8, R309, R326): an entry of OWNER 1 gives CONFLICT. DEDUCED (log entry 52). DESIGN CHOICE (log entry 53). -/
def regionRun (t : Nat) (d : CmdDesc) (s : State) : State :=
  let p := getPort s t
  let e := tget ((0 : Word), (0 : Word)) p.regions (rgIndex d)
  let im := tget ((0 : Word), (0 : Word), (0 : Word)) p.imports (rgIndex d)
  let fin (c : Code) (s : State) : State := regionDone t (rgTag d) c s
  match rgOp d with
  | 1 =>
    if (bit e.1 63 && bit e.1 56) || bit d.w1 56 then fin .conflict s
    else if openBad s t d then fin .rejected s
    else
      let w0 := setFld (setFld d.w1 63 63 1) 62 62 0
      fin .ok (exportFrames (rgFrames t d.w1 d.w2)
        (modPort s t (fun p => { p with regions := tput p.regions (rgIndex d) (w0, d.w2) })))
  | 2 =>
    if !bit e.1 63 then fin .rejected s
    else if bit e.1 56 then fin .conflict s
    else modPort s t (fun p => { p with
      regions := tput p.regions (rgIndex d) (setFld e.1 62 62 1, e.2)
      regionQueue := p.regionQueue ++ [⟨rgTag d, d, s.now + 100000⟩] })
  | 3 =>
    if (bit im.1 63 && bit im.1 56) || bit d.w1 56 then fin .conflict s
    else if 1024 ≤ rgIndex d || bit im.1 63 || rgReserved d true then fin .rejected s
    else fin .ok (modPort s t (fun p => { p with imports := tput p.imports (rgIndex d) (setFld d.w1 63 63 1, d.w2, d.w3) }))
  | 4 =>
    if 1024 ≤ rgIndex d then fin .rejected s
    else if bit im.1 63 && bit im.1 56 then fin .conflict s
    else fin .ok (modPort s t (fun p => { p with imports := tdel p.imports (rgIndex d) }))
  | _ => fin .rejected s

/-- Whether an OPEN must wait: the residency manager is moving or freeing a frame of its range, and never moves an exported one
(R196). DEDUCED (log entry 52). -/
def openWaits (s : State) (t : Nat) (d : CmdDesc) : Bool :=
  rgOp d == 1 && (rgFrames t d.w1 d.w2).any (fun k =>
    s.res.any (fun r => r.2.rounds.any (fun q => q.frees.contains k)) ||
    (match s.frames.find? (fun p => p.1 == k) with
     | some p => frameNamed s k p.2 && (getPte s (pkey p.2.space (if p.2.head || p.2.tail then p.2.vpn / 32 * 32 else p.2.vpn) (p.2.head || p.2.tail))).ty == .moving
     | none => false))

/-- The first command of a tile's queue that has not begun. -/
def regionNext (s : State) (t : Nat) : Option RegionCmd := (getPort s t).regionQueue.find? (fun c => c.closeAt == 0)

/-- Runs the region commands of a tile's queue that have not begun, in order, as far as they go. -/
def regionPump (t : Nat) : Nat → State → State
  | 0, s => s
  | fuel + 1, s =>
    match regionNext s t with
    | none => s
    | some c =>
      if openWaits s t c.desc then s
      else regionPump t fuel (regionRun t c.desc (modPort s t (fun p => { p with regionQueue := p.regionQueue.erase c })))

/-- A submission of a region command (R326): expert level of FABRIC, and at most 16 commands in the queue. DEDUCED (log entry 52). -/
def regionSubmit (rq : Requester) (t : Nat) (d : CmdDesc) (s : State) : State :=
  withExpert rq 4 s (fun s =>
    if 16 ≤ (getPort s t).regionQueue.length then ends .retryLater s
    else if openWaits s t d || (regionNext s t).isSome then
      ends .ok (modPort s t (fun p => { p with regionQueue := p.regionQueue ++ [⟨rgTag d, d, 0⟩] }))
    else ends .ok (regionRun t d s))

/-- A region command of a row: its OP is the row's. -/
def regionRow (op : Nat) (rq : Requester) (t : Nat) (d : CmdDesc) (s : State) : State :=
  regionSubmit rq t { d with w0 := setFld d.w0 63 56 op } s

/-- REGION_CLOSE_COMPLETE (R310): 100 µs after the CLOSE at the latest, what still waits on the region ends, each as row 10 of Table 9.7
does. DEDUCED (log entry 52). -/
def regionCloseCompleteOp (t r : Nat) (s : State) : State :=
  let l := (getPort s t).regionQueue.filter (fun c => rgIndex c.desc == r && c.closeAt != 0)
  match l with
  | [] => s
  | c :: _ =>
    let s := { s with now := max s.now c.closeAt }
    let e := tget ((0 : Word), (0 : Word)) (getPort s t).regions r
    let mine (w : TargetWait) : Bool := pSrcModule w.pkt != s.myModule && !isDirect w.pkt && fld w.pkt.w4 31 18 == r
    let gone := (getPort s t).waits.filter mine
    let s := modPort s t (fun p => { p with
      regions := tdel p.regions r
      regionQueue := p.regionQueue.filter (fun c => rgIndex c.desc != r || c.closeAt == 0)
      waits := p.waits.filter (fun w => !mine w) })
    let s := countTile t 30 gone.length (gone.foldl (fun s w => homeRefuse t w.pkt .retryLater s) s)
    l.foldl (fun s c => regionDone t c.tag .ok s) (unexportFrames t (rgFrames t e.1 e.2) s)

/-! ### Bounds on a wait at the target -/

/-- Ends the first waiting request of a tile that satisfies a predicate, at `d` ns after it began to wait, in total or for the
reason for which it waits. DEDUCED (log entry 121). -/
def waitTimeout (t d : Nat) (f : TargetWait → Bool) (s : State) : Option State :=
  ((getPort s t).waits.find? f).map (fun w =>
    let s := { s with now := max s.now ((if d = 100000 then w.since else w.whySince) + d) }
    homeRefuse t w.pkt .retryLater (countTile t 30 1 (modPort s t (fun x => { x with waits := x.waits.erase w }))))

/-- TARGET_WAIT_TIMEOUT (row 10 of Table 9.7): 100 µs in total at the target. -/
def targetWaitTimeoutOp (t : Nat) (s : State) : State := (waitTimeout t 100000 (fun _ => true) s).getD s

/-- HELD_WRITE_TIMEOUT (R172, Table 5.7): 32 µs for a place among the held writes of a slice. -/
def heldWriteTimeoutOp (key : Nat) (s : State) : State :=
  (waitTimeout (key / 64) 32000 (fun w => w.why == 1 && gCore (fld w.pkt.w3 49 0) == key % 64) s).getD s

/-- The remote half of LOCK_WAIT_TIMEOUT (R68): 32 µs for a lock of the bench of a core. -/
def remoteLockTimeout (key : Nat) (s : State) : Option State :=
  waitTimeout (key / 64) 32000 (fun w => w.why == 2 && gCore (fld w.pkt.w3 49 0) == key % 64) s

/-! ### AMAX_CFG (R150, Table 4.7) -/

/-- The RW fields of AMAX_CFG hold no reserved encoding (R17). -/
def amaxCfgOk (v : Word) : Bool :=
  let f := fld v 23 20
  (f == 3 || f == 4 || f == 5) && fld v 19 12 != 0 && decide (fld v 7 3 ≤ 24)

/-- A write of AMAX_CFG: held while the core runs a kernel, else applied. -/
def amaxCfgWriteOp (key tr : Nat) (v : Word) (s : State) : State :=
  if !amaxCfgOk v then ends .rejected s else
  ends .ok (modCore s key (fun c =>
    let t := getTracker c tr
    putTracker c tr (if c.kernel.isSome then { t with held := some v } else { cfgApply v t with held := none })))

end Sys2Proof.Machine
end

