-- ==== Sys2Proof/Machine/Crypto.lean ====
section
/-! DEFINITION. Crypto: the algorithms that chapter 13 takes from FIPS 180-4 (SHA-256, SHA-384), FIPS 198-1 (HMAC),
RFC 5869 (HKDF) and FIPS 186-5 (ECDSA over P-384). -/

namespace Sys2Proof.Machine

/-! ### SHA-2 (FIPS 180-4) -/

/-- Round constants 0–23 of SHA-384 (FIPS 180-4), 64 bits each, the first in the highest bits. -/
def shaK0 : Nat :=
  0x428a2f98d728ae227137449123ef65cdb5c0fbcfec4d3b2fe9b5dba58189dbbc3956c25bf348b53859f111f1b605d019923f82a4af194f9bab1c5ed5da6d8118d807aa98a303024212835b0145706fbe243185be4ee4b28c550c7dc3d5ffb4e272be5d74f27b896f80deb1fe3b1696b19bdc06a725c71235c19bf174cf692694e49b69c19ef14ad2efbe4786384f25e30fc19dc68b8cd5b5240ca1cc77ac9c652de92c6f592b02754a7484aa6ea6e4835cb0a9dcbd41fbd476f988da831153b5

/-- Round constants 24–41 of SHA-384 (FIPS 180-4), 64 bits each, the first in the highest bits. -/
def shaK1 : Nat :=
  0x983e5152ee66dfaba831c66d2db43210b00327c898fb213fbf597fc7beef0ee4c6e00bf33da88fc2d5a79147930aa72506ca6351e003826f142929670a0e6e7027b70a8546d22ffc2e1b21385c26c9264d2c6dfc5ac42aed53380d139d95b3df650a73548baf63de766a0abb3c77b2a881c2c92e47edaee692722c851482353ba2bfe8a14cf10364a81a664bbc423001

/-- Round constants 42–59 of SHA-384 (FIPS 180-4), 64 bits each, the first in the highest bits. -/
def shaK2 : Nat :=
  0xc24b8b70d0f89791c76c51a30654be30d192e819d6ef5218d69906245565a910f40e35855771202a106aa07032bbd1b819a4c116b8d2d0c81e376c085141ab532748774cdf8eeb9934b0bcb5e19b48a8391c0cb3c5c95a634ed8aa4ae3418acb5b9cca4f7763e373682e6ff3d6b2b8a3748f82ee5defb2fc78a5636f43172f6084c87814a1f0ab728cc702081a6439ec

/-- Round constants 60–79 of SHA-384 (FIPS 180-4), 64 bits each, the first in the highest bits. -/
def shaK3 : Nat :=
  0x90befffa23631e28a4506cebde82bde9bef9a3f7b2c67915c67178f2e372532bca273eceea26619cd186b8c721c0c207eada7dd6cde0eb1ef57d4f7fee6ed17806f067aa72176fba0a637dc5a2c898a6113f9804bef90dae1b710b35131c471b28db77f523047d8432caab7b40c724933c9ebe0a15c9bebc431d67c49c100d4c4cc5d4becb3e42b6597f299cfc657e2a5fcb6fab3ad6faec6c44198c4a475817

/-- Round constant i of SHA-384. -/
def shaConst (i : Nat) : Nat :=
  let at_ (k n : Nat) (j : Nat) : Nat := k >>> (64 * (n - 1 - j)) % 2 ^ 64
  if i < 24 then at_ shaK0 24 (i - 0)
  else if i < 42 then at_ shaK1 18 (i - 24)
  else if i < 60 then at_ shaK2 18 (i - 42)
  else at_ shaK3 20 (i - 60)

/-- The numbers in which SHA-256 (w = 32) and SHA-384 (w = 64) differ: rotations and shifts of the six functions, and
the rounds. -/
structure ShaKind (w : Nat) where
  big0 : Nat × Nat × Nat
  big1 : Nat × Nat × Nat
  small0 : Nat × Nat × Nat
  small1 : Nat × Nat × Nat
  rounds : Nat
  const : Nat → BitVec w
  start : List (BitVec w)

/-- Σ: the exclusive or of three rotations. -/
def shaBig {w : Nat} (r : Nat × Nat × Nat) (x : BitVec w) : BitVec w :=
  x.rotateRight r.1 ^^^ x.rotateRight r.2.1 ^^^ x.rotateRight r.2.2

/-- σ: two rotations and a shift. -/
def shaSmall {w : Nat} (r : Nat × Nat × Nat) (x : BitVec w) : BitVec w :=
  x.rotateRight r.1 ^^^ x.rotateRight r.2.1 ^^^ (x >>> r.2.2)

/-- The message schedule, latest word first. -/
def shaSchedule {w : Nat} (k : ShaKind w) : Nat → List (BitVec w) → List (BitVec w)
  | 0, l => l
  | n + 1, l => shaSchedule k n
      ((shaSmall k.small1 (l.getD 1 0) + l.getD 6 0 + shaSmall k.small0 (l.getD 14 0) + l.getD 15 0) :: l)

/-- One round on the working variables a to h. -/
def shaRound {w : Nat} (k : ShaKind w) (v : List (BitVec w)) (x : BitVec w × Nat) : List (BitVec w) :=
  match v with
  | [a, b, c, d, e, f, g, h] =>
    let t1 := h + shaBig k.big1 e + ((e &&& f) ^^^ (~~~e &&& g)) + k.const x.2 + x.1
    let t2 := shaBig k.big0 a + ((a &&& b) ^^^ (a &&& c) ^^^ (b &&& c))
    [t1 + t2, a, b, c, d + t1, e, f, g]
  | l => l

/-- One block of 16 words. -/
def shaBlock {w : Nat} (k : ShaKind w) (v : List (BitVec w)) (block : List (BitVec w)) : List (BitVec w) :=
  let sched := (shaSchedule k (k.rounds - 16) block.reverse).reverse
  let out := sched.zipIdx.foldl (shaRound k) v
  (v.zip out).map (fun p => p.1 + p.2)

/-- The number of an MSB-first byte list. -/
def beNat (l : List Byte) : Nat := l.foldl (fun a b => 256 * a + b.toNat) 0

/-- The n big-endian bytes of a number. -/
def beBytes (n v : Nat) : List Byte := (leBytes n v).reverse

/-- Runs of n elements. -/
def chunks {α : Type} (n : Nat) : Nat → List α → List (List α)
  | 0, _ => []
  | fuel + 1, l => if l.isEmpty then [] else l.take n :: chunks n fuel (l.drop n)

/-- The padded message: a one bit, zeros, and the length in bits in the last 2 words of 16. -/
def shaPad (wordBytes : Nat) (m : List Byte) : List Byte :=
  let block := 16 * wordBytes
  let used := m.length + 1 + 2 * wordBytes
  m ++ [0x80] ++ List.replicate ((block - used % block) % block) 0 ++ beBytes (2 * wordBytes) (8 * m.length)

/-- The final hash words of a message. -/
def shaRun {w : Nat} (k : ShaKind w) (m : List Byte) : List (BitVec w) :=
  let p := shaPad (w / 8) m
  (chunks (2 * w) (p.length) p).foldl (fun v b =>
    shaBlock k v ((chunks (w / 8) 16 b).map (fun x => BitVec.ofNat w (beNat x)))) k.start

/-- SHA-256. -/
def sha256Kind : ShaKind 32 where
  big0 := (2, 13, 22)
  big1 := (6, 11, 25)
  small0 := (7, 18, 3)
  small1 := (17, 19, 10)
  rounds := 64
  const i := BitVec.ofNat 32 (shaConst i / 2 ^ 32)
  start := [0x6a09e667, 0xbb67ae85, 0x3c6ef372, 0xa54ff53a, 0x510e527f, 0x9b05688c, 0x1f83d9ab, 0x5be0cd19]

/-- SHA-384. -/
def sha384Kind : ShaKind 64 where
  big0 := (28, 34, 39)
  big1 := (14, 18, 41)
  small0 := (1, 8, 7)
  small1 := (19, 61, 6)
  rounds := 80
  const i := BitVec.ofNat 64 (shaConst i)
  start := [0xcbbb9d5dc1059ed8, 0x629a292a367cd507, 0x9159015a3070dd17, 0x152fecd8f70e5939, 0x67332667ffc00b31,
    0x8eb44a8768581511, 0xdb0c2e0d64f98fa7, 0x47b5481dbefa4fa4]

/-- The SHA-256 digest, 32 bytes. -/
def sha256 (m : List Byte) : List Byte := (shaRun sha256Kind m).flatMap (fun x => beBytes 4 x.toNat)

/-- The SHA-384 digest, 48 bytes. -/
def sha384 (m : List Byte) : List Byte := ((shaRun sha384Kind m).take 6).flatMap (fun x => beBytes 8 x.toNat)

/-! ### HMAC and HKDF -/

/-- HMAC-SHA-256 with a key of at most 64 bytes (FIPS 198-1). -/
def hmac256 (key m : List Byte) : List Byte :=
  let k := key ++ List.replicate (64 - key.length) 0
  sha256 (k.map (· ^^^ 0x5C) ++ sha256 (k.map (· ^^^ 0x36) ++ m))

/-- The 32-byte output of HKDF with SHA-256 (RFC 5869). -/
def hkdf256 (ikm salt info : List Byte) : List Byte := hmac256 (hmac256 salt ikm) (info ++ [1])

/-! ### ECDSA over P-384 (FIPS 186-5) -/

/-- The prime of P-384. -/
def ecP : Nat := 2 ^ 384 - 2 ^ 128 - 2 ^ 96 + 2 ^ 32 - 1
/-- The order of its base point. -/
def ecN : Nat := 0xffffffffffffffffffffffffffffffffffffffffffffffffc7634d81f4372ddf581a0db248b0a77aecec196accc52973
/-- The coefficient b of its curve. -/
def ecB : Nat := 0xb3312fa7e23ee7e4988e056be3f82d19181d9c6efe8141120314088f5013875ac656398d8a2ed19d2a85c8edd3ec2aef
/-- Its base point. -/
def ecG : Nat × Nat :=
  (0xaa87ca22be8b05378eb1c71ef320ad746e1d3b628ba79b9859f741e082542a385502f25dbf55296c3a545e3872760ab7,
   0x3617de4a96262c6f5d9e98bf9292dc29f8f41dbd289a147ce9da3113b5f0b8c00a60b1ce1d7e819d7a431d7c90ea0e5f)

/-- b ^ e modulo m, over the low n digits of six bits of e. -/
def powMod (m : Nat) : Nat → Nat → Nat → Nat
  | 0, _, _ => 1
  | n + 1, b, e => b ^ (e % 64) * powMod m n (b ^ 64 % m) (e / 64) % m

/-- The inverse modulo a prime of 384 bits. -/
def invMod (m a : Nat) : Nat := powMod m 64 (a % m) (m - 2)

/-- The double of a point in Jacobian coordinates: (x, y, z) stands for the pair x ÷ z², y ÷ z³ modulo the prime, and z = 0 for
the point at infinity. -/
def ecDouble (p : Nat × Nat × Nat) : Nat × Nat × Nat :=
  match p with
  | (x, y, z) =>
    let d := z * z % ecP
    let g := y * y % ecP
    let b := x * g % ecP
    let a := 3 * (x + (ecP - d)) * (x + d) % ecP
    let x3 := (a * a + 8 * (ecP - b)) % ecP
    (x3, (a * (4 * b + (ecP - x3)) + 8 * (ecP - g * g % ecP)) % ecP, 2 * y * z % ecP)

/-- The sum of two points. -/
def ecAdd (p q : Nat × Nat × Nat) : Nat × Nat × Nat :=
  match p, q with
  | (x1, y1, z1), (x2, y2, z2) =>
    if z1 = 0 then q
    else if z2 = 0 then p
    else
      let u := x1 * (z2 * z2) % ecP
      let s := y1 * (z2 * z2 * z2) % ecP
      let h := (x2 * (z1 * z1) + (ecP - u)) % ecP
      let r := (y2 * (z1 * z1 * z1) + (ecP - s)) % ecP
      if h = 0 then (if r = 0 then ecDouble p else (1, 1, 0))
      else
        let c := ecP - h * h * h % ecP
        let v := u * (h * h) % ecP
        let x := (r * r + c + 2 * (ecP - v)) % ecP
        (x, (r * (v + (ecP - x)) + s * c) % ecP, h * z1 * z2 % ecP)

/-- The multiple of a point by the low n bits of k. -/
def ecMul : Nat → Nat → Nat × Nat × Nat → Nat × Nat × Nat
  | 0, _, _ => (1, 1, 0)
  | n + 1, k, p => ecAdd (if k % 2 = 1 then p else (1, 1, 0)) (ecMul n (k / 2) (ecDouble p))

/-- Whether a pair is a point of the curve. -/
def ecOn (q : Nat × Nat) : Bool :=
  decide (q.1 < ecP) && decide (q.2 < ecP) &&
  q.2 * q.2 % ecP == (q.1 * q.1 * q.1 + (ecP - 3) * q.1 + ecB) % ecP

/-- Whether a signature (r then s, 96 bytes) by a public key (X then Y, 96 bytes) over a message verifies. -/
def ecdsaVerify (key sig m : List Byte) : Bool :=
  let q := (beNat (key.take 48), beNat (key.drop 48))
  let r := beNat (sig.take 48)
  let s := beNat (sig.drop 48)
  if key.length != 96 || sig.length != 96 || !ecOn q || r == 0 || s == 0 || decide (ecN ≤ r) || decide (ecN ≤ s) then false
  else
    let w := invMod ecN s
    let e := beNat (sha384 m)
    match ecAdd (ecMul 384 (e * w % ecN) (ecG.1, ecG.2, 1)) (ecMul 384 (r * w % ecN) (q.1, q.2, 1)) with
    | (x, _, z) => z != 0 && x * invMod ecP (z * z) % ecP % ecN == r

end Sys2Proof.Machine
end

