-- ==== Sys2Proof/Machine/RegTile.lean ====
section
/-! DEFINITION. RegTile: reads of the registers of core control space and tile control space (Table 1.6). A function
answers none for an offset of no block (R18), and zero for an offset of a block that names no register (R36). -/

namespace Sys2Proof.Machine

/-- A statistics counter as its register shows it (R457). -/
def counterWord (x : Counter) : Word := pack [(63, b2n x.overflow), (0, x.value.toNat)]

/-- The low n bits of an integer. -/
def lowBits (n : Nat) (v : Int) : Nat := (v % (2 ^ n : Nat)).toNat

/-- Bits 5:0 as four edges with the first edge in the highest place. -/
def edgeBits (m : BitVec 4) : Nat := ((upto 4).map (fun i => b2n (bit m i) <<< (3 - i))).sum

/-- The low eight bits of a code's number. -/
def codeField (c : Code) : Nat := codeNum c

/-- The words of a table of 64-bit words at a byte offset: zero off a word or beyond the table. -/
def wordAt (l : List Word) (off : Nat) : Word := if off % 8 = 0 then (l[off / 8]?).getD 0 else 0

/-- Whether a core of a running group is Idle (R98, R396): no kernel, or one that WAITWAKE blocks with no work of any class
outstanding. -/
def coreIdle (c : Core) : Bool :=
  match c.kernel with
  | none => true
  | some k => (match k.blocked with | some (.waitwake _ _) => true | _ => false) && (upto 6).all (fun i => (getCls k i).live.isEmpty)

/-- STATE of CORE_STATUS: Off, Sleep, Nap, Idle or Run. -/
def coreStateNum (s : State) (key : Nat) : Nat :=
  let g := getGroup s (key / 64) (groupOf key)
  if g.pstate == .off || bit g.off (posOf s key) then 4
  else match g.pstate with
    | .sleep => 3
    | .nap => 2
    | _ => if coreIdle (getCore s key) then 1 else 0

/-- PREEMPT_PENDING: PREEMPT_REQ is set and no yield point has met R108. -/
def preemptPending (c : Core) : Bool :=
  c.preemptReq && !c.kernel.any (fun k => match k.phase with | .saving _ => true | _ => false)

/-- CORE_STATUS. -/
def coreStatus (s : State) (key : Nat) : Word :=
  let c := getCore s key
  let st := match c.kernel with | some k => k.stream | none => c.lastStream
  pack [(32, st % 65536), (7, b2n (c.kernel.any (fun k => k.phase == .halted))),
    (6, b2n ((allPasses c).any (fun e => e.stage == .saved))), (5, b2n (preemptPending c)),
    (4, b2n (c.kernel.any (fun k => k.blocked.isSome))), (3, b2n c.kernel.isSome), (0, coreStateNum s key)]

/-- PASS_QUEUE_STATUS without its stall bits. -/
def passQueueStatus (c : Core) : Word :=
  let f (a : Nat) : Nat :=
    let x := getArray c a
    let has (p : PassStage) : Nat := b2n (x.queue.any (fun e => e.stage == p))
    b2n x.out <<< 15 + has .saved <<< 14 + has .draining <<< 13 + has .active <<< 12 + x.queue.length % 8
  pack [(16, f 1), (0, f 0)]

/-- AMAX_STATE of a tracker. -/
def amaxState (t : Tracker) : Word :=
  pack [(32, t.pendingAmax.toNat), (31, b2n t.tripped), (30, b2n t.tripUnder), (29, b2n t.pending),
    (28, b2n t.widePending), (27, b2n t.deferred), (26, b2n t.held.isSome), (16, t.hist.length % 32), (0, t.commitSeq.toNat)]

/-- The tracker that a requester's AMAX_HIST_SEL selects (R150). -/
def histTracker (c : Core) (rq : Requester) : Tracker := getTracker c (aget 0 c.histSel rq)

/-- The amax tracker block (offsets 0x6000–0x7FFF). -/
def trackerReg (c : Core) (rq : Requester) (off : Nat) : Word :=
  let t := histTracker c rq
  if off % 8 != 0 then 0
  else if off < 0x7000 then
    let x := getTracker c ((off - 0x6000) / 16)
    if off % 16 = 0 then x.cfg else amaxState x
  else if off = 0x7000 then BitVec.ofNat 64 (aget 0 c.histSel rq)
  else if off < 0x7048 then
    let n := (off - 0x7008) / 8
    pack [(32, ((t.hist[2 * n + 1]?).getD 0).toNat), (0, ((t.hist[2 * n]?).getD 0).toNat)]
  else if off = 0x7048 then pack [(32, t.satPending), (0, t.convPending)]
  else if off = 0x7050 then t.satRows
  else if off = 0x7100 then c.arithCtl
  else 0

/-- The pass queue block (offsets 0x8000–0x9FFF). -/
def passReg (c : Core) (off : Nat) : Word :=
  match off with
  | 0x8080 => passQueueStatus c
  | 0x8088 => pack [(48, c.complTag.toNat), (40, codeField c.complCode), (39, c.complArray), (0, c.complSeq.toNat)]
  | 0x8090 => pack [(1, b2n (!(getArray c 1).out)), (0, b2n (!(getArray c 0).out))]
  | 0x8098 => c.residueLog
  | _ => 0

/-- A register of core control space. DESIGN CHOICE (log entry 36). -/
def coreReg (rq : Requester) (s : State) (key off : Nat) : Option Word :=
  let c := getCore s key
  if off < 0x1000 then
    some (match off with
      | 0 => coreStatus s key
      | 8 => BitVec.ofNat 64 (match c.kernel with | some k => k.pc % 2 ^ 20 / 8 * 8 | none => 0)
      | 0x10 => c.trap
      | 0x18 => match c.kernel with | some k => k.image.kernelId | none => c.lastKernel
      | _ => 0)
  else if off < 0x5000 then
    some (if off % 4 = 0 then BitVec.ofNat 64 (tget scaleInit c.scale ((off - 0x1000) / 4)).toNat else 0)
  else if off < 0x6000 then none
  else if off < 0x8000 then some (trackerReg c rq off)
  else if off < 0xA000 then some (passReg c off)
  else if off < 0xC000 then some (counterWord (getCounter s (gpaKey (key / 64) (key % 64) 2 off)))
  else none

/-! ### Identity and status -/

/-- Whether a logical core is in service (CORE_PRESENT). -/
def corePresent (s : State) (key : Nat) : Bool := (getTile s (key / 64)).inService && !coreWithdrawnOrOff s key

/-- The keys of a tile's logical cores that satisfy a predicate. -/
def tileKeys (t : Nat) (f : Nat → Bool) : List Nat := ((upto 64).map (ck t)).filter f

/-- The identity and status block (offset from 0x1_0000). -/
def identityReg (s : State) (t off : Nat) : Word :=
  let x := getTile s t
  match off with
  | 0 => pack [(50, s.myModule), (45, t), (37, s.topo.rack), (33, s.topo.tray), (31, s.topo.slot), (29, s.topo.reach),
      (0, (Config.dieRevision t).toNat)]
  | 8 => pack [(48, (tileKeys t (corePresent s)).length),
      (40, (tileKeys t (fun k => corePresent s k && bit x.coreHalf (k % 64))).length),
      (32, (tileKeys t (fun k => sliceEvac s k || sliceOut s k)).length),
      (28, edgeBits x.d2dReduced), (24, edgeBits x.d2dDown),
      (16, if x.inService then ((upto 4).filter (spareFree s t)).length else 0),
      (1, b2n (bit x.addersDown 6)), (0, b2n x.inService)]
  | 0x10 => BitVec.ofNat 64 ((tileKeys t (corePresent s)).map (fun k => 2 ^ (k % 64))).sum
  | 0x18 => x.coreHalf
  | _ => 0

/-! ### Slices -/

/-- A layer's modelled temperature in °C, rounded up. -/
def layerCeil (x : Int) : Int := -((-x).fdiv (16 * tUnit))

/-- Spare lanes of a slice in use. DEDUCED (log entries 41, 88). -/
def slicesSpares (x : Slice) : Nat := ((upto 16).map (fun l => sparesUsed (tget 0 x.laneMap l))).sum

/-- The registers of a slice's 0x400 window. -/
def sliceReg (s : State) (key off : Nat) : Word :=
  let x := getSlice s key
  match off with
  | 0 => pack [(31, b2n (getTile s (key / 64)).hold), (30, b2n x.caFault), (24, x.caLane), (23, b2n x.erased.isSome),
      (19, x.erased.getD 0), (13, slicesSpares x), (6, min 64 x.heldWrites.length), (0, x.state)]
  | 8 => pack [(40, codeField x.trainResult), (31, b2n (trainRuns s key)), (20, x.trainLayer), (13, x.trainLane), (8, b2n x.autoSpare)]
  | 0x10 => x.errLog
  | 0x20 => pack [(32, x.scrubPasses.toNat), (8, x.scrubNext), (0, b2n x.scrubEn)]
  | _ => if 0x100 ≤ off && off < 0x180 && off % 8 == 0 then tget 0 x.laneMap ((off - 0x100) / 8) else 0

/-- The index of the first largest entry of a list. -/
def argMax (l : List Int) : Nat := l.idxOf (hottest l)

/-- The slice controller block (offset from 0x2_0000). A hold is due to the cold while a layer stays below 1 °C, where
R171 cannot end it. -/
def sliceBlock (s : State) (t off : Nat) : Word :=
  let x := getTile s t
  if off < 0x10000 then sliceReg s (ck t (off / 0x400)) (off % 0x400)
  else match off with
    | 0x10000 => pack [(40, lowBits 8 (layerCeil (hottest x.layerTemp))), (36, if x.layerTemp.isEmpty then 0 else argMax x.layerTemp),
        (34, x.refreshMult), (33, b2n x.hold), (32, b2n (x.hold && x.layerTemp.any (fun y => !atLeast y 1)))]
    | 0x10008 => x.stackCtrl
    | _ => 0

/-! ### Groups and sparing -/

/-- GROUP_MAP of a group. -/
def groupMap (s : State) (t g : Nat) : Word :=
  let x := getGroup s t g
  let st := if bit x.off 16 then 3 else if x.retiredPos != 16 then 2 else if bit (getTile s t).bakeCtrl 0 then 0 else 1
  pack [(30, x.off.toNat), (17, x.retiredPos), (15, st)]

/-- The group and sparing control block (offset from 0x4_0000). DEDUCED (log entry 88). -/
def groupBlock (s : State) (t off : Nat) : Word :=
  let x := getTile s t
  if off % 8 != 0 then 0
  else if off < 0x20 then groupMap s t (off / 8)
  else if off = 0x20 then pack [(40, codeField x.spareResult), (39, b2n x.spareBusy)]
  else if off = 0x28 then x.bakeCtrl
  else if off < 0x30 then 0
  else if off < 0x50 then (getGroup s t ((off - 0x30) / 8)).bakeLog
  else 0

/-! ### Residency -/

/-- RES_STATUS of a tile. DESIGN CHOICE (log entry 49). -/
def resStatus (s : State) (t : Nat) : Word :=
  let r := getRes s t
  let ks := tileKeys t (sliceUsable s)
  pack [(43, (ks.map (freeCount s)).sum), (27, (ks.map (freeRuns s)).sum),
    (20, min 64 (r.xfers.filter (fun x => x.phase != 0)).length), (13, r.hints.length % 128),
    (12, b2n ((tileKeys t (evacuating s)).length != 0))]

/-- RES_ROOT of an address space: the TABLE entry of its level-0 table, else INVALID. -/
def resRoot (s : State) (a : Nat) : Word := tabWord (findTab s 0 a 0)

/-- TIN_FRAMES of an address space in a tile. -/
def tinFrames (s : State) (t a : Nat) : Word :=
  match getSpace s a with
  | some r => pack [(21, framesUsed s a t), (0, r.quota)]
  | none => 0

/-- The global physical address of a structure in TABLE frames; zero before it exists. -/
def tableBase (s : State) (level space : Nat) : Word :=
  match findTab s level space 0 with
  | some l => BitVec.ofNat 64 (gpaMake s.myModule l.tile l.core 0 l.off)
  | none => 0

/-- The residency block (offset from 0x8_0000). -/
def resBlock (s : State) (t off : Nat) : Word :=
  let r := getRes s t
  if off % 8 != 0 then 0
  else if 0x8000 ≤ off && off < 0x10000 then resRoot s ((off - 0x8000) / 8)
  else if 0x10000 ≤ off && off < 0x18000 then tinFrames s t ((off - 0x10000) / 8)
  else match off with
    | 0x40 => pack [(48, r.statTag.toNat), (40, codeField r.statCode),
        (24, (r.queue.filter (fun q => q.admin.isNone)).length % 128), (0, r.statSeq.toNat)]
    | 0x48 => r.ctrl
    | 0x50 => resStatus s t
    | 0x60 => tableBase s 6 0
    | 0x68 => r.faultLog
    | _ => 0

/-! ### Dispatcher, fabric endpoint, link adders -/

/-- The dispatcher block (offset from 0xA_0000). -/
def dispBlock (s : State) (t off : Nat) : Word :=
  match off with
  | 0 => (getTile s t).dispCtrl
  | 8 =>
    let l := jobOrder s t
    pack [(48, l.length % 65536), (40, (((upto 64).map (fun i => (getCore s (ck t i)).saved.length)).foldl max 0) % 16),
      (0, match l with | j :: _ => j.num.toNat | [] => 0)]
  | _ => 0

/-- Line buffers of a slice in use. -/
def linesOf (p : Port) (core : Nat) : Nat := (p.lineBuffers.filter (fun b => b.1 == core)).length

/-- The fabric endpoint block (offset from 0xC_0000). -/
def fabricBlock (s : State) (t off : Nat) : Word :=
  let p := getPort s t
  if off % 8 != 0 then 0
  else if 0x1000 ≤ off && off < 0x1800 then tget 0 p.circuits ((off - 0x1000) / 8)
  else if 0x8000 ≤ off && off < 0x10000 then
    let e := tget ((0 : Word), (0 : Word), (0 : Word)) p.imports ((off - 0x8000) / 32)
    wordAt [e.1, e.2.1, e.2.2] (off % 32)
  else match off with
    | 0 => p.ctrl
    | 8 => pack [(51, p.tx.length), (37, p.rx.length), (21, reorderFlits p % 65536), (6, p.ops.length % 32768), (0, b2n p.hold)]
    | 0x10 => p.weightLo
    | 0x18 => p.weightHi
    | 0x2020 => pack [(48, p.regTag.toNat), (40, codeField p.regCode), (24, p.regionQueue.length), (0, p.regSeq.toNat)]
    | 0x2028 => tableBase s 5 t
    | 0x2030 => pack [(16, p.arc.length), (0, (((upto 64).map (linesOf p)).foldl max 0) % 32)]
    | _ => 0

/-- The link-adder block (offset from 0xE_0000): ADDERS_OUT has interface i in bit 28 − i. -/
def linkBlock (s : State) (t off : Nat) : Word :=
  match off with
  | 0 => tget 3 s.coll.linkCtrl t
  | 8 => pack [(48, (tget 0 s.coll.lastTag t).toNat), (40, codeField (tget .ok s.coll.lastCode t)),
      (29, (s.coll.ops.filter (fun o => o.tile == t)).length % 2048),
      (22, ((upto 7).map (fun i => b2n (bit (getTile s t).addersDown i) <<< (6 - i))).sum)]
  | _ => 0

/-! ### Thermal and power agent -/

/-- A group's clock as GROUP_CLOCK and the comparisons of TILE_THERM_STATUS see it: 0 while Off. -/
def groupMhz (s : State) (t g : Nat) : Nat := let x := getGroup s t g; if x.pstate == .off then 0 else x.mhz

/-- STATE of GROUP_CLOCK. -/
def groupStateNum (s : State) (t g : Nat) : Nat :=
  match (getGroup s t g).pstate with | .nap => 2 | .sleep => 3 | _ => 0

/-- Whether a running group clock of a tile lies below a frequency. -/
def clockBelow (s : State) (t mhz : Nat) : Bool :=
  (upto 4).any (fun g => (getGroup s t g).pstate != .off && decide (groupMhz s t g < mhz))

/-- The thermal and power agent block (POWER in units of 10 mW) (offset from 0x10_0000). -/
def thermBlock (s : State) (t off : Nat) : Word :=
  let x := getTP s t
  match off with
  | 0 => pack [(48, lowBits 16 x.diode), (32, min 65535 (x.power / 10000)), (3, b2n x.invalidEver), (2, b2n (tileEmergency s t || runsEmergency s t)),
      (1, b2n (clockBelow s t (floorMhz s))), (0, b2n (clockBelow s t (maxMhz s)))]
  | 8 => pack ((upto 4).flatMap (fun g => [(16 * g + 13, groupStateNum s t g), (16 * g, groupMhz s t g)]))
  | 0x10 | 0x18 =>
    let h := (off - 0x10) / 8
    pack ((upto 8).map (fun i => (8 * i, lowBits 8 (layerCeil ((((getTile s t).layerTemp)[8 * h + i]?).getD 0)))))
  | 0x20 => x.modelCfg
  | 0x28 => x.stateCtrl
  | _ => 0

/-- A register of tile control space. -/
def tileReg (s : State) (t off : Nat) : Option Word :=
  if off < 0x10000 then some (wordAt geometry off)
  else if off < 0x20000 then some (identityReg s t (off - 0x10000))
  else if off < 0x40000 then some (sliceBlock s t (off - 0x20000))
  else if off < 0x80000 then some (groupBlock s t (off - 0x40000))
  else if off < 0xA0000 then some (resBlock s t (off - 0x80000))
  else if off < 0xC0000 then some (dispBlock s t (off - 0xA0000))
  else if off < 0xE0000 then some (fabricBlock s t (off - 0xC0000))
  else if off < 0x100000 then some (linkBlock s t (off - 0xE0000))
  else if off < 0x120000 then some (thermBlock s t (off - 0x100000))
  else if off < 0x140000 then
    some (if off = 0x120000 then BitVec.ofNat 64 (getStage s t).queue.length else counterWord (getCounter s (gpaKey t 0 3 off)))
  else none

end Sys2Proof.Machine
end

