-- ==== Sys2Proof/Machine/RegHearth.lean ====
section
/-! DEFINITION. RegHearth: reads of the registers of hearth control space (Table 1.6), and a read by its global physical
address (Table 1.5, R15–R18, R35, R36). -/

namespace Sys2Proof.Machine

/-! ### Streams and admission -/

/-- STATE of a stream entry (Table 7.6). -/
def streamStateNum : StreamState → Nat
  | .free => 0 | .open_ => 1 | .due => 2 | .running => 3 | .closing => 4

/-- STATE of an entry as Table 7.6 shows it: CLOSING while a close waits for the outstanding step (R223). -/
def streamShown (x : Stream) : StreamState :=
  if (x.state == .due || x.state == .running) && !(x.closeReq.isEmpty && x.closeCmd.isEmpty) then .closing else x.state

/-- Word i of a stream table entry (Table 7.6). -/
def streamWord (x : Stream) (i : Nat) : Word :=
  match i with
  | 0 => pack [(60, streamStateNum (streamShown x)), (58, x.cls), (46, x.tin), (40, x.model), (16, x.deadlineUs), (8, codeField x.lastCode), (7, b2n x.cold)]
  | 1 => pack [(32, x.dueUs % 2 ^ 32), (0, x.step.toNat)]
  | 2 => pack [(32, x.seed.toNat), (16, x.chunksLeft), (0, x.batchPos)]
  | _ => pack [(50, x.replyModule), (45, x.replyTile), (0, x.ioVa)]

/-- The words of a tin entry (Table 7.1). -/
def tinWords (x : Tin) : List Word :=
  let st := match x.state with | .free => 0 | .active => 1 | .withdrawing => 2
  [pack [(32, x.key.toNat), (16, x.wideAllow), (8, if x.pinAll then 0xFF else x.pins.length), (0, st)],
   BitVec.ofNat 64 x.adapterVa,
   pack [(48, x.openStreams), (32, x.maxStreams), (0, x.adapterPages)], 0]

/-- The words of a bake-time row (Table 7.10). -/
def rowWords (b : BakeRow) : List Word :=
  [pack [(32, b.rerunNs), (0, b.stepNs)], pack [(32, b.allWideNs), (0, b.pinNs)], pack [(32, b.measStepNs), (0, b.missNs)],
   pack [(48, b2n b.loaded), (32, b.measMhz), (0, b.measRerunNs)]]

/-- A word of a model record (Table 7.10). -/
def modelWord (s : State) (m off : Nat) : Word :=
  let x := getModel s m
  if x.state = 0 then 0
  else if off < 0x40 then
    wordAt [pack [(32, x.mask.toNat), (16, x.space), (8, (groupSlots s m).headD m), (0, x.state)], BitVec.ofNat 64 x.planVa,
      BitVec.ofNat 64 x.batchVa, pack [(48, (slotStreams s m 0).length), (32, x.beat / 10), (0, x.opMaxNs)]] off
  else if off < 0x40 + 640 then wordAt (rowWords (getRow x ((off - 0x40) / 64))) ((off - 0x40) % 64)
  else 0

/-- The admission block (offset from 0x20_0000). -/
def admBlock (rq : Requester) (s : State) (off : Nat) : Word :=
  let a := s.adm
  if off % 8 != 0 then 0
  else if 0x10000 ≤ off && off < 0x30000 then
    if off < 0x10020 then 0 else wordAt (tinWords (getTin s ((off - 0x10000) / 32))) (off % 32)
  else if 0x30000 ≤ off && off < 0x40000 then modelWord s ((off - 0x30000) / 0x400) (off % 0x400)
  else if 0x40000 ≤ off && off < 0x40200 then groupState s ((off - 0x40000) / 8)
  else match off with
    | 0 => a.ctrl
    | 0x10 => BitVec.ofNat 64 (aget 0 a.winSel rq)
    | 0x80 => pack [(48, a.statTag.toNat), (40, codeField a.statCode), (24, a.queue.length % 128), (0, a.statSeq.toNat)]
    | _ => 0

/-! ### Crumb engine -/

/-- The crumb engine block (offset from 0x30_0000). -/
def crumbBlock (s : State) (off : Nat) : Word :=
  let c := s.coll
  if off % 8 != 0 then 0
  else if 0x1000 ≤ off && off < 0x9000 then
    let g := getColl s ((off - 0x1000) / 32)
    wordAt [setFld g.w0 63 63 (b2n g.valid), g.w1, g.w2, setFld g.w3 47 32 (if g.valid then g.hash else 0)] (off % 32)
  else if 0xA000 ≤ off && off < 0xA800 then
    let w := (off - 0xA000) / 8
    BitVec.ofNat 64 ((c.suspects.filter (fun m => m / 64 == w)).map (fun m => 2 ^ (m % 64))).sum
  else match off with
    | 0 => c.ctrl
    | 8 => pack [(30, slotsFree s), (15, c.suspects.length), (5, c.failedGroup), (4, b2n c.failedValid)]
    | _ => 0

/-! ### Crust management -/

/-- STATE of a strand. -/
def strandStateNum : StrandState → Nat
  | .dark => 0 | .training => 1 | .up => 2 | .degraded => 3 | .withdrawn => 4 | .failed => 5

/-- STRAND_STATUS. -/
def strandStatus (s : State) (st : Nat) : Word :=
  let x := getStrand s st
  pack [(34, x.cause), (32, x.partner), (24, min 0xFF (uncorrLast s st)), (8, x.waves.toNat), (0, strandStateNum x.state)]

/-- The crust management block (offset from 0x40_0000). -/
def crustBlock (s : State) (off : Nat) : Word :=
  let e := off / 0x10000
  let o := off % 0x10000
  let x := getEngine s e
  if 20 ≤ e || o % 8 != 0 then 0
  else if o = 0 then
    pack [(40, b2n x.thirdParty), (32, x.gts % 256), (24, x.width % 256), (8, x.failed.toNat), (7, b2n x.spareUsed), (3, x.spareWave % 16),
      (2, b2n x.rxSpare), (0, x.state)]
  else if o = 8 then pack [(0, b2n x.enable)]
  else if 0x100 ≤ o && o < 0x140 then strandStatus s (8 * e + (o - 0x100) / 8)
  else if 0x200 ≤ o && o < 0x240 then
    let y := getStrand s (8 * e + (o - 0x200) / 8)
    pack [(2, b2n y.loopback), (0, b2n y.enable)]
  else 0

/-! ### Governor and housekeeping -/

/-- EMERG_CAUSE: the conditions in force. -/
def emergCause (s : State) : Nat :=
  let tiles (i : Nat) : Bool := s.power.tiles.any (fun p => bit p.2.emerg i)
  b2n (tiles 0) + b2n (tiles 1) <<< 1 + b2n (tiles 2) <<< 2 + s.power.emerg.toNat <<< 3

/-- The governor and housekeeping block (offset from 0x60_0000). -/
def govBlock (s : State) (off : Nat) : Word :=
  let p := s.power
  if off % 8 != 0 then 0
  else if 0x1000 ≤ off && off < 0x1200 then
    let x := tget (⟨0, 0, 0, false⟩ : HkChan) p.channels ((off - 0x1000) / 8)
    pack [(32, x.round % 65536), (31, b2n x.valid), (16, x.index % 32), (0, x.value.toNat)]
  else match off with
    | 0 => p.govCtrl
    | 8 => pack [(48, p.inputMw100 / 10 % 65536), (32, p.input10mV % 65536), (24, lowBits 8 (p.hearthTemp.fdiv 16)), (16, emergCause s),
        (2, b2n p.flashWindow), (1, b2n p.shutdown), (0, b2n (emergCause s != 0))]
    | 0x10 => p.trip
    | _ => 0

/-! ### Event log and keeper mailbox -/

/-- The event log block (offset from 0x70_0000): the ring holds record q at q mod 16,384. -/
def eventBlock (s : State) (off : Nat) : Word :=
  let l := s.log
  if off % 8 != 0 then 0
  else if 0x80000 ≤ off && off < 0x100000 then
    let r := tget (⟨0, 0, 0, 0⟩ : LogRec) l.ring ((off - 0x80000) / 32)
    wordAt [r.w0, r.w1, r.w2, r.w3] (off % 32)
  else if 0x20 ≤ off && off < 0x40 then tget 0 l.subs ((off - 0x20) / 8)
  else match off with
    | 0 => pack [(32, l.seq.toNat), (0, ((upto 24).map (fun t => (getStage s t).queue.length)).sum)]
    | 8 => BitVec.ofNat 64 l.stamp.toNat
    | 0x10 => l.ctrl
    | 0x18 => BitVec.ofNat 64 l.alert.toNat
    | _ => if 0x1000 ≤ off && off < 0x80000 then counterWord (getCounter s (gpaKey 30 0 3 (0x700000 + off))) else 0

/-- The EXPERT_STATUS word of an enable, with ON and SECONDS_LEFT as given. -/
def enableWord (e : Enable) (on : Bool) (secs : Nat) : Word :=
  let (port, m, t) := match e.who with
    | .fabric m t => (false, m.toNat, t.toNat)
    | .servicePort => (true, 0, 0)
    | _ => (false, 0, 30)
  pack [(63, b2n on), (61, e.slot), (60, b2n port), (46, m), (41, t), (21, e.functions.toNat), (9, secs)]

/-- Remaining whole seconds of an enable, the last one begun counted. -/
def secondsLeft (s : State) (e : Enable) : Nat := (e.until_ - s.now + 999999999) / 1000000000

/-- A key slot before any key is programmed. -/
def slotInit : KeySlot := ⟨[], [], 0, 0, false, 0, [], none⟩

/-- Key slot k. -/
def getSlot (s : State) (k : Nat) : KeySlot := tget slotInit s.keeper.slots k

/-- The generation in force of a slot: the highest programmed. -/
def slotGen (x : KeySlot) : Nat := x.keys.length - 1

/-- SLOT_STATUS. -/
def slotStatus (x : KeySlot) : Word :=
  pack [(16, min 255 x.authFails), (8, if x.keys.isEmpty then 0 else (x.bits[slotGen x]?).getD 0), (5, slotGen x),
    (2, b2n x.limited.isSome), (0, if x.keys.isEmpty then 0 else if x.locked then 2 else 1)]

/-- The keeper mailbox (offset from 0x80_0000): the request and reply blocks read as zero (R417). -/
def keeperBlock (s : State) (off : Nat) : Word :=
  let k := s.keeper
  if off % 8 != 0 then 0
  else if off = 0 then
    pack [(32, k.starterSeq), (24, min 255 k.presetsFailed), (20, b2n (k.enables.length != 0)), (19, b2n k.fw.running), (18, b2n k.copyB),
      (17, b2n k.otherValid), (16, b2n k.session.isSome), (0, k.phase)]
  else if 0x10 ≤ off && off < 0x50 then
    let x := getSlot s ((off - 0x10) / 16)
    if off % 16 = 0 then slotStatus x else pack [(32, x.reserved), (0, x.last)]
  else if 0x50 ≤ off && off < 0x70 then
    match k.enables.find? (fun p => p.1 == (off - 0x50) / 8) with
    | some p => enableWord p.2 true (min 4095 (secondsLeft s p.2))
    | none => 0
  else 0

/-! ### Routing tables -/

/-- The routing block (offset from 0x90_0000): hall candidates are 4-byte registers (Table 8.11). -/
def routingBlock (s : State) (off : Nat) : Word :=
  let r := s.routing
  let word (b : Bank) (o : Nat) : Word :=
    if 0x20000 ≤ o then 0
    else if 0x1000 ≤ o && o < 0xD000 then (if o % 4 = 0 then bankWord b o else 0)
    else if o % 8 = 0 then bankWord b o else 0
  if 0x10000 ≤ off && off < 0x50000 then word r.a (off - 0x10000)
  else if 0x50000 ≤ off && off < 0x90000 then word r.b (off - 0x50000)
  else match off with
    | 0 => pack [(32, bankEpoch (bankSel s true)), (24, codeField r.result), (2, b2n r.busy), (1, b2n r.activeB)]
    | 8 => pack [(32, codeField r.gwResult), (31, b2n r.gwGroup.isSome)]
    | _ => 0

/-- A register of hearth control space. -/
def hearthReg (rq : Requester) (s : State) (off : Nat) : Option Word :=
  if off < 0x1000 then some (wordAt geometry off)
  else if off < 0x100000 then some (if off = 0x1000 then Config.deviceId else 0)
  else if off < 0x200000 then
    let e := 32768 * aget 0 s.adm.winSel rq + (off - 0x100000) / 32
    some (if off % 8 = 0 then streamWord (getStream s e) (off % 32 / 8) else 0)
  else if off < 0x300000 then some (admBlock rq s (off - 0x200000))
  else if off < 0x400000 then some (crumbBlock s (off - 0x300000))
  else if off < 0x600000 then some (crustBlock s (off - 0x400000))
  else if off < 0x700000 then some (govBlock s (off - 0x600000))
  else if off < 0x800000 then some (eventBlock s (off - 0x700000))
  else if off < 0x900000 then some (keeperBlock s (off - 0x800000))
  else if off < 0xA00000 then some (routingBlock s (off - 0x900000))
  else none

/-! ### Reads by address -/

/-- Whether TILE, CORE and SPACE of an address name a control space (Table 1.5). -/
def spaceKnown (a : Nat) : Bool :=
  if gTile a < 24 then gSpace a == 2 || gSpace a == 3 else gTile a == 30 && gCore a == 0 && gSpace a == 3

/-- A register of the own module by its address; none where Table 1.5 or R18 refuses it. -/
def regAt (rq : Requester) (s : State) (a : Nat) : Option Word :=
  if !spaceKnown a then none
  else if gTile a = 30 then hearthReg rq s (gOff a)
  else if gSpace a = 2 then coreReg rq s (ck (gTile a) (gCore a)) (gOff a)
  else tileReg s (gTile a) (gOff a)

/-- A core of a group is not idle: the group's time towards Nap starts again (R396, R397). -/
def groupBusy (t g : Nat) (s : State) : State :=
  if (getGroup s t g).pstate == .run || (getGroup s t g).pstate == .idle then modGroup s t g (fun x => { x with idleFrom := none }) else s

/-- An access to a core's control space or bench wakes its group (R396, R398). -/
def regWake (a : Nat) (s : State) : State :=
  if gTile a < 24 && (gSpace a == 2 || gSpace a == 1) then groupBusy (gTile a) (gCore a / 16) (wakeGroup (gTile a) (gCore a / 16) s) else s

/-- Whether an address is that of PASS_QUEUE_STATUS, whose stall bits are a free value. DEDUCED (log entry 119). -/
def stallReg (a : Nat) : Bool := decide (gTile a < 24) && gSpace a == 2 && gOff a == 0x8080

/-- A read of a register: its value, zero where it is refused, with the code in `lastCode`. -/
def regRead (s : State) (rq : Requester) (a : Nat) : Word × State :=
  match regAt rq s a with
  | none => (0, ends .rejected s)
  | some v =>
    let s := regWake a s
    if stallReg a then
      let b := Config.stallBits s.free
      (v ||| pack [(26, fld b 3 2), (10, fld b 1 0)], ends .ok { s with free := s.free + 1 })
    else (v, ends .ok s)

end Sys2Proof.Machine
end

