-- ==== Sys2Proof/Machine/RegWrite.lean ====
section
/-! DEFINITION. RegWrite: writes of registers (Table 0.7, R15–R18, R431, R432), the staging buffers of the descriptor
windows (R78, R203, R253, R326), CNT_CLEAR (R459), accesses to a bench over the register path (R435), and the rows of
the table that are one register's write. A write that must wait for a lock answers none (R68, R135). -/

namespace Sys2Proof.Machine

/-! ### Staging (R78) -/

/-- The staged words of a requester for a window. -/
def stageGet (s : State) (rq : Requester) (win : Nat) : CmdDesc :=
  match s.staging.find? (fun x => x.who == rq && x.window == win) with
  | some x => x.words
  | none => descZero

/-- Stages word i. DEDUCED (log entry 120). -/
def stagePut (rq : Requester) (win i : Nat) (v : Word) (s : State) : State :=
  let d := descPut (stageGet s rq win) i v
  { s with staging := s.staging.filter (fun x => !(x.who == rq && x.window == win)) ++ [⟨rq, win, d⟩] }

/-- The window's words with the last word written, and the buffer cleared. -/
def stageTake (rq : Requester) (win i : Nat) (v : Word) (s : State) : CmdDesc × State :=
  (descPut (stageGet s rq win) i v, { s with staging := s.staging.filter (fun x => !(x.who == rq && x.window == win)) })

/-- A write of word i of a descriptor window whose last word is `last`: the last word submits. -/
def windowWrite (last : Nat) (submit : CmdDesc → State → State) (rq : Requester) (win i : Nat) (v : Word) (s : State) : State :=
  if i = last then let r := stageTake rq win i v s; submit r.1 r.2 else ends .ok (stagePut rq win i v s)

/-! ### Counters (R459) -/

/-- The block of a counter: 0–1,535 a core, 1,536 + tile, 2,000 the hearth. -/
def counterBlockOf (k : Nat) : Nat :=
  let t := nbits k 49 45
  if t = 30 then 2000 else if nbits k 38 36 = 2 then ck t (nbits k 44 39) else 1536 + t

/-- CLEAR: every statistics counter of a block reads zero, and COUNTERS_CLEARED is raised. -/
def countersClear (block tile core level off : Nat) (s : State) : State :=
  let s := { s with counters := s.counters.filter (fun p => counterBlockOf p.1 != block) }
  raise (mkEv 0x0B04 clsNotice 0 level tile core (evW2 (unit := core)) (BitVec.ofNat 64 off)) s

/-- CNT_CLEAR of a core. -/
def coreCountersClear (key : Nat) (s : State) : State := countersClear key (key / 64) (key % 64) 4 0xBF00 s

/-- CNT_CLEAR of a tile. -/
def tileCountersClear (t : Nat) (s : State) : State := countersClear (1536 + t) t 0 6 0x128000 s

/-- CNT_CLEAR of the hearth. -/
def hearthCountersClear (s : State) : State := countersClear 2000 30 0 7 0x700F00 s

/-- A write of a CNT_CLEAR register (R459). -/
def cntClearWrite (rq : Requester) (v : Word) (clear : State → State) (s : State) : State :=
  withExpert rq 9 s (fun s => if bit v 0 then ends .ok (clear s) else ends .ok s)

/-! ### Core control space -/

/-- A write of PASS_DESC (R55, R78): the block keeps one staging buffer per requester for the windows of both arrays, and word 7
submits to the array of its window. -/
def passDescWrite (rq : Requester) (key a i : Nat) (v : Word) (s : State) : State :=
  windowWrite 7 (fun d s => let r := passSubmit key a d s; ends r.2 r.1) rq
    (gpaKey (key / 64) (key % 64) 2 0x8000) i v s

/-- A write of PASS_CTRL (R80): per array, FLUSH, then STOP, then the enable bit. DESIGN CHOICE (log entry 39). -/
def passCtrlWrite (rq : Requester) (key : Nat) (v : Word) (s : State) : State :=
  withExpert rq 0 s (fun s =>
    ends .ok ((upto 2).foldl (fun s a =>
      let s := if bit v (6 + a) then passFlushOp key a s else s
      let s := if bit v (4 + a) then passStopOp key a s else s
      if bit v a then arrayEnableOp key a s else arrayDisableOp key a s) s))

/-- Clears a RW1C bit of a word. -/
def rw1c (x v : Word) (i : Nat) : Word := if bit v i then setFld x i i 0 else x

/-- A write to the amax tracker block. -/
def trackerWrite (rq : Requester) (key off : Nat) (v : Word) (s : State) : State :=
  if off < 0x7000 && off % 16 == 0 then amaxCfgWriteOp key ((off - 0x6000) / 16) v s
  else if off = 0x7000 then ends .ok (modCore s key (fun c => { c with histSel := aput c.histSel rq (fld v 7 0) }))
  else if off = 0x7100 then ends .ok (modCore s key (fun c => { c with arithCtl := v &&& 0x00000FFF0FFF0001 }))
  else ends .ok s

/-- A write of SCALE_K: none while a pass holds its scale lock (R135). -/
def scaleWrite (key n : Nat) (v : Word32) (s : State) : Option State :=
  if scaleLocked (getCore s key) n 1 then none
  else some (ends .ok (modCore s key (fun c => { c with scale := tset scaleInit c.scale n v })))

/-- A write to core control space. -/
def coreRegWrite (rq : Requester) (key off : Nat) (v : Word) (s : State) : Option State :=
  if off < 0x1000 then
    some (if off = 0x10 && bit v 31 then
      withExpert rq 0 s (fun s => ends .ok (modCore s key (fun c => { c with trap := setFld c.trap 31 31 0 })))
    else ends .ok s)
  else if off < 0x5000 then
    if off % 4 = 0 then scaleWrite key ((off - 0x1000) / 4) (v.setWidth 32) s else some (ends .ok s)
  else if off < 0x6000 then some (ends .rejected s)
  else if off < 0x8000 then some (trackerWrite rq key off v s)
  else if off < 0xA000 then
    some (if off < 0x8080 then (if off % 8 = 0 then passDescWrite rq key ((off - 0x8000) / 64) (off % 64 / 8) v s else ends .ok s)
    else if off = 0x8090 then passCtrlWrite rq key v s
    else if off = 0x8098 then ends .ok (modCore s key (fun c => { c with residueLog := rw1c c.residueLog v 31 }))
    else ends .ok s)
  else if off < 0xC000 then
    some (if off = 0xBF00 then cntClearWrite rq v (coreCountersClear key) s else ends .ok s)
  else some (ends .rejected s)

/-! ### Tile control space -/

/-- A write of SLICE_TRAIN_CTRL (R167): START 3 and lanes 80–127 are reserved. -/
def trainCtrlWrite (rq : Requester) (key : Nat) (v : Word) (s : State) : State :=
  withExpert rq 1 s (fun s =>
    if fld v 1 0 = 3 || 80 ≤ fld v 19 13 then ends .rejected s
    else
      let s := if fld v 1 0 != 0 && trainRuns s key then s else
        modSlice s key (fun x => { x with autoSpare := bit v 8, trainLayer := fld v 23 20, trainLane := fld v 19 13 })
      match fld v 1 0 with
      | 1 => fullRetrainingOp rq key s
      | 2 => spareSwitchInOp rq key (fld v 23 20) (fld v 19 13) s
      | _ => ends .ok s)

/-- A write to the slice controller block (offset from 0x2_0000). -/
def sliceBlockWrite (rq : Requester) (t off : Nat) (v : Word) (s : State) : State :=
  let key := ck t (off / 0x400)
  if off = 0x10008 then stackCtrlWriteOp rq t v s
  else if 0x10000 ≤ off then ends .ok s
  else match off % 0x400 with
    | 8 => trainCtrlWrite rq key v s
    | 0x10 => ends .ok (modSlice s key (fun x => { x with errLog := rw1c x.errLog v 31 }))
    | 0x20 => withExpert rq 1 s (fun s => ends .ok (modSlice s key (fun x => { x with scrubEn := bit v 0 })))
    | _ => ends .ok s

/-- A write of SPARE_CMD: the command that OP names. -/
def spareCmdWrite (rq : Requester) (t : Nat) (v : Word) (s : State) : State :=
  withExpert rq 6 s (fun s =>
    match fld v 10 8 with
    | 1 => retireOp rq t (fld v 7 6) (fld v 5 0) s
    | 2 => restoreOp rq t (fld v 7 6) (fld v 5 0) s
    | 3 => if fld v 7 6 = 0 then withdrawCoreOp rq (ck t (fld v 5 0)) s else ends .rejected s
    | 4 => if fld v 7 6 = 0 then returnCoreOp rq (ck t (fld v 5 0)) s else ends .rejected s
    | _ => ends .rejected s)

/-- A write to the group and sparing control block (offset from 0x4_0000). -/
def groupBlockWrite (rq : Requester) (t off : Nat) (v : Word) (s : State) : State :=
  if off = 0x20 then spareCmdWrite rq t v s
  else if off = 0x28 then withExpert rq 6 s (fun s => ends .ok (modTile s t (fun x => { x with bakeCtrl := v &&& 0xF07 })))
  else if 0x30 ≤ off && off < 0x50 && off % 8 == 0 then
    ends .ok (modGroup s t ((off - 0x30) / 8) (fun x => { x with bakeLog := rw1c x.bakeLog v 31 }))
  else ends .ok s

/-- A write to the residency block (offset from 0x8_0000). -/
def resBlockWrite (rq : Requester) (t off : Nat) (v : Word) (s : State) : State :=
  if off < 0x40 && off % 8 == 0 then
    windowWrite 7 (fun d s => resSubmit rq t d s) rq (gpaKey t 0 3 0x80000) (off / 8) v s
  else if off = 0x48 then withExpert rq 2 s (fun s => ends .ok (modRes s t (fun r => { r with ctrl := v &&& 0x000000FFFFFF071F })))
  else if off = 0x68 then ends .ok (modRes s t (fun r => { r with faultLog := rw1c r.faultLog v 7 }))
  else ends .ok s

/-- A write of FAB_CTRL. -/
def fabCtrlWrite (rq : Requester) (t : Nat) (v : Word) (s : State) : State :=
  withExpert rq 4 s (fun s =>
    if fld v 31 21 < 16 || 1024 < fld v 31 21 || fld v 20 16 = 0 || fld v 15 12 = 0 then ends .rejected s
    else ends .ok (modPort s t (fun p => { p with ctrl := v &&& 0xFFFFF000 })))

/-- Whether one of n weights of a VC_WEIGHT register is 0, which is reserved. -/
def weightBad (v : Word) (n : Nat) : Bool := (upto n).any (fun i => fld v (8 * i + 7) (8 * i) == 0)

/-- A write to the fabric endpoint block (offset from 0xC_0000). -/
def fabricBlockWrite (rq : Requester) (t off : Nat) (v : Word) (s : State) : State :=
  if off = 0 then fabCtrlWrite rq t v s
  else if off = 8 then withExpert rq 4 s (ends .ok)
  else if off = 0x10 then
    withExpert rq 4 s (fun s => if weightBad v 8 then ends .rejected s else ends .ok (modPort s t (fun p => { p with weightLo := v })))
  else if off = 0x18 then
    withExpert rq 4 s (fun s => if weightBad v 6 then ends .rejected s
      else ends .ok (modPort s t (fun p => { p with weightHi := v &&& 0x0000FFFFFFFFFFFF })))
  else if 0x1000 ≤ off && off < 0x1800 && off % 8 == 0 then circuitWriteOp rq t ((off - 0x1000) / 8) v s
  else if 0x2000 ≤ off && off < 0x2020 && off % 8 == 0 then
    windowWrite 3 (fun d s => regionSubmit rq t d s) rq (gpaKey t 0 3 0xC2000) ((off - 0x2000) / 8) v s
  else ends .ok s

/-- A write of LINK_CTRL (R350, R359). -/
def linkCtrlWrite (rq : Requester) (t : Nat) (v : Word) (s : State) : State :=
  withExpert rq 5 s (fun s =>
    let s := if bit v 0 then s else linkAdderWithdrawOp rq t s
    ends .ok { s with coll := { s.coll with linkCtrl := tput s.coll.linkCtrl t (v &&& 3) } })

/-- A write to tile control space. -/
def tileRegWrite (rq : Requester) (t off : Nat) (v : Word) (s : State) : State :=
  if off < 0x20000 then ends .ok s
  else if off < 0x40000 then sliceBlockWrite rq t (off - 0x20000) v s
  else if off < 0x80000 then groupBlockWrite rq t (off - 0x40000) v s
  else if off < 0xA0000 then resBlockWrite rq t (off - 0x80000) v s
  else if off < 0xC0000 then (if off = 0xA0000 then dispCtrlWriteOp rq t v s else ends .ok s)
  else if off < 0xE0000 then fabricBlockWrite rq t (off - 0xC0000) v s
  else if off < 0x100000 then (if off = 0xE0000 then linkCtrlWrite rq t v s else ends .ok s)
  else if off < 0x120000 then (if off = 0x100028 then stateCtrlWrite rq t v s else ends .ok s)
  else if off < 0x140000 then (if off = 0x128000 then cntClearWrite rq v (tileCountersClear t) s else ends .ok s)
  else ends .rejected s

/-! ### Hearth control space -/

/-- A submission of an admission command by a register write: what a MEASURE finds is a free value. DESIGN CHOICE (log entry 65). -/
def admRegSubmit (rq : Requester) (d : CmdDesc) (s : State) : State :=
  if aOp d = 7 then let r := freeFound s; admSubmit rq d r.1 r.2 else admSubmit rq d ⟨0, 0, 0⟩ s

/-- A write to the admission block (offset from 0x20_0000). -/
def admBlockWrite (rq : Requester) (off : Nat) (v : Word) (s : State) : State :=
  if off = 0 then admCtrlWriteOp rq v s
  else if off = 0x10 then ends .ok { s with adm := { s.adm with winSel := aput s.adm.winSel rq (fld v 0 0) } }
  else if 0x40 ≤ off && off < 0x80 && off % 8 == 0 then
    windowWrite 7 (admRegSubmit rq) rq (gpaKey 30 0 3 0x200040) ((off - 0x40) / 8) v s
  else ends .ok s

/-- A write to the crumb engine block (offset from 0x30_0000). -/
def crumbBlockWrite (rq : Requester) (off : Nat) (v : Word) (s : State) : State :=
  if off = 0 then
    withExpert rq 5 s (fun s => if fld v 15 8 = 0 then ends .rejected s
      else ends .ok (markSuspects s.coll.late { s with coll := { s.coll with ctrl := v &&& 0xFF01 } }))
  else if off = 8 then
    ends .ok (if bit v 4 then { s with coll := { s.coll with failedValid := false } } else s)
  else if 0x1000 ≤ off && off < 0x9000 && off % 8 == 0 then
    let g := (off - 0x1000) / 32
    if off % 32 = 24 then groupEntryWriteOp rq g v s
    else withExpert rq 5 s (fun s => groupWordWrite g (off % 32 / 8) v s)
  else if 0xA000 ≤ off && off < 0xA800 && off % 8 == 0 then suspectClearOp ((off - 0xA000) / 8) v s
  else ends .ok s

/-- A write of ENGINE_CTRL (R382). -/
def engineCtrlWrite (rq : Requester) (e : Nat) (v : Word) (s : State) : State :=
  withExpert rq 6 s (fun s =>
    if bit v 0 != (getEngine s e).enable then (if bit v 0 then engineEnableOp rq e s else engineWithdrawOp rq e s)
    else if bit v 1 then engineRetrainOp rq e s
    else ends .ok s)

/-- A write of STRAND_CTRL (R24, R259): LOOPBACK takes its value unless the write is refused. DEDUCED (log entry 120). -/
def strandCtrlWrite (rq : Requester) (st : Nat) (v : Word) (s : State) : State :=
  withExpert rq 4 s (fun s =>
    let s := if bit v 0 != (getStrand s st).enable then (if bit v 0 then strandEnableOp rq st s else strandWithdrawOp rq st s)
      else if bit v 1 then strandRetrainOp rq st s
      else ends .ok s
    if s.lastCode = .ok then modStrand s st (fun x => { x with loopback := bit v 2 }) else s)

/-- A write to the crust management block (offset from 0x40_0000). -/
def crustBlockWrite (rq : Requester) (off : Nat) (v : Word) (s : State) : State :=
  let e := off / 0x10000
  let o := off % 0x10000
  if 20 ≤ e then ends .ok s
  else if o = 8 then engineCtrlWrite rq e v s
  else if o = 0 then withExpert rq 4 s (ends .ok)
  else if 0x100 ≤ o && o < 0x140 && o % 8 == 0 then withExpert rq 4 s (ends .ok)
  else if 0x200 ≤ o && o < 0x240 && o % 8 == 0 then strandCtrlWrite rq (8 * e + (o - 0x200) / 8) v s
  else ends .ok s

/-- A write of 1 bits to ALERT_STATUS (R462). -/
def alertClearOp (mask : Word) (s : State) : State :=
  ends .ok { s with log := { s.log with alert := s.log.alert &&& ~~~(mask.setWidth 16) } }

/-- A write to the event log block (offset from 0x70_0000). -/
def eventBlockWrite (rq : Requester) (off : Nat) (v : Word) (s : State) : State :=
  if off = 0x10 then withExpert rq 9 s (fun s => ends .ok { s with log := { s.log with ctrl := v &&& 0x1BFFF } })
  else if off = 0x18 then alertClearOp v s
  else if 0x20 ≤ off && off < 0x40 && off % 8 == 0 then
    withExpert rq 9 s (fun s => ends .ok { s with log := { s.log with subs := tset 0 s.log.subs ((off - 0x20) / 8) (v &&& 0xFFFFFFFFF0000000) } })
  else if off = 0xF00 then cntClearWrite rq v hearthCountersClear s
  else ends .ok s

/-- The fields of a register of a routing bank (Table 8.11); reserved bits are dropped (R16). -/
def bankMask (off : Nat) (v : Word) : Word :=
  if off = 0 then v &&& 0xFFFFFFFF00000001
  else if off < 0x1000 then v &&& 0xFF00
  else if off < 0x10000 then v &&& 0xBFC0003F
  else if off % 16 = 0 then v &&& 0xFFFFC00000FFFFFF
  else v

/-- Whether a bank offset holds a register. -/
def bankDefined (off : Nat) : Bool :=
  off == 0 || (decide (0x100 ≤ off) && decide (off < 0x600) && off % 8 == 0) ||
  (decide (0x1000 ≤ off) && decide (off < 0xD000) && off % 4 == 0) || (decide (0x10000 ≤ off) && decide (off < 0x20000) && off % 8 == 0)

/-- A write to a routing bank: the active bank refuses it (R299, Table 8.9). DEDUCED (log entry 120). -/
def bankWrite (rq : Requester) (bankB : Bool) (off : Nat) (v : Word) (s : State) : State :=
  withExpert rq 4 s (fun s =>
    if !bankDefined off then ends .ok s
    else if s.routing.activeB == bankB then ends .rejected s
    else
      let put (b : Bank) : Bank := ⟨tset 0 b.mem off (bankMask off v)⟩
      ends .ok (if bankB then { s with routing := { s.routing with b := put s.routing.b } }
        else { s with routing := { s.routing with a := put s.routing.a } }))

/-- A write to the routing block (offset from 0x90_0000). -/
def routingBlockWrite (rq : Requester) (off : Nat) (v : Word) (s : State) : State :=
  if off = 0 then withExpert rq 4 s (fun s => if bit v 0 then routeSwapOp rq s else ends .ok s)
  else if off = 8 then groupWithdrawOp rq (fld v 11 0) s
  else if 0x10000 ≤ off && off < 0x50000 then bankWrite rq false (off - 0x10000) v s
  else if 0x50000 ≤ off && off < 0x90000 then bankWrite rq true (off - 0x50000) v s
  else ends .ok s

/-- A write to hearth control space. -/
def hearthRegWrite (rq : Requester) (off : Nat) (v : Word) (s : State) : State :=
  if off < 0x200000 then ends .ok s
  else if off < 0x300000 then admBlockWrite rq (off - 0x200000) v s
  else if off < 0x400000 then crumbBlockWrite rq (off - 0x300000) v s
  else if off < 0x600000 then crustBlockWrite rq (off - 0x400000) v s
  else if off < 0x700000 then (if off = 0x600000 then govCtrlWriteOp rq v s else ends .ok s)
  else if off < 0x800000 then eventBlockWrite rq (off - 0x700000) v s
  else if off < 0x900000 then ends .ok s
  else if off < 0xA00000 then routingBlockWrite rq (off - 0x900000) v s
  else ends .rejected s

/-! ### Writes by address -/

/-- Whether a write of word 3 of a group entry must read its member list in a slice that trains (R328, R167). One that KEY_FAULT or CONFLICT
ends reads none. -/
def listTrains (s : State) (rq : Requester) (off : Nat) : Bool :=
  decide (0x301000 ≤ off) && decide (off < 0x309000) && off % 32 == 24 && expertOk rq 5 s && !cgServed (getColl s ((off - 0x301000) / 32)) &&
  gpaTrains s (getColl s ((off - 0x301000) / 32)).w2.toNat

/-- A write of a register; none while it must wait for a lock, for the wake of the core's group (R398) or for a slice that trains. The requester's
level was checked by the register's own rule (R432). -/
def regWrite (s : State) (rq : Requester) (a : Nat) (v : Word) : Option State :=
  if !spaceKnown a then some (ends .rejected s)
  else if gTile a = 30 then if listTrains s rq (gOff a) then none else some (hearthRegWrite rq (gOff a) v s)
  else if gSpace a = 2 then
    if groupAsleep s (gTile a) (gCore a / 16) then none
    else (coreRegWrite rq (ck (gTile a) (gCore a)) (gOff a) v s).map (regWake a)
  else some (tileRegWrite rq (gTile a) (gOff a) v s)

/-- The register path of a move (R97): a read and a write by address. -/
def regPath : RegPath := ⟨regRead, regWrite⟩

/-- The register path at the 32 µs bound: a write that still waits ends with RETRY_LATER (R135). -/
def regPathLate : RegPath := ⟨regRead, fun s rq a v => some ((regWrite s rq a v).getD (ends .retryLater s))⟩

/-! ### The bench over the register path (R435) -/

/-- What refuses a bench access: the level, then the address, then the state of the core (R21, R432, R435). -/
def benchPathRefusal (s : State) (rq : Requester) (a : Nat) : Option Code :=
  if !expertOk rq 0 s then some .keyFault
  else if 24 ≤ gTile a then some .rejected
  else if coreWithdrawnOrOff s (ck (gTile a) (gCore a)) || !(getTile s (gTile a)).inService then some .keyFault
  else if gOff a % 8 != 0 || 0x600000 ≤ gOff a then some .rejected
  else none

/-- A bench read of 8 bytes; none while a shift or the core's wake makes it wait (R34, R372, R435). -/
def benchPathRead (s : State) (rq : Requester) (a : Nat) : Option (Word × State) :=
  let key := ck (gTile a) (gCore a)
  match benchPathRefusal s rq a with
  | some c => some (0, ends c s)
  | none =>
    if inShift s key || groupAsleep s (gTile a) (gCore a / 16) then none
    else
      let (bs, s) := benchLoad key (gOff a) 8 s
      some (BitVec.ofNat 64 (leNat bs), ends .ok (regWake a s))

/-- A bench write of 8 bytes: none while it waits for a lock (Table 2.8), for a shift of the core, or for the wake of its
group (R398). -/
def benchPathWrite (s : State) (rq : Requester) (a : Nat) (v : Word) : Option State :=
  let key := ck (gTile a) (gCore a)
  match benchPathRefusal s rq a with
  | some c => some (ends c s)
  | none =>
    if benchLocked (getCore s key) (gOff a) 8 || inShift s key || groupAsleep s (gTile a) (gCore a / 16) then none
    else some (ends .ok (regWake a (modCore s key (fun c => benchWrite c (gOff a) (leBytes 8 v.toNat)))))

/-- A read by REG_READ: SPACE 1, 2 or 3; none when it must wait, as a read of a core's control space waits for the wake of its group
(R398). -/
def pathRead (s : State) (rq : Requester) (a : Nat) : Option (Word × State) :=
  if gSpace a = 1 then benchPathRead s rq a
  else if gSpace a = 2 && spaceKnown a && groupAsleep s (gTile a) (gCore a / 16) then none
  else some (regRead s rq a)

/-- A write by REG_WRITE: SPACE 1, 2 or 3. DEDUCED (log entries 119, 120). -/
def pathWrite (s : State) (rq : Requester) (a : Nat) (v : Word) : Option State :=
  if gSpace a = 1 then benchPathWrite s rq a v else regWrite s rq a v

/-! ### Writes that wait (R68, R135) -/

/-- The core whose lock a waiting write waits for. -/
def workKey (w : RegWork) : Nat := match w.todo with | (a, _) :: _ => ck (gTile a.toNat) (gCore a.toNat) | [] => 0

/-- A single write by a requester outside the module's messages; service firmware only reads (R431). While it waits, a `RegWork` without a header holds it,
and the core's group wakes. -/
def regWriteOp (rq : Requester) (a v : Word) (s : State) : State :=
  if rq = .firmware then ends .keyFault s else
  match pathWrite s rq a.toNat v with
  | some s => s
  | none =>
    let s := regWake a.toNat s
    { s with keeper := { s.keeper with works := s.keeper.works ++ [⟨rq, [], [(a, v)], 0, .ok, s.now⟩] } }

/-- GROUP_ENTRY_WRITE: it waits, as a register write does, while the slice that holds its member list trains (R167). -/
def groupEntryRowOp (rq : Requester) (g : Nat) (v : Word) (s : State) : State :=
  let off := 0x301000 + 32 * g + 24
  if listTrains s rq off then regWriteOp rq (BitVec.ofNat 64 (gpaMake s.myModule 30 0 3 off)) v s else groupEntryWriteOp rq g v s

/-- REGISTER_WRITE: a write by the register path, which reaches the own module alone (R431, R435). -/
def registerWriteOp (rq : Requester) (a v : Word) (s : State) : State :=
  if rq = .firmware then ends .keyFault s else
  if gModule a.toNat != s.myModule || gSpace a.toNat = 0 || 3 < gSpace a.toNat then ends .rejected s else regWriteOp rq a v s

/-- A write to core control space that has a row of its own. -/
def coreRegOp (rq : Requester) (key off : Nat) (v : Word) (s : State) : State :=
  regWriteOp rq (BitVec.ofNat 64 (gpaMake s.myModule (key / 64) (key % 64) 2 off)) v s

/-- A write to hearth control space that has a row of its own. -/
def hearthRegOp (rq : Requester) (off : Nat) (v : Word) (s : State) : State :=
  regWriteOp rq (BitVec.ofNat 64 (gpaMake s.myModule 30 0 3 off)) v s

/-- A write of PASS_CTRL that leaves the enable bits as they read, but for the bits given. DESIGN CHOICE (log entry 39). -/
def passCtrlOp (rq : Requester) (key : Nat) (put : Word → Word) (s : State) : State :=
  let c := getCore s key
  coreRegOp rq key 0x8090 (put (pack [(1, b2n (!(getArray c 1).out)), (0, b2n (!(getArray c 0).out))])) s

/-- COUNTERS_CLEAR (R459). -/
def countersClearOp (rq : Requester) (b : CounterBlock) (s : State) : State :=
  withExpert rq 9 s (fun s => ends .ok (match b with
    | .core r => coreCountersClear (coreKey r) s
    | .tile t => tileCountersClear t.val s
    | .hearth => hearthCountersClear s))

end Sys2Proof.Machine
end

