-- ==== Sys2Proof/Machine/Keeper.lean ====
section
/-! DEFINITION. Keeper: logical ordering stamps (R450), the records and the copies of the starter flash (R420–R424), the
counters of the key slots (R439–R442), and how the keeper answers (R428–R430, R438). -/

namespace Sys2Proof.Machine

/-! ### Stamps (R450) -/

/-- Once C reaches all ones the module logs one STAMP_STUCK. -/
def stampStuck (s : State) : State :=
  if s.log.stamp == BitVec.allOnes 48 && !s.log.stuckLogged then
    raise (mkEv 0x0B03 clsNotice 0 7 30 0 evW2 0) { s with log := { s.log with stuckLogged := true } }
  else s

/-- The stamp of the next record or message: C + 1, which sticks at all ones. -/
def stampNext (s : State) : Nat × State :=
  let c := if s.log.stamp = BitVec.allOnes 48 then s.log.stamp else s.log.stamp + 1
  (c.toNat, stampStuck { s with log := { s.log with stamp := c } })

/-- The receipt of a message with stamp v: C becomes the larger, unless v exceeds it by more than 2^40. -/
def stampSeen (v : Nat) (s : State) : State :=
  if s.log.stamp.toNat + 2 ^ 40 < v then countHearth 17 1 s
  else if s.log.stamp.toNat < v then stampStuck { s with log := { s.log with stamp := BitVec.ofNat 48 v } }
  else s

/-! ### Flash records (R424) -/

/-- The first n bytes of a flash area; bytes never programmed read as 0xFF. -/
def flashTake (n : Nat) (l : List Byte) : List Byte := l.take n ++ List.replicate (n - l.length) 0xFF

/-- The bytes with those at off replaced. -/
def bytesPut (l : List Byte) (off : Nat) (b : List Byte) : List Byte := l.take off ++ b ++ l.drop (off + b.length)

/-- A record copy of SEQUENCE seq with a body. -/
def recordMake (seq : Nat) (body : List Byte) : List Byte :=
  let b := leBytes 4 0x52435244 ++ leBytes 4 seq ++ leBytes 4 (24 + body.length) ++ leBytes 4 0 ++
    leBytes 8 Config.deviceId.toNat ++ body
  bytesPut b 12 (leBytes 4 (crc32c b).toNat)

/-- SEQUENCE and body of a valid record copy whose body has n bytes. -/
def recordOf (n : Nat) (l : List Byte) : Option (Nat × List Byte) :=
  let b := flashTake (24 + n) l
  if plField b 0 4 == 0x52435244 && plField b 8 4 == 24 + n && plField b 12 4 == (crc32c (bytesPut b 12 (leBytes 4 0))).toNat &&
     plField b 16 8 == Config.deviceId.toNat then some (plField b 4 4, b.drop 24)
  else none

/-- Whether SEQUENCE a is later than b. -/
def seqLater (a b : Nat) : Bool := decide (0 < (a + 2 ^ 32 - b % 2 ^ 32) % 2 ^ 32) && decide ((a + 2 ^ 32 - b % 2 ^ 32) % 2 ^ 32 < 2 ^ 31)

/-- Writes a record: the invalid or older copy, with SEQUENCE one later than the other copy's. DEDUCED (log entry 110). -/
def recordWrite (c : List Byte × List Byte) (body : List Byte) : List Byte × List Byte :=
  let next (q : Nat × List Byte) : List Byte := recordMake ((q.1 + 1) % 2 ^ 32) body
  match recordOf body.length c.1, recordOf body.length c.2 with
  | none, none => (recordMake 1 body, c.2)
  | none, some q => (next q, c.2)
  | some p, none => (c.1, next p)
  | some p, some q => if seqLater q.1 p.1 then (next q, c.2) else (c.1, next p)

/-- The body of a record of n bytes: that of the valid copy with the later SEQUENCE. -/
def recordRead (n : Nat) (c : List Byte × List Byte) : Option (List Byte) :=
  match recordOf n c.1, recordOf n c.2 with
  | none, none => none
  | none, some q => some q.2
  | some p, none => some p.2
  | some p, some q => if seqLater q.1 p.1 then some q.2 else some p.2

/-- The counter record body: GENERATION and RESERVED of the four slots. -/
def counterBody (s : State) : List Byte :=
  (upto 4).flatMap (fun k => leBytes 8 (slotGen (getSlot s k)) ++ leBytes 8 (getSlot s k).reserved)

/-- Programs the counter record. -/
def counterProgram (s : State) : State :=
  let f := s.keeper.flash
  let c := recordWrite (f.counter0, f.counter1) (counterBody s)
  countHearth 15 1 { s with keeper := { s.keeper with flash := { f with counter0 := c.1, counter1 := c.2 }, counterDirty := false } }

/-- The keeper's own write of the counter record: it waits for the flash window (R413). -/
def counterWrite (s : State) : State :=
  if s.power.flashWindow then counterProgram s
  else countHearth 12 1 { s with keeper := { s.keeper with counterDirty := true } }

/-- The sparing record body: OFF_POSITIONS and RETIRED_POS of the 96 groups, each in the places of GROUP_MAP. -/
def sparingBody (s : State) : List Byte :=
  (upto 96).flatMap (fun i => leBytes 8 (pack [(30, (getGroup s (i / 4) (i % 4)).off.toNat), (17, (getGroup s (i / 4) (i % 4)).retiredPos)]).toNat)

/-- Programs the sparing record. -/
def sparingProgram (s : State) : State :=
  let f := s.keeper.flash
  let c := recordWrite (f.sparing0, f.sparing1) (sparingBody s)
  countHearth 15 1 { s with keeper := { s.keeper with flash := { f with sparing0 := c.1, sparing1 := c.2 } }
                            topo := { s.topo with sparingDirty := false } }

/-- SPARING_RECORD_RETRY (R374): the record is written when the flash window allows, and tried again 60 s later. DEDUCED (log entry 110). -/
def sparingRecordRetryOp (s : State) : State :=
  if !s.topo.sparingDirty || !mainOn s then s else
  let s := { s with now := max s.now s.topo.sparingRetry }
  if s.power.flashWindow then sparingProgram s
  else countHearth 12 1 { s with topo := { s.topo with sparingRetry := s.now + 60000000000 } }

/-- The keeper's own record writes that a housekeeping round tries: the trip record while shut down, which sets WRITTEN,
and a counter record or a sparing record that waits (R412, R413). -/
def keeperRound (s : State) : State :=
  let s := if s.keeper.counterDirty then counterWrite s else s
  let s := if !s.topo.sparingDirty then s else if s.power.flashWindow then sparingProgram s else countHearth 12 1 s
  if !s.power.shutdown || bit s.power.trip 37 then s
  else if !s.power.flashWindow then countHearth 12 1 s
  else
    let f := s.keeper.flash
    let c := recordWrite (f.trip0, f.trip1) (leBytes 8 s.power.trip.toNat)
    countHearth 15 1 { s with keeper := { s.keeper with flash := { f with trip0 := c.1, trip1 := c.2 } }
                              power := { s.power with trip := setFld s.power.trip 37 37 1 } }

/-- HOUSEKEEPING_ROUND with the record writes that it retries. -/
def housekeepingRoundOp (x : HkSample) (s : State) : State :=
  if !s.pins.powered || s.keeper.phase == 0 then s else keeperRound (housekeepingOp x s)

/-! ### Starter copies (R421–R423) -/

/-- The used sections of a copy: TYPE, OFFSET, BYTES. -/
def copySections (c : List Byte) : List (Nat × Nat × Nat) :=
  ((upto 8).map (fun i => (plField c (0x80 + 16 * i) 4, plField c (0x84 + 16 * i) 4, plField c (0x88 + 16 * i) 4))).filter (fun x => x.1 != 0)

/-- The bytes of the first section of a TYPE. -/
def copySection (c : List Byte) (type : Nat) : Option (List Byte) :=
  ((copySections c).find? (fun x => x.1 == type)).map (fun x => (c.drop x.2.1).take x.2.2)

/-- Whether the section directory meets R421. DEDUCED (log entry 107). -/
def directoryOk (c : List Byte) (len : Nat) : Bool :=
  let l := copySections c
  (upto 8).all (fun i => plField c (0x8C + 16 * i) 4 == 0) && l.all (fun x => decide (x.1 ≤ 2)) &&
  (l.filter (fun x => x.1 == 1)).length == 1 && decide ((l.filter (fun x => x.1 == 2)).length ≤ 1) &&
  l.all (fun x => x.2.1 % 64 == 0 && decide (512 ≤ x.2.1) && decide (x.2.1 + x.2.2 + 96 ≤ len) &&
    (x.1 != 2 || decide (x.2.2 ≤ 24 * 2 ^ 20))) &&
  l.zipIdx.all (fun p => l.zipIdx.all (fun q => p.2 == q.2 || !rangesOverlap p.1.2.1 p.1.2.2 q.1.2.1 q.1.2.2))

/-- Whether the PARAMETERS section is well formed (Table 13.5, R423). DEDUCED (log entry 107). -/
def parametersOk (b : List Byte) : Bool :=
  decide (0x80 ≤ b.length) && decide (0x80 + 16 * plField b 5 1 ≤ b.length) && plField b 0 2 == 1 && plField b 6 2 == 0 &&
  plField b 0x70 8 == 0 && plField b 0x78 8 == 0

/-- The VERIFY_HASH of an index. -/
def verifyHash (s : State) (i : Nat) : Option (List Byte) := if i = 0 then some Config.verifyHash else if i = 1 then s.keeper.verify1 else none

/-- Whether a starter copy is valid (R423). -/
def copyValid (s : State) (l : List Byte) : Bool :=
  let len := plField (flashTake 512 l) 0x0C 4
  if plField (flashTake 512 l) 0 4 != 0x54525453 || len < 736 || 33554432 < len then false else
  let c := flashTake len l
  let z := bytesPut c 0x10 (leBytes 4 0)
  let key := (c.drop 0x20).take 96
  plField c 4 2 == 1 && plField c 7 1 == 0 && plField c 0x14 8 == 0 && plField c 0x1C 4 == 0 && ((c.drop 0x100).take 256).all (· == 0) &&
  directoryOk c len && (match copySection c 1 with | some b => parametersOk b | none => false) &&
  verifyHash s (plField c 6 1) == some (sha384 key) && plField c 0x10 4 == (crc32c z).toNat &&
  ecdsaVerify key (c.drop (len - 96)) (z.take (len - 96))

/-- SEQUENCE of a copy. -/
def copySeq (l : List Byte) : Nat := plField (flashTake 512 l) 8 4

/-- The copy that the keeper runs (Table 13.6): none, or whether it is B. -/
def copyChoose (s : State) : Option Bool :=
  let f := s.keeper.flash
  match copyValid s f.copyA, copyValid s f.copyB with
  | true, true => some (seqLater (copySeq f.copyB) (copySeq f.copyA))
  | true, false => some false
  | false, true => some true
  | false, false => none

/-! ### Key slots (R439–R443) -/

def modSlot (s : State) (k : Nat) (f : KeySlot → KeySlot) : State :=
  { s with keeper := { s.keeper with slots := tput s.keeper.slots k (f (getSlot s k)) } }

/-- The key in force of a slot. -/
def currentKey (s : State) (k : Nat) : List Byte := ((getSlot s k).keys.getLast?).getD []

/-- END, the last counter value (R439). -/
def counterEnd : Nat := 134217727

/-- The anchor of n thermometer bits. -/
def anchor (n : Nat) : Nat := if n = 0 then 0 else n * 2 ^ 20 - 1

/-- A failure under rows 4 and 5 of Table 13.13: the 16th within 1 s limits the slot for 1 s (R440). -/
def slotFail (k : Nat) (s : State) : State :=
  let x := getSlot s k
  let l := x.fails.filter (fun t => decide (s.now < t + 1000000000)) ++ [s.now]
  countSlot k 0 1 (modSlot s k (fun x => { x with authFails := min 255 (x.authFails + 1), fails := if 16 ≤ l.length then [] else l,
                                                   limited := if 16 ≤ l.length then some (s.now + 1000000000) else x.limited }))

/-- Locks a slot for a cause of SLOT_LOCKED (Table 14.8). -/
def slotLock (k cause : Nat) (s : State) : State :=
  raise (mkEv 0x0A09 clsFault 0 7 30 0 evW2 (pack [(0, k), (2, slotGen (getSlot s k)), (8, cause)]) .lockedOut)
    (modSlot s k (fun x => { x with locked := true }))

/-- RESERVED of a new reservation for a counter, and the thermometer bits that it needs (R440). -/
def reserveTo (counter : Nat) : Nat := min counterEnd (counter + 4096)
def reserveBits (counter : Nat) : Nat := (reserveTo counter + 1) / 2 ^ 20

/-- The first of the thermometer bits that a counter's reservation adds and that fails to program (R440); a counter within RESERVED
needs none. DESIGN CHOICE (log entry 111). -/
def thermometerFault (s : State) (k counter : Nat) : Option Nat :=
  let x := getSlot s k
  if counter ≤ x.reserved then none
  else ((upto (reserveBits counter)).drop ((x.bits[slotGen x]?).getD 0)).find? (Config.bitFails k (slotGen x))

/-- Persists a reservation for a counter; a bit that fails to program locks the slot (R440). -/
def slotReserve (k counter : Nat) (s : State) : State :=
  match thermometerFault s k counter with
  | some f => slotLock k 1 (modSlot s k (fun x => { x with bits := x.bits.modify (slotGen x) (max f) }))
  | none => counterProgram (modSlot s k (fun x =>
      { x with reserved := reserveTo counter, bits := x.bits.modify (slotGen x) (max (reserveBits counter)) }))

/-- Locks a slot whose LAST an accepted COUNTER took to END, once the command is performed, a ROLLOVER of the slot itself too (R442). -/
def slotEnd (k counter : Nat) (s : State) : State :=
  if counter = counterEnd && !(getSlot s k).locked then slotLock k 0 s else s

/-- RATE_LIMIT_EXPIRE: the limit of a slot ends. -/
def rateLimitExpireOp (k : Nat) (s : State) : State :=
  match (getSlot s k).limited with
  | none => s
  | some t => modSlot { s with now := max s.now t } k (fun x => { x with limited := none })

/-- Whether Table 13.14 lets a slot authorise a message: phase P is recovery or FAILED_START. DEDUCED (log entry 104). -/
def slotMay (s : State) (k : Nat) (m : List Byte) : Bool :=
  let p := s.keeper.phase == 8 || s.keeper.phase == 9
  let target := plField m 0x30 1
  match plField m 0 2, k with
  | 0x20, 0 | 0x20, 2 => true
  | 0x20, 1 => (plField m 0x30 2) &&& 0xFD00 == 0
  | 0x30, 0 | 0x30, 2 => true
  | 0x30, 3 => p
  | 0x40, 0 | 0x40, 1 => true
  | 0x60, 0 | 0x60, 1 | 0x60, 2 => true
  | 0x60, 3 => p
  | 0x50, 0 => decide (target < 4)
  | 0x50, 3 => target == 0
  | _, _ => false

/-! ### Messages (Tables 13.9, 13.10) -/

/-- The COMMAND of a message. -/
def igCode (m : List Byte) : Nat := plField m 0 2
/-- Whether CRITICAL is set. -/
def igCritical (m : List Byte) : Bool := plField m 2 1 % 2 == 1
/-- The header of a message. -/
def igHeader (m : List Byte) : List Byte := m.take 48 ++ List.replicate (48 - m.length) 0

/-- The BODY_BYTES that a message's COMMAND calls for (Table 13.12); none for a reserved COMMAND. -/
def igBodyBytes (m : List Byte) : Option Nat :=
  match igCode m with
  | 0x01 => some 0
  | 0x02 => some (8 + 8 * plField m 0x30 2)
  | 0x03 => some (8 + 16 * plField m 0x30 2)
  | 0x10 | 0x11 | 0x20 | 0x21 | 0x40 | 0x60 => some 8
  | 0x30 => some 16
  | 0x31 => some (8 + plField m 0x34 2)
  | 0x32 => some 0
  | 0x50 => some 40
  | 0x51 => some 112
  | _ => none

/-- Whether Table 13.12 marks a command critical. -/
def igIsCritical (c : Nat) : Bool := c == 0x20 || c == 0x30 || c == 0x40 || c == 0x50 || c == 0x60

/-- Nonzero reserved bytes of a body. -/
def igBodyReserved (m : List Byte) : Bool :=
  match igCode m with
  | 0x02 | 0x03 | 0x11 => plField m 0x32 6 != 0
  | 0x10 => plField m 0x31 1 != 0 || plField m 0x36 2 != 0
  | 0x20 => plField m 0x34 4 != 0
  | 0x21 | 0x50 | 0x60 => plField m 0x31 7 != 0
  | 0x30 => plField m 0x38 8 != 0
  | 0x31 => plField m 0x36 2 != 0
  | _ => false

/-- Counts of a body out of their range. -/
def igCountBad (m : List Byte) : Bool :=
  let n := plField m 0x30 2
  match igCode m with
  | 0x02 => n == 0 || decide (64 < n)
  | 0x03 => n == 0 || decide (60 < n)
  | 0x31 => plField m 0x34 2 == 0 || decide (960 < plField m 0x34 2)
  | _ => false

/-- What R430 and the formats end with REJECTED. A port's message has `len` bytes. DEDUCED (log entry 104). -/
def igMalformed (m : List Byte) (len : Nat) : Bool :=
  match igBodyBytes m with
  | none => true
  | some n =>
    plField m 4 2 != n || len != 48 + n || decide (1 < plField m 2 1) || plField m 6 2 != 0 || decide (3 < plField m 3 1) ||
    plField m 0x1E 2 != 0 || (!igCritical m && (plField m 3 1 != 0 || plField m 0x10 8 != 0)) || igBodyReserved m || igCountBad m

/-- Whether a command may run in the module's phase: R Ready; P recovery and FAILED_START; A after step 3. -/
def igPhaseOk (s : State) (c : Nat) : Bool :=
  let r := s.keeper.phase == 7
  let p := s.keeper.phase == 8 || s.keeper.phase == 9
  match c with
  | 0x01 | 0x51 => decide (2 ≤ s.keeper.phase)
  | 0x30 | 0x31 | 0x32 | 0x50 | 0x60 => r || p
  | _ => r

/-- Sends a reply to its requester: a MANAGEMENT_REPLY packet, or the message that waits at the service port. -/
def igSend (who : Requester) (b : List Byte) (s : State) : State :=
  match who with
  | .fabric m t => sendMsg 30 m.toNat t.toNat 0x41 0 0 0 0 b s
  | .servicePort => { s with keeper := { s.keeper with port := { s.keeper.port with reply := some b, read := 0 } } }
  | _ => s

/-- A reply (Table 13.10) to the message of a header: TAG is computed with `key` for an accepted critical command
(R438). DEDUCED (log entry 112). -/
def igReply (who : Requester) (h : List Byte) (c : Code) (key : Option (List Byte)) (body : List Byte) (s : State) : State :=
  let (stamp, s) := stampNext s
  let head := h.take 2 ++ leBytes 1 (codeNum c) ++ (h.drop 3).take 1 ++ leBytes 2 body.length ++ leBytes 2 0 ++ (h.drop 8).take 16 ++
    leBytes 8 stamp
  let tag := match key with
    | some k => (hmac256 k (leBytes 8 Config.deviceId.toNat ++ head ++ body)).take 16
    | none => List.replicate 16 0
  ends c (igSend who (head ++ tag ++ body) s)

/-- The TAG that a critical message should carry. -/
def igTag (key m : List Byte) : List Byte := (hmac256 key (leBytes 8 Config.deviceId.toNat ++ m.take 32 ++ m.drop 48)).take 16

/-! ### Restarts (R427, R437) -/

/-- EXPERT_END (Table 14.8): index, enable, end cause. -/
def expertEnd (cause : Nat) (s : State) (p : Nat × Enable) : State :=
  let s := { s with keeper := { s.keeper with enables := tdel s.keeper.enables p.1 } }
  raise (mkEv 0x0A03 clsNotice 0 7 30 0 evW2 (enableWord p.2 false (min 4095 (secondsLeft s p.2)) + BitVec.ofNat 64 (4 * cause + p.1))) s

/-- Ends the enables that satisfy a predicate. -/
def expertEndAll (cause : Nat) (f : Nat × Enable → Bool) (s : State) : State :=
  (s.keeper.enables.filter f).foldl (expertEnd cause) s

/-- The module starts again at step 1 of Table 13.7: only the always-on domain is left, and the start-up follows with
RESET_RELEASE. DEDUCED (log entry 108). -/
def startAgain (s : State) : State := alwaysOn (expertEndAll 3 (fun _ => true) s)

/-- A start-up that a STARTER_COMMIT begins (R427, R446): it is no RESET_MODULE, so the hearth keeps its counters while input
power is good (Table 1.8, R459). -/
def startCommitted (s : State) : State := { startAgain s with counters := s.counters.filter (fun p => p.1 / 2 ^ 45 == 30) }

/-- The module enters hearth-only recovery by RESET_MODULE; the mailbox keeps what start-up chose. DEDUCED (log entry 108). -/
def enterRecovery (s : State) : State :=
  let a := startAgain s
  { a with keeper := { a.keeper with phase := 8, starterSeq := s.keeper.starterSeq, copyB := s.keeper.copyB, otherValid := s.keeper.otherValid } }

end Sys2Proof.Machine
end

