-- ==== Sys2Proof/Machine/Igrin.lean ====
section
/-! DEFINITION. Igrin: what each Igrin command does (Table 13.12), the course of a message through the keeper (R430,
R434, Table 13.13), the transports (R428, R429) and the leases by command (R385–R387, R436). -/

namespace Sys2Proof.Machine

/-- What a command answers: a code and a body, or nothing yet when its reply waits. -/
abbrev IgAnswer := Option (Code × List Byte) × State

/-- A reply with no body. -/
def igCodeOnly (c : Code) (s : State) : IgAnswer := (some (c, []), s)

/-! ### IDENTIFY, REG_READ, REG_WRITE (R435) -/

/-- IDENTIFY. -/
def igIdentify (s : State) : IgAnswer :=
  (some (.ok, leBytes 8 Config.deviceId.toNat ++ leBytes 2 s.myModule ++ leBytes 1 s.keeper.phase ++ leBytes 1 0 ++
    leBytes 4 s.keeper.starterSeq ++ (upto 24 ++ [30]).map Config.dieRevision ++ List.replicate 7 0), s)

/-- Whether an address is one that REG_READ and REG_WRITE accept. -/
def igAddrOk (s : State) (a : Nat) : Bool := gModule a == s.myModule && decide (1 ≤ gSpace a) && decide (gSpace a ≤ 3)

/-- One read of a work; the service firmware reads registers of the own module alone (R417). -/
def readOne (s : State) (who : Requester) (a : Nat) : Option (Word × State) :=
  if who != .firmware then pathRead s who a
  else if gModule a != s.myModule then some (0, ends .rejected s)
  else if gSpace a = 1 then some (regRead s who a)
  else pathRead s who a

/-- The answer in the firmware's reply block. -/
def fwAnswer (c : Code) (l : List Word) (s : State) : State :=
  ends c { s with keeper := { s.keeper with fw := { s.keeper.fw with replyCode := c, reply := l } } }

/-- The reads of a work in order, from its first: it stops at one that must wait. -/
def readRun : Nat → ReadWork → State → ReadWork × State
  | 0, w, s => (w, s)
  | fuel + 1, w, s =>
    match w.todo with
    | [] => (w, s)
    | a :: r =>
      match readOne s w.who a with
      | none => (w, regWake a s)
      | some (v, s) => readRun fuel { w with todo := r, body := w.body ++ leBytes 8 v.toNat, code := codeMerge w.code s.lastCode } s

/-- A work that has run as far as it can: its reply, or its place among the works that wait. -/
def readSettle (w : ReadWork) (s : State) : State :=
  let r := readRun (w.todo.length + 1) w s
  if !r.1.todo.isEmpty then { r.2 with keeper := { r.2.keeper with reads := r.2.keeper.reads ++ [r.1] } }
  else if r.1.who == .firmware then fwAnswer r.1.code ((upto (r.1.body.length / 8)).map (fun i => BitVec.ofNat 64 (plField r.1.body (8 * i) 8))) r.2
  else igReply r.1.who r.1.header r.1.code none r.1.body r.2

/-- Tries the waiting reads again, oldest first. -/
def readsRetry (s : State) : State :=
  s.keeper.reads.foldl (fun s w => readSettle w s) { s with keeper := { s.keeper with reads := [] } }

/-- REG_READ. -/
def igRegRead (who : Requester) (m : List Byte) (s : State) : IgAnswer :=
  let l := (upto (plField m 0x30 2)).map (fun i => plField m (0x38 + 8 * i) 8)
  if !l.all (igAddrOk s) then igCodeOnly .rejected s else (none, readSettle ⟨who, igHeader m, l, [], .ok⟩ s)

/-- The writes of a work in order, from its first: it stops at a Failed code, and at a write that must wait. -/
def workRun : Nat → RegWork → State → RegWork × State
  | 0, w, s => (w, s)
  | fuel + 1, w, s =>
    match w.todo with
    | [] => (w, s)
    | (a, v) :: r =>
      match pathWrite s w.who a.toNat v with
      | none => (w, regWake a.toNat s)
      | some s =>
        let w := { w with todo := r, code := codeMerge w.code s.lastCode, since := s.now }
        if codeFailed s.lastCode then ({ w with todo := [] }, s) else workRun fuel { w with applied := w.applied + 1 } s

/-- A work that has run as far as it can: its reply, or its place among the works that wait. DEDUCED (log entry 105). -/
def workSettle (w : RegWork) (s : State) : State :=
  let r := workRun (w.todo.length + 1) w s
  if !r.1.todo.isEmpty then { r.2 with keeper := { r.2.keeper with works := r.2.keeper.works ++ [r.1] } }
  else if r.1.header.isEmpty then ends r.1.code r.2
  else igReply r.1.who r.1.header r.1.code none (leBytes 2 r.1.applied) r.2

/-- Tries the waiting register writes again, oldest first. -/
def worksRetry (s : State) : State :=
  s.keeper.works.foldl (fun s w => workSettle w s) { s with keeper := { s.keeper with works := [] } }

/-- REG_WRITE. DEDUCED (log entry 105). -/
def igRegWrite (who : Requester) (m : List Byte) (s : State) : IgAnswer :=
  let l := (upto (plField m 0x30 2)).map (fun i =>
    (BitVec.ofNat 64 (plField m (0x38 + 16 * i) 8), BitVec.ofNat 64 (plField m (0x40 + 16 * i) 8)))
  if !l.all (fun p => igAddrOk s p.1.toNat) then igCodeOnly .rejected s
  else (none, workSettle ⟨who, igHeader m, l, 0, .ok, s.now⟩ s)

/-! ### Leases (R436) -/

/-- SCOPE of a lease. -/
def leaseScope (l : Lease) : Nat := l.kind * 8192 + l.tile * 256 + l.unit_

/-- Whether SCOPE names an instance of an activity's scope. -/
def scopeOk (act scope : Nat) : Bool :=
  let t := nbits scope 12 8
  let u := nbits scope 7 0
  decide (1 ≤ act) && decide (act ≤ 9) && nbits scope 15 13 == leaseKind act &&
  (match leaseKind act with
   | 1 => decide (t < 24) && decide (u < 64)
   | 2 => decide (t < 24) && decide (u < 4)
   | 3 => decide (t < 24) && u == 0
   | 4 => decide (u < 160) && t == servingTile (u / 8)
   | _ => t == 0 && u == 0)

/-- A granted explicit lease starts its time. -/
def leaseStart (secs : Nat) (s : State) : State :=
  { s with topo := { s.topo with leases := s.topo.leases.dropLast ++
      (s.topo.leases.getLast?.map (fun (l : Lease) => { l with time := s.now + 1000000000 * secs })).toList } }

/-- LEASE_ID of the lease granted last. -/
def leaseLast (s : State) : Nat := (s.topo.leases.getLast?.map (fun (l : Lease) => l.id)).getD 0

/-- LEASE_TAKE: a lease that stands against it comes before a SECONDS out of range (R21). -/
def igLeaseTake (who : Requester) (m : List Byte) (s : State) : IgAnswer :=
  let act := plField m 0x30 1
  let scope := plField m 0x32 2
  let secs := plField m 0x34 2
  if !scopeOk act scope then igCodeOnly .rejected s
  else if secs == 0 || 600 < secs then
    (if leaseDecide s act (nbits scope 12 8) (nbits scope 7 0) == .conflict then igCodeOnly .conflict (countHearth 11 1 s) else igCodeOnly .rejected s)
  else
  match leaseAsk act (nbits scope 12 8) (nbits scope 7 0) (.explicit who (igHeader m) secs) false s with
  | (.granted, s) => let s := leaseStart secs s; (some (.ok, leBytes 2 (leaseLast s)), s)
  | (.waits, s) => (none, s)
  | (.full, s) => igCodeOnly .retryLater s
  | (.conflict, s) => igCodeOnly .conflict s

/-- Whether a lease was taken by LEASE_TAKE. -/
def leaseExplicit (l : Lease) : Bool := match l.act with | .explicit _ _ _ => true | _ => false

/-- LEASE_RELEASE. DEDUCED (log entry 91). -/
def igLeaseRelease (m : List Byte) (s : State) : IgAnswer :=
  let id := plField m 0x30 2
  if s.topo.leases.any (fun l => l.id == id && leaseExplicit l) then igCodeOnly .ok (leaseEnd (fun l => l.id == id && leaseExplicit l) s)
  else igCodeOnly .rejected s

/-- LEASE_EXPIRED: an explicit lease reaches its time (R385). -/
def leaseExpiredOp (id : Nat) (s : State) : State :=
  match s.topo.leases.find? (fun l => l.id == id && leaseExplicit l) with
  | none => s
  | some l =>
    let (port, m, t) := match l.act with
      | .explicit (.fabric m t) _ _ => (false, m.toNat, t.toNat)
      | .explicit .servicePort _ _ => (true, 0, 0)
      | _ => (false, 0, 0)
    raise (mkEv 0x0807 clsNotice 0 7 30 0 evW2 (pack [(50, m), (45, t), (44, b2n port), (24, leaseScope l), (16, l.activity), (0, l.id)]))
      (leaseEnd (fun l => l.id == id && leaseExplicit l) { s with now := max s.now l.time })

/-- Runs what a granted lease is for; an explicit one starts its time and its reply leaves. -/
def leaseRun (l : Lease) (s : State) : State :=
  match l.act with
  | .explicit who h secs => let s := leaseStart secs s; igReply who h .ok none (leBytes 2 (leaseLast s)) s
  | a => runAct a s

/-- LEASE_GRANT: the first waiting request whose held leases have ended is granted (R387). -/
def leaseGrantOp (s : State) : State :=
  if 256 ≤ s.topo.leases.length then s else
  match s.topo.leaseWaits.find? (fun l => leaseDecide s l.activity l.tile l.unit_ == .grant) with
  | none => s
  | some l =>
    leaseRun l (leaseAdd l.activity l.tile l.unit_ l.act 0
      { s with topo := { s.topo with leaseWaits := s.topo.leaseWaits.erase l } })

/-- LEASE_WAIT_TIMEOUT: the request that has waited longest reaches 100 ms and ends with CONFLICT. -/
def leaseWaitTimeoutOp (s : State) : State :=
  match s.topo.leaseWaits with
  | [] => s
  | l :: r =>
    let s := countHearth 11 1 { s with now := max s.now (l.time + 100000000), topo := { s.topo with leaseWaits := r } }
    match l.act with
    | .explicit who h _ => igReply who h .conflict none [] s
    | a =>
      let s := actConflict a s
      if actAuto a then { s with topo := { s.topo with leaseRetries := s.topo.leaseRetries ++ [{ l with time := s.now + 10000000 }] } } else s

/-- LEASE_RETRY: an automatic activity asks again after 10 ms. -/
def leaseRetryOp (s : State) : State :=
  match s.topo.leaseRetries with
  | [] => s
  | l :: r =>
    let s := { s with now := max s.now l.time, topo := { s.topo with leaseRetries := r } }
    match l.act with
    | .engineWork e => engineAuto e s
    | a => match leaseAsk l.activity l.tile l.unit_ a true s with
      | (.granted, s) => runAct a s
      | (_, s) => s

/-! ### Expert enables (R433) -/

/-- EXPERT_ENABLE, authorised by slot k. -/
def igExpertEnable (who : Requester) (k : Nat) (m : List Byte) (s : State) : IgAnswer :=
  let fn := plField m 0x30 2
  let secs := plField m 0x32 2
  if fn / 1024 != 0 || secs == 0 || 3600 < secs then igCodeOnly .rejected s else
  match (upto 4).find? (fun i => !s.keeper.enables.any (fun p => p.1 == i)) with
  | none => igCodeOnly .retryLater s
  | some i =>
    let e : Enable := ⟨who, BitVec.ofNat 16 fn, s.now + 1000000000 * secs, k⟩
    (some (.ok, leBytes 1 i), raise (mkEv 0x0A02 clsNotice 0 7 30 0 evW2 (enableWord e true secs + BitVec.ofNat 64 i))
      { s with keeper := { s.keeper with enables := tput s.keeper.enables i e } })

/-- EXPERT_DISABLE: one enable, or all of them. DEDUCED (log entry 106). -/
def igExpertDisable (m : List Byte) (s : State) : IgAnswer :=
  let i := plField m 0x30 1
  if i = 0xFF then igCodeOnly .ok (expertEndAll 1 (fun _ => true) s)
  else if 3 < i then igCodeOnly .rejected s
  else igCodeOnly .ok (expertEndAll 1 (fun p => p.1 == i) s)

/-- EXPERT_ENABLE_EXPIRE. -/
def expertEnableExpireOp (i : Nat) (s : State) : State :=
  match s.keeper.enables.find? (fun p => p.1 == i) with
  | none => s
  | some p => expertEnd 0 { s with now := max s.now p.2.until_ } p

/-! ### The starter image (R446, Table 13.15) -/

/-- STARTER_BEGIN: a lease that stands against it comes before a bad image (R21, R446). -/
def igStarterBegin (who : Requester) (m : List Byte) (s : State) : IgAnswer :=
  let bytes := plField m 0x30 4
  let seq := plField m 0x34 4
  let open_ (s : State) : IgAnswer := igCodeOnly .ok { s with keeper := { s.keeper with session := some ⟨who, bytes, seq, 0, s.now⟩ } }
  if s.keeper.session.isSome || (s.keeper.phase == 7 && leaseDecide s 9 0 0 == .conflict) then
    igCodeOnly .conflict (if s.keeper.session.isSome then s else countHearth 11 1 s)
  else if bytes < 736 || 33554432 < bytes || !seqLater seq s.keeper.starterSeq then igCodeOnly .rejected s
  else if s.keeper.phase != 7 then open_ s
  else match leaseAsk 9 0 0 .starter false s with
    | (.granted, s) => open_ s
    | (.full, s) => igCodeOnly .retryLater s
    | (_, s) => igCodeOnly .conflict s

/-- Ends the session and its lease. -/
def sessionEnd (s : State) : State := leaseRelease 9 0 0 { s with keeper := { s.keeper with session := none } }

/-- The flash copy with the image bytes at off: each sector is erased before the first byte written into it. -/
def starterPut (l : List Byte) (off : Nat) (b : List Byte) : List Byte :=
  let stop := off + b.length
  let sector := (stop + 65535) / 65536 * 65536
  flashTake off l ++ b ++ List.replicate (sector - stop) 0xFF ++ l.drop sector

/-- The copy that a session writes: the one that start-up did not choose. DEDUCED (log entry 106). -/
def sessionCopy (s : State) (f : List Byte → List Byte) : State :=
  let x := s.keeper.flash
  let x := if s.keeper.copyB then { x with copyA := f x.copyA } else { x with copyB := f x.copyB }
  { s with keeper := { s.keeper with flash := x } }

/-- STARTER_DATA. DEDUCED (log entry 106). -/
def igStarterData (who : Requester) (m : List Byte) (s : State) : IgAnswer :=
  match s.keeper.session with
  | none => igCodeOnly .conflict s
  | some x =>
    let off := plField m 0x30 4
    let n := plField m 0x34 2
    if x.who != who then igCodeOnly .conflict s
    else if off != x.written || x.bytes < off + n then
      igCodeOnly .rejected { s with keeper := { s.keeper with session := some { x with last := s.now } } }
    else if !s.power.flashWindow then igCodeOnly .retryLater { s with keeper := { s.keeper with session := some { x with last := s.now } } }
    else
      let s := countHearth 15 1 (sessionCopy s (fun l => starterPut l off ((m.drop 0x38).take n)))
      igCodeOnly .ok { s with keeper := { s.keeper with session := some { x with written := off + n, last := s.now } } }

/-- STARTER_COMMIT: the copy is read back; the session ends. -/
def igStarterCommit (who : Requester) (s : State) : IgAnswer :=
  match s.keeper.session with
  | none => igCodeOnly .conflict s
  | some x =>
    let c := if s.keeper.copyB then s.keeper.flash.copyA else s.keeper.flash.copyB
    if x.who != who then igCodeOnly .conflict s
    else if x.written == x.bytes && copyValid s c && copySeq c == x.sequence then igCodeOnly .ok (sessionEnd s)
    else igCodeOnly .rejected (sessionEnd s)

/-- STARTER_SESSION_TIMEOUT: 60 s without DATA or COMMIT. -/
def starterSessionTimeoutOp (s : State) : State :=
  match s.keeper.session with
  | none => s
  | some x => sessionEnd { s with now := max s.now (x.last + 60000000000) }

/-! ### SYSTEM_LOAD, ROLLOVER, PROVISION -/

/-- SYSTEM_LOAD: the keeper registers the image as REGISTER_KERNEL does (R114, R230); its reply waits for the end. DESIGN CHOICE (log entry 65). -/
def igSystemLoad (who : Requester) (m : List Byte) (s : State) : IgAnswer :=
  let va := plField m 0x30 8
  if 2 ^ 47 ≤ va then igCodeOnly .rejected s else
  let id := s.nextId
  let t := admSubmit .keeper { descZero with w0 := pack [(56, 3)], w1 := BitVec.ofNat 64 va } ⟨0, 0, 0⟩
    { s with keeper := { s.keeper with loads := s.keeper.loads ++ [⟨id, who, m.take 56, none⟩] } }
  if t.nextId = id then igCodeOnly t.lastCode s else (none, t)

/-- The replies of the SYSTEM_LOADs that have ended: KERNEL_ID of the image in address space 0. DESIGN CHOICE (log entry 65). DEDUCED (log entry 105). -/
def loadsReply (s : State) : State :=
  let l := s.keeper.loads.filter (fun w => w.done.isSome)
  l.foldl (fun s w =>
    let body := match w.done, s.kernels.find? (fun k => k.space == 0 && k.va == plField w.header 0x30 8) with
      | some .ok, some k => leBytes 8 k.kernelId.toNat
      | _, _ => []
    igReply w.who w.header (w.done.getD .ok) (some (currentKey s (plField w.header 3 1))) body s)
    { s with keeper := { s.keeper with loads := s.keeper.loads.filter (fun w => w.done.isNone) } }

/-- ROLLOVER (R445), authorised by slot k. -/
def igRollover (k : Nat) (m : List Byte) (s : State) : IgAnswer :=
  let t := plField m 0x30 1
  let info := "IGRIN-ROLLOVER".toList.map (fun c => BitVec.ofNat 8 c.toNat) ++ leBytes 1 t
  let key := (((m.drop 0x38).take 32).zip (hkdf256 (currentKey s k) ((m.drop 0x10).take 8) info)).map (fun p => p.1 ^^^ p.2)
  if key.all (· == 0) || (getSlot s t).keys.length == 8 then igCodeOnly .rejected s else
  let s := modSlot s t (fun x => { x with keys := x.keys ++ [key], bits := x.bits ++ [0], last := 0, reserved := 0, locked := false })
  igCodeOnly .ok (expertEndAll 2 (fun p => p.2.slot == t) (counterWrite s))

/-- PROVISION (R444): over the service port, while slot 0 has no key. -/
def igProvision (who : Requester) (m : List Byte) (s : State) : IgAnswer :=
  let owner := (m.drop 0x30).take 32
  let rec_ := (m.drop 0x50).take 32
  let hash := (m.drop 0x70).take 48
  if who != .servicePort || !(getSlot s 0).keys.isEmpty || owner.all (· == 0) || rec_.all (· == 0) || owner == rec_ then igCodeOnly .rejected s
  else
    let put (key : List Byte) (x : KeySlot) : KeySlot := { x with keys := [key], bits := [0] }
    let s := modSlot (modSlot s 0 (put owner)) 3 (put rec_)
    igCodeOnly .ok (if hash.all (· == 0) || s.keeper.verify1.isSome then s else { s with keeper := { s.keeper with verify1 := some hash } })

/-! ### The course of a message -/

/-- What a command does once it is accepted; k is the slot that authorised it. -/
def igAct (who : Requester) (k : Nat) (m : List Byte) (s : State) : IgAnswer :=
  match igCode m with
  | 0x01 => igIdentify s
  | 0x02 => igRegRead who m s
  | 0x03 => igRegWrite who m s
  | 0x10 => igLeaseTake who m s
  | 0x11 => igLeaseRelease m s
  | 0x20 => igExpertEnable who k m s
  | 0x21 => igExpertDisable m s
  | 0x30 => igStarterBegin who m s
  | 0x31 => igStarterData who m s
  | 0x32 => igStarterCommit who s
  | 0x40 => igSystemLoad who m s
  | 0x50 => igRollover k m s
  | 0x51 => igProvision who m s
  | 0x60 => igCodeOnly (if plField m 0x30 1 < 2 then .ok else .rejected) s
  | _ => igCodeOnly .rejected s

/-- RESET_MODULE takes effect: mode 0, or 1 for recovery (R437). -/
def resetModule (recovery : Bool) (s : State) : State := if recovery then enterRecovery s else startAgain s

/-- The packets of tile 30's replies that are still inside the module. -/
def replyInside (s : State) : Bool :=
  let own (p : Packet) : Bool := pType p == 0x41 && pSrcModule p == s.myModule && pSrcTile p == 30
  let port := getPort s 30
  port.queue.any (fun q => own q.2) || port.network.any own || s.d2d.any (fun p => p.2.out.any (fun x => own x.pkt) || p.2.buf.any (fun x => own x.pkt)) ||
  s.strands.any (fun p => p.2.egress.any own || p.2.sending.any own)

/-- A RESET_MODULE whose reply goes over the fabric takes effect once the reply has left, and at the latest 10 ms after it (R437). -/
def resetRun (s : State) : State :=
  match s.keeper.resetDue with
  | none => s
  | some (r, due) => if replyInside s && decide (s.now < due) then s else resetModule r s

/-- What follows the reply: a restart by RESET_MODULE (R437) or by a COMMIT in the phases P (R446). -/
def igAfter (who : Requester) (m : List Byte) (c : Code) (s : State) : State :=
  if igCode m = 0x60 && c == .ok then
    match who with
    | .fabric _ _ => { s with keeper := { s.keeper with resetDue := some (plField m 0x30 1 != 0, s.now + 10000000) } }
    | _ => resetModule (plField m 0x30 1 != 0) s
  else if igCode m = 0x32 && c == .ok && s.keeper.phase != 7 then startCommitted s
  else s

/-- Replies to an answer, and what follows it. -/
def igAnswer (who : Requester) (m : List Byte) (key : Option (List Byte)) (r : IgAnswer) (lock : State → State) : State :=
  match r.1 with
  | none => lock r.2
  | some (c, body) => igAfter who m c (lock (igReply who (igHeader m) c key body r.2))

/-- What refuses a critical command: rows 1–7 of Table 13.13 with the failures they count, in order. DEDUCED (log entry 103). -/
def criticalRefusal (m : List Byte) (s : State) : Option (Code × State) :=
  let k := plField m 3 1
  let x := getSlot s k
  let n := plField m 0x10 8
  if x.keys.isEmpty then some (.keyFault, s)
  else if x.locked then some (.lockedOut, s)
  else if x.limited.isSome || !slotMay s k m then some (.keyFault, s)
  else if igTag (currentKey s k) m != (m.drop 0x20).take 16 then some (.keyFault, slotFail k s)
  else if n ≤ x.last then some (.keyFault, slotFail k s)
  else if !igPhaseOk s (igCode m) || counterEnd < n then some (.rejected, s)
  else if x.reserved < n && !s.power.flashWindow then some (.retryLater, countHearth 12 1 s)
  else none

/-- A critical command (Table 13.13); one whose reservation locks the slot is not accepted. DEDUCED (log entry 103). DESIGN CHOICE (log entry 111). -/
def igCriticalTake (who : Requester) (m : List Byte) (s : State) : State :=
  match criticalRefusal m s with
  | some (c, s) => igReply who (igHeader m) c none [] s
  | none =>
    let k := plField m 3 1
    let n := plField m 0x10 8
    let key := currentKey s k
    let s := if (getSlot s k).reserved < n then slotReserve k n s else s
    if (getSlot s k).locked then igReply who (igHeader m) .lockedOut none [] s else
    let s := countSlot k 1 1 (modSlot s k (fun x => { x with last := n }))
    igAnswer who m (some key) (igAct who k m s) (slotEnd k n)

/-- A message that the keeper takes: `len` is the message's length in bytes. KEY_FAULT for a critical command with CRITICAL 0 comes before
REJECTED (R21, R430). DEDUCED (log entry 103). -/
def igTake (who : Requester) (m : List Byte) (len : Nat) (s : State) : State :=
  let s := stampSeen (plField m 0x18 6) s
  if igIsCritical (igCode m) && !igCritical m then igReply who (igHeader m) .keyFault none [] s
  else if igMalformed m len then igReply who (igHeader m) .rejected none [] s
  else if igCritical m then igCriticalTake who m s
  else if !igPhaseOk s (igCode m) then igReply who (igHeader m) .rejected none [] s
  else igAnswer who m none (igAct who 0 m s) id

/-! ### Transports -/

/-- Whether a requester reaches the keeper over the fabric. -/
def byFabric (rq : Requester) : Bool := match rq with | .fabric _ _ => true | _ => false

/-- The management requests over the fabric whose replies are still to come: each holds a reply slot (R294). -/
def slotsHeld (s : State) : Nat :=
  (s.keeper.works.filter (fun w => byFabric w.who && !w.header.isEmpty)).length + (s.keeper.reads.filter (fun w => byFabric w.who)).length + (s.keeper.loads.filter (fun w => byFabric w.who)).length +
  (s.topo.leaseWaits.filter (fun l => match l.act with | .explicit who _ _ => byFabric who | _ => false)).length

/-- Whether one of the keeper's 64 reply slots is free (R428). DEDUCED (log entry 153). -/
def slotFree (s : State) : Bool := decide (slotsHeld s < 64)

/-- The message of a MANAGEMENT packet (R428). DESIGN CHOICE (log entry 118). -/
def igPacketRun (p : Packet) (s : State) : State :=
  let n := 48 + plField p.payload 4 2
  let len := if p.payload.length = (n + 63) / 64 * 64 then n else p.payload.length
  igTake (.fabric (BitVec.ofNat 14 (pSrcModule p)) (BitVec.ofNat 5 (pSrcTile p))) (p.payload.take n) len s

/-- MANAGEMENT at tile 30 (R428): the keeper accepts a request only when it holds a free reply slot for it; others wait in
order (R294). -/
def igPacketTake (p : Packet) (s : State) : State :=
  if s.keeper.inbox.isEmpty && slotFree s then igPacketRun p s
  else { s with keeper := { s.keeper with inbox := s.keeper.inbox ++ [p] } }

/-- The management requests that wait for a reply slot, oldest first. -/
def inboxRun (s : State) : State :=
  s.keeper.inbox.foldl (fun s p => igPacketTake p s) { s with keeper := { s.keeper with inbox := [] } }

/-- Whether the keeper answers messages over the service port: its ROM runs from step 2 of Table 13.7 on. -/
def portAnswers (s : State) : Bool := s.pins.powered && decide (1 ≤ s.keeper.phase)

/-- A transaction that the module does not acknowledge. -/
def smbNack (s : State) : State := { s with keeper := { s.keeper with port := { s.keeper.port with acked := false, out := [] } } }

/-- A whole message over the service port: an unread reply is discarded (R429). Before step 2 it is not acknowledged (R475). -/
def igPortTake (m : List Byte) (s : State) : State :=
  if !portAnswers s then smbNack s else
  igTake .servicePort m m.length { s with keeper := { s.keeper with port := { s.keeper.port with buffer := [], next := 0, reply := none, read := 0, acked := true } } }

/-- Whether COMMAND is one that no row of Table 13.12 has. DESIGN CHOICE (log entry 102). -/
def igReservedCode (m : List Byte) : Bool := (igBodyBytes m).isNone

/-- MANAGEMENT_REPLY at tile 30: the answer to a notice changes only the stamp (R450, R463); a reserved CODE raises its event (R23). -/
def managementReplyTake (p : Packet) (s : State) : State := receivedEvent 30 (plField p.payload 2 1) (stampSeen (plField p.payload 0x18 6) s)

end Sys2Proof.Machine
end

