-- ==== Sys2Proof/Machine/Startup.lean ====
section
/-! DEFINITION. Startup: the start-up sequence (R425, R426, Tables 13.7 and 13.8), the end of discovery (R366), the 48 V
input (Table 15.5), the reset signals (R481, Table 15.8) and the reference (R395). -/

namespace Sys2Proof.Machine

/-- START_FAILED: the module enters FAILED_START (9) or hearth-only recovery (8) for a cause of Table 14.8. DESIGN CHOICE (log entry 118). -/
def startFail (phase cause : Nat) (s : State) : State :=
  raise (mkEv 0x0A0A clsFault 0 7 30 0 evW2 (pack [(0, phase), (8, cause)])) { s with keeper := { s.keeper with phase := phase } }

def setPhase (p : Nat) (s : State) : State := { s with keeper := { s.keeper with phase := p } }

/-! ### Steps 3 and 4 -/

/-- LAST and RESERVED of a slot at start-up (R441): the larger of the anchor and the record's RESERVED of the same
generation; a slot whose floor is END starts locked, and a locked one stays so until a ROLLOVER (R442). -/
def slotFloor (rec_ : Option (List Byte)) (s : State) (k : Nat) : State :=
  modSlot s k (fun x =>
    if x.keys.isEmpty then x else
    let g := slotGen x
    let a := anchor ((x.bits[g]?).getD 0)
    let f := match rec_ with
      | some b => if plField b (16 * k) 1 = g then max a (plField b (16 * k + 8) 8) else a
      | none => a
    { x with last := f, reserved := f, locked := x.locked || f == counterEnd, authFails := 0, fails := [], limited := none })

/-- The records of step 3: the floors of the slots, and a trip record, which TRIP_RECORD shows (R412). DEDUCED (log entry 110). -/
def readRecords (s : State) : State :=
  let f := s.keeper.flash
  let s := (upto 4).foldl (slotFloor (recordRead 64 (f.counter0, f.counter1))) s
  match recordRead 8 (f.trip0, f.trip1) with
  | none => s
  | some b =>
    let w := setFld (BitVec.ofNat 64 (plField b 0 8)) 37 36 3
    raise (mkEv 0x0905 clsNotice 0 7 30 0 evW2 w) { s with power := { s.power with trip := w } }

/-- Applies the PARAMETERS of the chosen copy (Table 13.5). A FALLBACK_MODULE or a MODEL_MARGIN outside its range stands for a free value.
DESIGN CHOICE (log entry 107). -/
def applyParameters (b : List Byte) (s : State) : State :=
  let (w, s) := freeWord s
  let module := plField b 2 2
  let margin := plField b 4 1
  { s with
    keeper := { s.keeper with
      fallback := if module < 16384 then module else w.toNat % 16384
      margin := if 4 ≤ margin ∧ margin ≤ 0x40 then margin else w.toNat / 16384 % 256
      qualified := ((upto 16).map (fun i => BitVec.ofNat 32 (plField b (0x30 + 4 * i) 2 * 65536 + plField b (0x32 + 4 * i) 2))).filter (· != 0)
      presets := (upto (plField b 5 1)).map (fun i => (BitVec.ofNat 64 (plField b (0x80 + 16 * i) 8), BitVec.ofNat 64 (plField b (0x88 + 16 * i) 8))) }
    topo := { s.topo with profile := (upto 20).map (fun i => BitVec.ofNat 16 (plField b (8 + 2 * i) 2)) } }

/-- The image that the keeper runs. -/
def runningCopy (s : State) : List Byte :=
  let l := if s.keeper.copyB then s.keeper.flash.copyB else s.keeper.flash.copyA
  flashTake (plField (flashTake 512 l) 0x0C 4) l

/-- Loads the service firmware of the running copy into service memory and releases it (step 6, R418). -/
def firmwareLoad (s : State) (release due : Nat) : State :=
  match copySection (runningCopy s) 2 with
  | none => s
  | some b => { s with keeper := { s.keeper with fw := { s.keeper.fw with running := true, memory := b, due := some (release + due), refusals := [] } } }

/-! ### Steps 5 to 12 -/

/-- OFF_POSITIONS and RETIRED_POS of a group from the sparing record (R374). -/
def sparingApply (b : List Byte) (s : State) (i : Nat) : State :=
  let w := BitVec.ofNat 64 (plField b (8 * i) 8)
  modGroup s (i / 4) (i % 4) (fun x => { x with off := BitVec.ofNat 17 (fld w 46 30), retiredPos := fld w 21 17 })

/-- The TILE_OUT cause of a tile at start-up (Table 14.8): none for a tile in service. -/
def tileCause (e : StartEnv) (t : Nat) : Option Nat :=
  (e.tileFail.find? (fun p => p.1.val == t && p.2.val != 0)).map (fun p => p.2.val)

/-- Steps 1 to 4 of Table 5.5 in a tile: its fuses, and its slices in training, with the failed lanes replaced by spares and a layer
with more of them than spares marked erased. A stack outside its write window holds the writes of steps 5 and 6 (R171). A tile that
fails stays out of service. -/
def tileTrain (e : StartEnv) (s : State) (t : Nat) : State :=
  let s := modTP s t (fun x => { x with modelCfg := pack [(24, s.keeper.margin), (0, (Config.theta t).toNat)] })
  match tileCause e t with
  | some c => raise (mkEv 0x0808 clsFault 0 6 t 0 evW2 (BitVec.ofNat 64 c)) s
  | none =>
    let s := (upto 64).foldl (fun s c => modSlice s (ck t c) (fun x => { x with state := 2 })) s
    let lanes := e.failedLanes.filter (fun p => p.1.tile.val == t)
    let s := ((lanes.map (fun p => coreKey p.1)).foldl addNew []).foldl (fun s key =>
      let failed := (lanes.filter (fun p => coreKey p.1 == key)).map (fun p => (p.2.1.val, p.2.2.toNat))
      (overLayers failed).foldl (fun s l => eraseLayer key l 1 s) (laneMapLoad key failed s)) s
    match e.stackTemp.find? (fun p => p.1.val == t) with
    | some p => holdRule t (modTile s t (fun z => { z with layerTemp := List.replicate 16 (p.2.toInt * tUnit) }))
    | none => s

/-- Steps 5 to 7 of Table 5.5: the slices hold zeros and serve, and the groups of the tile run (R166, R180). DEDUCED (log entry 93). -/
def tileStart (e : StartEnv) (s : State) (t : Nat) : State :=
  if (tileCause e t).isSome then s else
  let s := modTile s t (fun x => { x with inService := true })
  let em := tileEmergency s t
  let mhz := if em then emergMhz s else maxMhz s
  let s := (upto 4).foldl (fun s g => modGroup s t g (fun x => { x with pstate := .run, mhz := mhz, target := mhz, emergency := em })) s
  (upto 64).foldl (fun s c => modSlice s (ck t c) (fun x => { x with state := if x.state = 2 then 1 else x.state })) s

/-- A die-to-die link that trained at 16 GT/s or at x32 (Table 1.2): both its dies show it, and the tile with the lower number reports it
(R8, R28, R30). -/
def linkReduced (s : State) (p : D2dTrain) : State :=
  let u := p.tile.val
  let e := p.edge.val
  match linkOwner u e with
  | none => s
  | some (t, f) =>
    if !(p.slow || p.narrow) then s else
    let gts := if p.slow then 16 else 32
    let width := if p.narrow then 32 else 64
    let lane (u e : Nat) (s : State) : State := modLane s (laneKey u e) (fun x => { x with gts := gts, width := width })
    let s := linkMark (fun m x => { x with d2dReduced := m x.d2dReduced }) t f s
    let s := match neighbour t f with | some v => lane v (facing f) (lane t f s) | none => s
    raise (mkEv 0x0503 clsFault 0 6 t 0 evW2 (pack [(60, f), (8, gts), (0, width)])) s

/-- Whether an engine descriptor meets Table 11.8. -/
def descMeets (d : EngineDesc) : Bool :=
  d.strands == 8 && d.wavelengths == 16 && d.gridOk && d.pam4At32 && d.framedByModule && d.txSpares != 0 && d.rxSpares != 0 &&
  decide (18 ≤ d.biasMonitors.toNat) && decide (150 ≤ d.reach.toNat)

/-- The rate and width that a tile–crust link trains to (R384): 32 GT/s, else 16; x64, else x32; with 4 modules and the streaming
protocol. None when the engine offers only what the module does not support (R30). -/
def crustTrain (d : EngineDesc) : Option (Nat × Nat) :=
  if !d.streaming || d.modules != 4 then none else
  (if d.trains32 then some 32 else if d.trains16 then some 16 else none).bind (fun g =>
    (if d.x64 then some 64 else if d.x32 then some 32 else none).map (fun w => (g, w)))

/-- Discovery of a crust engine by its serving tile (R383, R384): an admitted engine lights its lasers and trains its
strands unless its profile entry is unused. -/
def engineStart (s : State) (p : Fin 20 × EngineDesc) : State :=
  let e := p.1.val
  let d := p.2
  let t := servingTile e
  if !(getTile s t).inService then s else
  let own := Config.ownEngine d.vendor d.product
  let x := { getEngine s e with desc := some d }
  match (crustTrain d).filter (fun _ => (own || s.keeper.qualified.contains (d.vendor ++ d.product)) && descMeets d) with
  | none => raise (mkEv 0x0806 clsFault 0 7 t 0 (evW2 (engine := e)) (pack [(16, d.vendor.toNat), (0, d.product.toNat)])) (putEngine s e x)
  | some (gts, width) =>
    let lit := (profEntry s e).1 != 0
    let s := putEngine s e { x with state := b2n lit, thirdParty := !own, gts := gts, width := width }
    let s := if gts < 32 || width < 64 then
        raise (mkEv 0x0503 clsFault 0 6 t 0 (evW2 (engine := e)) (pack [(62, 1), (8, gts), (0, width)])) s
      else s
    if lit then (engineStrands e).foldl (fun s st => strandTrain st s) s else s

/-- Whether a die reaches another: every link on the way carries packets, and every die between them forwards (R29). -/
def wayUp (live : Nat → Bool) (s : State) : Nat → Nat → Nat → Bool
  | 0, u, v => u == v
  | n + 1, u, v =>
    u == v || (!linkDown s u (nextEdge u v) &&
      (match neighbour u (nextEdge u v) with | none => false | some w => (w == v || live w) && wayUp live s n w v))

/-- Steps 8 (from the write of the slices on) to 12 of Table 13.7. The module fails to start when the hearth reaches no tile in service: a
tile whose uncore or die-to-die links failed forwards nothing. -/
def startLinks (e : StartEnv) (s : State) : State :=
  let s := (upto 24).foldl (tileStart e) { s with keeper := { s.keeper with waiting := none } }
  let s := e.d2dReduced.foldl linkReduced s
  if !(upto 24).any (fun t => (getTile s t).inService && wayUp (fun u => tileCause e u != some 1 && tileCause e u != some 3) s 9 30 t)
  then startFail 9 7 s else
  let s := e.engines.foldl engineStart (setPhase 4 s)
  setPhase 5 { s with topo := { s.topo with discovering := true, discoverAt := s.now + 500000000 } }

/-- Whether a tile that starts holds writes, so that its slices cannot end their training. -/
def startHeld (e : StartEnv) (s : State) : Bool := (upto 24).any (fun t => (tileCause e t).isNone && (getTile s t).hold)

/-- Steps 5 to 12 of Table 13.7, once the reference is good. A write hold keeps the keeper at step 8 (R425, Table 5.7). -/
def startTiles (e : StartEnv) (s : State) : State :=
  let s := setPhase 3 { s with keeper := { s.keeper with waiting := none } }
  let s := firmwareLoad s s.now 5000000000
  let f := s.keeper.flash
  let s := match recordRead 768 (f.sparing0, f.sparing1) with
    | some b => (upto 96).foldl (sparingApply b) s
    | none => s
  let s := (upto 24).foldl (tileTrain e) s
  if startHeld e s then { s with keeper := { s.keeper with waiting := some e } } else startLinks e s

/-- A start-up that waited for the end of a write hold goes on. -/
def startResume (s : State) : State :=
  match s.keeper.waiting with
  | some e => if s.keeper.phase = 3 && !startHeld e s then startLinks e s else s
  | none => s

/-- Whether a flash meets R420: at least 128 MiB, 64 KiB erase, and 1-4-4 reads with 4-byte addresses at the 104 MHz of R476. -/
def flashMeets (p : Option FlashParams) : Bool :=
  match p with
  | none => false
  | some p => decide (128 ≤ p.mib.toNat) && p.erase64 && p.addr4 && decide (104 ≤ p.fast144.toNat)

/-- RESET_RELEASE: PWR_GOOD and RESET_N are high, the straps are read if RESET_N was low (R475), and the start-up sequence runs to the end of
crust bring-up or to its failure (R425, R426). Without a valid reference the keeper waits at step 5 (Table 15.8). -/
def resetReleaseOp (e : StartEnv) (s : State) : State :=
  if !s.pins.powered || s.power.shutdown || s.keeper.phase != 0 then s else
  let s := { s with
    pins := { s.pins with resetN := true, pwrGood := true, straps := if s.pins.resetN then s.pins.straps else 2 * b2n e.addr1 + b2n e.addr0 }
    keeper := { s.keeper with flash := e.flash.getD s.keeper.flash, phase := 1 } }
  if !e.otpOk then startFail 9 1 s
  else if !flashMeets e.sfdp then startFail 8 2 ((upto 4).foldl (slotFloor none) (setPhase 2 s))
  else
    let s := readRecords (setPhase 2 s)
    match copyChoose s with
    | none => startFail 8 3 s
    | some b =>
      let f := s.keeper.flash
      let s := { s with keeper := { s.keeper with
        copyB := b, starterSeq := copySeq (if b then f.copyB else f.copyA), otherValid := copyValid s (if b then f.copyA else f.copyB) } }
      let s := applyParameters ((copySection (runningCopy s) 1).getD []) s
      if !profileValid s.topo.profile then startFail 9 4 s
      else if !e.refGood || s.power.refLost then { s with keeper := { s.keeper with waiting := some e } }
      else startTiles e s

/-! ### Steps 13 to 16 -/

/-- A structure that start-up builds in TABLE frames of a slice, from a frame on. -/
def tableBuild (level space key frame bytes : Nat) (s : State) : State :=
  markTable key frame (cdiv bytes 65536) { s with tables := s.tables ++ [⟨level, space, 0, key / 64, key % 64, frame * 65536, bytes⟩] }

/-- Step 14: address space 0 with its level-0 table, the region tables of the tiles in service and the shard set directory. DESIGN CHOICE
(log entry 44). -/
def buildTables (s : State) : State :=
  let s := { s with spaces := tput s.spaces 0 ⟨2096640, [], 0, false⟩ }
  let live := (upto 24).filter (fun t => (getTile s t).inService)
  let s := live.foldl (fun s t => tableBuild 5 t (ck t 0) 8 262144 s) s
  match live with
  | [] => s
  | t :: _ => tableBuild 0 0 (ck t 0) 20 8192 (tableBuild 6 0 (ck t 0) 12 524288 s)

/-- One preset (Table 13.8): a Failed code is counted and raises PRESET_FAILED. -/
def presetWrite (s : State) (p : Word × Word) : State :=
  let a := BitVec.ofNat 64 (gpaMake s.myModule (gTile p.1.toNat) (gCore p.1.toNat) (gSpace p.1.toNat) (gOff p.1.toNat))
  let s := (pathWrite s .keeper a.toNat p.2).getD (ends .retryLater s)
  if codeFailed s.lastCode then
    raise (mkEv 0x0A07 clsFault 0 7 30 0 evW2 a s.lastCode)
      { s with keeper := { s.keeper with presetsFailed := min 255 (s.keeper.presetsFailed + 1) } }
  else s

/-- READY (Table 14.8). -/
def readyEvent (s : State) : State :=
  raise (mkEv 0x0A01 clsNotice 0 7 30 0 evW2 (pack [(0, s.keeper.starterSeq), (32, b2n s.keeper.copyB), (33, s.topo.reach)])) s

/-- DISCOVERY_END: steps 13 to 16 of Table 13.7. Discovery ends when every trained strand has a valid reply, or 500 ms
after crust bring-up (R366). -/
def discoveryEndOp (s : State) : State :=
  if s.keeper.phase != 5 || !s.topo.discovering then s else
  let s := if discoveryDone s then s else { s with now := max s.now s.topo.discoverAt }
  match discoveryDecide s with
  | (some c, s) => startFail 9 c s
  | (none, s) =>
    let s := buildTables (setPhase 6 s)
    let s := s.keeper.presets.foldl presetWrite s
    readyEvent (setPhase 7 s)

/-! ### Power and reset signals (chapter 15) -/

/-- What a loss of input power leaves: the one-time-programmable store and the flash on the carrier, and the level of the
emergency-throttle input. A locked slot stays locked (R442). DEDUCED (log entry 111). -/
def powerLost (s : State) : State :=
  { State.reset with
    now := s.now, pending := s.pending, free := s.free, lastCode := s.lastCode
    keeper := { Keeper.initial with
      slots := s.keeper.slots.map (fun p => (p.1, { slotInit with keys := p.2.keys, bits := p.2.bits, locked := p.2.locked }))
      verify1 := s.keeper.verify1, flash := s.keeper.flash }
    power := { State.reset.power with pinThrottle := s.power.pinThrottle }
    pins := { State.reset.pins with powered := false } }

/-- The always-on domain starts, and takes the emergency-throttle input as it stands (Table 15.8). -/
def powerUp (s : State) : State :=
  let s := { s with pins := { s.pins with powered := true } }
  if s.power.pinThrottle then modCond 3 true false 0 s else s

/-- INPUT_POWER_RISE (Table 15.5): through 38.0 V the always-on domain starts; above 65.0 V nothing is specified (R484). DESIGN CHOICE (log entry 117). -/
def inputPowerRiseOp (mv : Nat) (s : State) : Out :=
  if 65000 < mv then .fault .beyondRatings
  else .next (if s.pins.powered || mv < 38000 then s else powerUp s)

/-- INPUT_LOSS_STOP: every domain loses power. -/
def inputLossStopOp (s : State) : State := if s.pins.powered then powerLost s else s

/-- RESET_ASSERT (R481): acts as a RESET_MODULE of mode 0 without a reply; in latched shutdown nothing happens. DEDUCED (log entry 109). -/
def resetAssertOp (pin : ResetPin) (s : State) : State :=
  let s := { s with pins := match pin with
    | .resetN => { s.pins with resetN := false }
    | .pwrGood => { s.pins with pwrGood := false } }
  if !s.pins.powered || s.power.shutdown || s.keeper.phase == 0 then s else startAgain s

/-- REFERENCE_RESTORED (R395): the PLLs relock, the emergency clears, and a start-up that waits at step 5 goes on. -/
def referenceRestoredOp (s : State) : State :=
  if !s.pins.powered || s.power.shutdown then s else
  let s := referenceBack s
  match s.keeper.waiting with
  | some e => if s.keeper.phase = 2 then startTiles e s else s
  | none => s

end Sys2Proof.Machine
end

