-- ==== Sys2Proof/Machine/Service.lean ====
section
/-! DEFINITION. Service: the event log (R448–R453, R462, R463), the requests of the service firmware and its watchdog
(R417, R418), the service port's transactions (R429, R462, R475) and JTAG (R479, R480). -/

namespace Sys2Proof.Machine

/-! ### The event log -/

/-- The four words of a record as the hearth logs it with a stamp (Table 14.1). -/
def logWords (s : State) (stamp : Nat) (e : EvRec) : LogRec :=
  ⟨pack [(16, stamp), (11, e.srcTile), (5, e.srcCore), (4, b2n (!s.keeper.enables.isEmpty)), (3, b2n e.firmware)],
   pack [(50, s.myModule), (34, e.type), (26, codeNum e.code), (25, e.side), (22, e.level), (20, e.cls), (0, s.log.seq.toNat % 2 ^ 20)],
   e.w2, e.w3⟩

/-- The bit 7 × SIDE + LEVEL − 1 of a record. -/
def levelBit (e : EvRec) : Nat := 7 * e.side + e.level - 1

/-- The bit of ALERT_STATUS that a record sets, when EVT_CTRL lets it (R462). -/
def alertBit (ctrl : Word) (e : EvRec) : Option Nat :=
  if e.cls = clsFault then (if bit ctrl (levelBit e) then some (levelBit e) else none)
  else if e.cls = clsCounter then (if bit ctrl 15 then some 14 else none)
  else if e.type = 0x0B02 && bit ctrl 16 then some 15
  else none

/-- Whether an EVT_SUBSCRIBER selects a record (R463). -/
def subscribed (w : Word) (e : EvRec) : Bool :=
  bit w 63 && (if e.cls = clsFault then bit w (30 + levelBit e) else if e.cls = clsCounter then bit w 28 else bit w 29)

/-- Sends the notice of a record to subscriber i: at most 10,000 in a second, and none while the fabric is down. DEDUCED (log entry 112). -/
def noticeSend (r : LogRec) (seq : Nat) (s : State) (i : Nat) : State :=
  let w := tget 0 s.log.subs i
  let q := tget (s.now, 0) s.log.noticeWindow i
  let (start, n) := if q.1 + 1000000000 ≤ s.now then (s.now, 0) else q
  if 10000 ≤ n || !mainOn s then countHearth 16 1 s else
  let (stamp, s) := stampNext { s with log := { s.log with noticeWindow := tput s.log.noticeWindow i (start, n + 1) } }
  sendMsg 30 (fld w 62 49) (fld w 48 44) 0x40 0 0 0 0
    (leBytes 2 0x100 ++ leBytes 2 0 ++ leBytes 2 32 ++ leBytes 2 0 ++ leBytes 8 seq ++ leBytes 8 0 ++ leBytes 8 stamp ++ leBytes 16 0 ++
      [r.w0, r.w1, r.w2, r.w3].flatMap (fun x => leBytes 8 x.toNat)) s

/-- Logs a record. -/
def logRecord (e : EvRec) (s : State) : State :=
  let (stamp, s) := stampNext s
  let r := logWords s stamp e
  let seq := s.log.seq
  let s := { s with log := { s.log with
    ring := tput s.log.ring (seq.toNat % 16384) r, seq := seq + 1
    alert := match alertBit s.log.ctrl e with | some i => s.log.alert ||| BitVec.ofNat 16 (2 ^ i) | none => s.log.alert } }
  ((upto 4).filter (fun i => subscribed (tget 0 s.log.subs i) e)).foldl (noticeSend r seq.toNat) s

/-- The source of turn i: tiles 0–23, then the hearth's own records. -/
def logSource (i : Nat) : Nat := if i = 24 then 30 else i

/-- A tile whose staging queue has room again stages EVENTS_LOST (R452). DEDUCED (log entry 112). -/
def lostNote (t : Nat) (s : State) : State :=
  let st := getStage s t
  let e := mkEv 0x0B02 clsNotice 0 6 t 0 evW2 (BitVec.ofNat 64 st.dropped)
  if st.dropped != 0 && stageRoom st.queue e then { s with stages := tput s.stages t ⟨st.queue ++ [e], 0⟩ } else s

/-- EVENT_LOG_TAKE: the hearth takes one staged record by round robin (R452). -/
def eventLogTakeOp (s : State) : State :=
  let turns := (upto 25).map (fun i => (s.log.turn + i) % 25)
  match turns.find? (fun i => !(getStage s (logSource i)).queue.isEmpty) with
  | none => s
  | some i =>
    let t := logSource i
    let st := getStage s t
    match st.queue with
    | [] => s
    | e :: r =>
      let s := { s with stages := tput s.stages t { st with queue := r }, log := { s.log with turn := (i + 1) % 25 } }
      logRecord e (lostNote t s)

/-! ### Service firmware (R417, R418) -/

def modFw (s : State) (f : Firmware → Firmware) : State := { s with keeper := { s.keeper with fw := f s.keeper.fw } }

/-- What the firmware does while it runs. -/
def fwRuns (f : State → State) (s : State) : State := if s.keeper.fw.running && mainOn s then f s else s

/-- A request of the firmware; firmware that does not run makes none, and the keeper serves one at a time. -/
def fwRequest (f : State → State) (s : State) : State :=
  fwRuns (fun s => if s.keeper.reads.any (fun w => w.who == .firmware) then s else f s) s

/-- READ_REGISTERS: at most 32 registers of the own module; one of a core whose group must wake waits (R398). A request whose code is none of Table 13.1 ends with REJECTED. -/
def readRegistersOp (code : BitVec 8) (l : List (BitVec 64)) (s : State) : State :=
  fwRequest (fun s =>
    if code != 1 || 32 < l.length then fwAnswer .rejected [] s else
    readSettle ⟨.firmware, [], l.map (·.toNat), [], .ok⟩ s) s

/-- READ_EVENTS: the records from log sequence number pos that the ring holds, at most 8. DEDUCED (log entry 113). -/
def readEventsOp (pos : BitVec 32) (count : Nat) (s : State) : State :=
  fwRequest (fun s =>
    let held (q : Nat) : Bool :=
      let d := serialDiff 32 s.log.seq.toNat q
      decide (0 < d) && decide (d ≤ 16384)
    let qs := (upto (min 8 count)).map (fun i => (pos.toNat + i) % 2 ^ 32)
    fwAnswer .ok ((qs.filter held).flatMap (fun q =>
      let r := tget (⟨0, 0, 0, 0⟩ : LogRec) s.log.ring (q % 16384)
      [r.w0, r.w1, r.w2, r.w3])) s) s

/-- POST_EVENT (R449). -/
def postEventOp (w2 w3 : Word) (s : State) : State :=
  fwRequest (fun s => fwAnswer .ok [] (raise { mkEv 0x0A08 clsNotice 0 7 30 0 w2 w3 with firmware := true } s)) s

/-- SUBMIT_HINT (R211). -/
def fwHintOp (t : Nat) (h : Hint) (s : State) : State :=
  fwRequest (fun s => fwAnswer .ok [] (submitHintOp t h s)) s

/-- HEARTBEAT: the next one falls due within 2 s. DEDUCED (log entry 113). -/
def heartbeatOp (s : State) : State :=
  fwRequest (fun s => fwAnswer .ok [] (modFw s (fun f => { f with due := some (s.now + 2000000000) }))) s

/-- The keeper restarts the firmware, or after the third restart within 600 s leaves it halted (R418). DEDUCED (log entry 113). -/
def fwRestart (cause : Nat) (s : State) : State :=
  let l := s.keeper.fw.restarts.filter (fun t => decide (s.now < t + 600000000000)) ++ [s.now]
  let s := { s with keeper := { s.keeper with reads := s.keeper.reads.filter (fun w => w.who != .firmware) } }
  let s := countHearth 14 1 (modFw s (fun f => { f with restarts := l, memory := [], refusals := [], due := none, running := false }))
  let s := raise (mkEv 0x0A05 clsNotice 0 7 30 0 evW2 (pack [(8, min 255 l.length), (0, cause)])) s
  if 3 ≤ l.length then
    raise (mkEv 0x0A06 clsFault 0 7 30 0 evW2 (pack [(8, min 255 l.length)])) (modFw s (fun f => { f with halted := true }))
  else firmwareLoad s (s.now + 1000000000) 5000000000

/-- HEARTBEAT_TIMEOUT: the heartbeat that is due does not come. -/
def heartbeatTimeoutOp (s : State) : State :=
  fwRuns (fun s => match s.keeper.fw.due with
    | none => s
    | some d => fwRestart 0 { s with now := max s.now d }) s

/-- GUARD_VIOLATION: a refusal is counted, and an event is raised at most once in a millisecond; the 16th within 1 s
restarts the firmware. -/
def guardViolationOp (core : Nat) (write : Bool) (a : Nat) (s : State) : State :=
  fwRuns (fun s =>
    let f := s.keeper.fw
    let l := f.refusals.filter (fun t => decide (s.now < t + 1000000000)) ++ [s.now]
    let quiet := match f.guardEvent with | some t => decide (s.now < t + 1000000) | none => false
    let s := countHearth 13 1 (modFw s (fun f => { f with refusals := l }))
    let s := if quiet then s else
      raise (mkEv 0x0A04 clsNotice 0 7 30 0 evW2 (pack [(62, core), (61, b2n write), (0, a)])) (modFw s (fun f => { f with guardEvent := some s.now }))
    if 16 ≤ l.length then fwRestart 1 s else s) s

/-! ### The service port (R429, R462) -/

def modSmb (s : State) (f : ServicePort → ServicePort) : State := { s with keeper := { s.keeper with port := f s.keeper.port } }

/-- SMBUS_BLOCK_WRITE: a fragment of a message. A PEC error is NACKed; an out-of-order fragment discards the message;
fragment 0 starts a new one and discards an unread reply; the LAST fragment hands the message to the keeper. DEDUCED (log entry 114). -/
def smbusBlockWriteOp (frag : BitVec 8) (b : List Byte) (pecOk : Bool) (s : State) : State :=
  if !portAnswers s then smbNack s
  else if !pecOk || 240 < b.length then smbNack s
  else
    let i := fld frag 6 0
    let last := bit frag 7
    let p := s.keeper.port
    if i != 0 && i != p.next then modSmb s (fun p => { p with acked := true, out := [], buffer := [], next := 0 })
    else
      let m := if i = 0 then b else p.buffer ++ b
      let s := modSmb s (fun p => { p with acked := true, out := [], buffer := if last then [] else m, next := if last then 0 else i + 1,
                                           reply := if i = 0 then none else p.reply, read := if i = 0 then 0 else p.read })
      if last then igTake .servicePort m m.length s else s

/-- Whether the keeper still works on a message of the service port. -/
def portBusy (s : State) : Bool :=
  s.keeper.works.any (fun w => w.who == .servicePort && !w.header.isEmpty) || s.keeper.reads.any (fun w => w.who == .servicePort) ||
  s.keeper.loads.any (fun w => w.who == .servicePort) ||
  s.topo.leaseWaits.any (fun l => match l.act with | .explicit .servicePort _ _ => true | _ => false)

/-- SMBUS_STATUS_READ: REPLY_READY in bit 0 and BUSY in bit 1. -/
def smbusStatusReadOp (s : State) : State :=
  if !portAnswers s then smbNack s else
  modSmb s (fun p => { p with acked := true, out := [BitVec.ofNat 8 (b2n p.reply.isSome + 2 * b2n (portBusy s))] })

/-- SMBUS_REPLY_READ: the next fragment of the reply; the last one ends it. Without a reply the read is NACKed. DEDUCED (log entry 114). -/
def smbusReplyReadOp (s : State) : State :=
  if !portAnswers s then smbNack s else
  match s.keeper.port.reply with
  | none => smbNack s
  | some b =>
    let i := s.keeper.port.read
    let part := (b.drop (240 * i)).take 240
    let last := b.length ≤ 240 * (i + 1)
    modSmb s (fun p => { p with
      acked := true, out := BitVec.ofNat 8 (128 * b2n last + i) :: part
      reply := if last then none else p.reply, read := if last then 0 else i + 1 })

/-- The module's SMBus target address (R475). -/
def smbAddress (s : State) : Nat := 0x4C + s.pins.straps

/-- Whether the module asserts SMB_ALERT_N, the alert output of the service connector: while any bit of ALERT_STATUS is set (R462, R482). -/
def smbAlert (s : State) : Bool := s.pins.powered && s.log.alert != 0

/-- SMBUS_ALERT_RESPONSE: the module that asserts SMB_ALERT_N answers with its own address; the alert stays. DEDUCED (log entry 114). -/
def smbusAlertResponseOp (s : State) : State :=
  if !portAnswers s then smbNack s
  else if !smbAlert s then smbNack s
  else modSmb s (fun p => { p with acked := true, out := [BitVec.ofNat 8 (2 * smbAddress s)] })

/-! ### JTAG (R479, R480) -/

/-- IDCODE of the port of a tile, or of the hearth as tile 30. DEDUCED (log entry 115). -/
def idcode (t : Nat) : BitVec 32 :=
  let r := Config.dieRevision t
  BitVec.ofNat 32 (((fld r 7 4 + 3) % 4) * 2 ^ 30 + (fld r 3 0 % 4) * 2 ^ 28 + (if t = 30 then 0x7430 else 0x7424) * 2 ^ 12 + 0x2B5 * 2 + 1)

/-- Whether a DEBUG enable of the service port is in force. -/
def debugPort (s : State) : Bool := s.keeper.enables.any (fun e => e.2.who == .servicePort && bit e.2.functions 8)

/-- The die of a place on the chain: the hearth, then tiles 0–23 (R479). -/
def jtagDie (i : Nat) : Nat := if i = 0 then 30 else i - 1

/-- Whether an instruction is beyond those that IEEE 1149.1 makes mandatory. -/
def jtagPrivate (i : JtagIns) : Bool := match i with | .other _ => true | _ => false

/-- Whether the hearth's port executes an instruction on the boundary-scan register. -/
def jtagScans (l : List JtagIns) : Bool := l.headD .bypass == .samplePreload || l.headD .bypass == .extest

/-- The levels of the connector's signal pins: those that the module or its state fixes, and the others as the carrier sets them. -/
def pinLevels (levels : PinLevels) (s : State) : PinLevels :=
  let set (v : PinLevels) (i : Nat) (b : Bool) : PinLevels := putBit v i b
  set (set (set (set (set levels 2 (!smbAlert s)) 7 s.pins.pwrGood) 8 s.pins.resetN) 9 (!s.power.thermalTrip)) 10 (!s.power.pinThrottle)

/-- The levels that EXTEST drives on the connector's pins, while RESET_N is low alone (R480). -/
def pinsDriven (s : State) : Option PinLevels :=
  if s.pins.jtag.headD .bypass == .extest && !s.pins.resetN then some s.pins.boundary else none

/-- The data register that the port at a place of the chain captures. The boundary-scan register lies in the hearth's port; a tile has no
pin in it. DESIGN CHOICE (log entry 115). -/
def jtagCapture (levels : PinLevels) (s : State) (p : Nat × JtagIns) : List JtagData :=
  match p.2 with
  | .idcode => [.idcode (idcode (jtagDie p.1))]
  | .samplePreload | .extest => if p.1 = 0 then [.boundary (pinLevels levels s)] else []
  | _ => [.bypass]

/-- JTAG_INSTRUCTION: the 200 instruction bits load an instruction into each of the 25 ports, the hearth's first in `chain`, and a scan of
the data registers follows, which shifts `shift` into the boundary-scan register and out what the ports captured. A port executes BYPASS in
place of an instruction that is not mandatory, without the DEBUG enable; with it, such an instruction is refused, since the manual defines
none. DEDUCED (log entry 115). DESIGN CHOICE (log entry 116). -/
def jtagOp (chain : List JtagIns) (shift levels : PinLevels) (s : State) : Out :=
  if !s.pins.powered then .next s
  else if chain.any jtagPrivate && debugPort s then .refused .jtagPrivate
  else
    let l := (upto 25).map (fun i => let x := chain.getD i .bypass; if jtagPrivate x then .bypass else x)
    .next { s with pins := { s.pins with
      jtag := l
      boundary := if jtagScans l then shift else s.pins.boundary
      tdo := (l.zipIdx.reverse).flatMap (fun p => jtagCapture levels s (p.2, p.1)) } }

end Sys2Proof.Machine
end

