-- ==== Sys2Proof/Machine/Arrivals.lean ====
section
/-! DEFINITION. Arrivals: the packets that reach an endpoint of the module by their MSG_TYPE (Table 8.4), what the module
does of itself after a command, the bound on a register-path wait (R68, R135), and the shapes of the commands' meanings. -/

namespace Sys2Proof.Machine

/-! ### What a flow delivers -/

/-- A message of a flow delivered at endpoint t (Tables 8.4 and 9.3). The keeper takes no packet in FAILED_START
(R426). DEDUCED (log entry 78). -/
def deliver (t : Nat) (p : Packet) (s : State) : State :=
  let ty := pType p
  if (1 ≤ ty ∧ ty ≤ 5) ∨ ty = 0x20 ∨ ty = 0x21 then deliverRequest t p s
  else if 0x10 ≤ ty ∧ ty ≤ 0x12 then (if t < 24 then replyTake t p s else s)
  else if ty = 0x22 ∨ ty = 0x23 then (if t < 24 then bulkTake t p s else s)
  else if ty = 0x30 then admissionTake t p s
  else if ty = 0x38 then (if t < 24 then residencyTake t p s else s)
  else if ty = 0x39 then (if t < 24 then residencyReplyTake t p s else s)
  else if t != 30 || s.keeper.phase == 9 then s
  else if ty = 0x40 then igPacketTake p s
  else if ty = 0x41 then managementReplyTake p s
  else s

/-! ### What the module does of itself -/

/-- The moves of a core: those whose turn has come start, and remote pieces leave. DESIGN CHOICE (log entry 122). -/
def movesSettle (key : Nat) (s : State) : State :=
  let s := startMoves key s
  (getCore s key).moves.foldl (fun s m => movePump 4096 key m.ticket s) s

/-- One round of what follows from a command without another one: packets given up, waiting operations and requests,
residency work, moves, admission and dispatch, collectives, waiting register writes, the keeper's replies and the requests that waited for a reply slot, and the die-to-die
network. DESIGN CHOICE (log entry 122). -/
def settleOnce (s : State) : State :=
  let s := startResume (drainFailed s)
  let s := (s.ports.map (·.1)).foldl (fun s t => if t < 24 then regionPump t 17 (retryWaits t (stampSent t (enterOps t s))) else s) s
  let tiles := ((s.res.map (·.1)) ++ (s.topo.leases.filter (fun l => l.activity == 3)).map (fun (l : Lease) => l.tile)).foldl addNew []
  let s := tiles.foldl (fun s t => resSettle t s) s
  let s := (s.cores.map (·.1)).foldl (fun s k => movesSettle k s) s
  let s := collSettle (streamsSettle (endHalts s))
  d2dRun (inboxRun (loadsReply (readsRetry (worksRetry s))))

/-- What the module does of itself after a command; three rounds carry every consequence that one command has. DESIGN CHOICE (log entries 34, 122). -/
def settle (s : State) : State := resetRun (idleTrack (settleOnce (settleOnce (settleOnce s))))

/-! ### LOCK_WAIT_TIMEOUT (R68, R135) -/

/-- A register write that waits for a lock of core `key` ends with RETRY_LATER 32 µs after its wait began. DESIGN CHOICE (log entry 2). -/
def workTimeout (key : Nat) (s : State) : Option State :=
  (s.keeper.works.find? (fun w => workKey w == key && !groupAsleep s (key / 64) (groupOf key))).map (fun w =>
    let s := { s with now := max s.now (w.since + 32000), keeper := { s.keeper with works := s.keeper.works.erase w } }
    workSettle { w with todo := [], code := codeMerge w.code .retryLater } s)

/-- A move of core `key` whose register write waits for a lock ends as R135 states. -/
def moveLockTimeout (key : Nat) (s : State) : State :=
  let holds (s : State) (m : MoveOp) : Bool := (getCore s key).moves.any (fun x => x.ticket == m.ticket)
  match (getCore s key).moves.find? (fun m => m.started && holds (moveCompleteOp regPath key m.ticket s) m &&
      !holds (moveCompleteOp regPathLate key m.ticket s) m) with
  | some m => moveCompleteOp regPathLate key m.ticket s
  | none => s

/-- LOCK_WAIT_TIMEOUT: a remote write, else a register-path write, else a move, that waits for a lock of the core. DEDUCED (log entry 121). -/
def lockWaitTimeoutOp (key : Nat) (s : State) : State :=
  match remoteLockTimeout key s with
  | some s => s
  | none => (workTimeout key s).getD (moveLockTimeout key s)

/-! ### Shapes of meanings -/

/-- A command that acts on the tiles or the hearth main domain: without power on them nothing happens. DESIGN CHOICE (log entries 2, 3, 118). -/
def onMain (f : State → State) (s : State) : Out := answer s (if mainOn s then settle (f s) else s)

/-- A command that acts in the always-on domain too. DESIGN CHOICE (log entry 3). -/
def always (f : State → State) (s : State) : Out := answer s (settle (f s))

/-- A reset signal: the queue stays, and module time does not run back. DEDUCED (log entry 109). -/
def afterReset (t s : State) : Out := .next { t with pending := s.pending, now := max s.now t.now }

/-- A packet of a flow that arrives (R279). -/
def arrive (type : Nat) (p : Packet) (s : State) : Out := onMain (rxArrive deliver type p) s

/-- A packet of no flow that arrives. -/
def arriveLoose (act : Packet → State → State) (type : Nat) (p : Packet) (s : State) : Out := onMain (rxLoose act type p) s

/-- An ADMISSION_REQUEST of one TYPE; a reserved TYPE ends with REJECTED in any row (R220). -/
def arriveAdmission (op : Nat) (p : Packet) (s : State) : Out :=
  let o := plField (pBytes p) 0 1
  if o = op || o = 0 || 3 < o then arrive 0x30 p s else .next s

/-- An Igrin command: its message over the service port with the row's COMMAND, or the packet that carries it. A packet
with a reserved COMMAND ends with REJECTED in any row (R430). DESIGN CHOICE (log entry 102). -/
def igRow (code : Nat) (src : IgrinIn) (s : State) : Out :=
  match src with
  | .port b => always (igPortTake (leBytes 2 code ++ b.drop 2)) s
  | .packet p => if igCode p.payload = code || igReservedCode p.payload then arrive 0x40 p s else .next s

/-- What only a register write can start: service firmware makes none (R431). -/
def byWrite (rq : Requester) (f : State → State) (s : State) : State := if rq = .firmware then ends .keyFault s else f s

/-- A residency command of a row: its OP is the row's. -/
def resRow (op : Nat) (rq : Requester) (t : Fin 24) (d : CmdDesc) (s : State) : Out :=
  onMain (byWrite rq (resSubmit rq t.val { d with w0 := setFld d.w0 63 56 op })) s

/-- An admission command of a row: its OP is the row's. -/
def admRow (op : Nat) (rq : Requester) (d : CmdDesc) (found : MeasureFound) (s : State) : Out :=
  onMain (byWrite rq (admSubmit rq { d with w0 := setFld d.w0 63 56 op } found)) s

/-- TRANSIT_PACKET: a packet that a working strand brings to its edge tile. -/
def transitPacketOp (st : Nat) (p : Packet) (s : State) : State := if strandLive s st then transitOp (servingTile (st / 8)) p s else s

/-- The time that an idle step takes: 20 ns of module time (one event slot of R452). DESIGN CHOICE (log entry 1). -/
def idleNs : Nat := 20

end Sys2Proof.Machine
end

