-- ==== Sys2Proof/Machine/IsaTrap.lean ====
section
/-! DEFINITION. IsaTrap: the instruction that a 64-bit word names (Table 3.4, Tables 9.1 and 9.2), and TRAP: a word that
meets a trap cause stops its kernel (R85, R104, R105). -/

namespace Sys2Proof.Machine

/-- An unlisted opcode or operation: ILLEGAL (R85, R301). -/
def opIllegal : IOp := ⟨fun _ => false, fun _ => [], fun _ _ => false, fun _ _ _ _ => .stall⟩

/-- RLD, RST, RATOM and RRED by their OP field. -/
def opRemote (opcode op : Nat) : IOp :=
  match opcode with
  | 0x44 => if op = 0 then remOp (.load false) else if op = 1 then remOp (.load true) else opIllegal
  | 0x45 => if op = 0 then remOp .store else if op = 1 then remOp (.mcast 0) else opIllegal
  | 0x46 => if op ≤ 10 then remOp (.atomic op) else opIllegal
  | _ => if op ≤ 7 || op == 11 then remOp (.reduce op) else opIllegal

/-- The instruction of an opcode (Table 3.4). -/
def opOf (opcode op : Nat) : IOp :=
  match opcode with
  | 0x00 => opNop
  | 0x01 => opAdd
  | 0x02 => opSub
  | 0x03 => opMul
  | 0x04 => opMulhu
  | 0x05 => opAnd
  | 0x06 => opOr
  | 0x07 => opXor
  | 0x08 => opShl
  | 0x09 => opShr
  | 0x0A => opSra
  | 0x0B => opMin
  | 0x0C => opMax
  | 0x0D => opSel
  | 0x0E => opClz
  | 0x0F => opPopc
  | 0x10 => opAddi
  | 0x11 => opAndi
  | 0x12 => opOri
  | 0x13 => opXori
  | 0x14 => opShli
  | 0x15 => opShri
  | 0x16 => opSrai
  | 0x17 => opMuli
  | 0x18 => opLi
  | 0x19 => opLih
  | 0x20 => opCmpeq
  | 0x21 => opCmplt
  | 0x22 => opCmpltu
  | 0x23 => opCmpeqi
  | 0x24 => opCmplti
  | 0x25 => opPand
  | 0x26 => opPor
  | 0x27 => opPnot
  | 0x30 => opBr
  | 0x31 => opCall
  | 0x32 => opJr
  | 0x33 => opLoop
  | 0x34 => opEnd
  | 0x40 => opLd
  | 0x41 => opLds
  | 0x42 => opSt
  | 0x43 => opLdc
  | 0x50 => opVadd
  | 0x51 => opVsub
  | 0x52 => opVmul
  | 0x53 => opVfma
  | 0x54 => opVmax
  | 0x55 => opVmin
  | 0x56 => opVexp2
  | 0x57 => opVrcp
  | 0x58 => opVrsqrt
  | 0x59 => opVcmplt
  | 0x5A => opVsel
  | 0x5B => opVbcast
  | 0x5C => opVrmax
  | 0x5D => opVrsum
  | 0x5E => opVmov
  | 0x5F => opVcvti
  | 0x60 => opVcvtf
  | 0x61 => opVextr
  | 0x62 => opVins
  | 0x63 => opVand
  | 0x68 => opKld
  | 0x69 => opKst
  | 0x6A => opVkld
  | 0x6B => opVkst
  | 0x70 => opVld
  | 0x71 => opVst
  | 0x72 => opVldq
  | 0x73 => opVstq
  | 0x80 => opPass
  | 0x81 => opMove
  | 0x82 => opCrumb
  | 0x83 => opLinkop
  | 0x90 => opWait
  | 0x91 => opPoll
  | 0x92 => opFence
  | 0x93 => opYield
  | 0x94 => opWaitwake
  | 0xA0 => opRsr
  | 0xA1 => opWsr
  | 0xA2 => opGeo
  | 0xA3 => opAbort
  | 0xA4 => opBrk
  | 0x44 | 0x45 | 0x46 | 0x47 => opRemote opcode op
  | _ => opIllegal

/-- TRAP: the word at the core's program counter meets a trap cause. A word that meets none leaves the state as it is; its
own row runs it. -/
def trapStep (r : CoreRef) (w : Word) (s : State) : State :=
  let key := coreKey r
  let c := getCore s key
  let body : BitVec 56 := w.setWidth 56
  match c.kernel with
  | none => s
  | some k =>
    if canIssue s key c k then
      match issue (opOf (fld w 63 56) (fld w 38 32)) key body k s with
      | .trap cause imm => takeTrap key cause imm s
      | _ => s
    else s

end Sys2Proof.Machine
end

