-- ==== Sys2Proof/Machine/RowsIsa.lean ====
section
/-! DEFINITION. RowsIsa: the meanings of the instructions that start work outside the core's own registers and bench (chapters 3, 9 and
10), and of TRAP. -/

namespace Sys2Proof.Machine

/-- PASS (R55). -/
def execKPass (at_ : CoreRef) (w : BitVec 56) (s : State) : Out := answer s (settle (isaStep opPass at_ w s))

/-- RLD_LOAD (R301). -/
def execKRldLoad (at_ : CoreRef) (w : BitVec 56) (s : State) : Out := answer s (settle (isaStep (remOp (.load false)) at_ w s))

/-- RLD_LOAD_SIGNED (R301). -/
def execKRldLoadSigned (at_ : CoreRef) (w : BitVec 56) (s : State) : Out := answer s (settle (isaStep (remOp (.load true)) at_ w s))

/-- RST_STORE (R301). -/
def execKRstStore (at_ : CoreRef) (w : BitVec 56) (s : State) : Out := answer s (settle (isaStep (remOp .store) at_ w s))

/-- RST_MCAST_STORE (R323). -/
def execKRstMcastStore (at_ : CoreRef) (w : BitVec 56) (s : State) : Out := answer s (settle (isaStep (remOp (.mcast 0)) at_ w s))

/-- RATOM_ADD (R301). -/
def execKRatomAdd (at_ : CoreRef) (w : BitVec 56) (s : State) : Out := answer s (settle (isaStep (remOp (.atomic 0)) at_ w s))

/-- RATOM_AND (R301). -/
def execKRatomAnd (at_ : CoreRef) (w : BitVec 56) (s : State) : Out := answer s (settle (isaStep (remOp (.atomic 1)) at_ w s))

/-- RATOM_OR (R301). -/
def execKRatomOr (at_ : CoreRef) (w : BitVec 56) (s : State) : Out := answer s (settle (isaStep (remOp (.atomic 2)) at_ w s))

/-- RATOM_XOR (R301). -/
def execKRatomXor (at_ : CoreRef) (w : BitVec 56) (s : State) : Out := answer s (settle (isaStep (remOp (.atomic 3)) at_ w s))

/-- RATOM_MIN (R301). -/
def execKRatomMin (at_ : CoreRef) (w : BitVec 56) (s : State) : Out := answer s (settle (isaStep (remOp (.atomic 4)) at_ w s))

/-- RATOM_MAX (R301). -/
def execKRatomMax (at_ : CoreRef) (w : BitVec 56) (s : State) : Out := answer s (settle (isaStep (remOp (.atomic 5)) at_ w s))

/-- RATOM_MINU (R301). -/
def execKRatomMinu (at_ : CoreRef) (w : BitVec 56) (s : State) : Out := answer s (settle (isaStep (remOp (.atomic 6)) at_ w s))

/-- RATOM_MAXU (R301). -/
def execKRatomMaxu (at_ : CoreRef) (w : BitVec 56) (s : State) : Out := answer s (settle (isaStep (remOp (.atomic 7)) at_ w s))

/-- RATOM_SWAP (R301). -/
def execKRatomSwap (at_ : CoreRef) (w : BitVec 56) (s : State) : Out := answer s (settle (isaStep (remOp (.atomic 8)) at_ w s))

/-- RATOM_CAS (R301). -/
def execKRatomCas (at_ : CoreRef) (w : BitVec 56) (s : State) : Out := answer s (settle (isaStep (remOp (.atomic 9)) at_ w s))

/-- RATOM_FADD (R301). -/
def execKRatomFadd (at_ : CoreRef) (w : BitVec 56) (s : State) : Out := answer s (settle (isaStep (remOp (.atomic 10)) at_ w s))

/-- RRED_ADD (R301). -/
def execKRredAdd (at_ : CoreRef) (w : BitVec 56) (s : State) : Out := answer s (settle (isaStep (remOp (.reduce 0)) at_ w s))

/-- RRED_AND (R301). -/
def execKRredAnd (at_ : CoreRef) (w : BitVec 56) (s : State) : Out := answer s (settle (isaStep (remOp (.reduce 1)) at_ w s))

/-- RRED_OR (R301). -/
def execKRredOr (at_ : CoreRef) (w : BitVec 56) (s : State) : Out := answer s (settle (isaStep (remOp (.reduce 2)) at_ w s))

/-- RRED_XOR (R301). -/
def execKRredXor (at_ : CoreRef) (w : BitVec 56) (s : State) : Out := answer s (settle (isaStep (remOp (.reduce 3)) at_ w s))

/-- RRED_MIN (R301). -/
def execKRredMin (at_ : CoreRef) (w : BitVec 56) (s : State) : Out := answer s (settle (isaStep (remOp (.reduce 4)) at_ w s))

/-- RRED_MAX (R301). -/
def execKRredMax (at_ : CoreRef) (w : BitVec 56) (s : State) : Out := answer s (settle (isaStep (remOp (.reduce 5)) at_ w s))

/-- RRED_MINU (R301). -/
def execKRredMinu (at_ : CoreRef) (w : BitVec 56) (s : State) : Out := answer s (settle (isaStep (remOp (.reduce 6)) at_ w s))

/-- RRED_MAXU (R301). -/
def execKRredMaxu (at_ : CoreRef) (w : BitVec 56) (s : State) : Out := answer s (settle (isaStep (remOp (.reduce 7)) at_ w s))

/-- RRED_FADD_RED (R301). -/
def execKRredFaddRed (at_ : CoreRef) (w : BitVec 56) (s : State) : Out := answer s (settle (isaStep (remOp (.reduce 11)) at_ w s))

/-- MOVE (R96). -/
def execKMove (at_ : CoreRef) (w : BitVec 56) (s : State) : Out := answer s (settle (isaStep opMove at_ w s))

/-- CRUMB (R332). -/
def execKCrumb (at_ : CoreRef) (w : BitVec 56) (s : State) : Out := answer s (settle (isaStep opCrumb at_ w s))

/-- LINKOP (R346). -/
def execKLinkop (at_ : CoreRef) (w : BitVec 56) (s : State) : Out := answer s (settle (isaStep opLinkop at_ w s))

/-- WAIT (R93). -/
def execKWait (at_ : CoreRef) (w : BitVec 56) (s : State) : Out := answer s (settle (isaStep opWait at_ w s))

/-- POLL (R93). -/
def execKPoll (at_ : CoreRef) (w : BitVec 56) (s : State) : Out := answer s (settle (isaStep opPoll at_ w s))

/-- FENCE (R102). -/
def execKFence (at_ : CoreRef) (w : BitVec 56) (s : State) : Out := answer s (settle (isaStep opFence at_ w s))

/-- YIELD (R108). -/
def execKYield (at_ : CoreRef) (w : BitVec 56) (s : State) : Out := answer s (settle (isaStep opYield at_ w s))

/-- WAITWAKE (R98). -/
def execKWaitwake (at_ : CoreRef) (w : BitVec 56) (s : State) : Out := answer s (settle (isaStep opWaitwake at_ w s))

/-- RSR (R103). -/
def execKRsr (at_ : CoreRef) (w : BitVec 56) (s : State) : Out := answer s (settle (isaStep opRsr at_ w s))

/-- WSR (R103). -/
def execKWsr (at_ : CoreRef) (w : BitVec 56) (s : State) : Out := answer s (settle (isaStep opWsr at_ w s))

/-- GEO (R115). -/
def execKGeo (at_ : CoreRef) (w : BitVec 56) (s : State) : Out := answer s (settle (isaStep opGeo at_ w s))

/-- ABORT (R104). -/
def execKAbort (at_ : CoreRef) (w : BitVec 56) (s : State) : Out := answer s (settle (isaStep opAbort at_ w s))

/-- BRK (R107). -/
def execKBrk (at_ : CoreRef) (w : BitVec 56) (s : State) : Out := answer s (settle (isaStep opBrk at_ w s))

/-- TRAP (R104). -/
def execKTrap (at_ : CoreRef) (w : BitVec 64) (s : State) : Out := answer s (settle (trapStep at_ w s))

end Sys2Proof.Machine
end

