-- ==== Sys2Proof/Machine/Rows.lean ====
section
/-! DEFINITION. Rows: the meanings of the commands that are no core instruction, in the order of the table of operations, each one
over the shared operation of its chapter. -/

namespace Sys2Proof.Machine

/-- REGISTER_WRITE (R17). -/
def execRegisterWrite (rq : Requester) (addr : BitVec 64) (val : BitVec 64) (s : State) : Out := onMain (registerWriteOp rq addr val) s

/-- PASS_DESC_SUBMIT (R78). -/
def execPassDescSubmit (rq : Requester) (at_ : CoreRef) (array : Fin 2) (word7 : BitVec 64) (s : State) : Out := onMain (coreRegOp rq (coreKey at_) (0x8038 + 0x40 * array.val) word7) s

/-- PASS_ACTIVATE (R69). -/
def execPassActivate (at_ : CoreRef) (array : Fin 2) (s : State) : Out := onMain (passActivateOp (coreKey at_) array.val) s

/-- DRAIN_BEGIN (R51). -/
def execDrainBegin (at_ : CoreRef) (array : Fin 2) (s : State) : Out := onMain (drainBeginOp (coreKey at_) array.val) s

/-- PASS_COMPLETE (R79). -/
def execPassComplete (at_ : CoreRef) (array : Fin 2) (s : State) : Out := onMain (passCompleteOp (coreKey at_) array.val) s

/-- RESIDUE_MISMATCH (R74). -/
def execResidueMismatch (at_ : CoreRef) (array : Fin 2) (row : Fin 64) (col : Fin 64) (s : State) : Out := onMain (residueMismatchOp (coreKey at_) array.val row.val col.val) s

/-- STOP (R70). -/
def execPassStop (rq : Requester) (at_ : CoreRef) (array : Fin 2) (s : State) : Out := onMain (passCtrlOp rq (coreKey at_) (fun v => setFld v (4 + array.val) (4 + array.val) 1)) s

/-- FLUSH (R70). -/
def execPassFlush (rq : Requester) (at_ : CoreRef) (array : Fin 2) (s : State) : Out := onMain (passCtrlOp rq (coreKey at_) (fun v => setFld v (6 + array.val) (6 + array.val) 1)) s

/-- ARRAY_DISABLE (R80). -/
def execArrayDisable (rq : Requester) (at_ : CoreRef) (array : Fin 2) (s : State) : Out := onMain (passCtrlOp rq (coreKey at_) (fun v => setFld v array.val array.val 0)) s

/-- ARRAY_ENABLE (R80). -/
def execArrayEnable (rq : Requester) (at_ : CoreRef) (array : Fin 2) (s : State) : Out := onMain (passCtrlOp rq (coreKey at_) (fun v => setFld v array.val array.val 1)) s

/-- THROTTLE_STEP_TIMEOUT (R70). -/
def execThrottleStepTimeout (tile : Fin 24) (group : Fin 4) (s : State) : Out := onMain (throttleStepTimeoutOp tile.val group.val) s

/-- CLOCK_CHANGE_COMPLETE (R394). -/
def execClockChangeComplete (tile : Fin 24) (group : Fin 4) (s : State) : Out := onMain (clockChangeCompleteOp tile.val group.val) s

/-- KERNEL_START (R82). -/
def execKernelStart (at_ : CoreRef) (s : State) : Out := onMain (kernelStartOp (coreKey at_)) s

/-- MOVE_COMPLETE (R97). -/
def execMoveComplete (at_ : CoreRef) (ticket : BitVec 64) (s : State) : Out := onMain (moveCompleteOp regPath (coreKey at_) ticket.toNat) s

/-- WAIT_UNBLOCK (R93). -/
def execWaitUnblock (at_ : CoreRef) (s : State) : Out := onMain (unblockOp (fun b => match b with | .wait _ _ _ => true | _ => false) (coreKey at_)) s

/-- FENCE_UNBLOCK (R102). -/
def execFenceUnblock (at_ : CoreRef) (s : State) : Out := onMain (unblockOp (fun b => match b with | .fence _ => true | _ => false) (coreKey at_)) s

/-- WAITWAKE_UNBLOCK (R98). -/
def execWaitwakeUnblock (at_ : CoreRef) (s : State) : Out := onMain (unblockOp (fun b => match b with | .waitwake _ _ => true | _ => false) (coreKey at_)) s

/-- GAP_EXCEEDED (R110). -/
def execGapExceeded (at_ : CoreRef) (s : State) : Out := onMain (gapExceededOp (coreKey at_)) s

/-- KERNEL_END_COMPLETE (R105). -/
def execKernelEndComplete (at_ : CoreRef) (s : State) : Out := onMain (kernelEndCompleteOp (coreKey at_)) s

/-- PREEMPT_SAVE_COMPLETE (R109). -/
def execPreemptSaveComplete (at_ : CoreRef) (s : State) : Out := onMain (preemptSaveCompleteOp (coreKey at_)) s

/-- RESUME (R109). -/
def execResumeKernel (at_ : CoreRef) (slot : Fin 15) (s : State) : Out := onMain (resumeOp (coreKey at_) slot.val) s

/-- AMAX_CFG_WRITE (R150). -/
def execAmaxCfgWrite (rq : Requester) (at_ : CoreRef) (tracker : Fin 256) (val : BitVec 64) (s : State) : Out := onMain (coreRegOp rq (coreKey at_) (0x6000 + 0x10 * tracker.val) val) s

/-- SCALE_K_WRITE (R135). -/
def execScaleKWrite (rq : Requester) (at_ : CoreRef) (n : Fin 4096) (val : BitVec 32) (s : State) : Out := onMain (coreRegOp rq (coreKey at_) (0x1000 + 4 * n.val) (val.setWidth 64)) s

/-- LOCK_WAIT_TIMEOUT (R68). -/
def execLockWaitTimeout (at_ : CoreRef) (s : State) : Out := onMain (lockWaitTimeoutOp (coreKey at_)) s

/-- WIDE_CHARGE_WINDOW_END (R148). -/
def execWideChargeWindowEnd (tin : BitVec 12) (s : State) : Out := onMain (wideChargeWindowEndOp tin.toNat) s

/-- SLICE_ACCESS (R158). -/
def execSliceAccess (tile : Fin 24) (slice : Fin 64) (line : BitVec 24) (op : SliceOp) (errs : SymbolErrors) (cmd : CommandLanes) (s : State) : Out := onMain (sliceAccessOp (ck tile.val slice.val) line.toNat op errs cmd) s

/-- REFRESH_COMMAND (R168). -/
def execRefreshCommand (tile : Fin 24) (slice : Fin 64) (s : State) : Out := onMain (refreshCommandOp (ck tile.val slice.val)) s

/-- SELF_REFRESH_ENTRY (R170). -/
def execSelfRefreshEntry (tile : Fin 24) (slice : Fin 64) (s : State) : Out := onMain (selfRefreshEntryOp (ck tile.val slice.val)) s

/-- SCRUB_READ (R175). -/
def execScrubRead (tile : Fin 24) (slice : Fin 64) (errs : SymbolErrors) (s : State) : Out := onMain (scrubReadOp (ck tile.val slice.val) errs) s

/-- SCRUB_WRITEBACK (R175). -/
def execScrubWriteback (tile : Fin 24) (slice : Fin 64) (s : State) : Out := onMain (scrubWritebackOp (ck tile.val slice.val)) s

/-- FULL_RETRAINING (R167). -/
def execFullRetraining (rq : Requester) (tile : Fin 24) (slice : Fin 64) (s : State) : Out := onMain (fullRetrainingOp rq (ck tile.val slice.val)) s

/-- SPARE_SWITCH_IN (R167). -/
def execSpareSwitchIn (rq : Requester) (tile : Fin 24) (slice : Fin 64) (layer : Fin 16) (lane : BitVec 7) (s : State) : Out := onMain (spareSwitchInOp rq (ck tile.val slice.val) layer.val lane.toNat) s

/-- SLICE_RETRAIN_DONE (R167). -/
def execSliceRetrainDone (tile : Fin 24) (slice : Fin 64) (result : RetrainResult) (s : State) : Out := onMain (sliceRetrainDoneOp (ck tile.val slice.val) result) s

/-- STACK_CTRL_WRITE (R183). -/
def execStackCtrlWrite (rq : Requester) (tile : Fin 24) (val : BitVec 64) (s : State) : Out := onMain (stackCtrlWriteOp rq tile.val val) s

/-- HELD_WRITE_TIMEOUT (R172). -/
def execHeldWriteTimeout (tile : Fin 24) (slice : Fin 64) (s : State) : Out := onMain (heldWriteTimeoutOp (ck tile.val slice.val)) s

/-- PAGE_FILL_COMPLETE (R191). -/
def execPageFillComplete (tile : Fin 24) (xfer : Nat) (badShards : Nat) (s : State) : Out := onMain (pageFillCompleteOp tile.val xfer badShards) s

/-- INVALIDATION_ROUND_COMPLETE (R195). -/
def execInvalidationRoundComplete (tile : Fin 24) (s : State) : Out := onMain (roundCompleteOp tile.val) s

/-- PAGE_MOVE_COMPLETE (R207). -/
def execPageMoveComplete (tile : Fin 24) (xfer : Nat) (readable : Bool) (s : State) : Out := onMain (pageMoveCompleteOp tile.val xfer readable) s

/-- MOVE_HOLD_TIMEOUT (R208). -/
def execMoveHoldTimeout (tile : Fin 24) (xfer : Nat) (s : State) : Out := onMain (moveHoldTimeoutOp tile.val xfer) s

/-- BACKGROUND_COMPACTION (R202). -/
def execBackgroundCompaction (tile : Fin 24) (slice : Fin 64) (s : State) : Out := onMain (backgroundCompactionOp (ck tile.val slice.val)) s

/-- HINT_APPLY (R211). -/
def execHintApply (tile : Fin 24) (s : State) : Out := onMain (hintApplyOp tile.val) s

/-- CREATE_SPACE (R204). -/
def execResCreateSpace (rq : Requester) (tile : Fin 24) (desc : CmdDesc) (s : State) : Out := resRow 0x01 rq tile desc s

/-- DESTROY_SPACE (R204). -/
def execResDestroySpace (rq : Requester) (tile : Fin 24) (desc : CmdDesc) (s : State) : Out := resRow 0x02 rq tile desc s

/-- SET_QUOTA (R200). -/
def execResSetQuota (rq : Requester) (tile : Fin 24) (desc : CmdDesc) (s : State) : Out := resRow 0x03 rq tile desc s

/-- MAP (R205). -/
def execResMap (rq : Requester) (tile : Fin 24) (desc : CmdDesc) (s : State) : Out := resRow 0x04 rq tile desc s

/-- UNMAP (R205). -/
def execResUnmap (rq : Requester) (tile : Fin 24) (desc : CmdDesc) (s : State) : Out := resRow 0x05 rq tile desc s

/-- PROTECT (R205). -/
def execResProtect (rq : Requester) (tile : Fin 24) (desc : CmdDesc) (s : State) : Out := resRow 0x06 rq tile desc s

/-- PIN (R204). -/
def execResPin (rq : Requester) (tile : Fin 24) (desc : CmdDesc) (s : State) : Out := resRow 0x07 rq tile desc s

/-- UNPIN (R204). -/
def execResUnpin (rq : Requester) (tile : Fin 24) (desc : CmdDesc) (s : State) : Out := resRow 0x08 rq tile desc s

/-- PREFETCH (R204). -/
def execResPrefetch (rq : Requester) (tile : Fin 24) (desc : CmdDesc) (s : State) : Out := resRow 0x09 rq tile desc s

/-- EVICT (R201). -/
def execResEvict (rq : Requester) (tile : Fin 24) (desc : CmdDesc) (s : State) : Out := resRow 0x0A rq tile desc s

/-- MIGRATE (R204). -/
def execResMigrate (rq : Requester) (tile : Fin 24) (desc : CmdDesc) (s : State) : Out := resRow 0x0B rq tile desc s

/-- GRANT (R204). -/
def execResGrant (rq : Requester) (tile : Fin 24) (desc : CmdDesc) (s : State) : Out := resRow 0x0C rq tile desc s

/-- ENCODE (R215). -/
def execResEncode (rq : Requester) (tile : Fin 24) (desc : CmdDesc) (s : State) : Out := resRow 0x0D rq tile desc s

/-- REBUILD (R390). -/
def execResRebuild (rq : Requester) (tile : Fin 24) (desc : CmdDesc) (s : State) : Out := resRow 0x0E rq tile desc s

/-- VERIFY (R204). -/
def execResVerify (rq : Requester) (tile : Fin 24) (desc : CmdDesc) (s : State) : Out := resRow 0x0F rq tile desc s

/-- OPEN (R222). -/
def execOpenStream (pkt : Packet) (s : State) : Out := arriveAdmission 1 pkt s

/-- STEP (R223). -/
def execStepStream (pkt : Packet) (s : State) : Out := arriveAdmission 2 pkt s

/-- CLOSE (R223). -/
def execCloseReq (pkt : Packet) (s : State) : Out := arriveAdmission 3 pkt s

/-- BEAT_BOUNDARY (R244). -/
def execBeatBoundary (slot : Fin 64) (s : State) : Out := onMain (beatBoundaryOp slot.val) s

/-- OPERATOR_START (R231). -/
def execOperatorStart (tile : Fin 24) (s : State) : Out := onMain (operatorStartOp tile.val) s

/-- JOB_END (R247). -/
def execJobEnd (job : BitVec 32) (s : State) : Out := onMain (jobEndOp job.toNat) s

/-- TIN_DRAIN_TIMEOUT (R252). -/
def execTinDrainTimeout (tin : BitVec 12) (s : State) : Out := onMain (tinDrainTimeoutOp tin.toNat) s

/-- SET_TIN (R219). -/
def execAdmSetTin (rq : Requester) (desc : CmdDesc) (s : State) : Out := admRow 1 rq desc ⟨0, 0, 0⟩ s

/-- WITHDRAW_TIN (R252). -/
def execAdmWithdrawTin (rq : Requester) (desc : CmdDesc) (s : State) : Out := admRow 2 rq desc ⟨0, 0, 0⟩ s

/-- REGISTER_KERNEL (R230). -/
def execAdmRegisterKernel (rq : Requester) (desc : CmdDesc) (s : State) : Out := admRow 3 rq desc ⟨0, 0, 0⟩ s

/-- LOAD_MODEL (R229). -/
def execAdmLoadModel (rq : Requester) (desc : CmdDesc) (s : State) : Out := admRow 4 rq desc ⟨0, 0, 0⟩ s

/-- UNLOAD_MODEL (R254). -/
def execAdmUnloadModel (rq : Requester) (desc : CmdDesc) (s : State) : Out := admRow 5 rq desc ⟨0, 0, 0⟩ s

/-- LOAD_ROW (R236). -/
def execAdmLoadRow (rq : Requester) (desc : CmdDesc) (s : State) : Out := admRow 6 rq desc ⟨0, 0, 0⟩ s

/-- MEASURE (R237). -/
def execMeasure (rq : Requester) (desc : CmdDesc) (found : MeasureFound) (s : State) : Out := admRow 7 rq desc found s

/-- ADM_UNPIN (R243). -/
def execAdmUnpin (rq : Requester) (desc : CmdDesc) (s : State) : Out := admRow 8 rq desc ⟨0, 0, 0⟩ s

/-- CLOSE_STREAM (R223). -/
def execAdmCloseStream (rq : Requester) (desc : CmdDesc) (s : State) : Out := admRow 9 rq desc ⟨0, 0, 0⟩ s

/-- ADM_CTRL_WRITE (R253). -/
def execAdmCtrlWrite (rq : Requester) (val : BitVec 64) (s : State) : Out := onMain (admCtrlWriteOp rq val) s

/-- DISP_CTRL_WRITE (R251). -/
def execDispCtrlWrite (rq : Requester) (tile : Fin 24) (val : BitVec 64) (s : State) : Out := onMain (dispCtrlWriteOp rq tile.val val) s

/-- FEC_CODEWORD (R260). -/
def execFecCodeword (strand : Fin 160) (corrected : Nat) (flits : List FlitCount) (lost : Option Nat) (s : State) : Out := onMain (fecCodewordOp strand.val corrected flits lost) s

/-- STRAND_ERROR_RETRAIN (R260). -/
def execStrandErrorRetrain (strand : Fin 160) (s : State) : Out := onMain (strandErrorRetrainOp strand.val) s

/-- LINK_CONTROL_FLIT (R263). -/
def execLinkControlFlit (strand : Fin 160) (flit : LinkControl) (s : State) : Out := onMain (linkControlOp strand.val flit) s

/-- EGRESS_PACKET_END (R271). -/
def execEgressPacketEnd (strand : Fin 160) (s : State) : Out := onMain (egressPacketEndOp strand.val) s

/-- ACK (R278). -/
def execAckPacket (pkt : Packet) (s : State) : Out := arriveLoose ackOp 0x7E pkt s

/-- ACK_DELAY_EXPIRE (R278). -/
def execAckDelayExpire (tile : Fin 25) (flow : FlowKey) (s : State) : Out := onMain (ackDelayExpireOp (portTile tile) flow) s

/-- RETRANSMIT_TIMEOUT (R280). -/
def execRetransmitTimeout (tile : Fin 25) (flow : FlowKey) (s : State) : Out := onMain (retransmitTimeoutOp (portTile tile) flow) s

/-- FLOW_STATE_EXPIRE (R277). -/
def execFlowStateExpire (tile : Fin 25) (flow : FlowKey) (send : Bool) (s : State) : Out := onMain (flowStateExpireOp (portTile tile) flow send) s

/-- MOVE_WRITE (R308). -/
def execMoveWriteMsg (pkt : Packet) (s : State) : Out := arrive 0x20 pkt s

/-- MOVE_READ (R308). -/
def execMoveReadMsg (pkt : Packet) (s : State) : Out := arrive 0x21 pkt s

/-- MOVE_DATA (R97). -/
def execMoveDataMsg (pkt : Packet) (s : State) : Out := arrive 0x22 pkt s

/-- MOVE_DONE (R97). -/
def execMoveDoneMsg (pkt : Packet) (s : State) : Out := arrive 0x23 pkt s

/-- RESIDENCY (R196). -/
def execResidencyMsg (pkt : Packet) (s : State) : Out := arrive 0x38 pkt s

/-- RESIDENCY_REPLY (R196). -/
def execResidencyReplyMsg (pkt : Packet) (s : State) : Out := arrive 0x39 pkt s

/-- MANAGEMENT_REPLY (R463). -/
def execManagementReplyMsg (pkt : Packet) (s : State) : Out := arrive 0x41 pkt s

/-- ROUTE_SWAP (R295). -/
def execRouteSwap (rq : Requester) (s : State) : Out := onMain (routeSwapOp rq) s

/-- SWAP_DRAINED (R296). -/
def execSwapDrained (s : State) : Out := onMain (swapDrainedOp) s

/-- GROUP_WITHDRAW (R293). -/
def execGroupWithdraw (rq : Requester) (group : BitVec 12) (s : State) : Out := onMain (groupWithdrawOp rq group.toNat) s

/-- MCAST_DRAIN_TIMEOUT (R293). -/
def execMcastDrainTimeout (s : State) : Out := onMain (mcastDrainTimeoutOp) s

/-- CIRCUIT_ENTRY_WRITE (R288). -/
def execCircuitEntryWrite (rq : Requester) (tile : Fin 24) (entry : Fin 256) (val : BitVec 64) (s : State) : Out := onMain (circuitWriteOp rq tile.val entry.val val) s

/-- STRAND_WITHDRAW (R381). -/
def execStrandWithdraw (rq : Requester) (strand : Fin 160) (s : State) : Out := onMain (strandWithdrawOp rq strand.val) s

/-- STRAND_ENABLE (R381). -/
def execStrandEnable (rq : Requester) (strand : Fin 160) (s : State) : Out := onMain (strandEnableOp rq strand.val) s

/-- STRAND_RETRAIN (R258). -/
def execStrandRetrain (rq : Requester) (strand : Fin 160) (s : State) : Out := onMain (strandRetrainOp rq strand.val) s

/-- STRAND_DRAIN_TIMEOUT (R381). -/
def execStrandDrainTimeout (strand : Fin 160) (s : State) : Out := onMain (strandDrainTimeoutOp strand.val) s

/-- STRAND_TRAINED (R258). -/
def execStrandTrained (strand : Fin 160) (roundTripNs : Nat) (s : State) : Out := onMain (strandTrainedOp strand.val roundTripNs) s

/-- LASER_FAILURE (R257). -/
def execLaserFailure (engine : Fin 20) (laser : Fin 16) (s : State) : Out := onMain (laserFailureOp engine.val laser.val) s

/-- LOAD (R308). -/
def execRemLoad (pkt : Packet) (s : State) : Out := arrive 0x01 pkt s

/-- STORE (R308). -/
def execRemStore (pkt : Packet) (s : State) : Out := arrive 0x02 pkt s

/-- ATOMIC (R308). -/
def execRemAtomic (pkt : Packet) (s : State) : Out := arrive 0x03 pkt s

/-- REDUCE (R308). -/
def execRemReduce (pkt : Packet) (s : State) : Out := arrive 0x04 pkt s

/-- MCAST_STORE (R323). -/
def execRemMcastStore (pkt : Packet) (s : State) : Out := arrive 0x05 pkt s

/-- LOAD_REPLY (R316). -/
def execLoadReply (pkt : Packet) (s : State) : Out := arrive 0x10 pkt s

/-- DONE (R316). -/
def execDoneReply (pkt : Packet) (s : State) : Out := arrive 0x11 pkt s

/-- ATOMIC_REPLY (R316). -/
def execAtomicReply (pkt : Packet) (s : State) : Out := arrive 0x12 pkt s

/-- REMOTE_REPLY_TIMEOUT (R316). -/
def execRemoteReplyTimeout (tile : Fin 24) (txn : BitVec 32) (s : State) : Out := onMain (remoteReplyTimeoutOp tile.val txn.toNat) s

/-- TARGET_WAIT_TIMEOUT (R308). -/
def execTargetWaitTimeout (tile : Fin 24) (s : State) : Out := onMain (targetWaitTimeoutOp tile.val) s

/-- ARC_ENTRY_EXPIRE (R315). -/
def execArcEntryExpire (tile : Fin 24) (s : State) : Out := onMain (arcEntryExpireOp tile.val) s

/-- LINE_BUFFER_WRITEBACK (R320). -/
def execLineBufferWriteback (tile : Fin 24) (slice : Fin 64) (line : BitVec 24) (s : State) : Out := onMain (lineBufferWritebackOp tile.val slice.val line.toNat) s

/-- REGION_OPEN (R309). -/
def execRegionOpen (rq : Requester) (tile : Fin 24) (desc : CmdDesc) (s : State) : Out := onMain (regionRow 1 rq tile.val desc) s

/-- REGION_CLOSE (R310). -/
def execRegionClose (rq : Requester) (tile : Fin 24) (desc : CmdDesc) (s : State) : Out := onMain (regionRow 2 rq tile.val desc) s

/-- REGION_CLOSE_COMPLETE (R310). -/
def execRegionCloseComplete (tile : Fin 24) (region : BitVec 14) (s : State) : Out := onMain (regionCloseCompleteOp tile.val region.toNat) s

/-- IMPORT (R309). -/
def execImportEntry (rq : Requester) (tile : Fin 24) (desc : CmdDesc) (s : State) : Out := onMain (regionRow 3 rq tile.val desc) s

/-- UNIMPORT (R309). -/
def execUnimportEntry (rq : Requester) (tile : Fin 24) (desc : CmdDesc) (s : State) : Out := onMain (regionRow 4 rq tile.val desc) s

/-- GROUP_ENTRY_WRITE (R328). -/
def execGroupEntryWrite (rq : Requester) (group : Fin 1024) (word3 : BitVec 64) (s : State) : Out := onMain (groupEntryRowOp rq group.val word3) s

/-- GROUP_ENTRY_CLEAR (R329). -/
def execGroupEntryClear (rq : Requester) (group : Fin 1024) (s : State) : Out := onMain (groupEntryClearOp rq group.val) s

/-- COLLECTIVE_DRAIN_TIMEOUT (R329). -/
def execCollectiveDrainTimeout (group : Fin 1024) (s : State) : Out := onMain (collectiveDrainTimeoutOp group.val) s

/-- CRUMB_RACK (R335). -/
def execCrumbRack (pkt : Packet) (s : State) : Out := arriveLoose (crumbTake false) 0x50 pkt s

/-- CRUMB_HALL (R335). -/
def execCrumbHall (pkt : Packet) (s : State) : Out := arriveLoose (crumbTake true) 0x51 pkt s

/-- CRUMB_NACK (R338). -/
def execCrumbNack (pkt : Packet) (s : State) : Out := arriveLoose crumbNackOp 0x52 pkt s

/-- CRUMB_ABORT (R340). -/
def execCrumbAbort (pkt : Packet) (s : State) : Out := arriveLoose crumbAbortOp 0x53 pkt s

/-- CRUMB_NACK_TIMER (R338). -/
def execCrumbNackTimer (group : Fin 1024) (kind : Fin 2) (s : State) : Out := onMain (crumbNackTimerOp group.val kind.val) s

/-- CRUMB_ROUND_TIMEOUT (R339). -/
def execCrumbRoundTimeout (group : Fin 1024) (kind : Fin 2) (s : State) : Out := onMain (crumbRoundTimeoutOp group.val kind.val) s

/-- COLL_DATA (R358). -/
def execCollData (pkt : Packet) (found : CollFault) (s : State) : Out :=
  arriveLoose (collDataOp found.strand.val (found.adder.map (·.val))) 0x60 pkt s

/-- COLL_RAW (R356). -/
def execCollRaw (pkt : Packet) (s : State) : Out := arriveLoose collOp 0x61 pkt s

/-- COLL_NACK (R349). -/
def execCollNack (pkt : Packet) (s : State) : Out := arriveLoose collNackOp 0x62 pkt s

/-- LATE_INPUT_TIMEOUT (R351). -/
def execLateInputTimeout (tile : Fin 24) (group : Fin 1024) (s : State) : Out := onMain (lateInputTimeoutOp tile.val group.val) s

/-- LINK_STEP_END (R347). -/
def execLinkStepEnd (tile : Fin 24) (group : Fin 1024) (s : State) : Out := onMain (linkStepEndOp tile.val group.val) s

/-- LINK_ADDER_WITHDRAW (R24). -/
def execLinkAdderWithdraw (rq : Requester) (tile : Fin 24) (s : State) : Out := onMain (linkAdderWithdrawOp rq tile.val) s

/-- SUSPECT_CLEAR (R342). -/
def execSuspectClear (rq : Requester) (word : Fin 256) (mask : BitVec 64) (s : State) : Out := onMain (hearthRegOp rq (0x30A000 + 8 * word.val) mask) s

/-- HELLO (R364). -/
def execHello (strand : Fin 160) (pkt : Packet) (s : State) : Out := onMain (helloOp strand.val pkt) s

/-- HELLO_TIMER (R364). -/
def execHelloTimer (strand : Fin 160) (s : State) : Out := onMain (helloTimerOp strand.val) s

/-- PEER_LOST (R369). -/
def execPeerLost (strand : Fin 160) (s : State) : Out := onMain (peerLostOp strand.val) s

/-- DISCOVERY_END (R366). -/
def execDiscoveryEnd (s : State) : Out := onMain (discoveryEndOp) s

/-- RETIRE (R371). -/
def execRetire (rq : Requester) (tile : Fin 24) (group : Fin 4) (target : BitVec 6) (s : State) : Out := onMain (retireOp rq tile.val group.val target.toNat) s

/-- SHIFT_COPY_COMPLETE (R372). -/
def execShiftCopyComplete (tile : Fin 24) (group : Fin 4) (s : State) : Out := onMain (shiftCopyCompleteOp tile.val group.val) s

/-- RESTORE (R372). -/
def execRestore (rq : Requester) (tile : Fin 24) (group : Fin 4) (target : BitVec 6) (s : State) : Out := onMain (restoreOp rq tile.val group.val target.toNat) s

/-- WITHDRAW (R379). -/
def execWithdrawCore (rq : Requester) (at_ : CoreRef) (s : State) : Out := onMain (withdrawCoreOp rq (coreKey at_)) s

/-- RETURN (R379). -/
def execReturnCore (rq : Requester) (at_ : CoreRef) (s : State) : Out := onMain (returnCoreOp rq (coreKey at_)) s

/-- CORE_DRAIN_TIMEOUT (R379). -/
def execCoreDrainTimeout (at_ : CoreRef) (s : State) : Out := onMain (coreDrainTimeoutOp (coreKey at_)) s

/-- TEST_BAKE_COMPARE (R375). -/
def execTestBakeCompare (tile : Fin 24) (group : Fin 4) (result : BakeEnd) (s : State) : Out := onMain (testBakeCompareOp tile.val group.val result) s

/-- ENGINE_WITHDRAW (R382). -/
def execEngineWithdraw (rq : Requester) (engine : Fin 20) (s : State) : Out := onMain (engineWithdrawOp rq engine.val) s

/-- ENGINE_ENABLE (R382). -/
def execEngineEnable (rq : Requester) (engine : Fin 20) (s : State) : Out := onMain (engineEnableOp rq engine.val) s

/-- ENGINE_RETRAIN (R382). -/
def execEngineRetrain (rq : Requester) (engine : Fin 20) (s : State) : Out := onMain (engineRetrainOp rq engine.val) s

/-- LEASE_GRANT (R387). -/
def execLeaseGrant (s : State) : Out := onMain (leaseGrantOp) s

/-- LEASE_WAIT_TIMEOUT (R387). -/
def execLeaseWaitTimeout (s : State) : Out := onMain (leaseWaitTimeoutOp) s

/-- LEASE_RETRY (R387). -/
def execLeaseRetry (s : State) : Out := onMain (leaseRetryOp) s

/-- LEASE_EXPIRED (R385). -/
def execLeaseExpired (leaseId : BitVec 16) (s : State) : Out := onMain (leaseExpiredOp leaseId.toNat) s

/-- SPARING_RECORD_RETRY (R374). -/
def execSparingRecordRetry (s : State) : Out := onMain (sparingRecordRetryOp) s

/-- TILE_OUT (R388). -/
def execTileOut (tile : Fin 24) (s : State) : Out := onMain (tileOutOp tile.val) s

/-- HOUSEKEEPING_ROUND (R400). -/
def execHousekeepingRound (sample : HkSample) (s : State) : Out := always (housekeepingRoundOp sample) s

/-- EMERG_THROTTLE_ASSERT (R407). -/
def execEmergThrottleAssert (s : State) : Out := always (emergAssertOp) s

/-- EMERG_THROTTLE_DEASSERT (R406). -/
def execEmergThrottleDeassert (s : State) : Out := always (emergDeassertOp) s

/-- REFERENCE_LOST (R395). -/
def execReferenceLost (measured10kHz : Nat) (s : State) : Out := always (referenceLostOp measured10kHz) s

/-- REFERENCE_RESTORED (R395). -/
def execReferenceRestored (s : State) : Out := always (referenceRestoredOp) s

/-- NAP_ENTRY (R397). -/
def execNapEntry (tile : Fin 24) (group : Fin 4) (s : State) : Out := onMain (napEntryOp tile.val group.val) s

/-- SLEEP_ENTRY (R397). -/
def execSleepEntry (tile : Fin 24) (group : Fin 4) (s : State) : Out := onMain (sleepEntryOp tile.val group.val) s

/-- GROUP_WAKE (R398). -/
def execGroupWake (tile : Fin 24) (group : Fin 4) (s : State) : Out := onMain (wakeGroup tile.val group.val) s

/-- WAKE_COMPLETE (R399). -/
def execWakeComplete (tile : Fin 24) (group : Fin 4) (s : State) : Out := onMain (wakeCompleteOp tile.val group.val) s

/-- GOV_CTRL_WRITE (R409). -/
def execGovCtrlWrite (rq : Requester) (val : BitVec 64) (s : State) : Out := onMain (govCtrlWriteOp rq val) s

/-- INPUT_POWER_RISE (R470). -/
def execInputPowerRise (millivolts : Nat) (s : State) : Out := inputPowerRiseOp millivolts s

/-- INPUT_LOSS_STOP (R470). -/
def execInputLossStop (s : State) : Out := .next (inputLossStopOp s)

/-- RESET_RELEASE (R425). -/
def execResetRelease (env : StartEnv) (s : State) : Out := afterReset (resetReleaseOp env s) s

/-- RESET_ASSERT (R481). -/
def execResetAssert (pin : ResetPin) (s : State) : Out := afterReset (resetAssertOp pin s) s

/-- IDENTIFY (R434). -/
def execIgIdentify (src : IgrinIn) (s : State) : Out := igRow 0x01 src s

/-- REG_READ (R435). -/
def execIgRegRead (src : IgrinIn) (s : State) : Out := igRow 0x02 src s

/-- REG_WRITE (R435). -/
def execIgRegWrite (src : IgrinIn) (s : State) : Out := igRow 0x03 src s

/-- LEASE_TAKE (R436). -/
def execIgLeaseTake (src : IgrinIn) (s : State) : Out := igRow 0x10 src s

/-- LEASE_RELEASE (R436). -/
def execIgLeaseRelease (src : IgrinIn) (s : State) : Out := igRow 0x11 src s

/-- EXPERT_ENABLE (R433). -/
def execIgExpertEnable (src : IgrinIn) (s : State) : Out := igRow 0x20 src s

/-- EXPERT_DISABLE (R433). -/
def execIgExpertDisable (src : IgrinIn) (s : State) : Out := igRow 0x21 src s

/-- EXPERT_ENABLE_EXPIRE (R433). -/
def execExpertEnableExpire (index : Fin 4) (s : State) : Out := always (expertEnableExpireOp index.val) s

/-- STARTER_BEGIN (R446). -/
def execIgStarterBegin (src : IgrinIn) (s : State) : Out := igRow 0x30 src s

/-- STARTER_DATA (R446). -/
def execIgStarterData (src : IgrinIn) (s : State) : Out := igRow 0x31 src s

/-- STARTER_COMMIT (R446). -/
def execIgStarterCommit (src : IgrinIn) (s : State) : Out := igRow 0x32 src s

/-- STARTER_SESSION_TIMEOUT (R446). -/
def execStarterSessionTimeout (s : State) : Out := always (starterSessionTimeoutOp) s

/-- SYSTEM_LOAD (R434). -/
def execIgSystemLoad (src : IgrinIn) (s : State) : Out := igRow 0x40 src s

/-- ROLLOVER (R445). -/
def execIgRollover (src : IgrinIn) (s : State) : Out := igRow 0x50 src s

/-- PROVISION (R444). -/
def execIgProvision (src : IgrinIn) (s : State) : Out := igRow 0x51 src s

/-- RESET_MODULE (R437). -/
def execIgResetModule (src : IgrinIn) (s : State) : Out := igRow 0x60 src s

/-- RATE_LIMIT_EXPIRE (R440). -/
def execRateLimitExpire (slot : Fin 4) (s : State) : Out := always (rateLimitExpireOp slot.val) s

/-- READ_REGISTERS (R417). -/
def execReadRegisters (req : RegRequest) (s : State) : Out := onMain (readRegistersOp req.code req.addrs) s

/-- READ_EVENTS (R417). -/
def execReadEvents (pos : BitVec 32) (count : Fin 9) (s : State) : Out := onMain (readEventsOp pos count.val) s

/-- POST_EVENT (R449). -/
def execPostEvent (word2 : BitVec 64) (word3 : BitVec 64) (s : State) : Out := onMain (postEventOp word2 word3) s

/-- SUBMIT_HINT (R211). -/
def execSubmitHint (tile : Fin 24) (hint : Hint) (s : State) : Out := onMain (fwHintOp tile.val hint) s

/-- HEARTBEAT (R418). -/
def execHeartbeat (s : State) : Out := onMain (heartbeatOp) s

/-- HEARTBEAT_TIMEOUT (R418). -/
def execHeartbeatTimeout (s : State) : Out := onMain (heartbeatTimeoutOp) s

/-- GUARD_VIOLATION (R417). -/
def execGuardViolation (serviceCore : Fin 4) (write : Bool) (addr : BitVec 48) (s : State) : Out := onMain (guardViolationOp serviceCore.val write addr.toNat) s

/-- SMBUS_STATUS_READ (R429). -/
def execSmbusStatusRead (s : State) : Out := always (smbusStatusReadOp) s

/-- SMBUS_REPLY_READ (R429). -/
def execSmbusReplyRead (s : State) : Out := always (smbusReplyReadOp) s

/-- SMBUS_ALERT_RESPONSE (R462). -/
def execSmbusAlertResponse (s : State) : Out := always (smbusAlertResponseOp) s

/-- EVENT_LOG_TAKE (R452). -/
def execEventLogTake (s : State) : Out := always (eventLogTakeOp) s

/-- COUNTERS_CLEAR (R459). -/
def execCountersClear (rq : Requester) (block : CounterBlock) (s : State) : Out := onMain (countersClearOp rq block) s

/-- ALERT_CLEAR (R462). -/
def execAlertClear (rq : Requester) (mask : BitVec 64) (s : State) : Out := onMain (hearthRegOp rq 0x700018 mask) s

/-- TRANSIT_PACKET (R285). -/
def execTransitPacket (strand : Fin 160) (pkt : Packet) (s : State) : Out := onMain (transitPacketOp strand.val pkt) s

/-- SMBUS_BLOCK_WRITE (R429). -/
def execSmbusBlockWrite (frag : BitVec 8) (bytes : List (BitVec 8)) (pecOk : Bool) (s : State) : Out := always (smbusBlockWriteOp frag bytes pecOk) s

/-- JTAG_INSTRUCTION (R480). -/
def execJtagInstruction (scan : JtagScan) (s : State) : Out := jtagOp scan.chain scan.shift scan.levels s

/-- LASER_TAKEOVER_COMPLETE (R257). -/
def execLaserTakeoverComplete (engine : Fin 20) (s : State) : Out := onMain (laserTakeoverCompleteOp engine.val) s

/-- DIE_TO_DIE_LINK_DOWN (R264). -/
def execDieToDieLinkDown (tile : Fin 24) (edge : Fin 4) (s : State) : Out := onMain (d2dDownOp tile.val edge.val) s

end Sys2Proof.Machine
end

