-- ==== Sys2Proof/Machine/Dispatch.lean ====
section
/-! DEFINITION. Dispatch: each command to its meaning. -/

namespace Sys2Proof.Machine

def exec (i : Instr) (s : State) : Host.Outcome State Fault Refusal :=
  match i with
  | .registerWrite rq addr val => Sys2Proof.Machine.execRegisterWrite rq addr val s
  | .kPass at_ w => Sys2Proof.Machine.execKPass at_ w s
  | .passDescSubmit rq at_ array word7 => Sys2Proof.Machine.execPassDescSubmit rq at_ array word7 s
  | .passActivate at_ array => Sys2Proof.Machine.execPassActivate at_ array s
  | .drainBegin at_ array => Sys2Proof.Machine.execDrainBegin at_ array s
  | .passComplete at_ array => Sys2Proof.Machine.execPassComplete at_ array s
  | .residueMismatch at_ array row col => Sys2Proof.Machine.execResidueMismatch at_ array row col s
  | .passStop rq at_ array => Sys2Proof.Machine.execPassStop rq at_ array s
  | .passFlush rq at_ array => Sys2Proof.Machine.execPassFlush rq at_ array s
  | .arrayDisable rq at_ array => Sys2Proof.Machine.execArrayDisable rq at_ array s
  | .arrayEnable rq at_ array => Sys2Proof.Machine.execArrayEnable rq at_ array s
  | .throttleStepTimeout tile group => Sys2Proof.Machine.execThrottleStepTimeout tile group s
  | .clockChangeComplete tile group => Sys2Proof.Machine.execClockChangeComplete tile group s
  | .kernelStart at_ => Sys2Proof.Machine.execKernelStart at_ s
  | .kNop at_ w => Sys2Proof.Machine.execKNop at_ w s
  | .kAdd at_ w => Sys2Proof.Machine.execKAdd at_ w s
  | .kSub at_ w => Sys2Proof.Machine.execKSub at_ w s
  | .kMul at_ w => Sys2Proof.Machine.execKMul at_ w s
  | .kMulhu at_ w => Sys2Proof.Machine.execKMulhu at_ w s
  | .kAnd at_ w => Sys2Proof.Machine.execKAnd at_ w s
  | .kOr at_ w => Sys2Proof.Machine.execKOr at_ w s
  | .kXor at_ w => Sys2Proof.Machine.execKXor at_ w s
  | .kShl at_ w => Sys2Proof.Machine.execKShl at_ w s
  | .kShr at_ w => Sys2Proof.Machine.execKShr at_ w s
  | .kSra at_ w => Sys2Proof.Machine.execKSra at_ w s
  | .kMin at_ w => Sys2Proof.Machine.execKMin at_ w s
  | .kMax at_ w => Sys2Proof.Machine.execKMax at_ w s
  | .kSel at_ w => Sys2Proof.Machine.execKSel at_ w s
  | .kClz at_ w => Sys2Proof.Machine.execKClz at_ w s
  | .kPopc at_ w => Sys2Proof.Machine.execKPopc at_ w s
  | .kAddi at_ w => Sys2Proof.Machine.execKAddi at_ w s
  | .kAndi at_ w => Sys2Proof.Machine.execKAndi at_ w s
  | .kOri at_ w => Sys2Proof.Machine.execKOri at_ w s
  | .kXori at_ w => Sys2Proof.Machine.execKXori at_ w s
  | .kShli at_ w => Sys2Proof.Machine.execKShli at_ w s
  | .kShri at_ w => Sys2Proof.Machine.execKShri at_ w s
  | .kSrai at_ w => Sys2Proof.Machine.execKSrai at_ w s
  | .kMuli at_ w => Sys2Proof.Machine.execKMuli at_ w s
  | .kLi at_ w => Sys2Proof.Machine.execKLi at_ w s
  | .kLih at_ w => Sys2Proof.Machine.execKLih at_ w s
  | .kCmpeq at_ w => Sys2Proof.Machine.execKCmpeq at_ w s
  | .kCmplt at_ w => Sys2Proof.Machine.execKCmplt at_ w s
  | .kCmpltu at_ w => Sys2Proof.Machine.execKCmpltu at_ w s
  | .kCmpeqi at_ w => Sys2Proof.Machine.execKCmpeqi at_ w s
  | .kCmplti at_ w => Sys2Proof.Machine.execKCmplti at_ w s
  | .kPand at_ w => Sys2Proof.Machine.execKPand at_ w s
  | .kPor at_ w => Sys2Proof.Machine.execKPor at_ w s
  | .kPnot at_ w => Sys2Proof.Machine.execKPnot at_ w s
  | .kBr at_ w => Sys2Proof.Machine.execKBr at_ w s
  | .kCall at_ w => Sys2Proof.Machine.execKCall at_ w s
  | .kJr at_ w => Sys2Proof.Machine.execKJr at_ w s
  | .kLoop at_ w => Sys2Proof.Machine.execKLoop at_ w s
  | .kEnd at_ w => Sys2Proof.Machine.execKEnd at_ w s
  | .kLd at_ w => Sys2Proof.Machine.execKLd at_ w s
  | .kLds at_ w => Sys2Proof.Machine.execKLds at_ w s
  | .kSt at_ w => Sys2Proof.Machine.execKSt at_ w s
  | .kLdc at_ w => Sys2Proof.Machine.execKLdc at_ w s
  | .kRldLoad at_ w => Sys2Proof.Machine.execKRldLoad at_ w s
  | .kRldLoadSigned at_ w => Sys2Proof.Machine.execKRldLoadSigned at_ w s
  | .kRstStore at_ w => Sys2Proof.Machine.execKRstStore at_ w s
  | .kRstMcastStore at_ w => Sys2Proof.Machine.execKRstMcastStore at_ w s
  | .kRatomAdd at_ w => Sys2Proof.Machine.execKRatomAdd at_ w s
  | .kRatomAnd at_ w => Sys2Proof.Machine.execKRatomAnd at_ w s
  | .kRatomOr at_ w => Sys2Proof.Machine.execKRatomOr at_ w s
  | .kRatomXor at_ w => Sys2Proof.Machine.execKRatomXor at_ w s
  | .kRatomMin at_ w => Sys2Proof.Machine.execKRatomMin at_ w s
  | .kRatomMax at_ w => Sys2Proof.Machine.execKRatomMax at_ w s
  | .kRatomMinu at_ w => Sys2Proof.Machine.execKRatomMinu at_ w s
  | .kRatomMaxu at_ w => Sys2Proof.Machine.execKRatomMaxu at_ w s
  | .kRatomSwap at_ w => Sys2Proof.Machine.execKRatomSwap at_ w s
  | .kRatomCas at_ w => Sys2Proof.Machine.execKRatomCas at_ w s
  | .kRatomFadd at_ w => Sys2Proof.Machine.execKRatomFadd at_ w s
  | .kRredAdd at_ w => Sys2Proof.Machine.execKRredAdd at_ w s
  | .kRredAnd at_ w => Sys2Proof.Machine.execKRredAnd at_ w s
  | .kRredOr at_ w => Sys2Proof.Machine.execKRredOr at_ w s
  | .kRredXor at_ w => Sys2Proof.Machine.execKRredXor at_ w s
  | .kRredMin at_ w => Sys2Proof.Machine.execKRredMin at_ w s
  | .kRredMax at_ w => Sys2Proof.Machine.execKRredMax at_ w s
  | .kRredMinu at_ w => Sys2Proof.Machine.execKRredMinu at_ w s
  | .kRredMaxu at_ w => Sys2Proof.Machine.execKRredMaxu at_ w s
  | .kRredFaddRed at_ w => Sys2Proof.Machine.execKRredFaddRed at_ w s
  | .kVadd at_ w => Sys2Proof.Machine.execKVadd at_ w s
  | .kVsub at_ w => Sys2Proof.Machine.execKVsub at_ w s
  | .kVmul at_ w => Sys2Proof.Machine.execKVmul at_ w s
  | .kVfma at_ w => Sys2Proof.Machine.execKVfma at_ w s
  | .kVmax at_ w => Sys2Proof.Machine.execKVmax at_ w s
  | .kVmin at_ w => Sys2Proof.Machine.execKVmin at_ w s
  | .kVexp2 at_ w => Sys2Proof.Machine.execKVexp2 at_ w s
  | .kVrcp at_ w => Sys2Proof.Machine.execKVrcp at_ w s
  | .kVrsqrt at_ w => Sys2Proof.Machine.execKVrsqrt at_ w s
  | .kVcmplt at_ w => Sys2Proof.Machine.execKVcmplt at_ w s
  | .kVsel at_ w => Sys2Proof.Machine.execKVsel at_ w s
  | .kVbcast at_ w => Sys2Proof.Machine.execKVbcast at_ w s
  | .kVrmax at_ w => Sys2Proof.Machine.execKVrmax at_ w s
  | .kVrsum at_ w => Sys2Proof.Machine.execKVrsum at_ w s
  | .kVmov at_ w => Sys2Proof.Machine.execKVmov at_ w s
  | .kVcvti at_ w => Sys2Proof.Machine.execKVcvti at_ w s
  | .kVcvtf at_ w => Sys2Proof.Machine.execKVcvtf at_ w s
  | .kVextr at_ w => Sys2Proof.Machine.execKVextr at_ w s
  | .kVins at_ w => Sys2Proof.Machine.execKVins at_ w s
  | .kVand at_ w => Sys2Proof.Machine.execKVand at_ w s
  | .kKld at_ w => Sys2Proof.Machine.execKKld at_ w s
  | .kKst at_ w => Sys2Proof.Machine.execKKst at_ w s
  | .kVkld at_ w => Sys2Proof.Machine.execKVkld at_ w s
  | .kVkst at_ w => Sys2Proof.Machine.execKVkst at_ w s
  | .kVld at_ w => Sys2Proof.Machine.execKVld at_ w s
  | .kVst at_ w => Sys2Proof.Machine.execKVst at_ w s
  | .kVldq at_ w => Sys2Proof.Machine.execKVldq at_ w s
  | .kVstq at_ w => Sys2Proof.Machine.execKVstq at_ w s
  | .kMove at_ w => Sys2Proof.Machine.execKMove at_ w s
  | .moveComplete at_ ticket => Sys2Proof.Machine.execMoveComplete at_ ticket s
  | .kCrumb at_ w => Sys2Proof.Machine.execKCrumb at_ w s
  | .kLinkop at_ w => Sys2Proof.Machine.execKLinkop at_ w s
  | .kWait at_ w => Sys2Proof.Machine.execKWait at_ w s
  | .waitUnblock at_ => Sys2Proof.Machine.execWaitUnblock at_ s
  | .kPoll at_ w => Sys2Proof.Machine.execKPoll at_ w s
  | .kFence at_ w => Sys2Proof.Machine.execKFence at_ w s
  | .fenceUnblock at_ => Sys2Proof.Machine.execFenceUnblock at_ s
  | .kYield at_ w => Sys2Proof.Machine.execKYield at_ w s
  | .kWaitwake at_ w => Sys2Proof.Machine.execKWaitwake at_ w s
  | .waitwakeUnblock at_ => Sys2Proof.Machine.execWaitwakeUnblock at_ s
  | .kRsr at_ w => Sys2Proof.Machine.execKRsr at_ w s
  | .kWsr at_ w => Sys2Proof.Machine.execKWsr at_ w s
  | .kGeo at_ w => Sys2Proof.Machine.execKGeo at_ w s
  | .kAbort at_ w => Sys2Proof.Machine.execKAbort at_ w s
  | .kBrk at_ w => Sys2Proof.Machine.execKBrk at_ w s
  | .kTrap at_ w => Sys2Proof.Machine.execKTrap at_ w s
  | .gapExceeded at_ => Sys2Proof.Machine.execGapExceeded at_ s
  | .kernelEndComplete at_ => Sys2Proof.Machine.execKernelEndComplete at_ s
  | .preemptSaveComplete at_ => Sys2Proof.Machine.execPreemptSaveComplete at_ s
  | .resumeKernel at_ slot => Sys2Proof.Machine.execResumeKernel at_ slot s
  | .amaxCfgWrite rq at_ tracker val => Sys2Proof.Machine.execAmaxCfgWrite rq at_ tracker val s
  | .scaleKWrite rq at_ n val => Sys2Proof.Machine.execScaleKWrite rq at_ n val s
  | .lockWaitTimeout at_ => Sys2Proof.Machine.execLockWaitTimeout at_ s
  | .wideChargeWindowEnd tin => Sys2Proof.Machine.execWideChargeWindowEnd tin s
  | .sliceAccess tile slice line op errs cmd => Sys2Proof.Machine.execSliceAccess tile slice line op errs cmd s
  | .refreshCommand tile slice => Sys2Proof.Machine.execRefreshCommand tile slice s
  | .selfRefreshEntry tile slice => Sys2Proof.Machine.execSelfRefreshEntry tile slice s
  | .scrubRead tile slice errs => Sys2Proof.Machine.execScrubRead tile slice errs s
  | .scrubWriteback tile slice => Sys2Proof.Machine.execScrubWriteback tile slice s
  | .fullRetraining rq tile slice => Sys2Proof.Machine.execFullRetraining rq tile slice s
  | .spareSwitchIn rq tile slice layer lane => Sys2Proof.Machine.execSpareSwitchIn rq tile slice layer lane s
  | .sliceRetrainDone tile slice result => Sys2Proof.Machine.execSliceRetrainDone tile slice result s
  | .stackCtrlWrite rq tile val => Sys2Proof.Machine.execStackCtrlWrite rq tile val s
  | .heldWriteTimeout tile slice => Sys2Proof.Machine.execHeldWriteTimeout tile slice s
  | .pageFillComplete tile xfer badShards => Sys2Proof.Machine.execPageFillComplete tile xfer badShards s
  | .invalidationRoundComplete tile => Sys2Proof.Machine.execInvalidationRoundComplete tile s
  | .pageMoveComplete tile xfer readable => Sys2Proof.Machine.execPageMoveComplete tile xfer readable s
  | .moveHoldTimeout tile xfer => Sys2Proof.Machine.execMoveHoldTimeout tile xfer s
  | .backgroundCompaction tile slice => Sys2Proof.Machine.execBackgroundCompaction tile slice s
  | .hintApply tile => Sys2Proof.Machine.execHintApply tile s
  | .resCreateSpace rq tile desc => Sys2Proof.Machine.execResCreateSpace rq tile desc s
  | .resDestroySpace rq tile desc => Sys2Proof.Machine.execResDestroySpace rq tile desc s
  | .resSetQuota rq tile desc => Sys2Proof.Machine.execResSetQuota rq tile desc s
  | .resMap rq tile desc => Sys2Proof.Machine.execResMap rq tile desc s
  | .resUnmap rq tile desc => Sys2Proof.Machine.execResUnmap rq tile desc s
  | .resProtect rq tile desc => Sys2Proof.Machine.execResProtect rq tile desc s
  | .resPin rq tile desc => Sys2Proof.Machine.execResPin rq tile desc s
  | .resUnpin rq tile desc => Sys2Proof.Machine.execResUnpin rq tile desc s
  | .resPrefetch rq tile desc => Sys2Proof.Machine.execResPrefetch rq tile desc s
  | .resEvict rq tile desc => Sys2Proof.Machine.execResEvict rq tile desc s
  | .resMigrate rq tile desc => Sys2Proof.Machine.execResMigrate rq tile desc s
  | .resGrant rq tile desc => Sys2Proof.Machine.execResGrant rq tile desc s
  | .resEncode rq tile desc => Sys2Proof.Machine.execResEncode rq tile desc s
  | .resRebuild rq tile desc => Sys2Proof.Machine.execResRebuild rq tile desc s
  | .resVerify rq tile desc => Sys2Proof.Machine.execResVerify rq tile desc s
  | .openStream pkt => Sys2Proof.Machine.execOpenStream pkt s
  | .stepStream pkt => Sys2Proof.Machine.execStepStream pkt s
  | .closeReq pkt => Sys2Proof.Machine.execCloseReq pkt s
  | .beatBoundary slot => Sys2Proof.Machine.execBeatBoundary slot s
  | .operatorStart tile => Sys2Proof.Machine.execOperatorStart tile s
  | .jobEnd job => Sys2Proof.Machine.execJobEnd job s
  | .tinDrainTimeout tin => Sys2Proof.Machine.execTinDrainTimeout tin s
  | .admSetTin rq desc => Sys2Proof.Machine.execAdmSetTin rq desc s
  | .admWithdrawTin rq desc => Sys2Proof.Machine.execAdmWithdrawTin rq desc s
  | .admRegisterKernel rq desc => Sys2Proof.Machine.execAdmRegisterKernel rq desc s
  | .admLoadModel rq desc => Sys2Proof.Machine.execAdmLoadModel rq desc s
  | .admUnloadModel rq desc => Sys2Proof.Machine.execAdmUnloadModel rq desc s
  | .admLoadRow rq desc => Sys2Proof.Machine.execAdmLoadRow rq desc s
  | .measure rq desc found => Sys2Proof.Machine.execMeasure rq desc found s
  | .admUnpin rq desc => Sys2Proof.Machine.execAdmUnpin rq desc s
  | .admCloseStream rq desc => Sys2Proof.Machine.execAdmCloseStream rq desc s
  | .admCtrlWrite rq val => Sys2Proof.Machine.execAdmCtrlWrite rq val s
  | .dispCtrlWrite rq tile val => Sys2Proof.Machine.execDispCtrlWrite rq tile val s
  | .fecCodeword strand corrected flits lost => Sys2Proof.Machine.execFecCodeword strand corrected flits lost s
  | .strandErrorRetrain strand => Sys2Proof.Machine.execStrandErrorRetrain strand s
  | .linkControlFlit strand flit => Sys2Proof.Machine.execLinkControlFlit strand flit s
  | .egressPacketEnd strand => Sys2Proof.Machine.execEgressPacketEnd strand s
  | .ackPacket pkt => Sys2Proof.Machine.execAckPacket pkt s
  | .ackDelayExpire tile flow => Sys2Proof.Machine.execAckDelayExpire tile flow s
  | .retransmitTimeout tile flow => Sys2Proof.Machine.execRetransmitTimeout tile flow s
  | .flowStateExpire tile flow send => Sys2Proof.Machine.execFlowStateExpire tile flow send s
  | .moveWriteMsg pkt => Sys2Proof.Machine.execMoveWriteMsg pkt s
  | .moveReadMsg pkt => Sys2Proof.Machine.execMoveReadMsg pkt s
  | .moveDataMsg pkt => Sys2Proof.Machine.execMoveDataMsg pkt s
  | .moveDoneMsg pkt => Sys2Proof.Machine.execMoveDoneMsg pkt s
  | .residencyMsg pkt => Sys2Proof.Machine.execResidencyMsg pkt s
  | .residencyReplyMsg pkt => Sys2Proof.Machine.execResidencyReplyMsg pkt s
  | .managementReplyMsg pkt => Sys2Proof.Machine.execManagementReplyMsg pkt s
  | .routeSwap rq => Sys2Proof.Machine.execRouteSwap rq s
  | .swapDrained => Sys2Proof.Machine.execSwapDrained s
  | .groupWithdraw rq group => Sys2Proof.Machine.execGroupWithdraw rq group s
  | .mcastDrainTimeout => Sys2Proof.Machine.execMcastDrainTimeout s
  | .circuitEntryWrite rq tile entry val => Sys2Proof.Machine.execCircuitEntryWrite rq tile entry val s
  | .strandWithdraw rq strand => Sys2Proof.Machine.execStrandWithdraw rq strand s
  | .strandEnable rq strand => Sys2Proof.Machine.execStrandEnable rq strand s
  | .strandRetrain rq strand => Sys2Proof.Machine.execStrandRetrain rq strand s
  | .strandDrainTimeout strand => Sys2Proof.Machine.execStrandDrainTimeout strand s
  | .strandTrained strand roundTripNs => Sys2Proof.Machine.execStrandTrained strand roundTripNs s
  | .laserFailure engine laser => Sys2Proof.Machine.execLaserFailure engine laser s
  | .remLoad pkt => Sys2Proof.Machine.execRemLoad pkt s
  | .remStore pkt => Sys2Proof.Machine.execRemStore pkt s
  | .remAtomic pkt => Sys2Proof.Machine.execRemAtomic pkt s
  | .remReduce pkt => Sys2Proof.Machine.execRemReduce pkt s
  | .remMcastStore pkt => Sys2Proof.Machine.execRemMcastStore pkt s
  | .loadReply pkt => Sys2Proof.Machine.execLoadReply pkt s
  | .doneReply pkt => Sys2Proof.Machine.execDoneReply pkt s
  | .atomicReply pkt => Sys2Proof.Machine.execAtomicReply pkt s
  | .remoteReplyTimeout tile txn => Sys2Proof.Machine.execRemoteReplyTimeout tile txn s
  | .targetWaitTimeout tile => Sys2Proof.Machine.execTargetWaitTimeout tile s
  | .arcEntryExpire tile => Sys2Proof.Machine.execArcEntryExpire tile s
  | .lineBufferWriteback tile slice line => Sys2Proof.Machine.execLineBufferWriteback tile slice line s
  | .regionOpen rq tile desc => Sys2Proof.Machine.execRegionOpen rq tile desc s
  | .regionClose rq tile desc => Sys2Proof.Machine.execRegionClose rq tile desc s
  | .regionCloseComplete tile region => Sys2Proof.Machine.execRegionCloseComplete tile region s
  | .importEntry rq tile desc => Sys2Proof.Machine.execImportEntry rq tile desc s
  | .unimportEntry rq tile desc => Sys2Proof.Machine.execUnimportEntry rq tile desc s
  | .groupEntryWrite rq group word3 => Sys2Proof.Machine.execGroupEntryWrite rq group word3 s
  | .groupEntryClear rq group => Sys2Proof.Machine.execGroupEntryClear rq group s
  | .collectiveDrainTimeout group => Sys2Proof.Machine.execCollectiveDrainTimeout group s
  | .crumbRack pkt => Sys2Proof.Machine.execCrumbRack pkt s
  | .crumbHall pkt => Sys2Proof.Machine.execCrumbHall pkt s
  | .crumbNack pkt => Sys2Proof.Machine.execCrumbNack pkt s
  | .crumbAbort pkt => Sys2Proof.Machine.execCrumbAbort pkt s
  | .crumbNackTimer group kind => Sys2Proof.Machine.execCrumbNackTimer group kind s
  | .crumbRoundTimeout group kind => Sys2Proof.Machine.execCrumbRoundTimeout group kind s
  | .collData pkt found => Sys2Proof.Machine.execCollData pkt found s
  | .collRaw pkt => Sys2Proof.Machine.execCollRaw pkt s
  | .collNack pkt => Sys2Proof.Machine.execCollNack pkt s
  | .lateInputTimeout tile group => Sys2Proof.Machine.execLateInputTimeout tile group s
  | .linkStepEnd tile group => Sys2Proof.Machine.execLinkStepEnd tile group s
  | .linkAdderWithdraw rq tile => Sys2Proof.Machine.execLinkAdderWithdraw rq tile s
  | .suspectClear rq word mask => Sys2Proof.Machine.execSuspectClear rq word mask s
  | .hello strand pkt => Sys2Proof.Machine.execHello strand pkt s
  | .helloTimer strand => Sys2Proof.Machine.execHelloTimer strand s
  | .peerLost strand => Sys2Proof.Machine.execPeerLost strand s
  | .discoveryEnd => Sys2Proof.Machine.execDiscoveryEnd s
  | .retire rq tile group target => Sys2Proof.Machine.execRetire rq tile group target s
  | .shiftCopyComplete tile group => Sys2Proof.Machine.execShiftCopyComplete tile group s
  | .restore rq tile group target => Sys2Proof.Machine.execRestore rq tile group target s
  | .withdrawCore rq at_ => Sys2Proof.Machine.execWithdrawCore rq at_ s
  | .returnCore rq at_ => Sys2Proof.Machine.execReturnCore rq at_ s
  | .coreDrainTimeout at_ => Sys2Proof.Machine.execCoreDrainTimeout at_ s
  | .testBakeCompare tile group result => Sys2Proof.Machine.execTestBakeCompare tile group result s
  | .engineWithdraw rq engine => Sys2Proof.Machine.execEngineWithdraw rq engine s
  | .engineEnable rq engine => Sys2Proof.Machine.execEngineEnable rq engine s
  | .engineRetrain rq engine => Sys2Proof.Machine.execEngineRetrain rq engine s
  | .leaseGrant => Sys2Proof.Machine.execLeaseGrant s
  | .leaseWaitTimeout => Sys2Proof.Machine.execLeaseWaitTimeout s
  | .leaseRetry => Sys2Proof.Machine.execLeaseRetry s
  | .leaseExpired leaseId => Sys2Proof.Machine.execLeaseExpired leaseId s
  | .sparingRecordRetry => Sys2Proof.Machine.execSparingRecordRetry s
  | .tileOut tile => Sys2Proof.Machine.execTileOut tile s
  | .housekeepingRound sample => Sys2Proof.Machine.execHousekeepingRound sample s
  | .emergThrottleAssert => Sys2Proof.Machine.execEmergThrottleAssert s
  | .emergThrottleDeassert => Sys2Proof.Machine.execEmergThrottleDeassert s
  | .referenceLost measured10kHz => Sys2Proof.Machine.execReferenceLost measured10kHz s
  | .referenceRestored => Sys2Proof.Machine.execReferenceRestored s
  | .napEntry tile group => Sys2Proof.Machine.execNapEntry tile group s
  | .sleepEntry tile group => Sys2Proof.Machine.execSleepEntry tile group s
  | .groupWake tile group => Sys2Proof.Machine.execGroupWake tile group s
  | .wakeComplete tile group => Sys2Proof.Machine.execWakeComplete tile group s
  | .govCtrlWrite rq val => Sys2Proof.Machine.execGovCtrlWrite rq val s
  | .inputPowerRise millivolts => Sys2Proof.Machine.execInputPowerRise millivolts s
  | .inputLossStop => Sys2Proof.Machine.execInputLossStop s
  | .resetRelease env => Sys2Proof.Machine.execResetRelease env s
  | .resetAssert pin => Sys2Proof.Machine.execResetAssert pin s
  | .igIdentify src => Sys2Proof.Machine.execIgIdentify src s
  | .igRegRead src => Sys2Proof.Machine.execIgRegRead src s
  | .igRegWrite src => Sys2Proof.Machine.execIgRegWrite src s
  | .igLeaseTake src => Sys2Proof.Machine.execIgLeaseTake src s
  | .igLeaseRelease src => Sys2Proof.Machine.execIgLeaseRelease src s
  | .igExpertEnable src => Sys2Proof.Machine.execIgExpertEnable src s
  | .igExpertDisable src => Sys2Proof.Machine.execIgExpertDisable src s
  | .expertEnableExpire index => Sys2Proof.Machine.execExpertEnableExpire index s
  | .igStarterBegin src => Sys2Proof.Machine.execIgStarterBegin src s
  | .igStarterData src => Sys2Proof.Machine.execIgStarterData src s
  | .igStarterCommit src => Sys2Proof.Machine.execIgStarterCommit src s
  | .starterSessionTimeout => Sys2Proof.Machine.execStarterSessionTimeout s
  | .igSystemLoad src => Sys2Proof.Machine.execIgSystemLoad src s
  | .igRollover src => Sys2Proof.Machine.execIgRollover src s
  | .igProvision src => Sys2Proof.Machine.execIgProvision src s
  | .igResetModule src => Sys2Proof.Machine.execIgResetModule src s
  | .rateLimitExpire slot => Sys2Proof.Machine.execRateLimitExpire slot s
  | .readRegisters req => Sys2Proof.Machine.execReadRegisters req s
  | .readEvents pos count => Sys2Proof.Machine.execReadEvents pos count s
  | .postEvent word2 word3 => Sys2Proof.Machine.execPostEvent word2 word3 s
  | .submitHint tile hint => Sys2Proof.Machine.execSubmitHint tile hint s
  | .heartbeat => Sys2Proof.Machine.execHeartbeat s
  | .heartbeatTimeout => Sys2Proof.Machine.execHeartbeatTimeout s
  | .guardViolation serviceCore write addr => Sys2Proof.Machine.execGuardViolation serviceCore write addr s
  | .smbusStatusRead => Sys2Proof.Machine.execSmbusStatusRead s
  | .smbusReplyRead => Sys2Proof.Machine.execSmbusReplyRead s
  | .smbusAlertResponse => Sys2Proof.Machine.execSmbusAlertResponse s
  | .eventLogTake => Sys2Proof.Machine.execEventLogTake s
  | .countersClear rq block => Sys2Proof.Machine.execCountersClear rq block s
  | .alertClear rq mask => Sys2Proof.Machine.execAlertClear rq mask s
  | .transitPacket strand pkt => Sys2Proof.Machine.execTransitPacket strand pkt s
  | .smbusBlockWrite frag bytes pecOk => Sys2Proof.Machine.execSmbusBlockWrite frag bytes pecOk s
  | .jtagInstruction scan => Sys2Proof.Machine.execJtagInstruction scan s
  | .laserTakeoverComplete engine => Sys2Proof.Machine.execLaserTakeoverComplete engine s
  | .dieToDieLinkDown tile edge => Sys2Proof.Machine.execDieToDieLinkDown tile edge s

end Sys2Proof.Machine
end

