-- ==== Sys2Proof/Machine/Step.lean ====
section
/-! DEFINITION. Step: one step takes the command at the front of the queue. -/

namespace Sys2Proof.Machine

/-- An idle step: module time goes on by one slot of the event log (R452). DESIGN CHOICE (log entry 1). -/
def idle (s : State) : State := { s with now := s.now + idleNs }

/-- One step of the module. DESIGN CHOICE (log entries 1, 126). -/
def step (s : State) : Host.Outcome State Fault Refusal :=
  match s.pending with
  | [] => .next (idle s)
  | c :: rest => exec c { s with pending := rest }

/-- The state with the command that a word spells at the front of its queue. DESIGN CHOICE (log entry 6). -/
def State.withFetchWord (s : State) (nbits w : Nat) : State :=
  match decodeTableWord nbits w with
  | some c => { s with pending := c :: s.pending }
  | none => s

end Sys2Proof.Machine
end

