-- ==== Sys2Proof/WellFormed.lean ====
section
/-! DEFINITION. WellFormed: the commands whose data have the sizes the manual gives them. The rows of the table fix the
ranges of their operands by their types; the checks here are on byte strings and lists. -/

namespace Sys2Proof

/-- A packet: its payload is PAYLOAD_FLITS flits of 64 bytes, at most 64 of them (R265, R267). -/
def Packet.wf (p : Packet) : Bool := p.payload.length == 64 * (p.w0.extractLsb' 49 7).toNat && decide (p.payload.length ≤ 4096)

/-- A slice access: a whole line of 128 bytes, or a part within it (R157). -/
def SliceOp.wf : SliceOp → Bool
  | .read => true
  | .writeLine d => d.length == 128
  | .writePart off d => !d.isEmpty && decide (off.val + d.length ≤ 128)

/-- The symbol errors of an access: each of the 160 symbols at most once (R161). -/
def symbolErrorsWf (l : SymbolErrors) : Bool := decide ((l.map (·.1)).Nodup)

/-- A link-control flit: counts of VC2–VC15 in both directions (Table 8.2). -/
def LinkControl.wf (x : LinkControl) : Bool := x.ret.length == 14 && x.sent.length == 14

/-- The samples of a round: 64 channels (Table 12.3). -/
def HkSample.wf (x : HkSample) : Bool := x.value.length == 64

/-- An Igrin message: a header of 48 bytes and at most 976 bytes of body (Table 13.9), or a packet. -/
def IgrinIn.wf : IgrinIn → Bool
  | .port b => decide (48 ≤ b.length) && decide (b.length ≤ 1024)
  | .packet p => p.wf

/-- A flash image: each area no longer than Table 13.3 gives it. -/
def FlashImage.wf (f : FlashImage) : Bool :=
  decide (f.copyA.length ≤ 33554432) && decide (f.copyB.length ≤ 33554432) &&
  [f.counter0, f.counter1, f.sparing0, f.sparing1, f.trip0, f.trip1].all (fun l => decide (l.length ≤ 65536))

/-- What a start-up meets: an engine is described once, a tile fails once, a stack has one temperature, a layer has 80 lanes. -/
def StartEnv.wf (e : StartEnv) : Bool :=
  (match e.flash with | some f => f.wf | none => true) && decide ((e.engines.map (·.1)).Nodup) && decide ((e.tileFail.map (·.1)).Nodup) &&
  decide ((e.stackTemp.map (·.1)).Nodup) && e.failedLanes.all (fun p => decide (p.2.2.toNat < 80))

/-- Whether a command is well formed. -/
def Instr.wf (i : Instr) : Bool :=
  match i with
  | .openStream p | .stepStream p | .closeReq p | .ackPacket p | .moveWriteMsg p | .moveReadMsg p | .moveDataMsg p | .moveDoneMsg p
  | .residencyMsg p | .residencyReplyMsg p | .managementReplyMsg p | .remLoad p | .remStore p | .remAtomic p | .remReduce p
  | .remMcastStore p | .loadReply p | .doneReply p | .atomicReply p | .crumbRack p | .crumbHall p | .crumbNack p | .crumbAbort p
  | .collData p _ | .collRaw p | .collNack p | .hello _ p | .transitPacket _ p => p.wf
  | .sliceAccess _ _ _ op errs cmd => op.wf && symbolErrorsWf errs && decide cmd.Nodup
  | .scrubRead _ _ errs => symbolErrorsWf errs
  | .linkControlFlit _ f => f.wf
  | .housekeepingRound x => x.wf
  | .resetRelease e => e.wf
  | .igIdentify m | .igRegRead m | .igRegWrite m | .igLeaseTake m | .igLeaseRelease m | .igExpertEnable m | .igExpertDisable m
  | .igStarterBegin m | .igStarterData m | .igStarterCommit m | .igSystemLoad m | .igRollover m | .igProvision m
  | .igResetModule m => m.wf
  | .smbusBlockWrite _ b _ => decide (b.length ≤ 240)
  | .readRegisters r => decide (r.addrs.length ≤ 32) && (decide (r.code.toNat ≤ 1) || decide (5 < r.code.toNat))
  | .jtagInstruction x => x.chain.length == 25
  | .submitHint _ h => decide (1 ≤ h.pages)
  | _ => true

end Sys2Proof
end

