-- ==== Sys2Proof/Safety.lean ====
section
/-! DEFINITION. Safety: what claims call a safe step and a safe run, and the forms that they ask of a state. -/

namespace Sys2Proof.Machine

/-- A step that neither faults nor is refused. -/
def StepSafe (s : State) : Prop := ∃ t, step s = .next t

/-- The first n steps from s are safe. -/
def RunSafe : Nat → State → Prop
  | 0, _ => True
  | n + 1, s => ∃ t, step s = .next t ∧ RunSafe n t

/-- The canonical form of a table: its keys strictly rise. -/
def Tab.rising {α : Type} : Tab α → Bool
  | [] => true
  | [_] => true
  | (i, _) :: (j, v) :: r => decide (i < j) && Tab.rising ((j, v) :: r)

/-- The canonical form of a memory of bytes whose unlisted bytes read zero: keys strictly rise, and no listed byte is
zero. -/
def Memory.wf (m : Tab Byte) : Bool := Tab.rising m && m.all (fun p => p.2 != 0)

/-- The memories of a state in canonical form: every bench and every slice. -/
def State.memoryWf (s : State) : Bool :=
  s.cores.all (fun p => Memory.wf p.2.bench) && s.slices.all (fun p => Memory.wf p.2.data)

/-- The service connector as R475, R479 and R480 keep it: an SMBus target address of 0x4C–0x4F, and 25 JTAG ports that each execute a
mandatory instruction. -/
def State.pinsWf (s : State) : Prop :=
  (0x4C ≤ smbAddress s ∧ smbAddress s ≤ 0x4F) ∧ s.pins.jtag.length = 25 ∧ s.pins.jtag.any jtagPrivate = false

end Sys2Proof.Machine
end

