-- ==== Sys2Proof/Certificates/Slice0/Obligations.lean ====
section
/-! DEFINITION. Obligations: the statements for the provers, by family of commands. What a statement says of a command is
an equation for the state that exec answers, under conditions on the state and the operands alone. Where the command can
let other work go on, the equation applies `settle` (Arrivals.lean) to the command's own effect, which stands written out. -/

namespace Sys2Proof.Spec

open Sys2Proof Sys2Proof.Machine

/-! ### Shared vocabulary -/

/-- What a command answers when its effect has made `u` of `s`: the queue and the service connector stay, and module time
does not run back. -/
def kept (s u : State) : State := { u with pending := s.pending, pins := s.pins, now := max s.now u.now }

/-- A command answers its effect `u`, with what follows from it, while the hearth main domain and the tiles are on. -/
def Does (c : Instr) (s u : State) : Prop := exec c s = .next (kept s (settle u))

/-- Core `r` of `s` runs kernel `k`, can issue, and executes the word `w`: it is not blocked, its clock runs, no store of
it waits on a lock (R104), its yield gap is not passed (R110), its program counter is in the code section and aligned
(FETCH of Table 3.9), and the guard of the word holds (R84). -/
structure Issues (s : State) (r : CoreRef) (k : Kernel) (w : BitVec 56) : Prop where
  kernel : (getCore s (coreKey r)).kernel = some k
  running : k.phase = .running
  unblocked : k.blocked = none
  clock : groupRuns s (coreKey r) = true
  stores : (getCore s (coreKey r)).writes = []
  gap : k.gap ≤ k.image.maxYieldGap
  inCode : k.pc < k.image.codeBytes
  aligned : k.pc % 8 = 0
  guard : pReg k (wGuard w) ≠ wGneg w

/-- None of the listed general registers waits for a remote reply (R86, R88). -/
def Final (k : Kernel) (l : List Nat) : Prop := ∀ i ∈ l, bit k.gWait i = false

/-- The state in which core `r` has retired an instruction that made `k'` of its kernel: it continues at `pc`, and the
issue cycle and the free stall cycles count (R110, Table 3.3). -/
def retired (s : State) (r : CoreRef) (k' : Kernel) (pc : Nat) : State :=
  { s with
    free := s.free + 1
    cores := tput s.cores (coreKey r) { getCore s (coreKey r) with
      kernel := some { k' with pc := pc, cycles := k'.cycles + (1 + Config.stall s.free), gap := k'.gap + (1 + Config.stall s.free) } } }

/-- Instructions of one shape. -/
abbrev Isa := CoreRef → BitVec 56 → Instr

/-! ### Scalar instructions (R83–R88) -/

/-- Format R with two sources: the instruction and its result (Table 3.4). -/
def aluRR : List (Isa × (Word → Word → Word)) :=
  [ (.kAdd, fun a b => a + b), (.kSub, fun a b => a - b), (.kMul, fun a b => a * b),
    (.kMulhu, fun a b => ((a.setWidth 128 * b.setWidth 128).extractLsb' 64 64)),
    (.kAnd, fun a b => a &&& b), (.kOr, fun a b => a ||| b), (.kXor, fun a b => a ^^^ b),
    (.kShl, fun a b => a <<< (b.toNat % 64)), (.kShr, fun a b => a >>> (b.toNat % 64)),
    (.kSra, fun a b => a.sshiftRight (b.toNat % 64)),
    (.kMin, fun a b => if a.slt b then a else b), (.kMax, fun a b => if a.slt b then b else a) ]

/-- Format I: the instruction, the bits of IMM that must be zero, and its result of gA and the 32-bit IMM. -/
def aluRI : List (Isa × BitVec 32 × (Word → BitVec 32 → Word)) :=
  [ (.kAddi, 0, fun a i => a + i.signExtend 64), (.kAndi, 0, fun a i => a &&& i.setWidth 64),
    (.kOri, 0, fun a i => a ||| i.setWidth 64), (.kXori, 0, fun a i => a ^^^ i.setWidth 64),
    (.kShli, 0xFFFFFFC0, fun a i => a <<< i.toNat), (.kShri, 0xFFFFFFC0, fun a i => a >>> i.toNat),
    (.kSrai, 0xFFFFFFC0, fun a i => a.sshiftRight i.toNat), (.kMuli, 0, fun a i => a * i.signExtend 64) ]

/-- Compares of two registers. -/
def cmpRR : List (Isa × (Word → Word → Bool)) :=
  [ (.kCmpeq, fun a b => a == b), (.kCmplt, fun a b => a.slt b), (.kCmpltu, fun a b => a.ult b) ]

/-- Compares with the sign-extended IMM. -/
def cmpRI : List (Isa × (Word → Word → Bool)) := [(.kCmpeqi, fun a b => a == b), (.kCmplti, fun a b => a.slt b)]

/-- Predicate logic of two predicates. -/
def predRR : List (Isa × (Bool → Bool → Bool)) := [(.kPand, fun a b => a && b), (.kPor, fun a b => a || b)]

/-- The target of BR, CALL and LOOP: PC + 8 × DISP. -/
def target (k : Kernel) (w : BitVec 56) : Nat := (BitVec.ofNat 64 k.pc + 8 * (w.setWidth 32).signExtend 64).toNat

/-! ### Vector instructions (R87, R89, R116) -/

/-- The vector whose lane i is `f i`, and the union of the flags that its lanes raise. -/
def lanes (f : Nat → Word32 × FpFlags) : BitVec 2048 × FpFlags :=
  (ofLanes (fun i => (f i).1), (upto 64).foldl (fun a i => a ||| (f i).2) 0)

/-- Lane-wise instructions of one source. -/
def vec1 : List (Isa × (Word32 → Word32 × FpFlags)) :=
  [(.kVexp2, fExp2), (.kVrcp, fRcp), (.kVrsqrt, fRsqrt), (.kVmov, fun a => (a, 0)), (.kVcvti, fToInt), (.kVcvtf, fOfInt)]

/-- Lane-wise instructions of two sources. -/
def vec2 : List (Isa × (Word32 → Word32 → Word32 × FpFlags)) :=
  [ (.kVadd, fAdd), (.kVsub, fSub), (.kVmul, fMul), (.kVmax, fMax), (.kVmin, fMin), (.kVcmplt, fCmpLt),
    (.kVand, fun a b => (a &&& b, 0)) ]

/-- Lane-wise instructions of three sources. -/
def vec3 : List (Isa × (Word32 → Word32 → Word32 → Word32 × FpFlags)) :=
  [(.kVfma, fFma), (.kVsel, fun a b c => (if c = 0 then b else a, 0))]

end Sys2Proof.Spec

open Sys2Proof Sys2Proof.Machine Sys2Proof.Spec

/-! ## The block -/

/-- The command at the front of the queue runs on the state with the queue's rest, for every command and state. -/
def Obligations.StepRunsFront : Prop :=
  ∀ (c : Instr) (rest : List Instr) (s : State), s.pending = c :: rest → step s = exec c { s with pending := rest }

/-- On an empty queue the block idles for one 20 ns slot of the event log (the model's choice, log entry 1). -/
def Sys2Proof.Spec.StepIdles : Prop :=
  ∀ s : State, s.pending = [] → step s = .next { s with now := s.now + 20 }

/-! ## Instructions -/

/-- Format R and its one-source and SEL forms: gD takes the result of Table 3.4 and the tag of its sources (R83), the instruction
retires to the next word, and nothing else of the module changes. (The stall cycles are a free value, log entry 12.) Completion of
kAdd, kSub, kMul, kMulhu, kAnd, kOr, kXor, kShl, kShr, kSra, kMin, kMax, kSel, kClz and kPopc: exec answers the stated next state
under these conditions alone. -/
def Sys2Proof.Spec.ScalarRegisterForms : Prop :=
  (∀ p ∈ aluRR, ∀ (r : CoreRef) (w : BitVec 56) (s : State) (k : Kernel), Issues s r k w → fld w 36 0 = 0 → Final k [wD w, wA w, wB w] →
    exec (p.1 r w) s = .next (retired s r
      (putG k (wD w) (p.2 (gReg k (wA w)) (gReg k (wB w))) (gTag k (wA w) || gTag k (wB w))) (k.pc + 8))) ∧
  (∀ (r : CoreRef) (w : BitVec 56) (s : State) (k : Kernel), Issues s r k w → fld w 41 0 = 0 → Final k [wD w, wA w] →
    exec (.kClz r w) s = .next (retired s r
      (putG k (wD w) (BitVec.ofNat 64 ((upto 65).find? (fun n => n = 64 || (gReg k (wA w)).getLsbD (63 - n)) |>.getD 64)) (gTag k (wA w)))
      (k.pc + 8)) ∧
    exec (.kPopc r w) s = .next (retired s r
      (putG k (wD w) (BitVec.ofNat 64 ((upto 64).filter (fun i => (gReg k (wA w)).getLsbD i)).length) (gTag k (wA w))) (k.pc + 8))) ∧
  (∀ (r : CoreRef) (w : BitVec 56) (s : State) (k : Kernel), Issues s r k w → fld w 31 0 = 0 → wC w < 8 → Final k [wD w, wA w, wB w] →
    exec (.kSel r w) s = .next (retired s r
      (putG k (wD w) (if pReg k (wC w) then gReg k (wA w) else gReg k (wB w)) (gTag k (wA w) || gTag k (wB w))) (k.pc + 8)))

/-- Format I, LI and LIH (R87): IMM is sign-extended for ADDI, MULI and LI and zero-extended for ANDI, ORI, XORI and LIH; a shift takes
the low six bits and needs the rest zero. Completion of kAddi, kAndi, kOri, kXori, kShli, kShri, kSrai, kMuli, kLi and kLih: exec
answers the stated next state under these conditions alone. -/
def Sys2Proof.Spec.ScalarImmediateForms : Prop :=
  (∀ p ∈ aluRI, ∀ (r : CoreRef) (w : BitVec 56) (s : State) (k : Kernel), Issues s r k w → fld w 41 32 = 0 →
    w.setWidth 32 &&& p.2.1 = 0 → Final k [wD w, wA w] →
    exec (p.1 r w) s = .next (retired s r (putG k (wD w) (p.2.2 (gReg k (wA w)) (w.setWidth 32)) (gTag k (wA w))) (k.pc + 8))) ∧
  (∀ (r : CoreRef) (w : BitVec 56) (s : State) (k : Kernel), Issues s r k w → fld w 46 32 = 0 → Final k [wD w] →
    exec (.kLi r w) s = .next (retired s r (putG k (wD w) ((w.setWidth 32).signExtend 64) false) (k.pc + 8)) ∧
    exec (.kLih r w) s = .next (retired s r
      (putG k (wD w) ((w.setWidth 32 : BitVec 32) ++ ((gReg k (wD w)).setWidth 32 : BitVec 32)) (gTag k (wD w))) (k.pc + 8)))

/-- Compares and predicate logic: pD takes the result, whatever tags the sources carry, and a write of p0 has no effect (R85); no
general register, flag or byte changes. Completion of kCmpeq, kCmplt, kCmpltu, kCmpeqi, kCmplti, kPand, kPor and kPnot: exec answers
the stated next state under these conditions alone. -/
def Sys2Proof.Spec.PredicateForms : Prop :=
  (∀ p ∈ cmpRR, ∀ (r : CoreRef) (w : BitVec 56) (s : State) (k : Kernel), Issues s r k w → fld w 36 0 = 0 → wD w < 8 → Final k [wA w, wB w] →
    exec (p.1 r w) s = .next (retired s r (putP k (wD w) (p.2 (gReg k (wA w)) (gReg k (wB w)))) (k.pc + 8))) ∧
  (∀ p ∈ cmpRI, ∀ (r : CoreRef) (w : BitVec 56) (s : State) (k : Kernel), Issues s r k w → fld w 41 32 = 0 → wD w < 8 → Final k [wA w] →
    exec (p.1 r w) s = .next (retired s r (putP k (wD w) (p.2 (gReg k (wA w)) ((w.setWidth 32).signExtend 64))) (k.pc + 8))) ∧
  (∀ p ∈ predRR, ∀ (r : CoreRef) (w : BitVec 56) (s : State) (k : Kernel), Issues s r k w → fld w 36 0 = 0 →
    wD w < 8 → wA w < 8 → wB w < 8 →
    exec (p.1 r w) s = .next (retired s r (putP k (wD w) (p.2 (pReg k (wA w)) (pReg k (wB w)))) (k.pc + 8))) ∧
  (∀ (r : CoreRef) (w : BitVec 56) (s : State) (k : Kernel), Issues s r k w → fld w 41 0 = 0 → wD w < 8 → wA w < 8 →
    exec (.kPnot r w) s = .next (retired s r (putP k (wD w) (!pReg k (wA w))) (k.pc + 8))) ∧
  (∀ (k : Kernel) (i : Nat) (v : Bool), putP k 0 v = k ∧ pReg k 0 = true ∧ (0 < i → i < 8 → pReg (putP k i v) i = v))

/-- NOP, the branches and END (R87, R105): BR, CALL, JR and a LOOP that goes on continue at their target, CALL links the next word, LOOP
counts down, and END stops issue at its own address. Completion of kNop, kBr, kCall, kJr, kLoop and kEnd: exec answers the stated
next state under these conditions alone. -/
def Sys2Proof.Spec.ControlFlow : Prop :=
  ∀ (r : CoreRef) (w : BitVec 56) (s : State) (k : Kernel), Issues s r k w →
    (fld w 51 0 = 0 → exec (.kNop r w) s = .next (retired s r k (k.pc + 8))) ∧
    (fld w 51 32 = 0 → exec (.kBr r w) s = .next (retired s r k (target k w))) ∧
    (fld w 46 32 = 0 → Final k [wD w] →
      exec (.kCall r w) s = .next (retired s r (putG k (wD w) (BitVec.ofNat 64 (k.pc + 8)) false) (target k w))) ∧
    (fld w 51 47 = 0 → fld w 41 0 = 0 → Final k [wA w] → gTag k (wA w) = false →
      exec (.kJr r w) s = .next (retired s r k (gReg k (wA w)).toNat)) ∧
    (fld w 46 32 = 0 → Final k [wD w] → gTag k (wD w) = false →
      exec (.kLoop r w) s = .next (retired s r (putG k (wD w) (gReg k (wD w) - 1) false)
        (if gReg k (wD w) = 1 then k.pc + 8 else target k w))) ∧
    (fld w 51 0 = 0 → exec (.kEnd r w) s = .next (putKernel s (coreKey r) { k with phase := .ending .fin }))

/-- Loads of the bench and of the constant section (R90, R91, R132): an aligned access in the window, with its address not poisoned and
no error in the words it reads, loads little-endian bytes, zero- or sign-extended, an untagged vector, or 64 elements widened to
FP32 with the flags of the widening. LDC loads them where its address translates with EXEC to a slice of this module that takes
accesses. Completion of kLd, kLds, kLdc, kVld and kVldq: exec answers the stated next state under these conditions alone. -/
def Obligations.BenchLoads : Prop :=
  ∀ (r : CoreRef) (w : BitVec 56) (s : State) (k : Kernel), Issues s r k w → gTag k (wA w) = false →
    (getCore s (coreKey r)).benchErr = [] →
    (fld w 38 32 = 0 → wSize w < 4 → Final k [wD w, wA w] → memAddr k w % 2 ^ wSize w = 0 → inWindow k (memAddr k w) (2 ^ wSize w) = true →
      exec (.kLd r w) s = .next (retired s r
        (putG k (wD w) (BitVec.ofNat 64 (leNat (benchRead (getCore s (coreKey r)) (memAddr k w) (2 ^ wSize w)))) false) (k.pc + 8)) ∧
      exec (.kLds r w) s = .next (retired s r
        (putG k (wD w) (BitVec.ofInt 64 (sext (8 * 2 ^ wSize w) (leNat (benchRead (getCore s (coreKey r)) (memAddr k w) (2 ^ wSize w))))) false)
        (k.pc + 8))) ∧
    (∀ sp va pk t c off reg bs u v, fld w 38 32 = 0 → wSize w < 4 → Final k [wD w, wA w] → memAddr k w % 2 ^ wSize w = 0 →
      memAddr k w + 2 ^ wSize w ≤ k.image.constBytes → windowOf s k (k.image.va + k.image.constOffset + memAddr k w) = some (sp, va) →
      translate (coreKey r) sp va .fetch (k.image.flags.testBit 0) false s = (.at_ pk s.myModule t c off reg, u) →
      sliceTrains u (ck t c) = false → sliceOut u (ck t c) = false → sliceLoad (ck t c) off (2 ^ wSize w) u = (bs, false, v) →
      exec (.kLdc r w) s = .next (kept s (retired v r (putG k (wD w) (BitVec.ofNat 64 (leNat bs)) false) (k.pc + 8)))) ∧
    (fld w 41 32 = 0 → Final k [wA w] → memAddr k w % 4 = 0 → inWindow k (memAddr k w) 256 = true →
      exec (.kVld r w) s = .next (retired s r
        (putV k (wD w) (BitVec.ofNat 2048 (leNat (benchRead (getCore s (coreKey r)) (memAddr k w) 256))) false) (k.pc + 8))) ∧
    (∀ bs, fld w 41 39 = 0 → fld w 34 32 = 0 → qFmt w ≤ 12 → Final k [wA w] → memAddr k w % 8 = 0 →
      inWindow k (memAddr k w) (qInBytes (qFmt w)) = true → bs = benchRead (getCore s (coreKey r)) (memAddr k w) (qInBytes (qFmt w)) →
      ∀ v, v = lanes (fun i => widen (qFmt w) (elemAt (fun j => bs.getD j 0) (inWidth (qFmt w)) i)
          (if inBlock (qFmt w) = 1 then 0 else blockDatum (qFmt w) (fun j => bs.getD (qInElems (qFmt w) + j) 0) (i / inBlock (qFmt w)))) →
      exec (.kVldq r w) s = .next (retired s r (putFlags (putV k (wD w) v.1 false) v.2) (k.pc + 8)))

namespace Sys2Proof.Spec

/-- No earlier work of the core holds bytes [o, o + n) of its bench against a store that it issues now (R68, R99): no
earlier pass reads them from its enqueue to the beginning of its drain or has yet to write them, no earlier move and no
operation of the link adders touches them. -/
def Unlocked (c : Core) (o n : Nat) : Prop :=
  (∀ e ∈ allPasses c, e.seq < c.enqSeq → (e.stage ≠ .draining → ∀ x ∈ passIn e.desc, rangesOverlap x.1 x.2 o n = false) ∧
    (e.stage ≠ .saved → ∀ x ∈ passOut e.desc, rangesOverlap x.1 x.2 o n = false)) ∧
  (∀ m ∈ c.moves, m.seq < c.enqSeq → ∀ x ∈ moveSrcRange m ++ moveDstRange m, rangesOverlap x.1 x.2 o n = false) ∧
  (∀ l ∈ c.linkLocks, rangesOverlap l.2.1 l.2.2 o n = false)

/-- What VSTQ of lanes `v` makes of lane `i` (R131, R132): the lane's code in the output format, under the shared exponent
datum of its block of 16 for a Quaric format and the stochastic draw of the core's generator. -/
def storedLane (w : BitVec 56) (gen : Word) (v : BitVec 2048) (i : Nat) : Nat :=
  let ls := (upto 64).map (lane v)
  let shift := if outQuaric (qFmt w) then blockShift (qFmt w) (magMax (((ls.drop (16 * (i / 16))).take 16).filter (fun x => !isNan x))) else 0
  (vstqLane (qFmt w) (fld w 34 33) shift (((genStates 64 gen).map genValue).getD i 0) (lane v i)).1

end Sys2Proof.Spec

/-- Stores to the bench (R90, R99): an aligned store of an untagged source inside the window, where no earlier work holds the range,
writes exactly the bytes from its address; under a lock or before a drain of earlier work it waits and the core retires it; in a
range that a saved pass holds it traps with LOCK_VIOLATION. VST stores a vector's 256 bytes in the same way, and VSTQ its lanes
converted to the output format, packed from bit 0 upward. Completion of kSt, kVst and kVstq: exec answers the stated next state
under these conditions alone. -/
def Sys2Proof.Spec.StoreForms : Prop :=
  ∀ (r : CoreRef) (w : BitVec 56) (s : State) (k : Kernel), Issues s r k w → gTag k (wA w) = false →
    (fld w 38 32 = 0 → wSize w < 4 → Final k [wD w, wA w] → gTag k (wD w) = false → memAddr k w % 2 ^ wSize w = 0 →
      inWindow k (memAddr k w) (2 ^ wSize w) = true →
      (savedLocked (getCore s (coreKey r)) (memAddr k w) (2 ^ wSize w) = false → Unlocked (getCore s (coreKey r)) (memAddr k w) (2 ^ wSize w) →
        exec (.kSt r w) s = .next (retire (coreKey r) (k.pc + 8) (putCore s (coreKey r)
          (benchWrite (getCore s (coreKey r)) (memAddr k w) (leBytes (2 ^ wSize w) (gReg k (wD w)).toNat))))) ∧
      (savedLocked (getCore s (coreKey r)) (memAddr k w) (2 ^ wSize w) = false → ¬ Unlocked (getCore s (coreKey r)) (memAddr k w) (2 ^ wSize w) →
        exec (.kSt r w) s = .next (retire (coreKey r) (k.pc + 8) (putCore s (coreKey r) { getCore s (coreKey r) with
          writes := [⟨(getCore s (coreKey r)).enqSeq, false, memAddr k w, leBytes (2 ^ wSize w) (gReg k (wD w)).toNat⟩] }))) ∧
      (savedLocked (getCore s (coreKey r)) (memAddr k w) (2 ^ wSize w) = true →
        exec (.kSt r w) s = .next (kept s (takeTrap (coreKey r) .lockViolation 0 s)))) ∧
    (fld w 41 32 = 0 → Final k [wA w] → vTag k (wD w) = false → memAddr k w % 4 = 0 → inWindow k (memAddr k w) 256 = true →
      savedLocked (getCore s (coreKey r)) (memAddr k w) 256 = false → Unlocked (getCore s (coreKey r)) (memAddr k w) 256 →
      exec (.kVst r w) s = .next (retire (coreKey r) (k.pc + 8) (putCore s (coreKey r)
        (benchWrite (getCore s (coreKey r)) (memAddr k w) (leBytes 256 (vReg k (wD w)).toNat))))) ∧
    (wZero w 41 39 = true → qFmt w ≤ 5 → fld w 34 33 ≠ 3 → wZero w 32 32 = true → Final k [wA w] → vTag k (wD w) = false →
      memAddr k w % 8 = 0 → inWindow k (memAddr k w) (qOutBytes (qFmt w)) = true →
      savedLocked (getCore s (coreKey r)) (memAddr k w) (qOutBytes (qFmt w)) = false →
      Unlocked (getCore s (coreKey r)) (memAddr k w) (qOutBytes (qFmt w)) →
      ∃ t flags wake, exec (.kVstq r w) s = .next (retire (coreKey r) (k.pc + 8) t) ∧
        (getCore t (coreKey r)).kernel = some (putFlags { k with wake := wake } flags) ∧
        (getCore t (coreKey r)).gen = genAdvance 64 (getCore s (coreKey r)).gen ∧
        benchRead (getCore t (coreKey r)) (memAddr k w) (8 * outWidth (qFmt w)) = leBytes (8 * outWidth (qFmt w))
          (((upto 64).map (fun i => storedLane w (getCore s (coreKey r)).gen (vReg k (wD w)) i <<< (outWidth (qFmt w) * i))).sum) ∧
        (∀ a, a < memAddr k w ∨ memAddr k w + qOutBytes (qFmt w) ≤ a →
          benchByte (getCore t (coreKey r)) a = benchByte (getCore s (coreKey r)) a))

/-- What a write of bytes into a bench leaves (R14, R98): the bytes from its offset, every other byte as it was, and
wake-pending bit 3 set when a byte of the watched line changes and not touched otherwise. -/
def Sys2Proof.Spec.BenchWriteBytes : Prop :=
  ∀ (c : Core) (o : Nat) (bs : List Byte),
    (∀ i (h : i < bs.length), benchByte (benchWrite c o bs) (o + i) = bs[i]) ∧
    (∀ a, a < o ∨ o + bs.length ≤ a → benchByte (benchWrite c o bs) a = benchByte c a) ∧
    (∀ k, c.kernel = some k →
      ((∃ i, i < 128 ∧ benchByte (benchWrite c o bs) (k.watchLine.toNat / 128 * 128 + i) ≠ benchByte c (k.watchLine.toNat / 128 * 128 + i)) →
        (benchWrite c o bs).kernel = some { k with wake := k.wake ||| 8 }) ∧
      ((∀ i, i < 128 → benchByte (benchWrite c o bs) (k.watchLine.toNat / 128 * 128 + i) = benchByte c (k.watchLine.toNat / 128 * 128 + i)) →
        (benchWrite c o bs).kernel = some k)) ∧
    (Memory.wf c.bench = true → Memory.wf (benchWrite c o bs).bench = true)

/-- Lane-wise vector instructions (R87, R89): each lane of vD is the operation on the same lanes of the sources, vD takes their tags,
and the flags of all lanes are added to the sticky flags. Completion of kVadd, kVsub, kVmul, kVfma, kVmax, kVmin, kVexp2, kVrcp,
kVrsqrt, kVcmplt, kVsel, kVmov, kVcvti, kVcvtf and kVand: exec answers the stated next state under these conditions alone. -/
def Sys2Proof.Spec.VectorLanes : Prop :=
  (∀ p ∈ vec1, ∀ (r : CoreRef) (w : BitVec 56) (s : State) (k : Kernel), Issues s r k w → fld w 41 0 = 0 →
    ∀ v, v = lanes (fun i => p.2 (lane (vReg k (wA w)) i)) →
    exec (p.1 r w) s = .next (retired s r (putFlags (putV k (wD w) v.1 (vTag k (wA w))) v.2) (k.pc + 8))) ∧
  (∀ p ∈ vec2, ∀ (r : CoreRef) (w : BitVec 56) (s : State) (k : Kernel), Issues s r k w → fld w 36 0 = 0 →
    ∀ v, v = lanes (fun i => p.2 (lane (vReg k (wA w)) i) (lane (vReg k (wB w)) i)) →
    exec (p.1 r w) s = .next (retired s r (putFlags (putV k (wD w) v.1 (vTag k (wA w) || vTag k (wB w))) v.2) (k.pc + 8))) ∧
  (∀ p ∈ vec3, ∀ (r : CoreRef) (w : BitVec 56) (s : State) (k : Kernel), Issues s r k w → fld w 31 0 = 0 →
    ∀ v, v = lanes (fun i => p.2 (lane (vReg k (wA w)) i) (lane (vReg k (wB w)) i) (lane (vReg k (wC w)) i)) →
    exec (p.1 r w) s = .next (retired s r
      (putFlags (putV k (wD w) v.1 (vTag k (wA w) || vTag k (wB w) || vTag k (wC w))) v.2) (k.pc + 8)))

/-- VBCAST, the reductions, VEXTR and VINS (R87, R89, R116): the reductions write gD with the FP32 result zero-extended; an index of 64
or more takes ILLEGAL before anything is written. Completion of kVbcast, kVrmax, kVrsum, kVextr and kVins: exec answers the stated
next state under these conditions alone. -/
def Sys2Proof.Spec.VectorScalarForms : Prop :=
  ∀ (r : CoreRef) (w : BitVec 56) (s : State) (k : Kernel), Issues s r k w →
    (fld w 41 0 = 0 → Final k [wA w] →
      exec (.kVbcast r w) s = .next (retired s r (putV k (wD w) (ofLanes (fun _ => (gReg k (wA w)).setWidth 32)) (gTag k (wA w))) (k.pc + 8))) ∧
    (fld w 41 0 = 0 → Final k [wD w] → ∀ v, v = lanesMax ((upto 64).map (lane (vReg k (wA w)))) →
      exec (.kVrmax r w) s = .next (retired s r (putFlags (putG k (wD w) (v.1.setWidth 64) (vTag k (wA w))) v.2) (k.pc + 8))) ∧
    (fld w 41 0 = 0 → Final k [wD w] → ∀ v, v = treeSum 6 ((upto 64).map (lane (vReg k (wA w)))) →
      exec (.kVrsum r w) s = .next (retired s r (putFlags (putG k (wD w) ((v.1.headD 0).setWidth 64) (vTag k (wA w))) v.2) (k.pc + 8))) ∧
    (fld w 36 0 = 0 → Final k [wD w, wB w] → gReg k (wB w) < 64 → gTag k (wB w) = false →
      exec (.kVextr r w) s = .next (retired s r
        (putG k (wD w) ((lane (vReg k (wA w)) (gReg k (wB w)).toNat).setWidth 64) (vTag k (wA w))) (k.pc + 8))) ∧
    (fld w 36 0 = 0 → Final k [wA w, wB w] → gReg k (wB w) < 64 → gTag k (wA w) = false → gTag k (wB w) = false →
      exec (.kVins r w) s = .next (retired s r
        (putV k (wD w) (ofLanes (fun j => if j = (gReg k (wB w)).toNat then (gReg k (wA w)).setWidth 32 else lane (vReg k (wD w)) j)) (vTag k (wD w)))
        (k.pc + 8))) ∧
    (fld w 36 0 = 0 → Final k [wD w, wA w, wB w] → 64 ≤ gReg k (wB w) →
      exec (.kVextr r w) s = .next (kept s (takeTrap (coreKey r) .illegal 0 s)) ∧
      exec (.kVins r w) s = .next (kept s (takeTrap (coreKey r) .illegal 0 s)))

/-- The scale bank (R132–R134, R104): KLD and VKLD read scale registers; KST and VKST write one or 64 of them when the kernel may write
them and no pass holds them; a refused KST writes nothing, and is counted; one that a saved pass holds traps with LOCK_VIOLATION.
Completion of kKld, kKst, kVkld and kVkst: exec answers the stated next state under these conditions alone. -/
def Sys2Proof.Spec.ScaleBank : Prop :=
  ∀ (r : CoreRef) (w : BitVec 56) (s : State) (k : Kernel), Issues s r k w → gTag k (wA w) = false → Final k [wD w, wA w, wB w] →
    (fld w 41 0 = 0 → gReg k (wA w) < 4096 →
      exec (.kKld r w) s = .next (retired s r
        (putG k (wD w) ((scaleReg (getCore s (coreKey r)) (gReg k (wA w)).toNat).setWidth 64) false) (k.pc + 8))) ∧
    (fld w 41 0 = 0 → gReg k (wA w) ≤ 4032 →
      exec (.kVkld r w) s = .next (retired s r
        (putV k (wD w) (ofLanes (fun i => scaleReg (getCore s (coreKey r)) ((gReg k (wA w)).toNat + i))) false) (k.pc + 8))) ∧
    (fld w 51 47 = 0 → fld w 36 0 = 0 → gReg k (wA w) < 4096 → gTag k (wB w) = false →
      kwriteOk (getCore s (coreKey r)) k (gReg k (wA w)).toNat = true → scaleLocked (getCore s (coreKey r)) (gReg k (wA w)).toNat 1 = false →
      exec (.kKst r w) s = .next (retire (coreKey r) (k.pc + 8) (putCore s (coreKey r) { getCore s (coreKey r) with
        scale := tset scaleInit (getCore s (coreKey r)).scale (gReg k (wA w)).toNat ((gReg k (wB w)).setWidth 32) }))) ∧
    (fld w 51 47 = 0 → fld w 36 0 = 0 → gReg k (wA w) < 4096 → gTag k (wB w) = false →
      kwriteOk (getCore s (coreKey r)) k (gReg k (wA w)).toNat = false →
      exec (.kKst r w) s = .next (kept s (retire (coreKey r) (k.pc + 8) (countCore (coreKey r) 10 1 (putKernel s (coreKey r) { k with
        kwriteRefused := k.kwriteRefused + 1
        kwriteFirst := if k.kwriteRefused = 0 then (gReg k (wA w)).toNat else k.kwriteFirst }))))) ∧
    (fld w 51 47 = 0 → fld w 36 0 = 0 → gReg k (wA w) < 4096 → gTag k (wB w) = false →
      kwriteOk (getCore s (coreKey r)) k (gReg k (wA w)).toNat = true →
      (∃ e ∈ allPasses (getCore s (coreKey r)), e.stage = .saved ∧ ∃ x ∈ passScales e.desc, rangesOverlap x.1 x.2 (gReg k (wA w)).toNat 1 = true) →
      exec (.kKst r w) s = .next (kept s (takeTrap (coreKey r) .lockViolation 0 s))) ∧
    (fld w 41 0 = 0 → gReg k (wA w) ≤ 4032 → vTag k (wD w) = false →
      (∀ i < 64, kwriteOk (getCore s (coreKey r)) k ((gReg k (wA w)).toNat + i) = true ∧
        scaleLocked (getCore s (coreKey r)) ((gReg k (wA w)).toNat + i) 1 = false) →
      exec (.kVkst r w) s = .next (retire (coreKey r) (k.pc + 8) (putCore s (coreKey r) { getCore s (coreKey r) with
        scale := (upto 64).foldl (fun t i => tset scaleInit t ((gReg k (wA w)).toNat + i) (lane (vReg k (wD w)) i))
          (getCore s (coreKey r)).scale })))

/-! ### Instructions that start or wait for work, and the life of a kernel -/

namespace Sys2Proof.Spec

/-- The kernel that has issued the next ticket of a class and holds it in gD (R92). -/
def ticketed (k : Kernel) (cls d : Nat) : Kernel :=
  putG (putCls k cls { getCls k cls with issued := (getCls k cls).issued + 1, live := (getCls k cls).live ++ [(getCls k cls).issued + 1] })
    d (BitVec.ofNat 64 ((getCls k cls).issued + 1)) false

/-- The kernel to which a WAIT of a class up to a ticket has reported (R93): gD takes the merged code of the ended operations
up to the ticket that nothing reported before, and they are forgotten. -/
def reported (k : Kernel) (d cls ticket : Nat) : Kernel :=
  putG (putCls k cls { getCls k cls with held := (getCls k cls).held.filter (fun x => decide (ticket < x.1)) }) d
    (BitVec.ofNat 64 (codeNum (codeMergeAll (((getCls k cls).held.filter (fun x => decide (x.1 ≤ ticket))).map (·.2))))) false

/-- The kernel whose WAITWAKE has found set bits of its mask (R98): gD takes them, and they are cleared. -/
def woken (k : Kernel) (d mask : Nat) : Kernel :=
  putG { k with wake := k.wake &&& ~~~(BitVec.ofNat 5 mask) } d (BitVec.ofNat 64 (k.wake.toNat &&& mask)) false

/-- Every operation of a class up to a ticket has ended. -/
def Ended (k : Kernel) (cls ticket : Nat) : Prop := ∀ x ∈ (getCls k cls).live, ticket < x

/-- The remote operations (Tables 9.1, 9.2) with their kind, their sizes (log2 of the bytes), and whether they use g(D+1). -/
def remoteOps : List (Isa × RemKind × List Nat × Bool) :=
  [ (.kRldLoad, .load false, [0, 1, 2, 3], false), (.kRldLoadSigned, .load true, [0, 1, 2, 3], false),
    (.kRstStore, .store, [0, 1, 2, 3], false),
    (.kRatomAdd, .atomic 0, [2, 3], false), (.kRatomAnd, .atomic 1, [2, 3], false), (.kRatomOr, .atomic 2, [2, 3], false),
    (.kRatomXor, .atomic 3, [2, 3], false), (.kRatomMin, .atomic 4, [2, 3], false), (.kRatomMax, .atomic 5, [2, 3], false),
    (.kRatomMinu, .atomic 6, [2, 3], false), (.kRatomMaxu, .atomic 7, [2, 3], false), (.kRatomSwap, .atomic 8, [2, 3], false),
    (.kRatomCas, .atomic 9, [2, 3], true), (.kRatomFadd, .atomic 10, [2], false),
    (.kRredAdd, .reduce 0, [2, 3], false), (.kRredAnd, .reduce 1, [2, 3], false), (.kRredOr, .reduce 2, [2, 3], false),
    (.kRredXor, .reduce 3, [2, 3], false), (.kRredMin, .reduce 4, [2, 3], false), (.kRredMax, .reduce 5, [2, 3], false),
    (.kRredMinu, .reduce 6, [2, 3], false), (.kRredMaxu, .reduce 7, [2, 3], false), (.kRredFaddRed, .reduce 11, [2], false) ]

/-- Whether a remote operation returns a value to its register. -/
def returnsValue : RemKind → Bool
  | .load _ | .atomic _ => true
  | _ => false

/-- The state in which core `r` has issued a remote operation: its kernel holds a ticket of class 3 and, for a load or an
atomic, a register that waits; the tile's endpoint holds the transaction under its next TXN, with the operand of all but a
load (Table 9.4); and it enters the endpoint. -/
def remoteIssued (s : State) (r : CoreRef) (k : Kernel) (w : BitVec 56) (kind : RemKind) (space va : Nat) (second : Bool) : State :=
  let n := (getCls k 3).issued + 1
  let k1 := putCls k 3 { getCls k 3 with issued := n, live := (getCls k 3).live ++ [n] }
  let k2 := if returnsValue kind then { k1 with gWait := putBit k1.gWait (wD w) true } else k1
  let p := getPort s r.tile.val
  let op : RemOp :=
    { txn := p.txn, core := r.core.val, kind := kind, reg := wD w, size := wSize w, ticket := n, space := space, va := va
      operand := (match kind with | .load _ => 0 | _ => gReg k (wD w)), compare := if second then gReg k (wD w + 1) else 0
      module := 0, tile := 0, gpa := 0, waitPage := some notEntered, sentNs := none, answers := [], expect := [] }
  retire (coreKey r) (k.pc + 8) (enterOps r.tile.val (putPort (putKernel s (coreKey r) k2) r.tile.val
    { p with txn := (p.txn + 1) % 2 ^ 32, ops := p.ops ++ [op] }))

/-- The special registers of Table 3.8 for core `r` and its kernel: number and value. -/
def specials (s : State) (r : CoreRef) (k : Kernel) : List (Nat × Word) :=
  [ (0x00, BitVec.ofNat 64 k.cycles), (0x01, BitVec.ofNat 64 s.now),
    (0x02, BitVec.ofNat 64 (s.myModule * 2 ^ 11 + r.tile.val * 2 ^ 6 + r.core.val)), (0x03, BitVec.ofNat 64 k.stream),
    (0x04, BitVec.ofNat 64 k.image.benchLow), (0x05, BitVec.ofNat 64 k.image.benchHigh), (0x06, k.fpFlags.setWidth 64),
    (0x07, k.watchLine), (0x08, if (getCore s (coreKey r)).preemptReq then 1 else 0),
    (0x09, BitVec.ofNat 64 (getGroup s r.tile.val (r.core.val / 16)).mhz), (0x0A, BitVec.ofNat 64 (k.image.maxYieldGap - k.gap)),
    (0x10, BitVec.ofNat 64 (getCls k 0).issued), (0x11, BitVec.ofNat 64 (getCls k 1).issued),
    (0x12, BitVec.ofNat 64 (getCls k 2).issued), (0x13, BitVec.ofNat 64 (getCls k 3).issued),
    (0x14, BitVec.ofNat 64 (getCls k 4).issued), (0x15, BitVec.ofNat 64 (getCls k 5).issued) ]

/-- The opcodes and, for 0x44–0x47, the operations that Table 3.4 and Tables 9.1 and 9.2 list. -/
def listed (opcode op : Nat) : Bool :=
  decide (opcode ≤ 0x19) || (decide (0x20 ≤ opcode) && decide (opcode ≤ 0x27)) || (decide (0x30 ≤ opcode) && decide (opcode ≤ 0x34)) ||
  (decide (0x40 ≤ opcode) && decide (opcode ≤ 0x43)) || (decide (0x50 ≤ opcode) && decide (opcode ≤ 0x63)) ||
  (decide (0x68 ≤ opcode) && decide (opcode ≤ 0x6B)) || (decide (0x70 ≤ opcode) && decide (opcode ≤ 0x73)) ||
  (decide (0x80 ≤ opcode) && decide (opcode ≤ 0x83)) || (decide (0x90 ≤ opcode) && decide (opcode ≤ 0x94)) ||
  (decide (0xA0 ≤ opcode) && decide (opcode ≤ 0xA4)) ||
  (opcode == 0x44 && decide (op ≤ 1)) || (opcode == 0x45 && decide (op ≤ 1)) || (opcode == 0x46 && decide (op ≤ 10)) ||
  (opcode == 0x47 && (decide (op ≤ 7) || op == 11))

end Sys2Proof.Spec

namespace Sys2Proof.Spec

/-- The state in which the link adders hold one operation more. -/
def addLink (o : LinkOp) (u : State) : State := { u with coll := { u.coll with ops := u.coll.ops ++ [o] } }

end Sys2Proof.Spec

/-- PASS (R55, R92): a valid descriptor inside the window enqueues one pass on the array named, or on the other one when that one is out
of service, with the next enqueue number and the ticket that gD takes; a full queue stalls; with both arrays out the pass ends with
WITHDRAWN at once; a bad field traps with DESCRIPTOR. Completion of kPass: exec answers the stated next state under these conditions
alone. -/
def Obligations.PassInstruction : Prop :=
  ∀ (r : CoreRef) (w : BitVec 56) (s : State) (k : Kernel) (d : CmdDesc), Issues s r k w → wSel w < 2 → fld w 39 0 = 0 →
    Final k [wD w, wA w] → gTag k (wA w) = false → inWindow k (gReg k (wA w)).toNat 64 = true →
    d = descOf (benchRead (getCore s (coreKey r)) (gReg k (wA w)).toNat 64) → (getCore s (coreKey r)).benchErr = [] →
    (passFieldsBad d = true → Does (.kPass r w) s (takeTrap (coreKey r) .descriptor 0 s)) ∧
    (passFieldsBad d = false → passRangeBad d = false → (∀ x ∈ passIn d ++ passOut d, inWindow k x.1 x.2 = true) →
      (∀ b, takingArray (getCore s (coreKey r)) (wSel w) = some b → (getArray (getCore s (coreKey r)) b).queue.length < 4 →
        Does (.kPass r w) s (retire (coreKey r) (k.pc + 8) (putCore s (coreKey r)
          { putArray { getCore s (coreKey r) with kernel := some (ticketed k (wSel w) (wD w)) } b
              { getArray (getCore s (coreKey r)) b with queue := (getArray (getCore s (coreKey r)) b).queue ++
                [⟨d, (getCore s (coreKey r)).enqSeq, wSel w, some ((getCls k (wSel w)).issued + 1), .queued, false, 0, true, none, none, none, false⟩] }
            with enqSeq := (getCore s (coreKey r)).enqSeq + 1 }))) ∧
      (∀ b, takingArray (getCore s (coreKey r)) (wSel w) = some b → 4 ≤ (getArray (getCore s (coreKey r)) b).queue.length →
        Does (.kPass r w) s s) ∧
      (takingArray (getCore s (coreKey r)) (wSel w) = none →
        Does (.kPass r w) s (retire (coreKey r) (k.pc + 8) (putCore s (coreKey r)
          (passPost { getCore s (coreKey r) with kernel := some (ticketed k (wSel w) (wD w)) } (wSel w)
            ⟨d, (getCore s (coreKey r)).enqSeq, wSel w, some ((getCls k (wSel w)).issued + 1), .queued, false, 0, true, none, none, none, false⟩
            .withdrawn)))))

/-- MOVE, CRUMB and LINKOP (R96, R332, R346, R348): with a valid descriptor each takes a ticket of its class 2, 4 or 5 in gD and hands its
work over: the move engine holds the move, the crumb round of the group its contribution, and the tile's link adders the operation
with its bench ranges locked; a thinning step adds into ACC first, and one that does not send ends without an exchange; with ENABLE 0 the
step ends with WITHDRAWN. Completion of kMove, kCrumb and kLinkop: exec answers the stated next state under these conditions
alone. -/
def Obligations.MoveCrumbLinkop : Prop :=
  ∀ (r : CoreRef) (w : BitVec 56) (s : State) (k : Kernel) (a : Nat) (d : CmdDesc), Issues s r k w → wSel w = 0 → fld w 39 0 = 0 →
    Final k [wD w, wA w] → gTag k (wA w) = false → a = (gReg k (wA w)).toNat → d = descOf (benchRead (getCore s (coreKey r)) a 64) →
    (getCore s (coreKey r)).benchErr = [] →
    (∀ m : MoveOp, m = ⟨(getCls k 2).issued + 1, (getCore s (coreKey r)).enqSeq, d.w0, d.w1, d.w2, d.w3, false, [], [], .ok, k.image.flags.testBit 0, [], false⟩ →
      inWindow k a 32 = true → moveFieldsBad m = false → (movePrivileged m = true → k.image.flags.testBit 0 = true) → moveInWindow k m = true →
      (∀ x ∈ moveDstRange m, savedLocked (getCore s (coreKey r)) x.1 x.2 = false) →
      Does (.kMove r w) s (retire (coreKey r) (k.pc + 8) (putCore s (coreKey r) { getCore s (coreKey r) with
        kernel := some (ticketed k 2 (wD w))
        moves := (getCore s (coreKey r)).moves ++ [m]
        enqSeq := (getCore s (coreKey r)).enqSeq + 1 }))) ∧
    (inWindow k a 32 = true → crumbBad s (coreKey r) d.w0 d.w1 = false → inWindow k (fld d.w1 22 0) 16 = true →
      savedLocked (getCore s (coreKey r)) (fld d.w1 22 0) 16 = false → crumbBusy s (fld d.w0 53 44) (coreKey r) = false →
      Does (.kCrumb r w) s (retire (coreKey r) (k.pc + 8) (contribute (fld d.w0 53 44) 0
        ⟨r.tile.val, r.core.val, (getCls k 4).issued + 1, fld d.w1 22 0, fld d.w0 15 0, fld d.w0 63 56, fld d.w0 55 54 + 1, d.w3 ++ d.w2⟩
        (putKernel s (coreKey r) (ticketed k 4 (wD w)))))) ∧
    (inWindow k a 64 = true → linkBad s (coreKey r) d = false → (∀ x ∈ linkRanges s (coreKey r) d, inWindow k x.1 x.2 = true) →
      linkOverlaps d (linkRanges s (coreKey r) d) = false →
      (∀ x ∈ (linkRanges s (coreKey r) d).drop 1, savedLocked (getCore s (coreKey r)) x.1 x.2 = false) →
      findLink s r.tile.val (lGroup d) = none →
      ∀ (o : LinkOp) (u : State),
        o = ⟨r.tile.val, lGroup d, r.core.val, (getCls k 5).issued + 1, d, 0, 0, -150, 0, 0x7F, 0, s.now, [], [], [], [], [], 0, .ok, [], false⟩ →
        u = putCore s (coreKey r) { getCore s (coreKey r) with
          kernel := some (ticketed k 5 (wD w))
          linkLocks := (getCore s (coreKey r)).linkLocks ++ (linkRanges s (coreKey r) d).map (fun x => (lGroup d, x.1, x.2)) } →
        (linkEnabled s r.tile.val = true → lThins d = false →
          Does (.kLinkop r w) s (retire (coreKey r) (k.pc + 8) (linkArm r.tile.val (lGroup d) (addLink o u)))) ∧
        (linkEnabled s r.tile.val = true → lThins d = true → lSends d = true →
          Does (.kLinkop r w) s (retire (coreKey r) (k.pc + 8) (linkArm r.tile.val (lGroup d) (addLink o (linkThin o u))))) ∧
        (linkEnabled s r.tile.val = true → lSends d = false →
          Does (.kLinkop r w) s (retire (coreKey r) (k.pc + 8) (addLink
            { o with phase := 4, code := suspectCode s (getColl s (lGroup d)), conds := [suspectCode s (getColl s (lGroup d))] } (linkThin o u)))) ∧
        (∀ v, v = putKernel s (coreKey r) (ticketed k 5 (wD w)) → linkEnabled s r.tile.val = false →
          Does (.kLinkop r w) s (retire (coreKey r) (k.pc + 8) (linkTell o .withdrawn (if lThins d && lSends d then linkThin o v else v)))))

/-- RLD, RST, RATOM and RRED (R301, R304): an aligned operation of a size its table lists, with untagged sources and room for a
transaction (R47), issues, and retires while its reply is outstanding; RST_MCAST_STORE names its group in g(D+1). Completion of
kRldLoad, kRldLoadSigned, kRstStore, kRstMcastStore, kRatomAdd, kRatomAnd, kRatomOr, kRatomXor, kRatomMin, kRatomMax, kRatomMinu,
kRatomMaxu, kRatomSwap, kRatomCas, kRatomFadd, kRredAdd, kRredAnd, kRredOr, kRredXor, kRredMin, kRredMax, kRredMinu, kRredMaxu and
kRredFaddRed: exec answers the stated next state under these conditions alone. -/
def Obligations.RemoteInstructions : Prop :=
  (∀ p ∈ remoteOps, ∀ (r : CoreRef) (w : BitVec 56) (s : State) (k : Kernel) (sp va : Nat), Issues s r k w →
    wSize w ∈ p.2.2.1 → (p.2.2.2 = true → wD w < 31) → Final k ([wD w, wA w] ++ if p.2.2.2 then [wD w + 1] else []) →
    gTag k (wA w) = false → (p.2.1 ≠ .load false → p.2.1 ≠ .load true → gTag k (wD w) = false) →
    (p.2.2.2 = true → gTag k (wD w + 1) = false) → memAddr k w % 2 ^ wSize w = 0 → remRoom s (coreKey r) = true →
    windowOf s k (memAddr k w) = some (sp, va) →
    Does (p.1 r w) s (remoteIssued s r k w p.2.1 sp va p.2.2.2)) ∧
  (∀ (r : CoreRef) (w : BitVec 56) (s : State) (k : Kernel) (sp va : Nat), Issues s r k w →
    wSize w < 4 → wD w < 31 → Final k [wD w, wA w, wD w + 1] → gTag k (wA w) = false → gTag k (wD w) = false →
    gTag k (wD w + 1) = false → memAddr k w % 2 ^ wSize w = 0 → remRoom s (coreKey r) = true →
    windowOf s k (memAddr k w) = some (sp, va) →
    Does (.kRstMcastStore r w) s (remoteIssued s r k w (.mcast (fld (gReg k (wD w + 1)) 11 0)) sp va true))

/-- WAIT, POLL, FENCE, YIELD and WAITWAKE (R93, R98, R102, R108): each either finds its condition met and retires with what it reports,
or blocks the kernel at its own address; YIELD and WAITWAKE restart the yield gap. Completion of kWait, kPoll, kFence, kYield and
kWaitwake: exec answers the stated next state under these conditions alone. -/
def Sys2Proof.Spec.WaitingInstructions : Prop :=
  ∀ (r : CoreRef) (w : BitVec 56) (s : State) (k : Kernel) (n : Nat), Issues s r k w →
    (fld w 41 32 = 0 → fld w 31 3 = 0 → fld w 2 0 < 6 → Final k [wD w, wA w] → gTag k (wA w) = false →
      n = (gReg k (wA w)).toNat → n ≤ (getCls k (fld w 2 0)).issued →
      (n = 0 → Does (.kWait r w) s (retired s r (putG k (wD w) 0 false) (k.pc + 8))) ∧
      (0 < n → Ended k (fld w 2 0) n → Does (.kWait r w) s (retired s r (reported k (wD w) (fld w 2 0) n) (k.pc + 8))) ∧
      (0 < n → ¬ Ended k (fld w 2 0) n →
        Does (.kWait r w) s (putKernel s (coreKey r) { k with blocked := some (.wait (wD w) (fld w 2 0) n) }))) ∧
    (fld w 41 32 = 0 → fld w 31 7 = 0 → fld w 3 3 = 0 → fld w 2 0 < 6 → Final k [wD w, wA w] → gTag k (wA w) = false →
      n = (gReg k (wA w)).toNat → n ≤ (getCls k (fld w 2 0)).issued →
      (0 < n → Ended k (fld w 2 0) n →
        Does (.kPoll r w) s (retired s r (putP (reported k (wD w) (fld w 2 0) n) (fld w 6 4) true) (k.pc + 8))) ∧
      (0 < n → ¬ Ended k (fld w 2 0) n → Does (.kPoll r w) s (retired s r (putP k (fld w 6 4) false) (k.pc + 8)))) ∧
    (fld w 51 32 = 0 → fld w 31 6 = 0 →
      ((∀ i < 6, (fld w 5 0).testBit i = true → (getCls k i).live = []) → Does (.kFence r w) s (retired s r k (k.pc + 8))) ∧
      (¬ (∀ i < 6, (fld w 5 0).testBit i = true → (getCls k i).live = []) →
        Does (.kFence r w) s (putKernel s (coreKey r) { k with blocked := some (.fence (fld w 5 0)) }))) ∧
    (fld w 51 0 = 0 → (getCore s (coreKey r)).preemptReq = false →
      Does (.kYield r w) s (retired s r { k with gap := 0 } (k.pc + 8))) ∧
    (fld w 46 32 = 0 → fld w 31 5 = 0 → Final k [wD w] → (getCore s (coreKey r)).preemptReq = false →
      (k.wake.toNat &&& fld w 4 0 ≠ 0 →
        Does (.kWaitwake r w) s (retired s r (woken { k with gap := 0 } (wD w) (fld w 4 0)) (k.pc + 8))) ∧
      (k.wake.toNat &&& fld w 4 0 = 0 →
        Does (.kWaitwake r w) s (putKernel s (coreKey r) { k with gap := 0, blocked := some (.waitwake (wD w) (fld w 4 0)) })))

/-- WAIT_UNBLOCK, FENCE_UNBLOCK and WAITWAKE_UNBLOCK (R93, R98, R102): a blocked kernel whose condition has come continues after its
instruction; the count of GAP_EXCEEDED passes MAX_YIELD_GAP and traps (R110). Completion of waitUnblock, fenceUnblock,
waitwakeUnblock and gapExceeded: exec answers the stated next state under these conditions alone. -/
def Sys2Proof.Spec.UnblocksAndGap : Prop :=
  ∀ (r : CoreRef) (s : State) (k : Kernel), mainOn s = true → (getCore s (coreKey r)).kernel = some k → k.phase = .running →
    groupRuns s (coreKey r) = true →
    (∀ d cls n, k.blocked = some (.wait d cls n) → Ended k cls n →
      Does (.waitUnblock r) s (retired s r { reported k d cls n with blocked := none } (k.pc + 8))) ∧
    (∀ mask, k.blocked = some (.fence mask) → (∀ i < 6, mask.testBit i = true → (getCls k i).live = []) →
      Does (.fenceUnblock r) s (retired s r { k with blocked := none } (k.pc + 8))) ∧
    (∀ d mask, k.blocked = some (.waitwake d mask) → k.wake.toNat &&& mask ≠ 0 →
      Does (.waitwakeUnblock r) s (retired s r { woken k d mask with blocked := none } (k.pc + 8))) ∧
    (k.gap ≤ k.image.maxYieldGap →
      Does (.gapExceeded r) s (takeTrap (coreKey r) .gapExceeded 0 (putKernel s (coreKey r) { k with
        gap := k.image.maxYieldGap + 1, cycles := k.cycles + (k.image.maxYieldGap + 1 - k.gap) })))

/-- RSR, WSR and GEO (R103, R115): RSR reads each special register of Table 3.8; WSR writes FP_FLAGS or WATCH_LINE; GEO reads a geometry
register, an unlisted one as zero. (That WSR drops the low seven bits of WATCH_LINE is the model's reading, log entry 29.)
Completion of kRsr, kWsr and kGeo: exec answers the stated next state under these conditions alone. -/
def Sys2Proof.Spec.SpecialRegisters : Prop :=
  ∀ (r : CoreRef) (w : BitVec 56) (s : State) (k : Kernel), Issues s r k w →
    (∀ p ∈ specials s r k, fld w 46 32 = 0 → fld w 31 0 = p.1 → Final k [wD w] →
      Does (.kRsr r w) s (retired s r (putG k (wD w) p.2 false) (k.pc + 8))) ∧
    (fld w 51 47 = 0 → fld w 41 32 = 0 → Final k [wA w] → gTag k (wA w) = false →
      (fld w 31 0 = 6 → Does (.kWsr r w) s (retired s r { k with fpFlags := (gReg k (wA w)).setWidth 5 } (k.pc + 8))) ∧
      (fld w 31 0 = 7 → Does (.kWsr r w) s (retired s r { k with watchLine := (gReg k (wA w) >>> 7) <<< 7 } (k.pc + 8)))) ∧
    (fld w 46 32 = 0 → fld w 31 8 = 0 → Final k [wD w] →
      Does (.kGeo r w) s (retired s r (putG k (wD w) (geometry.getD (fld w 7 0) 0) false) (k.pc + 8)))

/-- ABORT, BRK and TRAP (R85, R104, R107): ABORT traps with its immediate; BRK halts the kernel while an enable with DEBUG is in force
and traps with PRIVILEGE without one; an unlisted opcode or operation traps with ILLEGAL. Completion of kAbort, kBrk and kTrap: exec
answers the stated next state under these conditions alone. -/
def Sys2Proof.Spec.AbortBreakTrap : Prop :=
  (∀ (r : CoreRef) (w : BitVec 56) (s : State) (k : Kernel), Issues s r k w →
    (fld w 51 16 = 0 → Does (.kAbort r w) s (takeTrap (coreKey r) .abort (fld w 15 0) s)) ∧
    (fld w 51 0 = 0 → (∃ e ∈ s.keeper.enables, bit e.2.functions 8 = true) →
      Does (.kBrk r w) s (retire (coreKey r) (k.pc + 8) (putKernel s (coreKey r) { k with phase := .halted }))) ∧
    (fld w 51 0 = 0 → (∀ e ∈ s.keeper.enables, bit e.2.functions 8 = false) →
      Does (.kBrk r w) s (takeTrap (coreKey r) .privilege 0 s))) ∧
  (∀ (r : CoreRef) (w : BitVec 64) (s : State) (k : Kernel), Issues s r k (w.setWidth 56) →
    listed (fld w 63 56) (fld w 38 32) = false → Does (.kTrap r w) s (takeTrap (coreKey r) .illegal 0 s))

/-- The order of the checks of one issue (R104) for the two-source scalar forms: a passed yield gap before FETCH, FETCH before
ILLEGAL, ILLEGAL whatever the guard says, a false guard before the registers are looked at. -/
def Sys2Proof.Spec.TrapOrder : Prop :=
  ∀ p ∈ aluRR, ∀ (r : CoreRef) (w : BitVec 56) (s : State) (k : Kernel), (getCore s (coreKey r)).kernel = some k →
    canIssue s (coreKey r) (getCore s (coreKey r)) k = true →
    (k.image.maxYieldGap < k.gap → exec (p.1 r w) s = .next (kept s (takeTrap (coreKey r) .gapExceeded 0 s))) ∧
    (k.gap ≤ k.image.maxYieldGap → (k.image.codeBytes ≤ k.pc ∨ k.pc % 8 ≠ 0) →
      exec (p.1 r w) s = .next (kept s (takeTrap (coreKey r) .fetch 0 s))) ∧
    (k.gap ≤ k.image.maxYieldGap → k.pc < k.image.codeBytes → k.pc % 8 = 0 →
      (fld w 36 0 ≠ 0 → exec (p.1 r w) s = .next (kept s (takeTrap (coreKey r) .illegal 0 s))) ∧
      (fld w 36 0 = 0 → pReg k (wGuard w) = wGneg w → exec (p.1 r w) s = .next (retired s r k (k.pc + 8))))

/-- What a trap leaves (R105): the kernel stops at its own address with the cause, its registers stay; no queued or active pass
remains in either queue, a running drain does; the moves that have not started are gone; no bench byte changes while no
store waits; nothing outside the core changes but its group's clock request. -/
def Sys2Proof.Spec.TrapTaken : Prop :=
  ∀ (s : State) (key : Nat) (c : Cause) (imm : Nat) (k : Kernel), (getCore s key).kernel = some k → (getCore s key).writes = [] →
    (∃ k', (getCore (takeTrap key c imm s) key).kernel = some k' ∧ k'.phase = .ending (.trap c imm k.pc) ∧ k'.blocked = none ∧
      k'.pc = k.pc ∧ k'.g = k.g ∧ k'.gPoison = k.gPoison ∧ k'.p = k.p ∧ k'.v = k.v ∧ k'.fpFlags = k.fpFlags) ∧
    (∀ a < 2, ∀ e ∈ (getArray (getCore (takeTrap key c imm s) key) a).queue,
      e ∈ (getArray (getCore s key) a).queue ∧ e.stage ≠ .queued ∧ e.stage ≠ .active) ∧
    (∀ a < 2, ∀ e ∈ (getArray (getCore s key) a).queue, e.stage = .draining →
      e ∈ (getArray (getCore (takeTrap key c imm s) key) a).queue) ∧
    (getCore (takeTrap key c imm s) key).moves = (getCore s key).moves.filter (fun m => m.started) ∧
    (getCore (takeTrap key c imm s) key).bench = (getCore s key).bench ∧
    (getCore (takeTrap key c imm s) key).scale = (getCore s key).scale ∧
    (∀ j, j ≠ key → getCore (takeTrap key c imm s) j = getCore s j) ∧
    (takeTrap key c imm s).slices = s.slices ∧ (takeTrap key c imm s).pages = s.pages ∧
    (takeTrap key c imm s).ports = s.ports ∧ (takeTrap key c imm s).stages = s.stages

/-- KERNEL_START, RESUME, PREEMPT_SAVE_COMPLETE and KERNEL_END_COMPLETE (R82, R105, R109): a placed kernel begins at ENTRY with its
arguments in g1–g15 and everything else clear; a saved kernel returns as it was saved; a kernel that is saved or has ended leaves
its core, a trapped one with its record in the trap register. (The bytes of a save record are free values, log entry 33.) Completion
of kernelStart, kernelEndComplete, preemptSaveComplete and resumeKernel: exec answers the stated next state under these conditions
alone. -/
def Sys2Proof.Spec.KernelLife : Prop :=
  ∀ (r : CoreRef) (s : State), mainOn s = true →
    (∀ k, (getCore s (coreKey r)).kernel = some k → k.phase = .placed → groupRuns s (coreKey r) = true →
      Does (.kernelStart r) s (putCore s (coreKey r) { getCore s (coreKey r) with
        kernel := some { k with
          g := (upto 15).foldl (fun g i => tset 0 g (i + 1) (BitVec.ofNat 64 (leNat ((k.args.drop (8 * i)).take 8)))) []
          gPoison := 0, gWait := 0, p := 1, v := [], vPoison := 0, pc := k.image.entry, classes := [], wake := 0, fpFlags := 0
          watchLine := 0, cycles := 0, gap := 0, blocked := none, kwriteRefused := 0, kwriteFirst := 0, trackers := [], phase := .running }
        gen := k.seed
        grants := match getSpace s k.image.space with | some x => x.grants | none => 0
        lastStream := k.stream
        lastKernel := k.image.kernelId })) ∧
    (∀ k slot, (getCore s (coreKey r)).kernel = some k → k.phase = .saving slot → (getTile s r.tile.val).hold = false →
      sliceTrains s (coreKey r) = false → sliceOut s (coreKey r) = false → sliceEvac s (coreKey r) = false →
      Does (.preemptSaveComplete r) s (sliceWrite (coreKey r) (6 * 65536 + 8704 * slot) (savedRecord s.free) (sliceAccess (coreKey r) 68
        { countTile r.tile.val 1 1 (putCore s (coreKey r) { getCore s (coreKey r) with
            saved := (getCore s (coreKey r)).saved ++ [⟨slot, { k with phase := .running }, (getCore s (coreKey r)).gen⟩]
            kernel := none
            trackers := (cfgHeldApply (getCore s (coreKey r))).trackers
            preemptReq := false }) with free := s.free + 1088 }))) ∧
    (∀ (slot : Fin 15) x, (getCore s (coreKey r)).kernel = none → (getCore s (coreKey r)).resumeReq = some slot.val →
      groupRuns s (coreKey r) = true → (getCore s (coreKey r)).saved.find? (fun y => y.slot == slot.val) = some x →
      ∃ u, Does (.resumeKernel r slot) s u ∧ (getCore u (coreKey r)).kernel = some x.k ∧ (getCore u (coreKey r)).gen = x.gen ∧
        (getCore u (coreKey r)).resumeReq = none ∧ (getCore u (coreKey r)).saved = (getCore s (coreKey r)).saved.filter (fun y => y.slot != slot.val) ∧
        (∀ a < 2, ∀ e ∈ (getArray (getCore u (coreKey r)) a).queue, e.savedSlot ≠ some slot.val)) ∧
    (∀ k e, (getCore s (coreKey r)).kernel = some k → k.phase = .ending e → endReady (getCore s (coreKey r)) k e = true →
      ∃ u, Does (.kernelEndComplete r) s u ∧ (getCore u (coreKey r)).kernel = none ∧ (getCore u (coreKey r)).preemptReq = false ∧
        (getCore u (coreKey r)).bench = (getCore s (coreKey r)).bench ∧
        (∀ cause imm pc, e = .trap cause imm pc →
          (getCore u (coreKey r)).trap = pack [(48, imm), (40, codeNum (causeCode cause)), (32, causeNum cause), (31, 1), (0, pc % 2 ^ 20)]) ∧
        (e = .fin ∨ e = .withdrawn → (getCore u (coreKey r)).trap = (getCore s (coreKey r)).trap))

/-- MOVE_COMPLETE (R96, R97): a started move with nothing outstanding, whose destination no lock holds, writes its bytes, those of a
tin's pages after a translation of each page, and ends: its ticket ends with its code, it leaves the engine, and wake-pending bit 1
is set when it asks for it. A move inside the bench copies its rows in order. Completion of moveComplete: exec answers the stated
next state under these conditions alone. -/
def Sys2Proof.Spec.MoveCompletes : Prop :=
  ∀ (r : CoreRef) (ticket : BitVec 64) (s : State) (k : Kernel) (m : MoveOp), mainOn s = true →
    (getCore s (coreKey r)).kernel = some k → (getCore s (coreKey r)).moves.find? (fun x => x.ticket == ticket.toNat) = some m →
    m.started = true → m.todo = [] → m.await = [] → moveLocked (getCore s (coreKey r)) m = false → inShift s (coreKey r) = false →
    (∀ code t, mKind m ≠ 3 → mKind m ≠ 4 → moveLocal regPath (coreKey r) k m s = some (code, t) →
      Does (.moveComplete r ticket) s (moveEnd (coreKey r) m (codeMerge m.code code) (moveFlush (coreKey r) m t))) ∧
    (∀ code t u, (mKind m = 3 ∨ mKind m = 4) → codeFailed m.code = false → movePages (coreKey r) k m true s = (false, .ok, u) →
      moveLocal regPath (coreKey r) k m u = some (code, t) →
      Does (.moveComplete r ticket) s (moveEnd (coreKey r) m (codeMerge m.code code) (moveFlush (coreKey r) m t))) ∧
    (mKind m = 2 → (getCore s (coreKey r)).benchErr = [] → ∃ t, moveLocal regPath (coreKey r) k m s = some (.ok, t) ∧
      (getCore t (coreKey r)).bench = ((upto (mRows m)).foldl (fun c i =>
        benchWrite c (m.w2.toNat + i * fld m.w3 31 0) (benchRead c (m.w1.toNat + i * fld m.w3 63 32) (mRow m))) (getCore s (coreKey r))).bench) ∧
    (∀ (t : State) (code : Code) (k' : Kernel), codeFailed code = false → (getCore t (coreKey r)).kernel = some k' → (getCore t (coreKey r)).writes = [] →
      moveEnd (coreKey r) m code t = putCore t (coreKey r) { getCore t (coreKey r) with
        moves := (getCore t (coreKey r)).moves.filter (fun x => x.ticket != m.ticket)
        kernel := some { putCls k' 2 { getCls k' 2 with
            retired := (getCls k' 2).retired + 1
            live := (getCls k' 2).live.filter (· != m.ticket)
            held := (getCls k' 2).held ++ [(m.ticket, code)] } with
          wake := if mNotify m then k'.wake ||| 2 else k'.wake } })

/-! ## The pass queues, the clocks and the trackers -/

namespace Sys2Proof.Spec

/-- A requester reaches the control space of core `r` at once (R398, R431): the main domains are on, it is not service
firmware, and the core's group is awake. -/
structure CorePath (rq : Requester) (s : State) (r : CoreRef) : Prop where
  on : mainOn s = true
  writer : rq ≠ .firmware
  awake : groupAsleep s r.tile.val (r.core.val / 16) = false

/-- The queue in which the active pass has been stopped, keeps its place and waits to be issued again (R70). -/
def stoppedQueue (q : List PassEntry) : List PassEntry :=
  q.map (fun e => if e.stage = .active then { e with stage := .queued, reissued := true, fresh := false } else e)

/-- The inputs of pass `e` of array `a` are final (R59, R60, R69, R99): no earlier pass of the core still has to write a line of
them, but for the predecessor in the queue whose drain feeds a CARRY pass forward; no earlier move writes one; and no store
that the core issued before it waits to write one. -/
def InputsFinal (c : Core) (a : Nat) (e : PassEntry) : Prop :=
  (∀ p ∈ allPasses c, p.seq < e.seq →
    linesOverlap (passOut p.desc) (if (((getArray c a).queue.takeWhile (fun x => x.seq != e.seq)).getLast?.any (fun x => x.seq == p.seq)) &&
      carryForward p e then passAB e.desc else passIn e.desc) = false) ∧
  (∀ m ∈ c.moves, m.seq < e.seq → linesOverlap (moveDstRange m) (passIn e.desc) = false) ∧
  (∀ w ∈ c.writes, w.seq ≤ e.seq → w.scale = false → linesOverlap [(w.off, w.bytes.length)] (passIn e.desc) = false)

/-- The output ranges of pass `e` are free (R68, R99): no earlier pass reads them or has yet to write them, no earlier move
and no operation of the link adders touches them, and no earlier store waits to write them or a scale register that the
pass reads. -/
def OutputFree (c : Core) (e : PassEntry) : Prop :=
  (∀ p ∈ allPasses c, p.seq < e.seq → ∀ x ∈ passOut e.desc,
    (p.stage ≠ .draining → ∀ y ∈ passIn p.desc, rangesOverlap y.1 y.2 x.1 x.2 = false) ∧
    (p.stage ≠ .saved → ∀ y ∈ passOut p.desc, rangesOverlap y.1 y.2 x.1 x.2 = false)) ∧
  (∀ m ∈ c.moves, m.seq < e.seq → ∀ x ∈ passOut e.desc, ∀ y ∈ moveSrcRange m ++ moveDstRange m, rangesOverlap y.1 y.2 x.1 x.2 = false) ∧
  (∀ l ∈ c.linkLocks, ∀ x ∈ passOut e.desc, rangesOverlap l.2.1 l.2.2 x.1 x.2 = false) ∧
  (∀ w ∈ c.writes, w.seq ≤ e.seq → (w.scale = true → ∀ y ∈ passScales e.desc, rangesOverlap y.1 y.2 w.off 1 = false) ∧
    (w.scale = false → ∀ y ∈ passOut e.desc, rangesOverlap y.1 y.2 w.off w.bytes.length = false))

/-- The staging buffers without that of a requester for a window. -/
def unstaged (s : State) (rq : Requester) (win : Nat) : State :=
  { s with staging := s.staging.filter (fun x => !(x.who == rq && x.window == win)) }

end Sys2Proof.Spec

/-- PASS_DESC_SUBMIT, STOP, FLUSH, ARRAY_DISABLE and ARRAY_ENABLE (R24, R55, R70, R78, R80): word 7 of either array's window submits the
words that the requester has staged in the block's one buffer and clears it, and ends with WITHDRAWN at a withdrawn core; STOP
re-queues the active pass; FLUSH takes the active and queued passes; a write of 0 takes an array out of service with only a running
drain left in it and its passes on the other array; a write of 1 returns an array that a write took out. (That the withdrawn core's
WITHDRAWN comes before a full queue, and posts no PASS_COMPLETION, are the model's readings, log entries 134 and 133.) Completion of
passDescSubmit, passStop, passFlush, arrayDisable and arrayEnable: exec answers the stated next state under these conditions alone. -/
def Obligations.PassRegisters : Prop :=
  ∀ (rq : Requester) (r : CoreRef) (a : Fin 2) (s : State), CorePath rq s r →
    (∀ (word7 : BitVec 64) (d : CmdDesc) (b : Nat), d = descPut (stageGet s rq (gpaKey r.tile.val r.core.val 2 0x8000)) 7 word7 →
      passFieldsBad d = false → passRangeBad d = false →
      ((getCore s (coreKey r)).withdrawn = false → takingArray (getCore s (coreKey r)) a.val = some b →
        (getArray (getCore s (coreKey r)) b).queue.length < 4 →
        Does (.passDescSubmit rq r a word7) s (groupBusy r.tile.val (r.core.val / 16) (ends .ok (putCore (unstaged s rq (gpaKey r.tile.val r.core.val 2 0x8000)) (coreKey r)
          { putArray (getCore s (coreKey r)) b { getArray (getCore s (coreKey r)) b with queue := (getArray (getCore s (coreKey r)) b).queue ++
              [⟨d, (getCore s (coreKey r)).enqSeq, a.val, none, .queued, false, 0, true, none, none, none, false⟩] }
            with enqSeq := (getCore s (coreKey r)).enqSeq + 1 })))) ∧
      ((getCore s (coreKey r)).withdrawn = true →
        Does (.passDescSubmit rq r a word7) s (groupBusy r.tile.val (r.core.val / 16) (ends .withdrawn (unstaged s rq (gpaKey r.tile.val r.core.val 2 0x8000)))))) ∧
    (expertOk rq 0 s = true →
      ((∃ e ∈ (getArray (getCore s (coreKey r)) a.val).queue, e.stage = .active) →
        Does (.passStop rq r a) s (groupBusy r.tile.val (r.core.val / 16) (ends .ok (throttleEffect r.tile.val (r.core.val / 16) (countReissues (coreKey r) 1 (putCore s (coreKey r)
          (putArray (getCore s (coreKey r)) a.val { getArray (getCore s (coreKey r)) a.val with
            queue := stoppedQueue (getArray (getCore s (coreKey r)) a.val).queue }))))))) ∧
      Does (.passFlush rq r a) s (groupBusy r.tile.val (r.core.val / 16) (ends .ok (throttleEffect r.tile.val (r.core.val / 16) (putCore s (coreKey r)
        (flushArray (getCore s (coreKey r)) a.val true))))) ∧
      ((getArray (getCore s (coreKey r)) a.val).out = false →
        ∃ u, Does (.arrayDisable rq r a) s (groupBusy r.tile.val (r.core.val / 16) (ends .ok u)) ∧ (getArray (getCore u (coreKey r)) a.val).out = true ∧
          (getArray (getCore u (coreKey r)) a.val).outByWrite = true ∧
          (getArray (getCore u (coreKey r)) a.val).queue = (getArray (getCore s (coreKey r)) a.val).queue.filter (fun e => e.stage == .draining) ∧
          bit (getTile u r.tile.val).coreHalf r.core.val = true ∧
          ((getArray (getCore s (coreKey r)) (1 - a.val)).out = true → (getCore u (coreKey r)).withdrawn = true) ∧
          ((getArray (getCore s (coreKey r)) (1 - a.val)).out = false →
            ∀ e ∈ (getArray (getCore s (coreKey r)) a.val).queue, e.stage ≠ .draining →
              ∃ e' ∈ (getArray (getCore u (coreKey r)) (1 - a.val)).queue, e'.seq = e.seq ∧ e'.desc = e.desc ∧ e'.stage ≠ .active)) ∧
      ((getArray (getCore s (coreKey r)) a.val).out = true → (getArray (getCore s (coreKey r)) a.val).outByWrite = true →
        (getArray (getCore s (coreKey r)) (1 - a.val)).out = false →
        Does (.arrayEnable rq r a) s (groupBusy r.tile.val (r.core.val / 16) (ends .ok (modTile (putCore s (coreKey r) (putArray (getCore s (coreKey r)) a.val
            { getArray (getCore s (coreKey r)) a.val with out := false, outByWrite := false })) r.tile.val
          (fun t => { t with coreHalf := t.coreHalf &&& ~~~(BitVec.twoPow 64 r.core.val) }))))))

/-- PASS_ACTIVATE, DRAIN_BEGIN and PASS_COMPLETE (R51, R59, R69, R79): on a group that runs, the first queued pass of an array without an active
pass becomes active with the generator's snapshot, once its inputs are final; the active pass of an array that does not
drain has its accumulators complete, its bench locks end and it drains; a drain whose output ranges are free writes its
elements, offers them to its tracker, leaves the queue and posts its tag with OK or SATURATED. Completion of passActivate,
drainBegin and passComplete: exec answers the next state, under these conditions alone. -/
def Obligations.PassStages : Prop :=
  ∀ (r : CoreRef) (a : Fin 2) (s : State), mainOn s = true → groupRuns s (coreKey r) = true →
    (∀ e, nextQueued (getCore s (coreKey r)) a.val = some e → (∀ x ∈ (getArray (getCore s (coreKey r)) a.val).queue, x.stage ≠ .active) →
      (getGroup s r.tile.val (r.core.val / 16)).request = none → InputsFinal (getCore s (coreKey r)) a.val e → e.snapshot = none →
      Does (.passActivate r a) s (bakeSample (coreKey r) a.val e (putCore s (coreKey r)
        (setEntry { getCore s (coreKey r) with gen := genAdvance 4096 (getCore s (coreKey r)).gen } a.val
          { e with stage := .active, snapshot := some (getCore s (coreKey r)).gen })))) ∧
    (∀ e, (getArray (getCore s (coreKey r)) a.val).queue.find? (fun x => x.stage == .active) = some e →
      (∀ x ∈ (getArray (getCore s (coreKey r)) a.val).queue, x.stage ≠ .draining) →
      Does (.drainBegin r a) s (benchScans (coreKey r) (passIn e.desc) (throttleEffect r.tile.val (r.core.val / 16) (countCycles (coreKey r) (passCycles e.desc)
        (putCore s (coreKey r) (applyWaiting (setEntry (getCore s (coreKey r)) a.val
          { e with stage := .draining, acc := some (passCompute (getCore s (coreKey r)) e.desc), fresh := true }))))))) ∧
    (∀ e acc, (getArray (getCore s (coreKey r)) a.val).queue.find? (fun x => x.stage == .draining) = some e → e.acc = some acc →
      OutputFree (getCore s (coreKey r)) e →
      ∀ c els sat, drainAll (getCore s (coreKey r)) e acc = (c, els) → sat = (els.filter (fun x => !x.invalid && x.sat)).length →
      ∃ c', Does (.passComplete r a) s (countCore (coreKey r) 2 sat (countCore (coreKey r) 3 (els.filter (fun x => x.invalid)).length
          (countCore (coreKey r) 4 acc.invalid (countCore (coreKey r) 5 (els.filter (fun x => x.under)).length (putCore s (coreKey r) c'))))) ∧
        (∀ x ∈ (getArray c' a.val).queue, x.seq ≠ e.seq) ∧ c'.complCode = (if sat = 0 then .ok else .saturated) ∧
        c'.complTag = BitVec.ofNat 16 (dTag e.desc) ∧ c'.complArray = a.val ∧ c'.complSeq = c.complSeq + 1 ∧
        (c.writes = [] → c'.bench = c.bench))

/-- RESIDUE_MISMATCH (R74): the first mismatch of a pass logs it and re-queues the pass; the second takes the array out of service, but
not by a write. Completion of residueMismatch: exec answers the stated next state under these conditions alone. -/
def Sys2Proof.Spec.ResidueMismatch : Prop :=
  ∀ (r : CoreRef) (a : Fin 2) (row col : Fin 64) (s : State) (e : PassEntry), mainOn s = true →
    (getArray (getCore s (coreKey r)) a.val).queue.find? (fun x => x.stage == .active) = some e →
    ∃ u, Does (.residueMismatch r a row col) s u ∧
      (getCore u (coreKey r)).residueLog = pack [(48, dTag e.desc), (40, min 255 (fld (getCore s (coreKey r)).residueLog 47 40 + 1)), (31, 1),
        (30, if e.mismatches = 0 then 0 else 1), (29, a.val), (18, row.val), (12, col.val)] ∧
      (∀ x ∈ (getArray (getCore u (coreKey r)) a.val).queue, x.stage ≠ .active) ∧
      (e.mismatches = 0 → (getArray (getCore u (coreKey r)) a.val).out = (getArray (getCore s (coreKey r)) a.val).out) ∧
      (0 < e.mismatches → (getArray (getCore u (coreKey r)) a.val).out = true ∧ (getArray (getCore u (coreKey r)) a.val).outByWrite = false)

/-- THROTTLE_STEP_TIMEOUT and CLOCK_CHANGE_COMPLETE (R70, R394): 8 µs after the request every active pass of the group is stopped, and
the step takes effect; the change completes at the target frequency. Completion of throttleStepTimeout and clockChangeComplete: exec
answers the stated next state under these conditions alone. -/
def Sys2Proof.Spec.ClockChanges : Prop :=
  ∀ (t : Fin 24) (g : Fin 4) (s : State), mainOn s = true →
    (∀ at_, (getGroup s t.val g.val).request = some at_ → (getGroup s t.val g.val).changing = false → (getGroup s t.val g.val).shift = none →
      Does (.throttleStepTimeout t g) s (throttleEffect t.val g.val ((upto 16).foldl
        (fun u i => stopActive (ck t.val (16 * g.val + i)) 1 (stopActive (ck t.val (16 * g.val + i)) 0 u)) { s with now := max s.now (at_ + 8000) }))) ∧
    (∀ (u : State) (key a : Nat), ∀ x ∈ (getArray (getCore (stopActive key a u) key) a).queue, x.stage ≠ .active) ∧
    ((getGroup s t.val g.val).changing = true →
      Does (.clockChangeComplete t g) s (putGroup s t.val g.val
        { getGroup s t.val g.val with changing := false, mhz := (getGroup s t.val g.val).target }))

/-- AMAX_CFG_WRITE, SCALE_K_WRITE and WIDE_CHARGE_WINDOW_END (R135, R147, R148, R150): a valid configuration is held while the core runs
a kernel and applied at once, with the history, pending values and marks cleared, when it runs none; a scale register is written
unless a pass locks it, and the write then waits; a window's charges move on, and each layer above WIDE_ALLOW in both windows is
pinned with PIN_CREATED at level 7, a 65th pin pinning every layer. (That the pins then stand as one is the model's choice, log entry 58.) Completion of amaxCfgWrite, scaleKWrite and wideChargeWindowEnd: exec answers the stated next state under these conditions
alone. -/
def Sys2Proof.Spec.TrackerCommands : Prop :=
  (∀ (rq : Requester) (r : CoreRef) (n : Fin 256) (v : BitVec 64) (s : State), CorePath rq s r →
    (amaxCfgOk v = true → ∀ k, (getCore s (coreKey r)).kernel = some k →
      Does (.amaxCfgWrite rq r n v) s (groupBusy r.tile.val (r.core.val / 16) (ends .ok (putCore s (coreKey r) (putTracker (getCore s (coreKey r)) n.val
        { getTracker (getCore s (coreKey r)) n.val with held := some v }))))) ∧
    (amaxCfgOk v = true → (getCore s (coreKey r)).kernel = none →
      Does (.amaxCfgWrite rq r n v) s (groupBusy r.tile.val (r.core.val / 16) (ends .ok (putCore s (coreKey r) (putTracker (getCore s (coreKey r)) n.val
        { cfg := v, held := none, pendingAmax := 0, tripped := false, tripUnder := false, pending := false, widePending := false, deferred := false
          hist := [], commitSeq := (getTracker (getCore s (coreKey r)) n.val).commitSeq, satPending := 0, convPending := 0, satRows := 0 }))))) ∧
    (amaxCfgOk v = false → Does (.amaxCfgWrite rq r n v) s (groupBusy r.tile.val (r.core.val / 16) (ends .rejected s)))) ∧
  (∀ (rq : Requester) (r : CoreRef) (n : Fin 4096) (v : BitVec 32) (s : State), CorePath rq s r →
    (scaleLocked (getCore s (coreKey r)) n.val 1 = false →
      Does (.scaleKWrite rq r n v) s (groupBusy r.tile.val (r.core.val / 16) (ends .ok (putCore s (coreKey r) { getCore s (coreKey r) with
        scale := tset scaleInit (getCore s (coreKey r)).scale n.val v })))) ∧
    (scaleLocked (getCore s (coreKey r)) n.val 1 = true →
      Does (.scaleKWrite rq r n v) s (groupBusy r.tile.val (r.core.val / 16) { s with keeper := { s.keeper with works := s.keeper.works ++
        [⟨rq, [], [(BitVec.ofNat 64 (gpaMake s.myModule r.tile.val r.core.val 2 (0x1000 + 4 * n.val)), v.setWidth 64)], 0, .ok, s.now⟩] } }))) ∧
  (∀ (tin : BitVec 12) (s : State) (x : Tin) (above : List Nat), mainOn s = true → x = getTin s tin.toNat → x.state ≠ .free →
    1024 ≤ x.windowSteps →
    above = (x.charges.filter (fun c => decide (x.wideAllow < c.2.1) && decide (x.wideAllow < c.2.2))).map (·.1) →
    Does (.wideChargeWindowEnd tin) s (above.foldl (fun u l => pinTin tin.toNat l u) (modTin s tin.toNat (fun x => { x with
      windowSteps := x.windowSteps - 1024
      charges := (x.charges.filter (fun c => c.2.1 != 0)).map (fun c => (c.1, 0, c.2.1)) })))) ∧
  (∀ (t layer : Nat) (u : State),
    ((getTin u t).pinAll = true ∨ layer ∈ (getTin u t).pins → pinTin t layer u = u) ∧
    ((getTin u t).pinAll = false → layer ∉ (getTin u t).pins → (getTin u t).pins.length < 64 →
      pinTin t layer u = raise (mkEv 0x0402 clsNotice 0 7 30 0 evW2 (pack [(48, layer), (32, t)]))
        (modTin u t (fun x => { x with pins := x.pins ++ [layer] }))) ∧
    ((getTin u t).pinAll = false → layer ∉ (getTin u t).pins → 64 ≤ (getTin u t).pins.length →
      pinTin t layer u = raise (mkEv 0x0402 clsNotice 0 7 30 0 evW2 (pack [(48, 0xFFFF), (32, t)]))
        (modTin u t (fun x => { x with pins := [], pinAll := true }))))

/-- What the commit of a tracker does (R139): with history and scale in range, steps 1–5 push the pending amax, set the scale
register to the quantized maximum times the margin over the largest of the history, count, and clear what was pending. -/
def Sys2Proof.Spec.TrackerCommit : Prop :=
  ∀ (c : Core) (tr : Nat) (t : Tracker), t = getTracker c tr → bit t.cfg 1 = false → t.widePending = false → trFolded t = false →
    let h := magMax ((t.pendingAmax :: t.hist).take (trK t))
    let v := if isZero h then scaleReg c (trScale t) else clampScale (fDiv (fRound false (quaricMax (trTarget t) * trMargin t) 256).1 h)
    (commitSteps tr false c).scale = tset scaleInit c.scale (trScale t) v ∧
    (getTracker (commitSteps tr false c) tr).hist = (t.pendingAmax :: t.hist).take 16 ∧
    (getTracker (commitSteps tr false c) tr).commitSeq = t.commitSeq + 1 ∧
    (getTracker (commitSteps tr false c) tr).pending = false ∧ (getTracker (commitSteps tr false c) tr).pendingAmax = 0 ∧
    (∀ j, j ≠ tr → getTracker (commitSteps tr false c) j = getTracker c j) ∧
    (commitSteps tr false c).bench = c.bench ∧ (commitSteps tr false c).kernel = c.kernel


/-! ## Slices, their training, refresh and scrubbing -/

namespace Sys2Proof.Spec

/-- A slice that an access has reached: it leaves self-refresh (R170), its idle time starts again, and the access counts as activity
(R401). -/
def touched (s : State) (key : Nat) : State :=
  modSlice s key (fun x => { x with lastAccess := s.now, state := if x.state = 3 then 1 else x.state, accesses := x.accesses + 1 })

/-- A slice that takes accesses: trained, in self-refresh or in EVACUATE, and not training. -/
def Serves (s : State) (key : Nat) : Prop :=
  ((getSlice s key).state = 1 ∨ (getSlice s key).state = 3 ∨ (getSlice s key).state = 4) ∧ (getSlice s key).trainBusy = none

/-- The symbols in error of an access that no erased layer holds (R162). -/
def hardErrors (s : State) (key : Nat) (errs : SymbolErrors) : List (Nat × Byte) :=
  (errSymbols errs).filter (fun e => (getSlice s key).erased != some (symLayer e.1))

/-- A read delivers the line: a queued write gives it whole (R158), or the code corrects its errors: twice their number and the
ten symbols of an erased layer are at most 32 (R162). -/
def Correctable (s : State) (key line : Nat) (errs : SymbolErrors) : Prop :=
  lineQueued s key line = true ∨
  (tget false (getSlice s key).bad line = false ∧ 2 * (hardErrors s key errs).length + (if (getSlice s key).erased.isSome then 10 else 0) ≤ 32)

/-- The bytes of its slice that an access writes: its offset and how many. -/
def writtenBytes (line : Nat) : SliceOp → Nat × Nat
  | .read => (0, 0)
  | .writeLine _ => (128 * line, 128)
  | .writePart off data => (128 * line + off.val, min data.length (128 - off.val))

/-- An access that writes no frame of the slice's bitmap and reverse map (frames 0 to 4) and no TABLE frame (R187). -/
def SparesTables (s : State) (key line : Nat) (op : SliceOp) : Prop :=
  op = .read ∨ touchesTables s key (writtenBytes line op).1 (writtenBytes line op).2 = false

/-- The address of byte `off` of a space of a core or tile of this module (Table 1.4). -/
def ownAddr (s : State) (t c sp off : Nat) : BitVec 64 := BitVec.ofNat 64 (gpaMake s.myModule t c sp off)

/-- A requester that holds the expert level of a function, with the main domains on. -/
structure Expert (rq : Requester) (fn : Nat) (s : State) : Prop where
  on : mainOn s = true
  level : expertOk rq fn s = true

end Sys2Proof.Spec

/-- SLICE_ACCESS without an error in its command word (R157, R158, R162, R163, R187, Table 5.3). Completion of sliceAccess: exec
answers the stated next state under these conditions on the slice and the access alone. A read within the code's power
delivers the line as it stands, from the queue of held writes when it holds the whole line; one beyond it marks the line
uncorrectable, logs, counts and ends with POISONED; a whole-line write and a part write store exactly their bytes; a write to
the slice's own maps or a TABLE frame ends with KEY_FAULT; a slice in EVACUATE refuses writes; one out of service ends
everything with POISONED. -/
def Sys2Proof.Spec.LineAccesses : Prop :=
  ∀ (t : Fin 24) (n : Fin 64) (line : BitVec 24) (errs : SymbolErrors) (s : State), mainOn s = true →
    ((getSlice s (ck t.val n.val)).state = 5 → (getSlice s (ck t.val n.val)).trainBusy = none → ∀ op,
      SparesTables s (ck t.val n.val) line.toNat op → Does (.sliceAccess t n line op errs []) s (ends .poisoned s)) ∧
    (Serves s (ck t.val n.val) →
      (∀ op, ¬ SparesTables s (ck t.val n.val) line.toNat op → Does (.sliceAccess t n line op errs []) s (ends .keyFault s)) ∧
      (Correctable s (ck t.val n.val) line.toNat errs → ∃ u, Does (.sliceAccess t n line .read errs []) s (ends .ok u) ∧
        (getSlice u (ck t.val n.val)).data = (getSlice s (ck t.val n.val)).data ∧ (getSlice u (ck t.val n.val)).bad = (getSlice s (ck t.val n.val)).bad ∧
        (hardErrors s (ck t.val n.val) errs = [] ∨ lineQueued s (ck t.val n.val) line.toNat = true → u = touched s (ck t.val n.val)) ∧
        (hardErrors s (ck t.val n.val) errs ≠ [] → lineQueued s (ck t.val n.val) line.toNat = false → (getSlice u (ck t.val n.val)).errLog = pack [(40, line.toNat), (31, 1),
          (29, if (getSlice s (ck t.val n.val)).erased.isSome then 1 else 0), (24, (hardErrors s (ck t.val n.val) errs).length),
          (20, symLayer ((hardErrors s (ck t.val n.val) errs).foldl (fun m e => min m e.1) 159))])) ∧
      (¬ Correctable s (ck t.val n.val) line.toNat errs →
        Does (.sliceAccess t n line .read errs []) s (ends .poisoned (sliceFault (ck t.val n.val) 0x0203 5 (evSlice (ck t.val n.val) 0 line.toNat) 0 .poisoned
          (countSlice (ck t.val n.val) 2 1 (modSlice (touched s (ck t.val n.val)) (ck t.val n.val) (fun x => { x with
            bad := tput x.bad line.toNat true
            errLog := pack [(40, line.toNat), (31, 1), (30, 1), (29, if (getSlice s (ck t.val n.val)).erased.isSome then 1 else 0)] })))))) ∧
      ((getSlice s (ck t.val n.val)).state = 4 → ∀ op, op ≠ .read → SparesTables s (ck t.val n.val) line.toNat op →
        Does (.sliceAccess t n line op errs []) s (ends .rejected (touched s (ck t.val n.val)))) ∧
      ((getSlice s (ck t.val n.val)).state ≠ 4 → (getTile s t.val).hold = false →
        (∀ data : List (BitVec 8), data.length = 128 → SparesTables s (ck t.val n.val) line.toNat (.writeLine data) → Does (.sliceAccess t n line (.writeLine data) errs []) s
          (ends .ok (sliceWrite (ck t.val n.val) (128 * line.toNat) data (touched s (ck t.val n.val))))) ∧
        (∀ (off : Fin 128) (data : List (BitVec 8)), off.val + data.length ≤ 128 → SparesTables s (ck t.val n.val) line.toNat (.writePart off data) →
          Correctable s (ck t.val n.val) line.toNat errs → (hardErrors s (ck t.val n.val) errs = [] ∨ lineQueued s (ck t.val n.val) line.toNat = true) →
          Does (.sliceAccess t n line (.writePart off data) errs []) s
            (ends .ok (sliceWrite (ck t.val n.val) (128 * line.toNat + off.val) data (touched s (ck t.val n.val)))))))

/-- What a write leaves in a slice whose stack holds no writes (R157, R158, R163): every byte of the range reads as written where
it replaces each uncorrectable line it meets whole, every other byte of the slice and every byte of every other slice as
before; a whole line clears its uncorrectable mark, and a write of a part of an uncorrectable line leaves the line as it was. -/
def Obligations.SliceMemory : Prop :=
  ∀ (key off : Nat) (bs : List (BitVec 8)) (s : State), (getTile s (key / 64)).hold = false →
    ((∀ l, lineBad s key l = true → 128 * l + 128 ≤ off ∨ off + bs.length ≤ 128 * l ∨ (off ≤ 128 * l ∧ 128 * l + 128 ≤ off + bs.length)) →
      ∀ i (h : i < bs.length), tget 0 (getSlice (sliceWrite key off bs s) key).data (off + i) = bs[i]) ∧
    (∀ a, (a < off ∨ off + bs.length ≤ a) → tget 0 (getSlice (sliceWrite key off bs s) key).data a = tget 0 (getSlice s key).data a) ∧
    (∀ k, k ≠ key → getSlice (sliceWrite key off bs s) k = getSlice s k) ∧
    (∀ l, off % 128 = 0 → bs.length = 128 → tget false (getSlice (sliceWrite key off bs s) key).bad l =
      if l = off / 128 then false else tget false (getSlice s key).bad l) ∧
    (lineBad s key (off / 128) = true → off % 128 + bs.length ≤ 128 → bs.length < 128 →
      (getSlice (sliceWrite key off bs s) key).data = (getSlice s key).data ∧ (getSlice (sliceWrite key off bs s) key).bad = (getSlice s key).bad)

/-- The command word's code (R156): an access with one lane in error goes on, and the first one counts, keeps the lane and
raises CA_LANE; with several it takes the slice out of service, withdraws its core and ends with POISONED. -/
def Sys2Proof.Spec.CommandWordErrors : Prop :=
  ∀ (t : Fin 24) (n : Fin 64) (line : BitVec 24) (op : SliceOp) (s : State) (a : Fin 64) (l : CommandLanes), mainOn s = true →
    Serves s (ck t.val n.val) → 1 < l.length → SparesTables s (ck t.val n.val) line.toNat op →
    (∃ u, Does (.sliceAccess t n line op [] l) s (ends .poisoned u) ∧ (getSlice u (ck t.val n.val)).state = 5 ∧
      (getCore u (ck t.val n.val)).withdrawn = true ∧ (getSlice u (ck t.val n.val)).data = (getSlice s (ck t.val n.val)).data) ∧
    (Correctable s (ck t.val n.val) line.toNat [] → ∃ u, Does (.sliceAccess t n line .read [] [a]) s (ends .ok u) ∧
      (getSlice u (ck t.val n.val)).caFault = true ∧ (getSlice u (ck t.val n.val)).caLane = a.val ∧
      ((getSlice s (ck t.val n.val)).caFault = true → u = countSlice (ck t.val n.val) 3 1
        (modSlice (touched s (ck t.val n.val)) (ck t.val n.val) (fun x => { x with caFault := true, caLane := a.val }))))

/-- REFRESH_COMMAND, SELF_REFRESH_ENTRY, SCRUB_READ and SCRUB_WRITEBACK (R168, R170, R175, Table 5.7): the next command of
the slice's schedule counts; a trained slice of a sleeping core enters self-refresh 10 µs after its last access; a scrub
read, an access like any other, takes the next line and keeps a corrected one for its write-back, which a write hold
prevents. Completion of refreshCommand, selfRefreshEntry, scrubRead and scrubWriteback. -/
def Sys2Proof.Spec.RefreshCommands : Prop :=
  ∀ (t : Fin 24) (n : Fin 64) (s : State), mainOn s = true →
    ((getSlice s (ck t.val n.val)).state ≠ 0 →
      ∀ i at_, i = 4000000 / 2 ^ (getTile s t.val).refreshMult →
      at_ = nextRefreshAt n.val i (max ((getSlice s (ck t.val n.val)).nextRefresh + 1) (1024 * s.now)) →
      Does (.refreshCommand t n) s (countSlice (ck t.val n.val) 5 1 (modSlice { s with now := max s.now (at_ / 1024) } (ck t.val n.val)
        (fun x => { x with nextRefresh := at_, refreshInterval := i })))) ∧
    ((getSlice s (ck t.val n.val)).state = 1 → (getSlice s (ck t.val n.val)).trainBusy = none → coreAsleep s (ck t.val n.val) = true →
      Does (.selfRefreshEntry t n) s (modSlice { s with now := max s.now ((getSlice s (ck t.val n.val)).lastAccess + 10000) } (ck t.val n.val)
        (fun x => { x with state := 3 }))) ∧
    ((getSlice s (ck t.val n.val)).scrubEn = true → Serves s (ck t.val n.val) →
      tget false (getSlice s (ck t.val n.val)).bad (getSlice s (ck t.val n.val)).scrubNext = false →
      Does (.scrubRead t n []) s (countSlice (ck t.val n.val) 7 1 (modSlice (touched s (ck t.val n.val)) (ck t.val n.val) (fun x => { x with
        scrubNext := (x.scrubNext + 1) % 2 ^ 24
        scrubPasses := if x.scrubNext + 1 = 2 ^ 24 then x.scrubPasses + 1 else x.scrubPasses })))) ∧
    (∀ line, (getSlice s (ck t.val n.val)).scrubPending = some line → (getSlice s (ck t.val n.val)).trainBusy = none →
      (getSlice s (ck t.val n.val)).state ≠ 2 →
      Does (.scrubWriteback t n) s (if (getTile s t.val).hold then countSlice (ck t.val n.val) 8 1
          (modSlice s (ck t.val n.val) (fun x => { x with scrubPending := none }))
        else touched (modSlice s (ck t.val n.val) (fun x => { x with scrubPending := none })) (ck t.val n.val)))

/-- The schedule of refresh (R168): slice n of a stack starts n/64 of an interval into it, and each command follows the last
by one interval or more, at the first point of the schedule. -/
def Sys2Proof.Spec.RefreshSchedule : Prop :=
  ∀ (n i at_ : Nat), 0 < i →
    at_ ≤ nextRefreshAt n i at_ ∧ nextRefreshAt n i at_ < at_ + i + n * i / 64 + 1 ∧
    (∃ m, nextRefreshAt n i at_ = n * i / 64 + m * i) ∧
    (∀ m, at_ ≤ n * i / 64 + m * i → nextRefreshAt n i at_ ≤ n * i / 64 + m * i)

/-- FULL_RETRAINING, SPARE_SWITCH_IN and SLICE_RETRAIN_DONE (R164, R167, R386). Completion of fullRetraining, spareSwitchIn and
sliceRetrainDone: with its lease and its core withdrawn or Off a retraining begins and the slice is untrained; a switch-in
begins while the layer has a spare; the end of one gives RESULT OK, the lane map with one lane more or the map of the failed
lanes, and its lease back. A lease that conflicts ends either with CONFLICT, before the REJECTED of a core that is neither
withdrawn nor Off (R21). Without the expert level of STACK they end with KEY_FAULT and change nothing else. -/
def Sys2Proof.Spec.SliceTraining : Prop :=
  ∀ (rq : Requester) (t : Fin 24) (n : Fin 64) (layer : Fin 16) (lane : BitVec 7) (s : State),
    (mainOn s = true → expertOk rq 1 s = false → Does (.fullRetraining rq t n) s (ends .keyFault s) ∧
      Does (.spareSwitchIn rq t n layer lane) s (ends .keyFault s)) ∧
    (Expert rq 1 s → trainRuns s (ck t.val n.val) = false → s.topo.leases.length < 256 →
      (coreWithdrawnOrOff s (ck t.val n.val) = true → leaseDecide s 1 t.val n.val = .grant →
        Does (.fullRetraining rq t n) s (ends .ok (modSlice (leaseAdd 1 t.val n.val (.sliceRetrain (ck t.val n.val)) 0 s) (ck t.val n.val)
          (fun x => { x with trainBusy := some 1, prevState := x.state, state := 2 })))) ∧
      (coreWithdrawnOrOff s (ck t.val n.val) = false → leaseDecide s 1 t.val n.val ≠ .conflict →
        Does (.fullRetraining rq t n) s (ends .rejected (modSlice s (ck t.val n.val) (fun x => { x with trainResult := .rejected })))) ∧
      (lane.toNat < 80 → sparesUsed (tget 0 (getSlice s (ck t.val n.val)).laneMap layer.val) < 2 → leaseDecide s 2 t.val n.val = .grant →
        Does (.spareSwitchIn rq t n layer lane) s (ends .ok (modSlice (leaseAdd 2 t.val n.val (.laneSpare (ck t.val n.val) layer.val lane.toNat false) 0 s)
          (ck t.val n.val) (fun x => { x with trainBusy := some 2, trainLayer := layer.val, trainLane := lane.toNat
                                              switchLayer := layer.val, switchLane := lane.toNat })))) ∧
      (leaseDecide s 1 t.val n.val = .conflict → Does (.fullRetraining rq t n) s
        (ends .conflict (modSlice (countHearth 11 1 s) (ck t.val n.val) (fun x => { x with trainResult := .conflict })))) ∧
      (leaseDecide s 2 t.val n.val = .conflict → Does (.spareSwitchIn rq t n layer lane) s
        (ends .conflict (modSlice (countHearth 11 1 s) (ck t.val n.val) (fun x => { x with trainResult := .conflict }))))) ∧
    (mainOn s = true → (getSlice s (ck t.val n.val)).trainBusy = some 2 → ∀ r,
      Does (.sliceRetrainDone t n r) s (countSlice (ck t.val n.val) 4 1 (leaseRelease 2 t.val n.val (modSlice s (ck t.val n.val) (fun x => { x with
        trainBusy := none
        trainResult := .ok
        laneMap := tput x.laneMap x.switchLayer (spareIn (tget 0 x.laneMap x.switchLayer) x.switchLane) }))))) ∧
    (mainOn s = true → (getSlice s (ck t.val n.val)).trainBusy = some 1 → ∀ ok,
      Does (.sliceRetrainDone t n ⟨[], ok⟩) s (leaseRelease 1 t.val n.val (modSlice s (ck t.val n.val) (fun x => { x with
        trainBusy := none
        trainResult := .ok
        state := x.prevState
        laneMap := []
        erased := if ok then none else x.erased }))))

/-- STACK_CTRL_WRITE and HELD_WRITE_TIMEOUT (R21, R172, R183). Completion of stackCtrlWrite and heldWriteTimeout: shares that add up
to 16 with an OWN share of 8 or more are taken; while the tile serves interactive or prefill streams a smaller OWN share ends
with CONFLICT, any other bad sum or share with REJECTED; a remote write that waits 32 µs for a place among the held writes
ends with RETRY_LATER at its sender. -/
def Sys2Proof.Spec.StackControl : Prop :=
  (∀ (rq : Requester) (t : Fin 24) (v : BitVec 64) (s : State), Expert rq 1 s →
    (fld v 11 8 + fld v 7 4 + fld v 3 0 = 16 → 8 ≤ fld v 11 8 → (fld (getTile s t.val).stackCtrl 11 8 ≤ fld v 11 8 ∨ tileServes s t.val = false) →
      Does (.stackCtrlWrite rq t v) s (ends .ok (modTile s t.val (fun x => { x with stackCtrl := v &&& 0xFFF })))) ∧
    (fld v 11 8 < fld (getTile s t.val).stackCtrl 11 8 → tileServes s t.val = true → Does (.stackCtrlWrite rq t v) s (ends .conflict s)) ∧
    (fld v 11 8 + fld v 7 4 + fld v 3 0 ≠ 16 ∨ fld v 11 8 < 8 → (fld (getTile s t.val).stackCtrl 11 8 ≤ fld v 11 8 ∨ tileServes s t.val = false) →
      Does (.stackCtrlWrite rq t v) s (ends .rejected s))) ∧
  (∀ (t : Fin 24) (n : Fin 64) (s : State) (w : TargetWait), mainOn s = true →
    (getPort s t.val).waits.find? (fun w => w.why == 1 && gCore (fld w.pkt.w3 49 0) == n.val) = some w →
    Does (.heldWriteTimeout t n) s (homeRefuse t.val w.pkt .retryLater (countTile t.val 30 1
      (modPort { s with now := max s.now (w.whySince + 32000) } t.val (fun p => { p with waits := p.waits.erase w })))))

/-! ## The residency managers and the page movers -/

namespace Sys2Proof.Spec

/-- The descriptor of a residency command: the words submitted, with the OP of the command (Table 6.8). -/
def resDesc (op : Nat) (d : CmdDesc) : CmdDesc := { d with w0 := setFld d.w0 63 56 op }

/-- A residency command that can run at once (R203, R204): the queue of its tile is empty, its requester may name its
space, its space (but for CREATE_SPACE) is not being destroyed, and no case of R204 refuses it. -/
structure ResRuns (rq : Requester) (t : Fin 24) (d : CmdDesc) (s : State) : Prop where
  on : mainOn s = true
  writer : rq ≠ .firmware
  empty : (getRes s t.val).queue = []
  level : rSpace d ≠ 0 ∨ expertOk rq 2 s = true
  valid : resRejects s d = false
  stays : ∀ r, getSpace s (rSpace d) = some r → r.withdrawn = false

/-- A residency command has taken its number and completed with OK: RES_CMD_STATUS shows its tag. -/
def resDone (s : State) (t : Fin 24) (d : CmdDesc) : State :=
  ends .ok (modRes { s with nextId := s.nextId + 1 } t.val (fun r => { r with
    statTag := BitVec.ofNat 16 (fld d.w0 15 0), statCode := .ok, statSeq := r.statSeq + 1 }))

/-- The record of a space changed. -/
def spaceSet (s : State) (a : Nat) (f : Space → Space) : State :=
  { s with spaces := s.spaces.map (fun p => if p.1 = a then (p.1, f p.2) else p) }

/-- The page key of the first page of a command's range, and its entry; no entry of another size overlaps that page. -/
def firstKey (d : CmdDesc) : Nat := pkey (rSpace d) (rVpn d) (rBig d)
def Lone (s : State) (d : CmdDesc) : Prop := rCount d = 1 ∧ ∀ q ∈ mappedIn s (rSpace d) (rVpn d) (rUnit d), q.1 = firstKey d

/-- A page that a frame holds, and that no move is taking elsewhere. -/
def Resident (p : Pte) : Prop := p.ty = .page ∨ p.ty = .large

/-- A frame of this module that the page mover can read: its slice is in service and does not train, and none of its 512 lines is
uncorrectable. -/
def PageReadable (s : State) (p : Place) : Prop :=
  p.module = s.myModule ∧ sliceTrains s (placeKey p) = false ∧ sliceOut s (placeKey p) = false ∧
  ∀ i < 512, lineBad s (placeKey p) (512 * p.frame + i) = false

/-- A tile has room for a structure of `bytes` bytes in TABLE frames: beside others of its size, or in free frames of its own that
the quota of space 0 covers (R187, R199, R200). -/
def TableRoom (s : State) (t bytes : Nat) : Prop :=
  (bytes < 65536 ∧ (tabSlot s bytes).isSome = true) ∨
  ((bytes < 65536 → tabSlot s bytes = none) ∧ quotaOk s 0 t (cdiv bytes 65536) = true ∧ (freeInTile s t 0 (cdiv bytes 65536)).isSome = true)

end Sys2Proof.Spec

/-- The residency commands that change records alone (R188, R200, R204, R205, Table 6.9). Completion of resCreateSpace, resSetQuota,
resGrant, resMap, resPin and resUnpin: CREATE_SPACE makes a record with its quota, of 21 bits, in a TABLE frame; SET_QUOTA
changes it; GRANT sets the segment's bit; MAP makes its pages ABSENT under its FILL, rights and placement, and binds the
range; a page table that its page lacks is made first; PIN and UNPIN of a resident page set and clear PINNED. -/
def Sys2Proof.Spec.RecordCommands : Prop :=
  ∀ (rq : Requester) (t : Fin 24) (d : CmdDesc) (s : State),
    (ResRuns rq t (resDesc 1 d) s → TableRoom s t.val 8192 → ∃ u key off, Does (.resCreateSpace rq t d) s (ends .ok u) ∧
      u.spaces = tput s.spaces (rSpace d) ⟨min (rCount d) (2 ^ 21 - 1), [], 0, false⟩ ∧
      u.tables = s.tables ++ [⟨0, rSpace d, 0, key / 64, key % 64, off, 8192⟩] ∧ u.pages = s.pages ∧
      (getRes u t.val).statTag = BitVec.ofNat 16 (fld d.w0 15 0) ∧ (getRes u t.val).statCode = .ok) ∧
    (ResRuns rq t (resDesc 3 d) s → Does (.resSetQuota rq t d) s
      (resDone (spaceSet s (rSpace d) (fun r => { r with quota := min (rCount d) (2 ^ 21 - 1) })) t d)) ∧
    (ResRuns rq t (resDesc 0xC d) s → bit d.w3 38 = true → Does (.resGrant rq t d) s
      (resDone (spaceSet s (rSpace d) (fun r => { r with grants := r.grants ||| BitVec.twoPow 256 (rSegment d) })) t d)) ∧
    (ResRuns rq t (resDesc 4 d) s → rFill d = 0 → (∀ v ∈ rRange d, tabsMissing s (rSpace d) v (rBig d) = []) → Does (.resMap rq t d) s
      (resDone { s with pages := (rRange d).foldl (fun m v => tput m (pkey (rSpace d) v (rBig d)) (mapPte (resDesc 4 d))) s.pages } t d)) ∧
    (∀ l key off, ResRuns rq t (resDesc 4 d) s → rFill d = 0 → rCount d = 1 → tabsMissing s (rSpace d) (rVpn d) (rBig d) = [l] →
      tabSlot s l.2.2 = some (key, off) → ∃ u, Does (.resMap rq t d) s (ends .ok u) ∧
        u.pages = tput s.pages (firstKey d) (mapPte (resDesc 4 d)) ∧
        u.tables = s.tables ++ [⟨l.1, rSpace d, l.2.1, key / 64, key % 64, off, l.2.2⟩] ∧ u.spaces = s.spaces) ∧
    (ResRuns rq t (resDesc 4 d) s → rFill d = 1 → (∀ v ∈ rRange d, tabsMissing s (rSpace d) v (rBig d) = []) → Does (.resMap rq t d) s
      (resDone (spaceSet { s with pages := (rRange d).foldl (fun m v => tput m (pkey (rSpace d) v (rBig d)) (mapPte (resDesc 4 d))) s.pages }
        (rSpace d) (fun r => { r with bindings := r.bindings ++ [⟨rVpn d, rPages d, rSet d⟩] })) t d)) ∧
    (ResRuns rq t (resDesc 7 d) s → Lone s d → Resident (getPte s (firstKey d)) → Does (.resPin rq t d) s
      (resDone (modPte s (firstKey d) (fun p => { p with pinned := true })) t d)) ∧
    (ResRuns rq t (resDesc 8 d) s → Lone s d → Resident (getPte s (firstKey d)) → Does (.resUnpin rq t d) s
      (resDone (modPte s (firstKey d) (fun p => { p with pinned := false })) t d))

/-- The residency commands that end in an invalidation round (R195, R205, Table 6.9). Completion of resUnmap, resProtect, resEvict
and resDestroySpace: UNMAP takes the entry out, PROTECT changes its rights, EVICT makes it ABSENT with FILL 1, and
DESTROY_SPACE takes out every page of its space; each starts a round over its range, which notes the accesses under way that
were translated with an entry it drops, at whose end the frames are free, and answers then. -/
def Sys2Proof.Spec.ResidencyRounds : Prop :=
  ∀ (rq : Requester) (t : Fin 24) (d : CmdDesc) (s : State),
    (ResRuns rq t (resDesc 5 d) s → Lone s d → Resident (getPte s (firstKey d)) → (getPte s (firstKey d)).module = s.myModule →
      ∃ u, Does (.resUnmap rq t d) s (ends .ok u) ∧ u.pages = tdel s.pages (firstKey d) ∧ (getRes u t.val).rounds = (getRes s t.val).rounds ++
        [⟨rSpace d, rVpn d, rPages d, placeFrames s (ptePlace (getPte s (firstKey d))) (rUnit d), [], some s.nextId,
          flyingOps s (rSpace d) (rVpn d) (rPages d)⟩]) ∧
    (ResRuns rq t (resDesc 6 d) s → Lone s d → Resident (getPte s (firstKey d)) →
      ∃ u, Does (.resProtect rq t d) s (ends .ok u) ∧
        u.pages = tput s.pages (firstKey d) { getPte s (firstKey d) with rd := bit d.w0 51, wr := bit d.w0 50, ex := bit d.w0 49 } ∧
        (getRes u t.val).rounds = (getRes s t.val).rounds ++
          [⟨rSpace d, rVpn d, rPages d, [], [], some s.nextId, flyingOps s (rSpace d) (rVpn d) (rPages d)⟩]) ∧
    (ResRuns rq t (resDesc 0xA d) s → Lone s d → evictable s (firstKey d) = true →
      ∃ u, Does (.resEvict rq t d) s (ends .ok u) ∧ u.pages = tput s.pages (firstKey d) (evictedPte (getPte s (firstKey d))) ∧
        (getRes u t.val).rounds = (getRes s t.val).rounds ++
          [⟨rSpace d, rVpn d, rPages d, placeFrames s (ptePlace (getPte s (firstKey d))) (rUnit d), [], some s.nextId,
            flyingOps s (rSpace d) (rVpn d) (rPages d)⟩]) ∧
    (ResRuns rq t (resDesc 2 d) s → spaceBusy s (rSpace d) = false → (∀ p ∈ s.tins, p.1 = rSpace d → p.2.state = .free) →
      ∃ u, Does (.resDestroySpace rq t d) s (ends .ok u) ∧ u.pages = s.pages.filter (fun p => pkSpace p.1 != rSpace d) ∧
        (∀ r, getSpace u (rSpace d) = some r → r.withdrawn = true) ∧
        ∃ frees remote, (getRes u t.val).rounds = (getRes s t.val).rounds ++
          [⟨rSpace d, 0, 2 ^ 32, frees, remote, some s.nextId, flyingOps s (rSpace d) 0 (2 ^ 32)⟩])

/-- The residency commands that move bytes (R198, R199, R204, R213, R216, Table 6.9). Completion of resPrefetch, resMigrate,
resEncode, resRebuild and resVerify: PREFETCH gives an ABSENT page a frame of the placement that the command names and starts
its fill; MIGRATE queues a move to the place it names; ENCODE holds its pages MOVING and starts a round over them, and once that has
ended makes the new set with a shard of every stripe yet to be written (that its round comes first is the model's choice, log entry 51);
REBUILD starts a transfer to the location it names, whose frame it marks TABLE, and marks the shard; VERIFY reads
every valid shard. -/
def Sys2Proof.Spec.ResidencyTransfers : Prop :=
  ∀ (rq : Requester) (t : Fin 24) (d : CmdDesc) (s : State),
    (ResRuns rq t (resDesc 9 d) s → Lone s d → ∀ key k f, (getPte s (firstKey d)).ty = .absent → (getPte s (firstKey d)).fill = 0 →
      rPlace d ≠ 4 → pickSlice s (rPlace d) d.w3.toNat 0 none = some key → quotaOk s (rSpace d) (key / 64) (rUnit d) = true →
      freeInTile s (key / 64) (key % 64) (rUnit d) = some (k, f) →
      ∃ u, Does (.resPrefetch rq t d) s (ends .ok u) ∧ (getPte u (firstKey d)).ty = .filling ∧
        ptePlace (getPte u (firstKey d)) = ⟨s.myModule, k / 64, k % 64, f⟩ ∧
        (∃ e, frameAt u k f = some e ∧ e.space = rSpace d ∧ e.vpn = rVpn d ∧ e.table = false ∧ e.shard = false) ∧
        ∃ x ∈ (getRes u t.val).xfers, x.kind = .prefetch ∧ x.key = some (firstKey d) ∧ x.cmd = some s.nextId) ∧
    (ResRuns rq t (resDesc 0xB d) s → Lone s d → Resident (getPte s (firstKey d)) → (getPte s (firstKey d)).pinned = false →
      placeExported s (ptePlace (getPte s (firstKey d))) (rUnit d) = false → ∀ m key, migrateTo s d (firstKey d) = some (m, key) →
      ∃ u, Does (.resMigrate rq t d) s (ends .ok u) ∧ u.pages = s.pages ∧
        ∃ x ∈ (getRes u t.val).xfers, x.kind = .migrate ∧ x.move = true ∧ x.key = some (firstKey d) ∧ x.core = key ∧ x.new.module = m) ∧
    (ResRuns rq t (resDesc 0xD d) s → Lone s d → Resident (getPte s (firstKey d)) →
      gpaTrains s d.w5.toNat = false →
      ∃ u, Does (.resEncode rq t d) s (ends .ok u) ∧ (getPte u (firstKey d)).ty = .moving ∧ u.sets = s.sets ∧
        (getRes u t.val).rounds = (getRes s t.val).rounds ++
          [⟨rSpace d, rVpn d, rPages d, [], [], some s.nextId, flyingOps s (rSpace d) (rVpn d) (rPages d)⟩]) ∧
    (∀ (c : ResCmd) (v : State), findCmd s t.val c.id = some c → c.desc = resDesc 0xD d → c.stage = 4 → c.code = .ok → c.todo = [] →
      c.waiting = [] → c.rounds = 0 → rCount d = 1 → 1 ≤ rK d → encodeFar s t.val c = [] → gpaTrains s d.w5.toNat = false →
      (encodeLoad s d).1.isSome = true → v = (encodeLoad s d).2 →
      (∀ i < rUnit d, PageReadable v { ptePlace (getPte v (firstKey d)) with frame := (getPte v (firstKey d)).frame + i }) →
      TableRoom v t.val (descBytes (rK d + rM d) ((rPages d + rK d - 1) / rK d)) →
      ∃ st, getSet? (stepCmd t.val c.id s) (rSet d) = some st ∧
        st.k = rK d ∧ st.m = rM d ∧ st.base = rVpn d ∧ st.pages = rPages d ∧ st.stripes.length = (rPages d + rK d - 1) / rK d ∧
        (∀ l ∈ st.stripes, l.length = rK d + rM d ∧ ∀ h ∈ l, h.valid = false)) ∧
    (ResRuns rq t (resDesc 0xE d) s → ∀ st l new, getSet? s (rSet d) = some st → l = stripeOf st (fld d.w4 39 8) →
      new = (⟨s.myModule, fld d.w5 49 45, fld d.w5 44 39, fld d.w5 38 24⟩ : Place) → fld d.w5 63 50 = s.myModule → new.tile < 24 →
      frameFree s (placeKey new) new.frame = true → sliceUsable s (placeKey new) = true →
      (fld d.w4 7 3 ∈ validShards l ∨ st.k ≤ (validShards l).length) →
      (∀ h ∈ l, h.valid = true → PageReadable s ⟨h.module, h.tile, h.core, h.frame⟩) →
      ∃ u, Does (.resRebuild rq t d) s (ends .ok u) ∧
        (∃ x ∈ (getRes u t.val).xfers, x.kind = .rebuild ∧ x.new = new ∧ x.set = rSet d ∧ x.stripe = fld d.w4 39 8 ∧ x.shard = fld d.w4 7 3 ∧ x.phase = 4) ∧
        (∃ f, frameAt u (placeKey new) new.frame = some f ∧ f.table = true) ∧
        (∃ st' h, getSet? u (rSet d) = some st' ∧ (stripeOf st' (fld d.w4 39 8))[fld d.w4 7 3]? = some h ∧ h.rebuilding = true)) ∧
    (ResRuns rq t (resDesc 0xF d) s → ∀ st, getSet? s (rSet d) = some st →
      (∀ l ∈ st.stripes, ∀ h ∈ l, h.valid = true → PageReadable s ⟨h.module, h.tile, h.core, h.frame⟩) →
      ∃ u, Does (.resVerify rq t d) s (ends .ok u) ∧ u.sets = s.sets ∧
        ∀ n j, n < st.stripes.length → j ∈ validShards (stripeOf st n) →
          ∃ x ∈ (getRes u t.val).xfers, x.kind = .verify ∧ x.set = rSet d ∧ x.stripe = n ∧ x.shard = j)

/-- What a requester may not do (R21, R203, R204): space 0 needs the expert level of RESIDENCY, a full queue ends with RETRY_LATER,
service firmware writes no register, and a refused command changes nothing but its status, but for what ENCODE's read of its LIST
leaves. -/
def Sys2Proof.Spec.ResidencyRefusals : Prop :=
  ∀ (rq : Requester) (t : Fin 24) (d : CmdDesc) (s : State), mainOn s = true →
    ∀ (c : Instr) (op : Nat), (c, op) ∈ [(Instr.resCreateSpace rq t d, 1), (.resDestroySpace rq t d, 2), (.resSetQuota rq t d, 3),
      (.resMap rq t d, 4), (.resUnmap rq t d, 5), (.resProtect rq t d, 6), (.resPin rq t d, 7), (.resUnpin rq t d, 8),
      (.resPrefetch rq t d, 9), (.resEvict rq t d, 10), (.resMigrate rq t d, 11), (.resGrant rq t d, 12), (.resEncode rq t d, 13),
      (.resRebuild rq t d, 14), (.resVerify rq t d, 15)] →
    (rq = .firmware → Does c s (ends .keyFault s)) ∧
    (rq ≠ .firmware → 64 ≤ ((getRes s t.val).queue.filter (fun q => q.admin.isNone)).length →
      (rSpace d ≠ 0 ∨ (∃ x y, rq = .systemKernel x y) ∨ expertOk rq 2 s = true) → Does c s (ends .retryLater s)) ∧
    (rq ≠ .firmware → (∀ x y, rq ≠ .systemKernel x y) → rSpace d = 0 → expertOk rq 2 s = false → Does c s (ends .keyFault s)) ∧
    (rq ≠ .firmware → (getRes s t.val).queue = [] → (rSpace d ≠ 0 ∨ expertOk rq 2 s = true) → resRejects s (resDesc op d) = true →
      (∀ r, getSpace s (rSpace d) = some r → r.withdrawn = false) → (op = 13 → gpaTrains s d.w5.toNat = false) →
      ∀ v, v = (if op = 13 then (encodeLoad s d).2 else s) →
      Does c s (ends .ok (modRes { v with nextId := s.nextId + 1 } t.val (fun r => { r with
        statTag := BitVec.ofNat 16 (fld d.w0 15 0), statCode := .rejected, statSeq := r.statSeq + 1 }))))

/-- PAGE_FILL_COMPLETE and PAGE_MOVE_COMPLETE (R191, R207, Table 6.10). Completion of pageFillComplete and pageMoveComplete: the
page's bytes stand in the new frame, the entry names it, and a move frees the old frame after its second round. -/
def Sys2Proof.Spec.PageTransfers : Prop :=
  ∀ (t : Fin 24) (id : Nat) (s : State) (x : Xfer) (pk : Nat), mainOn s = true → findXfer s t.val id = some x → x.key = some pk → x.phase = 4 →
    x.big = false → x.part = 0 → xferServed s t.val x = true → x.new.module = s.myModule → (getTile s x.new.tile).hold = false →
    x.kind ≠ .verify → x.kind ≠ .encode → sliceUsable s (placeKey x.new) = true → sliceTrains s (placeKey x.new) = false →
    (x.move = false → ∀ page, assembled t.val x s = (some page, s) → (x.srcs = [] ∨ x.shard ∈ x.srcs) →
      Does (.pageFillComplete t id 0) s (dropXfer t.val x.id (cmdNote t.val x .ok
        (modPte (putPage (placeKey x.new) x.new.frame page s) pk (fun p => { residentPte x p with pinned := p.pinned || xferPins s t.val x }))))) ∧
    (x.move = true → x.rebuild = false → PageReadable s x.old →
      Does (.pageMoveComplete t id true) s (dropXfer t.val x.id (cmdNote t.val x .ok (startRound t.val (pkSpace pk) (pkVpn pk) (pkPages pk)
        (placeFrames s x.old 1) [] none (countTile t.val 8 1
          (modPte (putPage (placeKey x.new) x.new.frame (pageOf s (placeKey x.old) x.old.frame) (sliceAccess (placeKey x.old) 512 s)) pk
            (fun p => { residentPte x p with pinned := p.pinned || xferPins s t.val x }))))))) ∧
    (residentPte x (getPte s pk)).ty = (if (getPte s pk).big then .large else .page) ∧ ptePlace (residentPte x (getPte s pk)) = x.new

/-- MOVE_HOLD_TIMEOUT, INVALIDATION_ROUND_COMPLETE, BACKGROUND_COMPACTION, HINT_APPLY and SUBMIT_HINT (R195, R202, R208, R211).
Completion of moveHoldTimeout, invalidationRoundComplete, backgroundCompaction, hintApply and submitHint: a held move is taken
back and queued again; a round whose accesses have arrived frees its frames and its moves begin to copy, and one with an
access under way goes on; compaction queues the moves of the cheapest run; a hint of an enabled tile evicts its pages, and one
of a tile that takes no hints is dropped and counted. (The rate is counted over each second, log entry 145.) -/
def Sys2Proof.Spec.ResidencyTimers : Prop :=
  (∀ (t : Fin 24) (id : Nat) (s : State) (x : Xfer) (pk since : Nat), mainOn s = true → findXfer s t.val id = some x → x.key = some pk →
    x.heldSince = some since → x.move = true → x.new.module = s.myModule → (getTile s x.new.tile).hold = true →
    Does (.moveHoldTimeout t id) s (setXfer t.val { x with
        phase := 0, heldSince := none, heldTile := some x.new.tile, rebuild := false, part := 0, new := ⟨s.myModule, 0, 0, 0⟩ }
      (modPte (freeFrames (placeFrames s x.new (xferPages x)) { s with now := max s.now (since + 32000) }) pk
        (fun p => { p with ty := if p.big then .large else .page })))) ∧
  (∀ (t : Fin 24) (s : State) (r : Round) (rest : List Round), mainOn s = true → (getRes s t.val).rounds = r :: rest → r.remote = [] → r.cmd = none →
    ((∃ f ∈ r.flying, (findOp s f.1 f.2).isSome = true) → Does (.invalidationRoundComplete t) s s) ∧
    ((∀ f ∈ r.flying, findOp s f.1 f.2 = none) → ((getRes s t.val).xfers.map (·.id)).Nodup → ∃ u, Does (.invalidationRoundComplete t) s u ∧ (getRes u t.val).rounds = rest ∧
      (∀ k ∈ r.frees, ∀ f, (k, f) ∈ u.frames → f.exported = true) ∧
      (∀ x ∈ (getRes s t.val).xfers, x.phase = 5 → (∃ pk, x.key = some pk ∧ pkSpace pk = r.space ∧ pkVpn pk = r.vpn) → x.old.module = s.myModule →
        ∃ y ∈ (getRes u t.val).xfers, y.id = x.id ∧ y.phase = 4) ∧
      (∀ c ∈ u.cores, ∀ e ∈ c.2.tlb, ¬ (e.1 = r.space ∧ r.vpn ≤ e.2.1 ∧ e.2.1 < r.vpn + r.pages)))) ∧
  (∀ (t : Fin 24) (n : Fin 64) (s : State) (run : Nat) (l : List (Nat × Frame)), mainOn s = true → bit (getRes s t.val).ctrl 9 = true →
    sliceUsable s (ck t.val n.val) = true → freeRuns s (ck t.val n.val) < fld (getRes s t.val).ctrl 31 24 → compacting s t.val (ck t.val n.val) = false →
    (usedIn s (ck t.val n.val)).length + 32 ≤ 32760 → compactRun s (ck t.val n.val) = some (run, l) →
    ∃ u, Does (.backgroundCompaction t n) s u ∧ u.pages = s.pages ∧ u.frames = s.frames ∧
      ∀ f ∈ l, ∀ pk, pageOfFrame s f.1 f.2 = some pk → ∃ x ∈ (getRes u t.val).xfers, x.kind = .compact ∧ x.move = true ∧ x.key = some pk ∧ x.core = ck t.val n.val) ∧
  (∀ (t : Fin 24) (s : State) (h : Hint) (rest : List Hint), mainOn s = true → s.keeper.fw.halted = false → (getRes s t.val).hints = h :: rest →
    (bit (getRes s t.val).ctrl 8 = false → ∃ w c, Does (.hintApply t) s (countTile t.val 11 1 (modRes s t.val (fun r => { r with
      hints := rest, hintWindow := w, hintCount := c })))) ∧
    (h.action = .evict → bit (getRes s t.val).ctrl 8 = true → 0 < h.pages → h.pages ≤ 64 → hintPages s h ≠ [] →
      (∃ x, getSpace s h.space.toNat = some x ∧ x.withdrawn = false) → (getRes s t.val).hintWindow < s.now / 1000000000 →
      (hintPages s h).length ≤ 1000 * fld (getRes s t.val).ctrl 39 32 →
      ∃ u, Does (.hintApply t) s u ∧ (getRes u t.val).hints = rest ∧ (getRes u t.val).hintCount = (hintPages s h).length ∧
        ∀ pk ∈ hintPages s h, getPte u pk = evictedPte (getPte s pk))) ∧
  (∀ (t : Fin 24) (h : Hint) (s : State), mainOn s = true → s.keeper.fw.running = true →
    ((getRes s t.val).hints.length < 64 → ∃ u, Does (.submitHint t h) s u ∧ (getRes u t.val).hints = (getRes s t.val).hints ++ [h]) ∧
    (64 ≤ (getRes s t.val).hints.length → ∃ u, Does (.submitHint t h) s u ∧ (getRes u t.val).hints = (getRes s t.val).hints))

/-! ## Packets that arrive -/

namespace Sys2Proof.Spec

/-- A packet of a type reaches an endpoint `t` of the module and passes the checks of R266 and R267, with no EPOCH behind
(R297). -/
structure Sound (type : Nat) (p : Packet) (t : Nat) (s : State) : Prop where
  on : mainOn s = true
  type : pType p = type
  here : forUs s p = true
  tile : pDstTile p = t
  fields : badType p = false
  crc : pCrc p = pktCrc p
  epoch : serialDiff 8 (bankEpoch (bankSel s true) % 256) (pEpoch p) ≤ 1

/-- A packet of a flow that arrives as the next one of its flow (the row "SEQ = NEXT" of Table 8.7): the endpoint holds the
flow's receive state `f`, the packet does not start the flow anew, and it is a message of its own. -/
structure Comes (type : Nat) (p : Packet) (t : Nat) (f : FlowRx) (s : State) : Prop where
  sound : Sound type p t s
  flow : findRx (getPort s t) (rxKey p) = some f
  start : pStart p = false
  next : f.next = pSeq p
  fresh : f.got.contains (pSeq p) = false ∧ f.held.any (fun h => h.1 == pSeq p) = false
  single : pMsgPkts p ≤ 1

/-- The state in which the endpoint has taken the packet off the wires and its flow has advanced. -/
def taken (p : Packet) (t : Nat) (f : FlowRx) (s : State) : State :=
  modPort (modPort { s with flight := s.flight.erase p } t (fun x => setRx x f)) t
    (fun x => setRx x { f with next := (f.next + 1) % 2 ^ 24, lastDelivery := s.now })

/-- What follows the delivery of a packet: held packets that are now in order, the acknowledgement, and packets that
waited in the network buffer (R278, R279, R283). -/
def followUp (t : Nat) (k : FlowKey) (s : State) : State :=
  rxNetwork deliver t (noteFresh t k (advance deliver t k 1024 s))

/-- The commands that a packet of a flow is, with their MSG_TYPE (Tables 8.4, 9.3). -/
def flowRows : List ((Packet → Instr) × Nat) :=
  [ (.remLoad, 0x01), (.remStore, 0x02), (.remAtomic, 0x03), (.remReduce, 0x04), (.remMcastStore, 0x05), (.loadReply, 0x10),
    (.doneReply, 0x11), (.atomicReply, 0x12), (.moveWriteMsg, 0x20), (.moveReadMsg, 0x21), (.moveDataMsg, 0x22),
    (.moveDoneMsg, 0x23), (.residencyMsg, 0x38), (.residencyReplyMsg, 0x39), (.managementReplyMsg, 0x41) ]

end Sys2Proof.Spec

/-- A packet of a flow that comes in order is delivered once, its flow's NEXT advances by one, and what it lets go on follows
(R279, Table 8.7); a packet of no flow acts at once. -/
def Sys2Proof.Spec.Deliveries : Prop :=
  (∀ x ∈ flowRows, ∀ (p : Packet) (t : Nat) (f : FlowRx) (s : State), Comes x.2 p t f s →
    Does (x.1 p) s (followUp t (rxKey p) (deliver t p (taken p t f s)))) ∧
  (∀ (p : Packet) (f : FlowRx) (s : State), Comes 0x30 p 30 f s →
    (plField (pBytes p) 0 1 = 1 → Does (.openStream p) s (followUp 30 (rxKey p) (openTake p (taken p 30 f s)))) ∧
    (plField (pBytes p) 0 1 = 2 → Does (.stepStream p) s (followUp 30 (rxKey p) (stepTake p (taken p 30 f s)))) ∧
    (plField (pBytes p) 0 1 = 3 → Does (.closeReq p) s (followUp 30 (rxKey p) (closeTake p (taken p 30 f s))))) ∧
  (∀ (p : Packet) (t : Nat) (s : State),
    (Sound 0x7E p t s → Does (.ackPacket p) s (ackOp p { s with flight := s.flight.erase p })) ∧
    (Sound 0x50 p t s → Does (.crumbRack p) s (crumbTake false p { s with flight := s.flight.erase p })) ∧
    (Sound 0x51 p t s → Does (.crumbHall p) s (crumbTake true p { s with flight := s.flight.erase p })) ∧
    (Sound 0x52 p t s → Does (.crumbNack p) s (crumbNackOp p { s with flight := s.flight.erase p })) ∧
    (Sound 0x53 p t s → Does (.crumbAbort p) s (crumbAbortOp p { s with flight := s.flight.erase p })) ∧
    (∀ x, Sound 0x60 p t s → Does (.collData p x) s (collDataOp x.strand.val (x.adder.map (·.val)) p { s with flight := s.flight.erase p })) ∧
    (Sound 0x61 p t s → Does (.collRaw p) s (collOp p { s with flight := s.flight.erase p })) ∧
    (Sound 0x62 p t s → Does (.collNack p) s (collNackOp p { s with flight := s.flight.erase p })))

/-- What an endpoint does with a packet that it does not deliver (R266, R267, R277, R279, Table 8.7): a bad field or a bad
CRC counts; a packet already taken is acknowledged again and counts; one 1,024 or more ahead counts; an ordered one ahead
waits; one of a flow that the endpoint does not hold draws a reset unless it starts the flow. -/
def Sys2Proof.Spec.PacketsTurnedAway : Prop :=
  ∀ x ∈ flowRows, ∀ (p : Packet) (t : Nat) (s : State), mainOn s = true → pType p = x.2 → forUs s p = true → pDstTile p = t →
    (badType p = true → Does (x.1 p) s (countPort t 18 1 { s with flight := s.flight.erase p })) ∧
    (badType p = false → pCrc p ≠ pktCrc p → Does (x.1 p) s (countPort t 15 1 { s with flight := s.flight.erase p })) ∧
    (∀ f, Sound x.2 p t s → (getPort s t).network = [] → findRx (getPort s t) (rxKey p) = some f → pStart p = false →
      ((f.got.contains (pSeq p) = true ∨ serialDiff 24 (pSeq p) f.next < 0) → ∃ u, Does (x.1 p) s (sendAck t f (countPort t 16 1 u)) ∧
        u = modPort { s with flight := s.flight.erase p } t (fun q => setRx q f)) ∧
      (f.got.contains (pSeq p) = false → f.held.any (fun h => h.1 == pSeq p) = false → 1024 ≤ serialDiff 24 (pSeq p) f.next →
        Does (x.1 p) s (countPort t 17 1 (modPort { s with flight := s.flight.erase p } t (fun q => setRx q f)))) ∧
      (f.got.contains (pSeq p) = false → f.held.any (fun h => h.1 == pSeq p) = false → pMsgPkts p ≤ 1 → pOrdered p = true →
        0 < serialDiff 24 (pSeq p) f.next → serialDiff 24 (pSeq p) f.next < 1024 → reorderFlits (setRx (getPort s t) f) + pktFlits p ≤ 32768 →
        ∃ u f', Does (x.1 p) s u ∧ findRx (getPort u t) (rxKey p) = some f' ∧ f'.held = f.held ++ [(pSeq p, p)] ∧ f'.next = f.next)) ∧
    (Sound x.2 p t s → (getPort s t).network = [] → findRx (getPort s t) (rxKey p) = none → pStart p = false →
      Does (x.1 p) s (modPort (sendLoose t (mkAck s t (rxKey p) (pSeq p) true []) { s with flight := s.flight.erase p }) t
        (fun q => { q with network := [] })))

/-- RESIDENCY, RESIDENCY_REPLY and MANAGEMENT_REPLY (R23, R199, R207, R450, Table 6.10): the manager of a tile answers a request that
asks for more or fewer than 1 or 32 frames with REJECTED, gives the frame that a request names when it is free and a region can open on
it, and takes frames back; an answer that fails a transfer ends it with its code, and one that gives frames goes on with it; an answer
to a notice moves the stamp alone. Completion of residencyMsg, residencyReplyMsg and managementReplyMsg: exec answers the stated next
state when the packet comes in order. -/
def Sys2Proof.Spec.ManagerMessages : Prop :=
  (∀ (t n k fr : Nat) (p : Packet) (f : FlowRx) (s₀ s : State), s = taken p t f s₀ → t < 24 → Comes 0x38 p t f s₀ → n = fld p.w4 39 32 →
    k = ck (gTile p.w5.toNat) (gCore p.w5.toNat) → fr = gOff p.w5.toNat / 65536 →
    ((fld p.w3 63 56 = 1 ∨ fld p.w3 63 56 = 2) →
      (n ≠ 1 → n ≠ 32 → Does (.residencyMsg p) s₀ (followUp t (rxKey p) (sendMsg t (pSrcModule p) (pSrcTile p) 0x39 p.w3
        (pack [(56, codeNum .rejected), (32, n)]) 0 0 [] s))) ∧
      (n = 1 ∨ n = 32 → bit p.w4 56 = true → gTile p.w5.toNat = t → sliceUsable s k = true → frameFree s k fr = true →
        ∀ r key v, openOwned k fr n (markFrames k fr n 0 0 (fld p.w3 63 56 == 2) true s) = some (r, key, v) →
          Does (.residencyMsg p) s₀ (followUp t (rxKey p) (sendMsg t (pSrcModule p) (pSrcTile p) 0x39 p.w3 (pack [(56, codeNum .ok), (32, n)])
            (BitVec.ofNat 64 (gpaMake s.myModule (k / 64) (k % 64) 0 (fr * 65536))) (pack [(32, key), (0, r)]) [] v)))) ∧
    (∀ e, fld p.w3 63 56 = 3 → (getPort s t).regions.find? (fun e => e.1 == fld p.w6 13 0) = some e → bit e.2.1 56 = true →
      ∃ v, Does (.residencyMsg p) s₀ (followUp t (rxKey p) v) ∧ (getPort v t).regions = tdel (getPort s t).regions (fld p.w6 13 0) ∧
        ∀ q, q ∈ v.frames ↔ q ∈ s.frames ∧ ¬ (fkey (ck t (fld e.2.1 37 32)) (regBase e.2.2 / 512) ≤ q.1 ∧
          q.1 < fkey (ck t (fld e.2.1 37 32)) (regBase e.2.2 / 512 + regLines e.2.2 / 512)))) ∧
  (∀ (t : Nat) (p : Packet) (f : FlowRx) (s₀ s : State) (x : Xfer), s = taken p t f s₀ → t < 24 → Comes 0x39 p t f s₀ →
    (getRes s t).xfers.find? (fun x => x.id % 2 ^ 32 == fld p.w3 31 0 && x.phase == 1) = some x →
    (codeReceived (fld p.w4 63 56) ≠ .ok → Does (.residencyReplyMsg p) s₀ (followUp t (rxKey p) (abandon t x (codeReceived (fld p.w4 63 56))
      (receivedEvent t (fld p.w4 63 56) s)))) ∧
    (fld p.w4 63 56 = 0 → x.key = none → ∀ (y : Xfer) (v : State),
      y = { x with region := fld p.w6 13 0, new := ⟨gModule p.w5.toNat, gTile p.w5.toNat, gCore p.w5.toNat, gOff p.w5.toNat / 65536⟩ } →
      v = importEverywhere (gModule p.w5.toNat) (gTile p.w5.toNat) (gCore p.w5.toNat) (gOff p.w5.toNat / 65536) (fld p.w4 39 32) (fld p.w6 13 0)
        (fld p.w6 63 32) s →
      (x.kind ≠ .rebuild → Does (.residencyReplyMsg p) s₀ (followUp t (rxKey p) (setXfer t { y with phase := 4 } v))) ∧
      (x.kind = .rebuild → Does (.residencyReplyMsg p) s₀ (followUp t (rxKey p) (gather t { y with phase := 2 } v))))) ∧
  (∀ (p : Packet) (f : FlowRx) (s₀ : State), Comes 0x41 p 30 f s₀ → s₀.keeper.phase ≠ 9 → plField p.payload 2 1 < 16 →
    Does (.managementReplyMsg p) s₀ (followUp 30 (rxKey p) (stampSeen (plField p.payload 0x18 6) (taken p 30 f s₀))))

/-! ## Admission, dispatch and the admission commands -/

namespace Sys2Proof.Spec

/-- The requests of Table 7.3 as their payload spells them: OPEN's class, tin, slot, DEADLINE_US, and REQ_ID. -/
def rqClass (p : Packet) : Nat := plField (pBytes p) 1 1
def rqTin (p : Packet) : Nat := plField (pBytes p) 2 2 % 4096
def rqStream (p : Packet) : Nat := plField (pBytes p) 8 2
def rqSlot (p : Packet) : Nat := plField (pBytes p) 0xA 1
def rqDeadline (p : Packet) : Nat := plField (pBytes p) 0xC 4
def rqId (p : Packet) : Word := BitVec.ofNat 64 (plField (pBytes p) 0x20 8)

/-- The descriptor of an admission command with its OP (Table 7.14). -/
def admDesc (op : Nat) (d : CmdDesc) : CmdDesc := { d with w0 := setFld d.w0 63 56 op }

/-- An admission command that runs at once (R253, R254): nothing waits before it, its requester may issue it, and no
field that it does not use is set. -/
structure AdmRuns (op : Nat) (rq : Requester) (d : CmdDesc) (s : State) : Prop where
  on : mainOn s = true
  writer : rq ≠ .firmware
  empty : s.adm.queue = []
  loads : ∀ l ∈ s.keeper.loads, l.id ≠ s.nextId
  level : 4 ≤ op → op ≤ 7 → expertOk rq 3 s = true
  fields : admReserved (admDesc op d) = false

/-- An admission command has taken its number and completed: ADM_CMD_STATUS shows its tag and code. -/
def admEnded (s : State) (d : CmdDesc) (c : Code) : State :=
  ends .ok { s with nextId := s.nextId + 1, adm := { s.adm with
    statTag := BitVec.ofNat 16 (fld d.w0 15 0), statCode := c, statSeq := s.adm.statSeq + 1 } }

end Sys2Proof.Spec

/-- OPEN, STEP and CLOSE as they are delivered to tile 30 (R220–R224, R239, R242): a wrong TIN_KEY ends with KEY_FAULT; an
admitted OPEN makes the lowest free entry DUE and counts; a STEP of an open interactive stream makes it DUE at its
DEADLINE_US; a CLOSE of a stream without an outstanding step frees its entry, and one with it waits for its end. Each
draws its reply. Completion of openStream, stepStream and closeReq: exec answers the stated next state when the request's packet
comes in order. -/
def Obligations.StreamRequests : Prop :=
  ∀ (p : Packet) (f : FlowRx) (s₀ s : State) (x : Stream) (op : Nat), Comes 0x30 p 30 f s₀ → s = taken p 30 f s₀ → x = getStream s (rqStream p) →
    op = plField (pBytes p) 0 1 →
    (∀ c, tinCheck s (pBytes p) = some c →
      (op = 1 → Does (.openStream p) s₀ (followUp 30 (rxKey p) (admRefuse p c none s))) ∧
      (op = 2 → Does (.stepStream p) s₀ (followUp 30 (rxKey p) (admRefuse p c none s))) ∧
      (op = 3 → Does (.closeReq p) s₀ (followUp 30 (rxKey p) (admRefuse p c none s)))) ∧
    (rqTin p = 0 ∨ (getTin s (rqTin p)).state = .free ∨ plField (pBytes p) 4 4 ≠ (getTin s (rqTin p)).key.toNat →
      tinCheck s (pBytes p) = some .keyFault) ∧
    (op = 1 → tinCheck s (pBytes p) = none → openRejected s (pBytes p) = none → ∀ e, nextEntry s = some e →
      (rqClass p = 2 ∨ (rqClass p = 0 ∧ admits s ⟨rqSlot p, 0, rqDeadline p, rqTin p, cdiv (plField (pBytes p) 0x18 4) 512⟩ = true ∧
        promised s (rqTin p) ≠ [])) →
      ∃ u due, Does (.openStream p) s₀ (followUp 30 (rxKey p) (admReply (pSrcModule p) (pSrcTile p) 1 .ok e 0 (rqId p) due u)) ∧ (getStream u e).state = .due ∧
        (getStream u e).cls = rqClass p ∧ (getStream u e).tin = rqTin p ∧ (getStream u e).model = rqSlot p ∧ (getStream u e).dueUs = due ∧
        (getStream u e).deadlineUs = rqDeadline p ∧ (getTin u (rqTin p)).openStreams = (getTin s (rqTin p)).openStreams + 1 ∧
        (rqClass p = 0 → nowUs s + rqDeadline p ≤ due) ∧ (∀ f, f ≠ e → getStream u f = getStream s f)) ∧
    (tinCheck s (pBytes p) = none → reqReserved (pBytes p) = false → namesStream s (pBytes p) = true →
      (op = 2 → x.cls = 0 → x.state = .open_ → x.closeReq = [] → x.closeCmd = [] →
        Does (.stepStream p) s₀ (followUp 30 (rxKey p) (admReply (pSrcModule p) (pSrcTile p) 2 .ok (rqStream p) 0 (rqId p) (nowUs s + x.deadlineUs)
          (modStream s (rqStream p) (fun x => { x with state := .due, dueUs := nowUs s + x.deadlineUs }))))) ∧
      (op = 3 → x.state ≠ .open_ → Does (.closeReq p) s₀ (followUp 30 (rxKey p) (modStream s (rqStream p) (fun x => { x with
        closeReq := x.closeReq ++ [(pSrcModule p, pSrcTile p, rqId p)] })))) ∧
      (op = 3 → x.state = .open_ → x.cls = 2 → x.closeReq = [] → x.closeCmd = [] → x.tin = rqTin p → ∃ u due,
        Does (.closeReq p) s₀ (followUp 30 (rxKey p) (modTin { u with streams := tdel u.streams (rqStream p) } (rqTin p) (fun t => { t with
          openStreams := t.openStreams - 1, pinFor := if t.pinFor = some (rqStream p) then none else t.pinFor }))) ∧
        u = admReply (pSrcModule p) (pSrcTile p) 3 .ok (rqStream p) 0 (rqId p) due { modStream s (rqStream p)
          (fun x => { x with closeReq := [(pSrcModule p, pSrcTile p, rqId p)] }) with free := s.free + 1 }))

/-- BEAT_BOUNDARY, OPERATOR_START, JOB_END and TIN_DRAIN_TIMEOUT (R231, R232, R242, R244, R247, R252). Completion of beatBoundary,
operatorStart, jobEnd and tinDrainTimeout: a boundary releases one job of the slot's DUE streams, which run; a slot without
interactive streams has no beat; the dispatcher places the kernel of the first job that wants a free core whose slice takes
the argument block; the end of a job completes its step; and 1.5 s after a withdrawal began, the jobs with the tin end with
WITHDRAWN. -/
def Obligations.DispatchEvents : Prop :=
  (∀ (m : Fin 64) (s : State), mainOn s = true → (getModel s m.val).beat ≠ 0 →
    (interOf s none m.val = [] → Does (.beatBoundary m) s (modModel { s with now := max s.now (1000 * (getModel s m.val).beatEndUs) } m.val
      (fun x => { x with beat := 0, beatEndUs := 0, beatUsed := false }))) ∧
    (interOf s none m.val ≠ [] → dueStreams s m.val ≠ [] → ∃ u j, Does (.beatBoundary m) s u ∧ j ∈ u.jobs ∧ j.num = s.adm.nextJob ∧
      j.slot = m.val ∧ j.cls = 0 ∧ j.deadlineUs = some ((getModel s m.val).beatEndUs + slotBeat (interOf s none m.val)) ∧
      (∀ e, e ∈ j.positions.map (·.stream) ↔ e ∈ dueStreams s m.val) ∧ u.adm.nextJob = s.adm.nextJob + 1 ∧
      (∀ e ∈ dueStreams s m.val, (getStream u e).state = .running) ∧ (getModel u m.val).beatUsed = true)) ∧
  (∀ (t : Fin 24) (c : Fin 64) (s : State) (j : Job) (r : OpRun) (i : KernelImage) (bs : List Byte), mainOn s = true →
    (∀ c' : Fin 64, c' ≠ c → ∀ q ∈ s.jobs, jobWants (getCore s (ck t.val c'.val)) t.val c'.val q = false) →
    (jobOrder s t.val).find? (jobWants (getCore s (ck t.val c.val)) t.val c.val) = some j → (getCore s (ck t.val c.val)).kernel = none →
    (getCore s (ck t.val c.val)).saved = [] → (getCore s (ck t.val c.val)).resumeReq = none → (getCore s (ck t.val c.val)).withdrawn = false →
    runImage s j t.val = some (r, i) → savedOverlap (getCore s (ck t.val c.val)) i = false →
    sliceOut s (ck t.val c.val) = false → sliceEvac s (ck t.val c.val) = false → sliceTrains s (ck t.val c.val) = false →
    (getTile s t.val).hold = false →
    readTemplate s (getModel s j.slot).space ((runOp s j r).argVa + 96 * (64 * t.val + c.val)) = .ready bs →
    ∃ u k, Does (.operatorStart t) s u ∧ (getCore u (ck t.val c.val)).kernel = some k ∧ k.phase = .placed ∧ k.image = i ∧ k.job = j.num.toNat ∧
      k.pc = i.entry ∧ k.wide = r.wide ∧ k.p = 1 ∧ k.g = [] ∧ k.args.take bs.length = bs) ∧
  (∀ (num : BitVec 32) (s : State) (j : Job) (q : JobPos) (st : Stream), mainOn s = true → getJob s num.toNat = some j → jobOver j = true →
    j.cal = none → j.cls = 0 → j.positions = [q] → q.ends = false → st = getStream s q.stream → st.cls = 0 → st.tin = q.tin → (getTin s q.tin).state = .active →
    st.closeReq = [] → st.closeCmd = [] → s.now ≤ 1000 * st.dueUs → vaTrains s st.tin st.ioVa 48 = false →
    ∃ u, Does (.jobEnd num) s u ∧ (∀ x ∈ u.jobs, x.num ≠ num) ∧ (getStream u q.stream).state = .open_ ∧ (getStream u q.stream).step = st.step + 1 ∧
      (getStream u q.stream).lastCode = codeMerge st.merged (codeMerge (codeMerge (codeMergeAll j.codes) (if j.rerun then .wideRerun else .ok)) q.code) ∧
      (getTin u q.tin).windowSteps = (getTin s q.tin).windowSteps + 1) ∧
  (∀ (tin : BitVec 12) (s : State), mainOn s = true → (getTin s tin.toNat).state = .withdrawing →
    ∃ u, Does (.tinDrainTimeout tin) s u ∧ u.now = max s.now ((getTin s tin.toNat).withdrawAt + 1500000000) ∧
      ∀ j ∈ s.jobs, tin.toNat ∈ jobTins j → ∃ j' ∈ u.jobs, j'.num = j.num ∧ j'.killed = true)

/-- The admission commands (R219, R229, R230, R236, R237, R243, R252–R254, Table 7.15): each has the effect of its
operation and posts its tag with OK; REGISTER_KERNEL first pins its range, and an image that breaks no rule of R114 then
becomes runnable; MEASURE runs its job steps in the calibration tin, one after the other, once its clocks stand at the committed floor,
and then keeps the largest times;
WITHDRAW_TIN and CLOSE_STREAM wait for the drain or the outstanding step. Completion of admSetTin, admWithdrawTin,
admRegisterKernel, admUnloadModel, admLoadRow, measure, admUnpin and admCloseStream. (The times that MEASURE finds are its
operand, log entry 62; one registration of a space at a time, log entry 154.) -/
def Sys2Proof.Spec.CommandsOfAdmission : Prop :=
  ∀ (rq : Requester) (d : CmdDesc) (found : MeasureFound) (s : State),
    (AdmRuns 1 rq d s → aTin d ≠ 0 → (getSpace s (aTin d)).isSome = true → (∀ p ∈ s.models, p.2.state = 0 ∨ p.2.space ≠ aTin d) →
      fld d.w1 47 0 % 65536 = 0 → fld d.w1 47 0 < 2 ^ 38 → spaceGone s (aTin d) = false → (getTin s (aTin d)).openStreams = 0 →
      Does (.admSetTin rq d) s (admEnded (modTin s (aTin d) (fun x => { x with
        state := .active, wideAllow := fld d.w3 23 16, key := BitVec.ofNat 32 (fld d.w2 63 32), adapterVa := fld d.w1 47 0
        adapterPages := fld d.w2 31 0, maxStreams := fld d.w3 15 0 })) d .ok)) ∧
    (AdmRuns 2 rq d s → (getTin s (aTin d)).state = .active → ∃ u, Does (.admWithdrawTin rq d) s u ∧
      (getTin u (aTin d)).state = .withdrawing ∧ (getTin u (aTin d)).withdrawAt = s.now ∧ s.nextId ∈ (getTin u (aTin d)).withdrawCmd) ∧
    (AdmRuns 3 rq d s → (aTin d ≠ 0 ∨ rq = .keeper) → (getRes s (ownCore s / 64)).queue = [] → ∀ b, 2 ^ 48 ≥ fld d.w1 47 0 + 128 → readSpace s (aTin d) (fld d.w1 47 0) 128 = .ready b →
      128 ≤ (imageOf (aTin d) (fld d.w1 47 0) b).imageBytes → fld d.w1 47 0 + (imageOf (aTin d) (fld d.w1 47 0) b).imageBytes ≤ 2 ^ 48 →
      ∃ u c r, Does (.admRegisterKernel rq d) s (ends .ok u) ∧ u.adm.queue = [c] ∧ c.id = s.nextId ∧ c.stage = 1 ∧
        r ∈ (getRes u (ownCore s / 64)).queue ∧ r.admin = some (2 * s.nextId) ∧ rOp r.desc = 7 ∧
        (fld d.w1 47 0 + (imageOf (aTin d) (fld d.w1 47 0) b).imageBytes ≤ 2 ^ 47 → rSpace r.desc = aTin d)) ∧
    (∀ (c : AdmCmd) (b h : List Byte) (i : KernelImage), vaRead s (aTin c.desc) (fld c.desc.w1 47 0) 128 = some h →
      i = imageOf (aTin c.desc) (fld c.desc.w1 47 0) h → vaRead s (aTin c.desc) (fld c.desc.w1 47 0) i.imageBytes = some b →
      imageBad (isLoader c.who) i b = false → (∀ k ∈ s.kernels, k.space = aTin c.desc → k.kernelId ≠ i.kernelId) →
      (s.kernels.filter (fun k => k.space == aTin c.desc)).length < 1024 → vaTrains s (aTin c.desc) (fld c.desc.w1 47 0) 128 = false →
      vaTrains s (aTin c.desc) (fld c.desc.w1 47 0) i.imageBytes = false →
      ∀ v, v = vaSeen (ownCore s / 64) (aTin c.desc) (fld c.desc.w1 47 0) i.imageBytes s →
      registerEnd c .ok s = admFinish c.id .ok { v with kernels := s.kernels ++ [i] }) ∧
    (AdmRuns 5 rq d s → (getModel s (aModel d)).state ≠ 0 → (∀ p ∈ accepted s, p.2.model ≠ aModel d) → (∀ j ∈ s.jobs, j.slot ≠ aModel d) →
      Does (.admUnloadModel rq d) s (admEnded { s with models := tdel s.models (aModel d) } d .ok)) ∧
    (AdmRuns 6 rq d s → (getModel s (aModel d)).state = 1 → aRow d ≤ 9 → fld d.w1 63 32 ≤ fld d.w2 31 0 →
      Does (.admLoadRow rq d) s (admEnded (modModel s (aModel d) (fun x => { x with rows := tput x.rows (aRow d) { getRow x (aRow d) with
        stepNs := fld d.w1 63 32, rerunNs := fld d.w1 31 0, pinNs := fld d.w2 63 32, allWideNs := fld d.w2 31 0, missNs := fld d.w3 31 0
        loaded := true } })) d .ok)) ∧
    (AdmRuns 7 rq d s → (getModel s (aModel d)).state = 1 → aRow d ≤ 9 → fld d.w1 15 0 ≠ 0 → (getTin s (aTin d)).state = .active →
      groupPromised s (aModel d) = false → (∀ j ∈ s.jobs, ∀ q, j.cal = some q → q.1 ≠ s.nextId) →
      ∃ u, Does (.measure rq d found) s u ∧
        (∃ c, u.adm.queue = [c] ∧ c.id = s.nextId ∧ c.stage = 3 ∧ c.found = found ∧ c.ran = 0) ∧
        (getRow (getModel u (aModel d)) (aRow d)).measMhz = committedFloor s ∧
        (getRow (getModel u (aModel d)) (aRow d)).measStepNs = (if (getRow (getModel s (aModel d)) (aRow d)).measMhz = committedFloor s
          then (getRow (getModel s (aModel d)) (aRow d)).measStepNs else 0) ∧
        (calSteady s (aModel d) = false → u.jobs = s.jobs) ∧
        (calSteady s (aModel d) = true → ∃ j ∈ u.jobs, j.num = s.adm.nextJob ∧ j.slot = aModel d ∧ j.cls = (if aRow d = 9 then 1 else 0) ∧ j.cal = some (s.nextId, 0) ∧
          j.positions = List.replicate (if aRow d = 9 then 1 else 2 ^ aRow d) ⟨0, aTin d, .ok, false⟩)) ∧
    (∀ (num : BitVec 32) (j : Job) (c : AdmCmd) (n : Nat), mainOn s = true → getJob s num.toNat = some j → jobOver j = true → j.cal = some (c.id, n) →
      s.adm.queue.find? (fun x => x.id == c.id) = some c → (∀ x ∈ j.codes, x = .ok) → (∀ q ∈ j.positions, q.code = .ok) → j.rerun = false →
      (∀ x ∈ s.jobs, x.num ≠ num → ∀ q, x.cal = some q → q.1 ≠ c.id) → calSteady s (aModel c.desc) = true →
      (getTin s (aTin c.desc)).state = .active → ∃ u, Does (.jobEnd num) s u ∧ (∀ x ∈ u.jobs, x.num ≠ num ∨ (x.cal = some (c.id, c.ran + 1))) ∧
        (fld c.desc.w1 15 0 ≤ c.ran + 1 → u.adm.queue = s.adm.queue.filter (fun x => x.id != c.id) ∧
          u.adm.statTag = BitVec.ofNat 16 c.tag ∧ u.adm.statCode = .ok ∧
          (getModel u (aModel c.desc)).opMaxNs = max (getModel s (aModel c.desc)).opMaxNs c.found.opMaxNs ∧
          (getRow (getModel u (aModel c.desc)) (aRow c.desc)).measStepNs =
            max (getRow (getModel s (aModel c.desc)) (aRow c.desc)).measStepNs c.found.stepNs ∧
          (getRow (getModel u (aModel c.desc)) (aRow c.desc)).measRerunNs =
            max (getRow (getModel s (aModel c.desc)) (aRow c.desc)).measRerunNs c.found.rerunNs) ∧
        (c.ran + 1 < fld c.desc.w1 15 0 → ∃ x ∈ u.jobs, x.num = s.adm.nextJob ∧ x.cal = some (c.id, c.ran + 1) ∧ x.slot = aModel c.desc)) ∧
    (AdmRuns 8 rq d s → (getTin s (aTin d)).state ≠ .free → Does (.admUnpin rq d) s (admEnded (modTin s (aTin d) (fun x =>
      if bit d.w1 16 then { x with pins := [], pinAll := false } else { x with pins := x.pins.filter (· != fld d.w1 15 0) })) d .ok)) ∧
    (AdmRuns 9 rq d s → (getTin s (aTin d)).state = .active → (getStream s (fld d.w1 15 0)).tin = aTin d →
      ((getStream s (fld d.w1 15 0)).state = .due ∨ (getStream s (fld d.w1 15 0)).state = .running) →
      ∃ u, Does (.admCloseStream rq d) s (ends .ok u) ∧ (getStream u (fld d.w1 15 0)).closeCmd =
        (getStream s (fld d.w1 15 0)).closeCmd ++ [s.nextId] ∧ (getStream u (fld d.w1 15 0)).state = (getStream s (fld d.w1 15 0)).state)

/-- LOAD_MODEL (R229, Tables 7.7, 7.8): a plan that can be read and breaks no rule becomes the slot's model, with its serving
space, its mask and its operators. Completion of admLoadModel. -/
def Sys2Proof.Spec.LoadModel : Prop :=
  ∀ (rq : Requester) (d : CmdDesc) (s : State) (h b : List Byte), AdmRuns 4 rq d s →
    (∀ p ∈ accepted s, p.2.model ≠ aModel d) → (∀ j ∈ s.jobs, j.slot ≠ aModel d) →
    (getSpace s (fld d.w3 11 0)).isSome = true → (getTin s (fld d.w3 11 0)).state = .free → BitVec.ofNat 24 (fld d.w3 63 40) ≠ 0 →
    d.w1.toNat < 2 ^ 48 → d.w2.toNat % 65536 = 0 → (∀ t : Fin 24, bit (BitVec.ofNat 24 (fld d.w3 63 40)) t.val = true → (getTile s t.val).inService = true) →
    (∀ p ∈ s.models, p.2.state ≠ 0 → p.1 ≠ aModel d → p.2.mask = BitVec.ofNat 24 (fld d.w3 63 40) ∨ p.2.mask &&& BitVec.ofNat 24 (fld d.w3 63 40) = 0) →
    readSpace s (fld d.w3 11 0) d.w1.toNat 16 = .ready h → 1 ≤ plField h 4 2 → plField h 4 2 ≤ 1024 →
    ∀ v w, v = vaSeen (ownCore s / 64) (fld d.w3 11 0) d.w1.toNat 16 s →
    w = vaSeen (ownCore v / 64) (fld d.w3 11 0) d.w1.toNat (16 + 32 * plField h 4 2) v →
    readSpace v (fld d.w3 11 0) d.w1.toNat (16 + 32 * plField h 4 2) = .ready b → planBad s (fld d.w3 11 0) (BitVec.ofNat 24 (fld d.w3 63 40)) b = false →
    Does (.admLoadModel rq d) s (admEnded { w with models := tput s.models (aModel d) { modelInit with
      state := 1, space := fld d.w3 11 0, mask := BitVec.ofNat 24 (fld d.w3 63 40), planVa := d.w1.toNat, batchVa := d.w2.toNat
      ops := (upto (plField b 4 2)).map (fun i => planOpOf ((b.drop (16 + 32 * i)).take 32)), replyTile := plField b 6 1, replyCore := plField b 7 1 } } d .ok)

/-- ADM_CTRL_WRITE and DISP_CTRL_WRITE (R251, R253): a value that takes no group above its load is taken, and a reserved one ends with
REJECTED; DEEPEST_STATE changes unless it deepens with a stream promised; an admission command without the level it needs ends with
KEY_FAULT, one too many with RETRY_LATER, one that streams or its tin's state turn away with CONFLICT, WITHDRAWN or KEY_FAULT, and
one with a reserved field with REJECTED. Completion of admCtrlWrite and dispCtrlWrite:
exec answers the stated next state under these conditions alone. -/
def Obligations.AdmissionControls : Prop :=
  (∀ (rq : Requester) (v : BitVec 64) (s : State), Expert rq 3 s →
    (fld v 15 6 ≤ 500 → (∀ p ∈ s.streams, p.2.state = .free) → Does (.admCtrlWrite rq v) s
      (ends .ok { s with adm := { s.adm with ctrl := pack [(22, fld v 31 22), (18, fld v 21 18), (6, fld v 15 6), (0, fld v 0 0)] } })) ∧
    (500 < fld v 15 6 → (∀ p ∈ s.streams, p.2.state = .free) → Does (.admCtrlWrite rq v) s (ends .rejected s)) ∧
    (∀ t : Fin 24, (fld v 1 0 = 0 → Does (.dispCtrlWrite rq t v) s (ends .rejected s)) ∧
      (fld v 1 0 ≠ 0 → (fld v 1 0 ≤ fld (getTile s t.val).dispCtrl 1 0 ∨ ∀ p ∈ accepted s, 2 ≤ p.2.cls) →
        Does (.dispCtrlWrite rq t v) s (ends .ok (modTile s t.val (fun x => { x with dispCtrl := BitVec.ofNat 64 (fld v 1 0) })))))) ∧
  (∀ (rq : Requester) (d : CmdDesc) (found : MeasureFound) (s : State), mainOn s = true → rq ≠ .firmware →
    ∀ (c : Instr) (op : Nat), (c, op) ∈ [(Instr.admSetTin rq d, 1), (.admWithdrawTin rq d, 2), (.admRegisterKernel rq d, 3), (.admLoadModel rq d, 4),
      (.admUnloadModel rq d, 5), (.admLoadRow rq d, 6), (.measure rq d found, 7), (.admUnpin rq d, 8), (.admCloseStream rq d, 9)] →
    (64 ≤ s.adm.queue.length → (4 ≤ op → op ≤ 7 → expertOk rq 3 s = true) → (op = 3 → aTin d ≠ 0) → Does c s (ends .retryLater s)) ∧
    (4 ≤ op → op ≤ 7 → expertOk rq 3 s = false → Does c s (ends .keyFault s)) ∧
    (s.adm.queue = [] → (∀ l ∈ s.keeper.loads, l.id ≠ s.nextId) → (4 ≤ op → op ≤ 7 → expertOk rq 3 s = true) → (op = 3 → aTin d ≠ 0) →
      (∀ code, admEarlier (admDesc op d) s = some code → Does c s (admEnded s d code)) ∧
      (admEarlier (admDesc op d) s = none → admReserved (admDesc op d) = true → Does c s (admEnded s d .rejected))))

/-! ## Strands, engines, routes and flows -/

namespace Sys2Proof.Spec

/-- A lease of an activity on a scope instance is granted at once (R386). -/
def Grants (s : State) (act tile unit_ : Nat) : Prop := s.topo.leases.length < 256 ∧ leaseDecide s act tile unit_ = .grant

/-- The strand with the lease of its own activity (Table 11.9). -/
def strandHeld (s : State) (st : Nat) : State := leaseAdd 6 (servingTile (st / 8)) st (.strandWork st) 0 s

/-- The engine with the leases of its eight strands (R382). -/
def engineHeld (s : State) (e : Nat) : State :=
  (upto 8).foldl (fun s i => leaseAdd 6 (servingTile e) (8 * e + i) (.engineWork e) 0 s) s

/-- Every strand of an engine can be leased (R382). -/
def EngineGrants (s : State) (e : Nat) : Prop :=
  s.topo.leases.length ≤ 248 ∧ ∀ i, i < 8 → leaseDecide s 6 (servingTile e) (8 * e + i) = .grant

end Sys2Proof.Spec

/-- FEC_CODEWORD, LINK_CONTROL_FLIT, EGRESS_PACKET_END and STRAND_ERROR_RETRAIN (R260, R262, R263, R271, STRAND_STATUS): a
corrected codeword counts its symbols and its flits stand in the receive counts; a lost one is counted with its packets;
the partner's credits and XOFF levels are taken; the slots of a packet pass; above 1,000 lost codewords in a second the
strand retrains under its lease (R385), and again within a minute it fails with cause 3. Completion of fecCodeword, linkControlFlit, egressPacketEnd
and strandErrorRetrain. (The idle slots that pass with no packet in progress are the model's choice, log entry 69.) -/
def Sys2Proof.Spec.StrandTraffic : Prop :=
  ∀ (st : Fin 160) (s : State), mainOn s = true → strandLive s st.val = true →
    (∀ corrected flits, corrected ≤ 15 → ∃ x, Does (.fecCodeword st corrected flits none) s (countStrand st.val 0 corrected (putStrand s st.val x)) ∧
      x.sent = (getStrand s st.val).sent ∧ x.credit = (getStrand s st.val).credit ∧ x.state = (getStrand s st.val).state ∧
      (∀ vc : Nat, 2 ≤ vc → tget 0 x.recv vc % 65536 = (tget 0 (getStrand s st.val).recv vc +
        ((flits.filter (fun (f : FlitCount) => f.vc.val == vc && !f.pool)).map (·.n)).sum) % 65536)) ∧
    (∀ corrected flits lost, (lost ≠ none ∨ 15 < corrected) → Does (.fecCodeword st corrected flits lost) s (countStrand st.val 1 1
      (countStrand st.val 2 (lost.getD 0) (modStrand s st.val (fun x => { x with
        uncorr := x.uncorr.filter (fun t => decide (s.now < t + 1000000000)) ++ [s.now] }))))) ∧
    (∀ f, ∃ v, Does (.linkControlFlit st f) s (egressStart st.val v) ∧ (getStrand v st.val).xoffIn = f.flags.setWidth 3 ∧
      (getStrand v st.val).creditShared = f.retShared.toNat ∧ (getStrand v st.val).superframe = f.superframe ∧
      (∀ i, i < 14 → tget 0 (getStrand v st.val).credit (i + 2) = (f.ret.getD i 0).toNat) ∧ (getStrand v st.val).egress = (getStrand s st.val).egress) ∧
    (∀ p, (getStrand s st.val).sending = some p → Does (.egressPacketEnd st) s (egressStart st.val
      (putStrand s st.val { getStrand s st.val with sending := none, slots := (getStrand s st.val).slots + pktFlits p
                                                    tokens := circuitRefill s (pktFlits p) (getStrand s st.val).tokens }))) ∧
    ((getStrand s st.val).sending = none → Does (.egressPacketEnd st) s (egressStart st.val
      (putStrand s st.val { getStrand s st.val with slots := (getStrand s st.val).slots + 1024
                                                    tokens := circuitRefill s 1024 (getStrand s st.val).tokens }))) ∧
    (1000 < uncorrLast s st.val → (∀ l ∈ s.topo.leaseRetries, l.act ≠ .strandAuto st.val 0) →
      ((∀ at_, (getStrand s st.val).retrainedAt = some at_ → at_ + 60000000000 ≤ s.now) → Grants s 6 (servingTile (st.val / 8)) st.val →
        Does (.strandErrorRetrain st) s (modStrand (strandTrain st.val (leaseAdd 6 (servingTile (st.val / 8)) st.val (.strandAuto st.val 0) 0 s))
          st.val (fun x => { x with retrainedAt := some s.now, uncorr := [] }))) ∧
      (∀ at_, (getStrand s st.val).retrainedAt = some at_ → s.now < at_ + 60000000000 → Does (.strandErrorRetrain st) s (strandFail st.val 3 s)))

/-- STRAND_WITHDRAW, STRAND_ENABLE, STRAND_RETRAIN, STRAND_DRAIN_TIMEOUT and STRAND_TRAINED (R258, R381): each takes the
strand's lease; a withdrawal drains for 50 µs and then goes dark; an enabled or retrained strand trains where its engine's lasers are
lit, and stays dark, or withdrawn with its engine, where they are not (R361, R382, R384); training ends UP
on 16 wavelengths and DEGRADED on 8, and fails above 2,400 ns of round trip and on none; without the expert level of FABRIC a
write ends with KEY_FAULT. Completion of strandWithdraw, strandEnable, strandRetrain, strandDrainTimeout and strandTrained. -/
def Obligations.StrandControl : Prop :=
  ∀ (rq : Requester) (st : Fin 160) (s : State),
    (Expert rq 4 s → Grants s 6 (servingTile (st.val / 8)) st.val →
      ((getStrand s st.val).enable = true → Does (.strandWithdraw rq st) s (ends .ok (modStrand (strandLeave st.val .withdrawn (strandHeld s st.val)) st.val
        (fun x => { x with enable := false, drainAt := some (s.now + 50000) })))) ∧
      ((getStrand s st.val).enable = false → engineLit s (st.val / 8) = true → Does (.strandEnable rq st) s
        (ends .ok (modStrand (strandTrain st.val (strandHeld s st.val)) st.val (fun x => { x with enable := true, drainAt := none, cause := 0 })))) ∧
      ((getStrand s st.val).enable = false → engineLit s (st.val / 8) = false → Does (.strandEnable rq st) s
        (ends .ok (leaseRelease 6 (servingTile (st.val / 8)) st.val (modStrand (strandHeld s st.val) st.val (fun x => { x with
          enable := true, state := if (getEngine s (st.val / 8)).state = 3 then .withdrawn else .dark }))))) ∧
      ((getStrand s st.val).enable = true → engineLit s (st.val / 8) = true → Does (.strandRetrain rq st) s (ends .ok (modStrand (strandTrain st.val (strandHeld s st.val)) st.val
        (fun x => { x with cause := 0 }))))) ∧
    (Expert rq 4 s → engineLit s (st.val / 8) = false → Does (.strandRetrain rq st) s (ends .ok s)) ∧
    (mainOn s = true → expertOk rq 4 s = false → Does (.strandWithdraw rq st) s (ends .keyFault s) ∧ Does (.strandEnable rq st) s (ends .keyFault s) ∧
      Does (.strandRetrain rq st) s (ends .keyFault s)) ∧
    (mainOn s = true → ∀ due, (getStrand s st.val).drainAt = some due → Does (.strandDrainTimeout st) s (leaseRelease 6 (servingTile (st.val / 8)) st.val
      (modStrand { s with now := max s.now due } st.val (fun x => { x with drainAt := none, egress := [], sending := none, trained := false, helloDue := none })))) ∧
    (mainOn s = true → (getStrand s st.val).state = .training → (getStrand s st.val).trained = false → engineLit s (st.val / 8) = true → ∀ rt,
      (2400 < rt → Does (.strandTrained st rt) s (strandFail st.val 1 (leaseRelease 6 (servingTile (st.val / 8)) st.val s))) ∧
      (rt ≤ 2400 → engineWaves (getEngine s (st.val / 8)) = 0 →
        Does (.strandTrained st rt) s (strandFail st.val 2 (leaseRelease 6 (servingTile (st.val / 8)) st.val s))) ∧
      (rt ≤ 2400 → engineWaves (getEngine s (st.val / 8)) ≠ 0 → Does (.strandTrained st rt) s (egressStart st.val (rxLight (st.val / 8)
        (modStrand (leaseRelease 6 (servingTile (st.val / 8)) st.val s) st.val (fun x => { x with
          state := if engineWaves (getEngine s (st.val / 8)) = 0xFFFF then .up else .degraded, trained := true
          waves := engineWaves (getEngine s (st.val / 8)), cause := 0, helloDue := some s.now, helloMisses := 0, helloAnswered := true }))))))

/-- LASER_FAILURE, LASER_TAKEOVER_COMPLETE, ENGINE_WITHDRAW, ENGINE_ENABLE, ENGINE_RETRAIN and DIE_TO_DIE_LINK_DOWN (R257,
R264, R382): the first failed laser is taken over by the transmit spare, under the leases of the engine's strands; the
end of the takeover uses the spare up and gives the leases back; ENABLE 0 withdraws the engine with its strands, and
ENABLE 1 or RETRAIN train them, but an engine that was not admitted (R384) or that its profile leaves unused (R361) stays dark; a link between dies that goes down is shown at its ends and raises LINK_REDUCED at the tile
with the lower number (R8); no link crosses an outer edge. Completion of laserFailure, laserTakeoverComplete, engineWithdraw,
engineEnable, engineRetrain and dieToDieLinkDown. -/
def Obligations.EngineControl : Prop :=
  ∀ (rq : Requester) (e : Fin 20) (s : State),
    (mainOn s = true → ((getEngine s e.val).state = 1 ∨ (getEngine s e.val).state = 2) → (getEngine s e.val).failed = 0 →
      (getEngine s e.val).spareUsed = false → (getEngine s e.val).spareDead = false → (getEngine s e.val).takeover = false → EngineGrants s e.val → ∀ l : Fin 16,
      ∃ u, Does (.laserFailure e l) s u ∧ (getEngine u e.val).failed = BitVec.twoPow 16 l.val ∧ (getEngine u e.val).takeover = true ∧
        (getEngine u e.val).spareWave = l.val ∧ u.topo.leases = (engineHeld s e.val).topo.leases ∧ u.strands = s.strands) ∧
    (mainOn s = true → (getEngine s e.val).takeover = true → Does (.laserTakeoverComplete e) s ((engineStrands e.val).foldl (fun s st => egressStart st s)
      (engineRelease e.val (putEngine s e.val { getEngine s e.val with takeover := false, spareUsed := true })))) ∧
    (Expert rq 6 s → EngineGrants s e.val →
      ((getEngine s e.val).enable = true → ∃ u, Does (.engineWithdraw rq e) s (ends .ok u) ∧ (getEngine u e.val).state = 3 ∧
        (getEngine u e.val).enable = false ∧ ∀ i, i < 8 → (getStrand u (8 * e.val + i)).state = .withdrawn ∧
          (getStrand u (8 * e.val + i)).drainAt = some (s.now + 50000)) ∧
      ((getEngine s e.val).enable = false → engineServes s e.val = true → ∃ u, Does (.engineEnable rq e) s (ends .ok u) ∧ (getEngine u e.val).enable = true ∧
        (getEngine u e.val).state = (if engineWaves (getEngine s e.val) = 0xFFFF then 1 else 2) ∧
        ∀ i, i < 8 → (getStrand s (8 * e.val + i)).enable = true → (getStrand s (8 * e.val + i)).state ≠ .dark →
          (getStrand u (8 * e.val + i)).state = .training) ∧
      ((getEngine s e.val).enable = false → engineServes s e.val = false → Does (.engineEnable rq e) s (ends .ok (engineRelease e.val
        (putEngine (engineHeld s e.val) e.val { getEngine s e.val with enable := true, state := 0 })))) ∧
      ((getEngine s e.val).enable = true → (getEngine s e.val).state ≠ 0 → engineServes s e.val = true →
        ∃ u, Does (.engineRetrain rq e) s (ends .ok u) ∧
        ∀ i, i < 8 → (getStrand s (8 * e.val + i)).enable = true → (getStrand s (8 * e.val + i)).state ≠ .dark →
          (getStrand u (8 * e.val + i)).state = .training)) ∧
    (∀ (t : Fin 24) (edge : Fin 4), mainOn s = true →
      (∀ u f, linkOwner t.val edge.val = some (u, f) → linkDown s t.val edge.val = false →
        Does (.dieToDieLinkDown t edge) s (raise (mkEv 0x0503 clsFault 0 6 u 0 evW2 (pack [(62, 0), (60, f)]))
          (linkMark (fun m x => { x with d2dDown := m x.d2dDown }) t.val edge.val s))) ∧
      (linkOwner t.val edge.val = none → Does (.dieToDieLinkDown t edge) s s))

/-- The timers and acknowledgements of flows (R277, R278, R280): an ACK takes the packets that it covers out of the flow's
window; a packet that has waited 30 µs is sent again, and after four sends the flow is given up; an ACK that is due goes;
the state of a flow that has been idle long enough is dropped, and its next SEQ continues after the last one sent. Completion of
ackPacket, ackDelayExpire, retransmitTimeout and flowStateExpire. -/
def Sys2Proof.Spec.FlowTimers : Prop :=
  ∀ (t : Fin 25) (k : FlowKey) (s : State), mainOn s = true →
    (∀ (p : Packet) (f : FlowTx), Sound 0x7E p (portTile t) s → pGroupFlow p = false → bit p.w3 37 = false →
      findTx (getPort s (portTile t)) ⟨BitVec.ofNat 14 (pSrcModule p), BitVec.ofNat 5 (pSrcTile p), BitVec.ofNat 2 (fld p.w3 39 38), none⟩ = some f →
      (∀ x ∈ f.unacked, x.members = [pSrcModule p]) →
      Does (.ackPacket p) s (pump (portTile t) (modPort { s with flight := s.flight.erase p } (portTile t) (fun q => setTx q { f with
        unacked := f.unacked.filter (fun x => !ackCovers p.w3 p.w4 x.seq), lastUse := s.now })))) ∧
    (∀ (w3 w4 : Word) (n : Nat), fld w3 63 40 < 2 ^ 24 ∧ (0 < n → n < 2 ^ 23 → ackCovers w3 w4 ((fld w3 63 40 + 2 ^ 24 - n) % 2 ^ 24) = true) ∧
      (ackCovers w3 w4 (fld w3 63 40) = false) ∧ (0 < n → n ≤ 64 → ackCovers w3 w4 ((fld w3 63 40 + n) % 2 ^ 24) = bit w4 (n - 1))) ∧
    (∀ f due, findRx (getPort s (portTile t)) k = some f → f.ackDue = some due →
      Does (.ackDelayExpire t k) s (sendAck (portTile t) f { s with now := max s.now due })) ∧
    (∀ f x, findTx (getPort s (portTile t)) k = some f → f.unacked = [x] →
      (x.sends < 4 → Does (.retransmitTimeout t k) s (resend (portTile t) x
        (modPort { s with now := max s.now (x.lastNs + 30000) } (portTile t) (fun q => setTx q { f with
          unacked := [{ x with lastNs := max s.now (x.lastNs + 30000), sends := x.sends + 1 }] })))) ∧
      (4 ≤ x.sends → x.members ≠ [] → Does (.retransmitTimeout t k) s (pump (portTile t) (undeliverableEvent (portTile t) f x.seq
        (dropTx (portTile t) f (countPort (portTile t) 20 1 { s with
          now := max s.now (x.lastNs + 30000), failed := s.failed ++ [(portTile t, x.pkt, .timeout, x.members)] })))))) ∧
    (∀ f, findTx (getPort s (portTile t)) k = some f → f.unacked = [] →
      Does (.flowStateExpire t k true) s (pump (portTile t) (dropTx (portTile t) f { s with now := max s.now (f.lastUse + 500000) }))) ∧
    (∀ f, findRx (getPort s (portTile t)) k = some f → f.held = [] →
      Does (.flowStateExpire t k false) s (modPort { s with now := max s.now (f.lastDelivery + 1000000) } (portTile t)
        (fun q => { q with rx := q.rx.filter (fun x => x.key != k) })))

/-- ROUTE_SWAP, SWAP_DRAINED, GROUP_WITHDRAW, MCAST_DRAIN_TIMEOUT, CIRCUIT_ENTRY_WRITE and TRANSIT_PACKET (R285, R288, R291,
R293, R295, R296, R297): a VALID inactive bank of the next EPOCH holds every endpoint until nothing affected is outstanding, and
is then the active one; a second swap, and one under a lease that forbids it, ends RETRY_LATER; a withdrawn group is gone at once and its packets end with WITHDRAWN at its bound; a circuit
whose strand has the role of its route, and within the strand's rate, is written without its FAILED bit; a packet in transit for
this module goes on in phase 2, along the row first (R29). Completion of routeSwap, swapDrained, groupWithdraw, mcastDrainTimeout,
circuitEntryWrite and transitPacket. -/
def Obligations.Routing : Prop :=
  (∀ (rq : Requester) (s : State), Expert rq 4 s → s.routing.busy = true → Does (.routeSwap rq) s (ends .retryLater s)) ∧
  (∀ (rq : Requester) (s : State), Expert rq 4 s → s.routing.busy = false →
    (bankEpoch (bankSel s false) = (bankEpoch (bankSel s true) + 1) % 2 ^ 32 → bit (bankWord (bankSel s false) 0) 0 = true →
      (leaseDecide s 8 0 0 = .retry → Does (.routeSwap rq) s (ends .retryLater s)) ∧
      (Grants s 8 0 0 →
        ∃ u, Does (.routeSwap rq) s (ends .ok u) ∧ u.routing = { s.routing with busy := true } ∧ (∀ t ∈ endpoints, (getPort u t).hold = true))) ∧
    (bankEpoch (bankSel s false) ≠ (bankEpoch (bankSel s true) + 1) % 2 ^ 32 ∨ bit (bankWord (bankSel s false) 0) 0 = false →
      Does (.routeSwap rq) s (ends .rejected { s with routing := { s.routing with result := .rejected } }))) ∧
  (∀ (s : State), mainOn s = true → s.routing.busy = true → (∀ t ∈ endpoints, undrained s t = false) →
    ∃ u, Does .swapDrained s u ∧ u.routing = { s.routing with activeB := !s.routing.activeB, busy := false, result := .ok, gone := [] } ∧
      (∀ t ∈ endpoints, (getPort u t).hold = false)) ∧
  (∀ (rq : Requester) (g : BitVec 12) (s : State), Expert rq 4 s → s.routing.gwGroup = none → Does (.groupWithdraw rq g) s (ends .ok { s with
    routing := { s.routing with gwGroup := some g.toNat, gwAt := s.now + 128000, gone := addNew s.routing.gone g.toNat } })) ∧
  (∀ (g : Nat) (s : State), mainOn s = true → s.routing.gwGroup = some g → ∃ u, Does .mcastDrainTimeout s u ∧
    u.now = max s.now s.routing.gwAt ∧ u.routing = { s.routing with gwGroup := none, gwResult := .ok } ∧
    ∀ t ∈ endpoints, ∀ f ∈ (getPort u t).tx, f.key.group ≠ some (BitVec.ofNat 12 g)) ∧
  (∀ (rq : Requester) (t : Fin 24) (i : Fin 256) (v : BitVec 64) (s : State), Expert rq 4 s →
    fld v 61 60 ≠ 0 → fld v 59 58 ≠ 3 → fld v 57 50 < 160 → 1 ≤ fld v 16 12 → fld v 16 12 ≤ 16 →
    (strandRole (bankSel s true) (fld v 57 50)).1 = fld v 59 58 + 1 → (bit v 63 = false ∨ ∀ u : Fin 24, (getPort s u.val).circuits = []) →
    Does (.circuitEntryWrite rq t i v) s (ends .ok (modPort s t.val (fun p => { p with
      circuits := tset 0 p.circuits i.val (setFld (setFld v 62 62 0) 11 0 0) })))) ∧
  (∀ (st : Fin 160) (p q : Packet) (s : State), mainOn s = true → strandLive s st.val = true → pMcast p = false → pDstModule p = s.myModule →
    q = withRoute p (if pVc p = 1 then 1 else if pVc p % 2 = 0 ∧ 2 ≤ pVc p ∧ pVc p ≤ 7 then pVc p + 1 else pVc p) 0 (pInter p) →
    (pDstTile p = servingTile (st.val / 8) → Does (.transitPacket st p) s { s with flight := s.flight ++ [q] }) ∧
    (pDstTile p ≠ servingTile (st.val / 8) → Does (.transitPacket st p) s (modLane s
      (laneKey (servingTile (st.val / 8)) (nextEdge (servingTile (st.val / 8)) (pDstTile p))) (fun x => { x with out := x.out ++ [⟨q, [pDstTile p], none⟩] }))))

/-! ## Remote operations, bulk transfers and regions -/

namespace Sys2Proof.Spec

/-- The target of a request: the key of its core or slice, its space and its offset. -/
def tgKey (s : State) (p : Packet) : Nat := ck (gTile (reqTarget s p)) (gCore (reqTarget s p))
def tgSpace (s : State) (p : Packet) : Nat := gSpace (reqTarget s p)
def tgOff (s : State) (p : Packet) : Nat := gOff (reqTarget s p)

/-- A request that its home applies at once (Table 9.7): its flow has applied nothing at or after it (R313), a multicast store is
for this tile (R323), no row of the table refuses it, nothing waits before it, it need not wait, what it reads is good, and its
stack holds no writes. -/
structure HomeTakes (t : Nat) (p : Packet) (s : State) : Prop where
  tile : t < 24
  format : pFormat p = 1
  flow : ∃ f, findRx (getPort s t) (rxKey p) = some f ∧ ∀ a, f.applied = some a → 0 < serialDiff 24 (pSeq p) a
  served : homeRefusal t p s = none
  idle : (getPort s t).waits = []
  cache : (getPort s t).arc = []
  free : homeWaits p s = none
  mcast : pType p = 5 → gTile (reqTarget s p) = t
  good : (homeRead p s).2.1 = false
  open_ : (getTile s (gTile (reqTarget s p))).hold = false

/-- The memory of a state after a request's write: the bytes of the slices, and the cores, of `homeWrite`. -/
def Wrote (p : Packet) (bs : List Byte) (s v : State) : Prop :=
  (∀ k, (getSlice v k).data = (getSlice (homeWrite (tgKey s p) (tgSpace s p) (tgOff s p) bs s) k).data) ∧
  v.cores = (homeWrite (tgKey s p) (tgSpace s p) (tgOff s p) bs s).cores

/-- The answer of a request from its home, as a message to its source (Table 9.4). -/
def answered (t : Nat) (p : Packet) (type : Nat) (w6 : Word) (v : State) : State :=
  sendMsg t (pSrcModule p) (pSrcTile p) type 0 0 (pack [(32, 0), (0, pTxn p)]) w6 [] v

/-- The old value of a request's target and its operand, of its size (Tables 9.1, 9.2). -/
def oldValue (s : State) (p : Packet) : Nat := leNat (homeRead p s).1
def operandOf (p : Packet) : Nat := p.w6.toNat % 2 ^ (8 * reqSize p)

end Sys2Proof.Spec

/-- LOAD, STORE, MCAST_STORE, ATOMIC, REDUCE, MOVE_WRITE and MOVE_READ at their home (R308, R315, R323, Tables 9.1, 9.2, 9.7):
the bytes are read or written exactly at the target, and the answer goes to the source with OK; an atomic answers the old
value and keeps it for 200 µs; one that a row refuses changes no byte and answers its code. Completion of remLoad, remStore,
remMcastStore, remAtomic, remReduce, moveWriteMsg and moveReadMsg: exec answers the stated next state when the packet comes in
order and the home takes it. -/
def Sys2Proof.Spec.HomeOperations : Prop :=
  ∀ (t : Nat) (p : Packet) (f : FlowRx) (s₀ s : State), s = taken p t f s₀ →
    (HomeTakes t p s →
      (Comes 1 p t f s₀ → ∃ v, Does (.remLoad p) s₀ (followUp t (rxKey p) (answered t p 0x10 (BitVec.ofNat 64 (oldValue s p)) v)) ∧
        (∀ k, (getSlice v k).data = (getSlice s k).data) ∧ v.cores = s.cores) ∧
      (∀ x ∈ [(Instr.remStore, 2), (.remMcastStore, 5)], Comes x.2 p t f s₀ → ∃ v, Does (x.1 p) s₀ (followUp t (rxKey p)
          (answered t p 0x11 (BitVec.ofNat 64 s.myModule) v)) ∧
        Wrote p (leBytes (reqSize p) (operandOf p)) s v) ∧
      (∀ x ∈ [(Instr.remAtomic, 3), (.remReduce, 4)], Comes x.2 p t f s₀ → ∃ v, Does (x.1 p) s₀ (followUp t (rxKey p)
          (answered t p (if x.2 = 3 then 0x12 else 0x11) (if x.2 = 3 then BitVec.ofNat 64 (oldValue s p) else BitVec.ofNat 64 s.myModule) v)) ∧
        Wrote p (leBytes (reqSize p) (atomicNew (fld p.w4 17 12) (reqSize p) (oldValue s p) (operandOf p) (leNat ((pBytes p).take (reqSize p))))) s v ∧
        ∃ e ∈ (getPort v t).arc, arcMatch p e = true ∧ e.result = some (.ok, BitVec.ofNat 64 (oldValue s p), s.now + 200000)) ∧
      (Comes 0x20 p t f s₀ → (∀ m ∈ f.msgs, m.id ≠ pMsgId p) → ∃ v, Does (.moveWriteMsg p) s₀ (followUp t (rxKey p)
          (sendMsg t (pSrcModule p) (pSrcTile p) 0x23 0 0 (BitVec.ofNat 64 (pTxn p)) 0 [] v)) ∧
        Wrote p (pBytes p) s v) ∧
      (Comes 0x21 p t f s₀ → ∃ v, Does (.moveReadMsg p) s₀ (followUp t (rxKey p)
          (sendMsg t (pSrcModule p) (pSrcTile p) 0x22 0 0 (BitVec.ofNat 64 (pTxn p)) 0 (homeRead p s).1 v)) ∧
        (∀ k, (getSlice v k).data = (getSlice s k).data) ∧ v.cores = s.cores)) ∧
    (t < 24 → pFormat p = 1 → (∀ a, f.applied = some a → 0 < serialDiff 24 (pSeq p) a) → (pType p = 5 → gTile (reqTarget s p) = t) →
      ∀ x ∈ [(Instr.remLoad, 1), (.remStore, 2), (.remAtomic, 3), (.remReduce, 4), (.remMcastStore, 5)], Comes x.2 p t f s₀ →
      ∀ c, homeRefusal t p s = some c → ∃ v, Does (x.1 p) s₀ (followUp t (rxKey p) (homeReply t p c 0 v)) ∧ v.slices = s.slices ∧ v.cores = s.cores)

/-- The result of a read-modify-write (Table 9.2): sums wrap at the size, the logical operations act on every bit, the minima
and maxima compare as signed or unsigned numbers, SWAP writes the operand, and CAS writes it only over the compare value. -/
def Sys2Proof.Spec.AtomicOperations : Prop :=
  ∀ (n x y z : Nat), (n = 4 ∨ n = 8) → x < 2 ^ (8 * n) → y < 2 ^ (8 * n) →
    (∀ op ∈ [0, 1, 2, 3, 4, 5, 6, 7, 8, 9], atomicNew op n x y z < 2 ^ (8 * n)) ∧
    ((BitVec.ofNat (8 * n) (atomicNew 0 n x y z)) = BitVec.ofNat (8 * n) x + BitVec.ofNat (8 * n) y) ∧
    ((BitVec.ofNat (8 * n) (atomicNew 1 n x y z)) = BitVec.ofNat (8 * n) x &&& BitVec.ofNat (8 * n) y) ∧
    ((BitVec.ofNat (8 * n) (atomicNew 2 n x y z)) = BitVec.ofNat (8 * n) x ||| BitVec.ofNat (8 * n) y) ∧
    ((BitVec.ofNat (8 * n) (atomicNew 3 n x y z)) = BitVec.ofNat (8 * n) x ^^^ BitVec.ofNat (8 * n) y) ∧
    (BitVec.ofNat (8 * n) (atomicNew 4 n x y z)).toInt = min (BitVec.ofNat (8 * n) x).toInt (BitVec.ofNat (8 * n) y).toInt ∧
    (BitVec.ofNat (8 * n) (atomicNew 5 n x y z)).toInt = max (BitVec.ofNat (8 * n) x).toInt (BitVec.ofNat (8 * n) y).toInt ∧
    atomicNew 6 n x y z = min x y ∧ atomicNew 7 n x y z = max x y ∧ atomicNew 8 n x y z = y ∧ (x = z → atomicNew 9 n x y z = y) ∧
    (x ≠ z → atomicNew 9 n x y z = x)

/-- LOAD_REPLY, DONE, ATOMIC_REPLY, MOVE_DATA, MOVE_DONE and REMOTE_REPLY_TIMEOUT at the source (R97, R316, Table 9.9): the
transaction ends, its ticket with its code, and a load or an atomic writes its register, extended, or all ones and a
poison tag when it fails, as a constant fetched from another module does without a ticket (Table 6.4); bulk data wait in the move
until it completes (R97, R100); an answer that nothing waits for counts; 128 µs without an answer end a store with TIMEOUT, an atomic or reduction with UNKNOWN_OUTCOME and a load with
POISONED. Completion of loadReply, doneReply, atomicReply, moveDataMsg, moveDoneMsg and remoteReplyTimeout: exec answers the stated
next state when the packet comes in order for a transaction that waits for it. -/
def Sys2Proof.Spec.RemoteSource : Prop :=
  (∀ (t : Nat) (p : Packet) (f : FlowRx) (s₀ s : State), s = taken p t f s₀ → t < 24 →
    ∀ x ∈ [(Instr.loadReply, 0x10), (.doneReply, 0x11), (.atomicReply, 0x12)], Comes x.2 p t f s₀ →
    (findOp s t (pTxn p) = none → Does (x.1 p) s₀ (followUp t (rxKey p) (countTile t 33 1 s))) ∧
    (∀ o k, findOp s t (pTxn p) = some o → o.waitPage = none → pSrcModule p = o.module → pSrcTile p = o.tile →
      ((x.2 = 0x10 ∧ (o.kind = .const ∨ ∃ sg, o.kind = .load sg)) ∨ (x.2 = 0x12 ∧ ∃ op, o.kind = .atomic op) ∨
        (x.2 = 0x11 ∧ (o.kind = .store ∨ ∃ op, o.kind = .reduce op))) → (getCore s (ck t o.core)).kernel = some k →
      ∃ v, Does (x.1 p) s₀ (followUp t (rxKey p) v) ∧
        (o.kind = .const → (getCore v (ck t o.core)).kernel = some (opResult o (codeReceived (fld p.w5 39 32)) p.w6 k)) ∧
        (o.kind ≠ .const → (getCore v (ck t o.core)).kernel = some (ticketEnd (opResult o (codeReceived (fld p.w5 39 32)) p.w6 k) 3 o.ticket
          (codeReceived (fld p.w5 39 32)))) ∧
        (∀ y ∈ (getPort v t).ops, y.txn ≠ pTxn p))) ∧
  (∀ (o : RemOp) (v : Word) (k : Kernel), o.reg < 32 →
    ((o.kind = .load false ∨ o.kind = .const) → opResult o .ok v k = putG { k with gWait := k.gWait &&& ~~~(BitVec.twoPow 32 o.reg) } o.reg
      (BitVec.ofNat 64 (v.toNat % 2 ^ (8 * 2 ^ o.size))) false) ∧
    (o.kind = .load true → o.size = 0 → opResult o .ok v k = putG { k with gWait := k.gWait &&& ~~~(BitVec.twoPow 32 o.reg) } o.reg
      ((v.setWidth 8).signExtend 64) false) ∧
    (∀ c, c ≠ .ok → (o.kind = .const ∨ (∃ sg, o.kind = .load sg) ∨ ∃ op, o.kind = .atomic op) →
      opResult o c v k = putG { k with gWait := k.gWait &&& ~~~(BitVec.twoPow 32 o.reg) } o.reg (BitVec.allOnes 64) true)) ∧
  (∀ (t : Nat) (p : Packet) (f : FlowRx) (s₀ s : State) (o : RemOp) (ticket row : Nat) (m : MoveOp), s = taken p t f s₀ → t < 24 →
    Comes 0x22 p t f s₀ → findOp s t (pTxn p) = some o → o.kind = .moveRead ticket row → pSrcModule p = o.module → pSrcTile p = o.tile → fld p.w6 7 0 = 0 →
    (getCore s (ck t o.core)).moves.find? (fun x => x.ticket == ticket) = some m → m.todo = [] →
    ∃ v, Does (.moveDataMsg p) s₀ (followUp t (rxKey p) v) ∧ (getCore v (ck t o.core)).bench = (getCore s (ck t o.core)).bench ∧
      (getCore v (ck t o.core)).moves.find? (fun x => x.ticket == ticket) = some { m with
        await := m.await.filter (· != o.txn), code := codeMerge m.code .ok, parts := m.parts ++ [(row, (pBytes p).take o.size)] }) ∧
  (∀ (t : Nat) (p : Packet) (f : FlowRx) (s₀ s : State) (o : RemOp) (ticket row : Nat) (m : MoveOp), s = taken p t f s₀ → t < 24 →
    Comes 0x23 p t f s₀ → findOp s t (pTxn p) = some o → o.kind = .moveWrite ticket row → pSrcModule p = o.module → pSrcTile p = o.tile →
    (getCore s (ck t o.core)).moves.find? (fun x => x.ticket == ticket) = some m → m.todo = [] →
    ∃ v, Does (.moveDoneMsg p) s₀ (followUp t (rxKey p) v) ∧ (getCore v (ck t o.core)).moves.find? (fun x => x.ticket == ticket) = some { m with
      await := m.await.filter (· != o.txn), code := codeMerge m.code (codeReceived (fld p.w6 7 0)) }) ∧
  (∀ (t : Fin 24) (txn : BitVec 32) (s : State) (o : RemOp) (at_ : Nat), mainOn s = true → findOp s t.val txn.toNat = some o → o.sentNs = some at_ →
    o.waitPage = none → opAcked s t.val txn.toNat = true →
    (o.kind = .store → Does (.remoteReplyTimeout t txn) s (endOp t.val o .timeout 0 { s with now := max s.now (at_ + 128000) })) ∧
    ((∃ op, o.kind = .atomic op ∨ o.kind = .reduce op) →
      Does (.remoteReplyTimeout t txn) s (endOp t.val o .unknownOutcome 0 { s with now := max s.now (at_ + 128000) })) ∧
    ((o.kind = .const ∨ ∃ sg, o.kind = .load sg) → Does (.remoteReplyTimeout t txn) s (endOp t.val o .poisoned 0
      (targetDead t.val o.module o.tile { s with now := max s.now (at_ + 128000) }))))

/-- TARGET_WAIT_TIMEOUT, ARC_ENTRY_EXPIRE, LINE_BUFFER_WRITEBACK and LOCK_WAIT_TIMEOUT of a remote write (R68, R308, R315,
R320): 100 µs, or 32 µs for a lock, end the first waiting request with RETRY_LATER at its source; a result expires 200 µs
after it was kept; a line leaves its buffer 2 µs after its last operation. Completion of targetWaitTimeout, lockWaitTimeout,
arcEntryExpire and lineBufferWriteback. -/
def Sys2Proof.Spec.TargetTimers : Prop :=
  ∀ (t : Fin 24) (n : Fin 64) (s : State), mainOn s = true →
    (∀ w rest, (getPort s t.val).waits = w :: rest → Does (.targetWaitTimeout t) s (homeRefuse t.val w.pkt .retryLater (countTile t.val 30 1
      (modPort { s with now := max s.now (w.since + 100000) } t.val (fun p => { p with waits := rest }))))) ∧
    (∀ w, (getPort s t.val).waits.find? (fun w => w.why == 2 && gCore (fld w.pkt.w3 49 0) == n.val) = some w →
      Does (.lockWaitTimeout ⟨t, n⟩) s (homeRefuse t.val w.pkt .retryLater (countTile t.val 30 1
        (modPort { s with now := max s.now (w.whySince + 32000) } t.val (fun p => { p with waits := p.waits.erase w }))))) ∧
    (∀ e x, (getPort s t.val).arc = [e] → e.result = some x →
      Does (.arcEntryExpire t) s (modPort { s with now := max s.now x.2.2 } t.val (fun p => { p with arc := [] }))) ∧
    (∀ (line : BitVec 24) b, (getPort s t.val).lineBuffers.find? (fun b => b.1 == n.val && b.2.1 == line.toNat) = some b →
      Does (.lineBufferWriteback t n line) s (modPort { s with now := max s.now (b.2.2 + 2000) } t.val
        (fun p => { p with lineBuffers := p.lineBuffers.erase b })))

/-- The region commands (R309, R310, R326, Tables 9.5, 9.6, 9.8): OPEN makes a VALID entry and exports its frames; CLOSE marks it
CLOSING, and within 100 µs it is gone, the requests that wait on it end with RETRY_LATER, and its frames are no longer
exported; IMPORT and UNIMPORT set and clear an entry; without the expert level of FABRIC nothing changes. An OPEN over a frame
that moves waits in the queue, and what follows it with it (R196, R326, log entry 52). Completion of regionOpen, regionClose,
importEntry, unimportEntry and regionCloseComplete. -/
def Obligations.RegionCommands : Prop :=
  ∀ (rq : Requester) (t : Fin 24) (d : CmdDesc) (s : State),
    (mainOn s = true → expertOk rq 4 s = false → Does (.regionOpen rq t d) s (ends .keyFault s) ∧ Does (.regionClose rq t d) s (ends .keyFault s) ∧
      Does (.importEntry rq t d) s (ends .keyFault s) ∧ Does (.unimportEntry rq t d) s (ends .keyFault s)) ∧
    (Expert rq 4 s → (getPort s t.val).regionQueue.length < 16 →
      ((openWaits s t.val { d with w0 := setFld d.w0 63 56 1 } = true ∨ (regionNext s t.val).isSome = true) →
        Does (.regionOpen rq t d) s (ends .ok (modPort s t.val (fun p => { p with
          regionQueue := p.regionQueue ++ [⟨rgTag d, { d with w0 := setFld d.w0 63 56 1 }, 0⟩] }))))) ∧
    (Expert rq 4 s → (getPort s t.val).regionQueue.length < 16 → regionNext s t.val = none →
      (openWaits s t.val { d with w0 := setFld d.w0 63 56 1 } = false → bit d.w1 56 = false → openBad s t.val d = false → Does (.regionOpen rq t d) s (ends .ok (regionDone t.val (rgTag d) .ok
        (exportFrames (rgFrames t.val d.w1 d.w2) (modPort s t.val (fun p => { p with
          regions := tput p.regions (rgIndex d) (setFld (setFld d.w1 63 63 1) 62 62 0, d.w2) })))))) ∧
      (∀ w0 w1, tget ((0 : Word), (0 : Word)) (getPort s t.val).regions (rgIndex d) = (w0, w1) → bit w0 63 = true →
        (bit w0 56 = false → ∃ q, Does (.regionClose rq t d) s (ends .ok (modPort s t.val (fun p => { p with
          regions := tput p.regions (rgIndex d) (setFld w0 62 62 1, w1), regionQueue := p.regionQueue ++ [q] }))) ∧
          q.closeAt = s.now + 100000 ∧ q.tag = rgTag d) ∧
        (bit w0 56 = true → Does (.regionClose rq t d) s (ends .ok (regionDone t.val (rgTag d) .conflict s)))) ∧
      (rgIndex d < 1024 → bit d.w1 56 = false → rgReserved d true = false →
        bit (tget ((0 : Word), (0 : Word), (0 : Word)) (getPort s t.val).imports (rgIndex d)).1 63 = false →
        Does (.importEntry rq t d) s (ends .ok (regionDone t.val (rgTag d) .ok (modPort s t.val (fun p => { p with
          imports := tput p.imports (rgIndex d) (setFld d.w1 63 63 1, d.w2, d.w3) }))))) ∧
      (rgIndex d < 1024 → bit (tget ((0 : Word), (0 : Word), (0 : Word)) (getPort s t.val).imports (rgIndex d)).1 56 = false →
        Does (.unimportEntry rq t d) s (ends .ok (regionDone t.val (rgTag d) .ok (modPort s t.val (fun p => { p with
          imports := tdel p.imports (rgIndex d) })))))) ∧
    (mainOn s = true → ∀ (r : BitVec 14) q, (getPort s t.val).regionQueue = [q] → rgIndex q.desc = r.toNat → q.closeAt ≠ 0 →
      ∃ u, Does (.regionCloseComplete t r) s u ∧ u.now = max s.now q.closeAt ∧ tget ((0 : Word), (0 : Word)) (getPort u t.val).regions r.toNat = (0, 0) ∧
        (getPort u t.val).regTag = BitVec.ofNat 16 q.tag ∧ (getPort u t.val).regCode = .ok ∧ u.slices = s.slices ∧ u.cores = s.cores ∧
        (∀ w ∈ (getPort u t.val).waits, fld w.pkt.w4 31 18 = r.toNat → pSrcModule w.pkt = s.myModule ∨ isDirect w.pkt = true) ∧
        ∀ e, tget ((0 : Word), (0 : Word)) (getPort s t.val).regions r.toNat = e → (∀ x ∈ (getPort s t.val).regions, x.1 = r.toNat) →
          ∀ x ∈ u.frames, x.1 ∈ rgFrames t.val e.1 e.2 → x.2.exported = false)

/-! ## Collectives -/

namespace Sys2Proof.Spec

/-- The group entry that a write of `v` to word 3 of `x` makes with a member list (Table 10.1, R328): VALID set, the member
list read, and HASH over words 0–1 and the list. -/
def entryWritten (x : CollGroup) (v : Word) (members : List Nat) : CollGroup :=
  let h := cgHash (setFld x.w0 63 63 1) x.w1 members
  { x with w0 := setFld x.w0 63 63 1, w3 := setFld (setFld (setFld v 47 32 0) 31 0 0) 47 32 h, members := members, hash := h
           valid := true, failed := 0, failedAt0 := 0, failedAt1 := 0, closing := none, num0 := 0, num1 := 0, rounds := [] }

/-- An entry that breaks no rule of R328: a virtual channel of collectives, tiles in service, bounds that are not 0, and an
ascending, regular member list that contains this module. -/
structure EntryFits (s : State) (x : CollGroup) : Prop where
  vc : 8 ≤ cgVc x
  tiles : cgTiles x ≠ []
  served : ∀ t ∈ cgTiles x, (getTile s t).inService = true
  late : cgLateUs x ≠ 0
  wait : cgWaitUs x ≠ 0
  ascends : ascending x.members = true
  range : ∀ m ∈ x.members, m < 16384
  here : s.myModule ∈ x.members
  regular : cgRegular x = true

/-- The group, the kind and the origin that a crumb packet names (Tables 10.5, 10.6). -/
def pcGroup (p : Packet) : Nat := fld p.w3 63 54
def pcKind (p : Packet) : Nat := fld p.w3 43 43

/-- The input that a crumb packet carries. -/
def pcInput (p : Packet) : CrumbVal :=
  ⟨fld p.w3 34 21, fld p.w3 53 46, fld p.w3 45 44 + 1, (p.w6.setWidth 128) <<< 64 ||| p.w5.setWidth 128, fld p.w4 63 50⟩

/-- Round `num` of the packet's kind is in progress here: served, not after one that marked the group FAILED, and not ended. -/
structure RoundOpen (p : Packet) (s : State) (num : Nat) (r : CrumbRound) : Prop where
  served : cgServed (getColl s (pcGroup p)) = true
  hearth : pDstTile p = 30
  named : pktRound (getColl s (pcGroup p)) p = some num
  present : cgNum (getColl s (pcGroup p)) (pcKind p) ≤ num
  healthy : cgFailed (getColl s (pcGroup p)) (pcKind p) num = false
  round : findRound (getColl s (pcGroup p)) (pcKind p) num = some r
  going : r.ended = none

/-- From `s` to `u` the round has ended here with a code; where it was the one in progress, a later one of its kind is. -/
def RoundEnded (s u : State) (g kind num : Nat) (c : Code) : Prop :=
  (∃ r, findRound (getColl u g) kind num = some r ∧ r.ended = some c) ∧ (num = cgNum (getColl s g) kind → num < cgNum (getColl u g) kind)

end Sys2Proof.Spec

/-- GROUP_ENTRY_WRITE, GROUP_ENTRY_CLEAR, COLLECTIVE_DRAIN_TIMEOUT and SUSPECT_CLEAR (R328, R329, R342): a regular entry
whose slots are free becomes VALID with its member list and HASH; a served one refuses the write with CONFLICT; too few
slots answer RETRY_LATER; a cleared entry drains, and at 200 µs its operations and rounds are gone; cleared suspects and
their counts are forgotten. The write waits while the slice that holds the list trains (R167). (That HASH covers word 0 with VALID 1 is the model's reading,
log entry 78; what a list outside this module reads as is its choice, log entry 168.) Completion of groupEntryWrite, groupEntryClear, collectiveDrainTimeout and suspectClear. -/
def Obligations.CollectiveGroups : Prop :=
  (∀ (rq : Requester) (g : Fin 1024) (v : BitVec 64) (s : State) (x : CollGroup), x = getColl s g.val → Expert rq 5 s →
    (cgServed x = true → Does (.groupEntryWrite rq g v) s (ends .conflict s)) ∧
    (∀ bs w y, cgServed x = false → listTrains s rq (0x301000 + 32 * g.val + 24) = false → memberList x.w2.toNat (2 * (cgT x * cgU x * cgV x)) s = (bs, w) →
      y = entryWritten x v ((upto (cgT x * cgU x * cgV x)).map (fun i => leNat ((bs.drop (2 * i)).take 2))) → EntryFits w y →
      (4 * (cgT y * cgU y + cgV y) ≤ slotsFree w → Does (.groupEntryWrite rq g v) s (ends .ok (modColl g.val (fun _ => y) w))) ∧
      (slotsFree w < 4 * (cgT y * cgU y + cgV y) → Does (.groupEntryWrite rq g v) s (ends .retryLater w))) ∧
    (listTrains s rq (0x301000 + 32 * g.val + 24) = true → Does (.groupEntryWrite rq g v) s { s with keeper := { s.keeper with
      works := s.keeper.works ++ [⟨rq, [], [(ownAddr s 30 0 3 (0x301000 + 32 * g.val + 24), v)], 0, .ok, s.now⟩] } }) ∧
    (x.valid = true → Does (.groupEntryClear rq g) s (ends .ok (modColl g.val (fun x => { x with
      valid := false, w0 := setFld x.w0 63 63 0, closing := some s.now }) s)))) ∧
  (∀ (g : Fin 1024) (s : State) (t0 : Nat), mainOn s = true → (getColl s g.val).closing = some t0 → ∃ u, Does (.collectiveDrainTimeout g) s u ∧
    u.now = max s.now (t0 + 200000) ∧ (getColl u g.val).closing = none ∧ (getColl u g.val).rounds = [] ∧
    (getColl u g.val).valid = (getColl s g.val).valid ∧ u.coll.ops = s.coll.ops.filter (fun o => o.group != g.val)) ∧
  (∀ (rq : Requester) (w : Fin 256) (mask : BitVec 64) (s : State), mainOn s = true → rq ≠ .firmware → ∃ u, Does (.suspectClear rq w mask) s (ends .ok u) ∧
    (∀ m, m ∈ u.coll.suspects ↔ m ∈ s.coll.suspects ∧ ¬ (m / 64 = w.val ∧ bit mask (m % 64) = true)) ∧
    (∀ m, u.coll.late.count m = if m ∈ s.coll.suspects ∧ m / 64 = w.val ∧ bit mask (m % 64) = true then 0 else s.coll.late.count m))

/-- A crumb's arrivals and timers (R331, R335, R338–R340, CRUMB_NACK_TIMER, CRUMB_ROUND_TIMEOUT): a second input of one
origin is discarded; an input of a new origin joins its fold in order of arrival; one with another HASH ends the round
with MISMATCH and marks the group FAILED; an abort ends it with the code that it carries, or with MISMATCH where its HASH or
operation differs; a NACK asks the missing origin again, and the next is due NACK_US later; and WAIT_US after the module value
formed, the round ends with TIMEOUT and the group is FAILED; a NACK draws the value that it asks for. Completion of crumbRack,
crumbHall, crumbNack, crumbAbort, crumbNackTimer and crumbRoundTimeout: exec answers the stated next state for a sound packet of the
round in progress or the next one. -/
def Sys2Proof.Spec.CrumbRounds : Prop :=
  (∀ (p : Packet) (s₀ s : State) (num : Nat) (r : CrumbRound), s = { s₀ with flight := s₀.flight.erase p } → RoundOpen p s num r →
    (Sound 0x50 p 30 s₀ → r.rack.any (fun y => y.origin == (pcInput p).origin) = true → Does (.crumbRack p) s₀ s) ∧
    (Sound 0x51 p 30 s₀ → r.hall.any (fun y => y.origin == (pcInput p).origin) = true → Does (.crumbHall p) s₀ s) ∧
    (Sound 0x50 p 30 s₀ → r.rack.any (fun y => y.origin == (pcInput p).origin) = false → fld p.w3 20 5 = (getColl s (pcGroup p)).hash →
      (pcInput p).origin ∈ rackMembers (getColl s (pcGroup p)) (s.myModule / 64) → r.moduleVal.isSome = true → r.rackVal = none →
      r.rack.length + 1 < cgT (getColl s (pcGroup p)) * cgU (getColl s (pcGroup p)) →
      (∀ i ∈ r.ins, (i.op, i.lanes) = ((pcInput p).op, (pcInput p).lanes)) →
      (∀ y ∈ r.rack ++ r.hall, (y.op, y.lanes) = ((pcInput p).op, (pcInput p).lanes)) →
      Does (.crumbRack p) s₀ (modColl (pcGroup p) (putRound (nackDue s { r with rack := r.rack ++ [pcInput p] })) s)) ∧
    (Sound 0x51 p 30 s₀ → r.hall.any (fun y => y.origin == (pcInput p).origin) = false → fld p.w3 20 5 = (getColl s (pcGroup p)).hash →
      (pcInput p).origin ∈ memberRacks (getColl s (pcGroup p)) → r.moduleVal.isSome = true → r.rackVal.isSome = true →
      r.hall.length + 1 < cgV (getColl s (pcGroup p)) →
      (∀ i ∈ r.ins, (i.op, i.lanes) = ((pcInput p).op, (pcInput p).lanes)) →
      (∀ y ∈ r.rack ++ r.hall, (y.op, y.lanes) = ((pcInput p).op, (pcInput p).lanes)) →
      Does (.crumbHall p) s₀ (modColl (pcGroup p) (putRound (nackDueHall s { r with hall := r.hall ++ [pcInput p] })) s)) ∧
    (Sound 0x50 p 30 s₀ → r.rack.any (fun y => y.origin == (pcInput p).origin) = false → fld p.w3 20 5 ≠ (getColl s (pcGroup p)).hash →
      ∃ u, Does (.crumbRack p) s₀ u ∧ RoundEnded s u (pcGroup p) (pcKind p) num .mismatch ∧ bit (getColl u (pcGroup p)).failed (pcKind p) = true) ∧
    (Sound 0x52 p 30 s₀ → crumbDiffers (getColl s (pcGroup p)) r p = false →
      (pSrcModule p / 64 = s.myModule / 64 → (pcInput p).origin = s.myModule →
        Does (.crumbNack p) s₀ (sendValue (pcGroup p) (pcKind p) r false (pSrcModule p) s)) ∧
      (pSrcModule p / 64 ≠ s.myModule / 64 → (pcInput p).origin = s.myModule / 64 →
        Does (.crumbNack p) s₀ (sendValue (pcGroup p) (pcKind p) r true (pSrcModule p) s))) ∧
    (Sound 0x53 p 30 s₀ → ∃ u, Does (.crumbAbort p) s₀ u ∧ RoundEnded s u (pcGroup p) (pcKind p) num
      (if crumbDiffers (getColl s (pcGroup p)) r p = true then .mismatch else codeReceived (fld p.w4 49 42)))) ∧
  (∀ (g : Fin 1024) (kind : Fin 2) (s v : State) (r : CrumbRound) (due : Nat) (hall : Bool), mainOn s = true →
    nacksDue s (getColl s g.val) kind.val = [(due, r, hall)] → v = { s with now := max s.now due } →
    (∃ u q, Does (.crumbNackTimer g kind) s u ∧ u.now = max s.now due ∧ findRound (getColl u g.val) kind.val r.num = some q ∧
      (if hall then q.nackHall else q.nackAt) = some (u.now + 1000 * fld s.coll.ctrl 15 8)) ∧
    (∀ m, foldMissing s (getColl s g.val) r hall = [m] → Does (.crumbNackTimer g kind) s (countHearth 9 1 (crumbSend
      (crumbPkt v m.1 0x52 g.val kind.val ((roundShape r).getD (0, 1)).1 (((roundShape r).getD (0, 1)).2 - 1) r.num m.2 0 0 0)
      (modRound g.val kind.val r.num (fun r => if hall then { r with nackHall := some (nackNext v) } else { r with nackAt := some (nackNext v) }) v))))) ∧
  (∀ (g : Fin 1024) (kind : Fin 2) (s : State) (r : CrumbRound), mainOn s = true →
    findRound (getColl s g.val) kind.val (cgNum (getColl s g.val) kind.val) = some r →
    (r.moduleVal.isSome = true → r.ended = none → ∃ u, Does (.crumbRoundTimeout g kind) s u ∧
      u.now = max s.now (r.formed + 1000 * cgWaitUs (getColl s g.val)) ∧
      RoundEnded s u g.val kind.val (cgNum (getColl s g.val) kind.val) .timeout ∧ bit (getColl u g.val).failed kind.val = true ∧
      u.coll.failedGroup = g.val ∧ u.coll.failedValid = true))

/-- LATE_INPUT_TIMEOUT, LINK_STEP_END and LINK_ADDER_WITHDRAW (R24, R347, R350, R351, Table 10.10): in native mode an input that is
late ends the up phase and clears bit 1 of the status; the end of a step frees its operation and shows its tag and code in
LINK_STATUS; a withdrawn link adder abandons its operations with WITHDRAWN; and the second output mismatch of an adder within
3,600 s takes it out of service while RESIDUE_RETIRE is 1. (The mismatch is an operand of COLL_DATA, log entry 84.)
Completion of lateInputTimeout, linkStepEnd and linkAdderWithdraw. -/
def Sys2Proof.Spec.LinkAdderSteps : Prop :=
  (∀ (t : Fin 24) (g : Fin 1024) (s : State) (o : LinkOp), mainOn s = true → findLink s t.val g.val = some o →
    (o.phase = 1 → linkLacks s o o.xch ≠ [] → lDeadline o.desc = false → cgServed (getColl s g.val) = true → bit (getColl s g.val).failed 1 = false →
      ∃ u q, Does (.lateInputTimeout t g) s u ∧ u.now = max s.now (o.lateFrom + 1000 * cgLateUs (getColl s g.val)) ∧
        findLink u t.val g.val = some q ∧ q.phase = 2 ∧ q.status = o.status &&& ~~~2#7) ∧
    (o.phase = 4 → ∃ u, Does (.linkStepEnd t g) s u ∧ u.coll.ops = s.coll.ops.filter (fun q => !(q.tile == t.val && q.group == g.val)) ∧
      (o.ended = false → tget 0 u.coll.lastTag o.tile = BitVec.ofNat 16 (lTag o.desc) ∧
        (codeFailed o.code = true → tget .ok u.coll.lastCode o.tile = o.code) ∧
        (codeFailed o.code = false → tget .ok u.coll.lastCode o.tile = o.code ∨ tget .ok u.coll.lastCode o.tile = codeMerge o.code .saturated)))) ∧
  (∀ (rq : Requester) (t : Fin 24) (s : State), Expert rq 5 s → ∃ u, Does (.linkAdderWithdraw rq t) s (ends .ok u) ∧
    tget 3 u.coll.linkCtrl t.val = setFld (tget 3 s.coll.linkCtrl t.val) 0 0 0 ∧
    ((∃ o ∈ s.coll.ops, o.tile = t.val ∧ o.ended = false ∧ o.phase ≠ 5) → tget .ok u.coll.lastCode t.val = .withdrawn) ∧
    ((∀ o ∈ s.coll.ops, o.tile ≠ t.val) → u.coll = { s.coll with linkCtrl := u.coll.linkCtrl } ∧ u.cores = s.cores)) ∧
  (∀ (t gi b a : Nat) (s : State), bit (getTile s t).addersDown a = false →
    ((∃ x ∈ (getTile s t).adderMiss, x.1 = a ∧ s.now ≤ x.2 + 3600000000000) → bit (tget 3 s.coll.linkCtrl t) 1 = true →
      (getTile (adderMismatch t gi b a s) t).addersDown = (getTile s t).addersDown ||| BitVec.twoPow 7 a) ∧
    ((∀ x ∈ (getTile s t).adderMiss, x.1 = a → x.2 + 3600000000000 < s.now) → (getTile (adderMismatch t gi b a s) t).addersDown = (getTile s t).addersDown) ∧
    tget 0 (getTile (adderMismatch t gi b a s) t).adderMiss a = s.now)

/-- COLL_DATA, COLL_RAW and COLL_NACK at an operation that takes them (R349, R353, R356, Table 10.11): in the up phase a block whose
residue agrees joins the working block lane by lane, with its COUNT; raw words are written into the output; a NACK of the down phase draws its
blocks again. Completion of collData, collRaw and collNack: exec answers the stated next state for a sound packet of the operation's
STEP, REPEAT and DESC_HASH from a contributor of its group. (Which exchange and contributor a packet belongs to is the model's reading, log
entries 79 and 82.) -/
def Sys2Proof.Spec.LinkAdderData : Prop :=
  ∀ (t i from_ : Nat) (p : Packet) (s₀ s : State) (o : LinkOp), s = { s₀ with flight := s₀.flight.erase p } → t < 24 →
    collMatch t p s = some (o, i, from_) → hashDiffers s o p = false → collMember s o p = true →
    (∀ (st : Fin 160) (b : Nat) (lanes : List Word), Sound 0x60 p t s₀ → o.phase = 1 → lReduces o.desc = true → bit p.w3 43 = false → fld p.w4 7 5 = 0 → b = fld p.w4 31 8 →
      lanes = blockLanes (p.payload.take 512) → leNat ((p.payload.drop 512).take 2) = blockResidue lanes →
      (∃ q ∈ redIn (lOp o.desc == 2) (getColl s o.group) (linkMe s o) (lBlocks o.desc) false (fld p.w3 45 44, fld p.w3 42 35), q.1 = from_ ∧ q.2.1 ≤ b ∧ b < q.2.2) →
      (∀ r ∈ o.got, ¬ (r.xch = i ∧ r.from_ = from_ ∧ r.first = b)) →
      Does (.collData p ⟨st, none⟩) s₀ (modLink t o.group (fun o => { o with got := o.got ++ [⟨i, from_, b, 1, false⟩] })
        (modLink t o.group (fun o => { o with blk := tput o.blk b (tget 1 o.blk b + leNat ((p.payload.drop 528).take 3)) })
          (putWork o b (List.zipWith (· + ·) (workLanes s o b) lanes) (benchScan (linkKey o) (lWork o.desc + 512 * b) 512 s).2)))) ∧
    (∀ (key : Nat) (ws : List Word), Sound 0x61 p t s₀ → o.phase = 1 → lReduces o.desc = false → (inCounts o && bit p.w3 43) = false →
      i < (linkXchs (getColl s o.group) { o with phase := 1 }).length →
      ws = (upto ((pBytes p).length / 8)).map (fun k => BitVec.ofNat 64 (leNat (((pBytes p).drop (8 * k)).take 8))) →
      key = (if lGathers o.desc then fld p.w4 31 8 else slotKey s o from_ + fld p.w4 31 8) →
      (∀ r ∈ o.got, ¬ (r.xch = i ∧ r.from_ = from_ ∧ r.first = key)) →
      Does (.collRaw p) s₀ (rawPut o key ws (modLink t o.group (fun o => { o with got := o.got ++ [⟨i, from_, key, ws.length, false⟩] }) s))) ∧
    (Sound 0x62 p t s₀ → (o.phase = 3 ∨ o.phase = 4) → Does (.collNack p) s₀ (sendBlocks t o.group from_ (fld p.w3 45 44) 1 (fld p.w3 42 35) 8
      (fld p.w4 31 8) (fld p.w4 31 8 + fld p.w4 7 5 + 1) s))

/-! ## Topology, sparing and leases -/

namespace Sys2Proof.Spec

/-- A strand that exchanges HELLOs: trained, and neither withdrawn nor failed. -/
def Speaks (s : State) (st : Nat) : Prop :=
  (getStrand s st).trained = true ∧ (getStrand s st).state ≠ .withdrawn ∧ (getStrand s st).state ≠ .failed

/-- The rack plane replies that count for the module's coordinates (R367). -/
def rackReplies (s : State) : List (Nat × HelloRec) := (repliesOf s 2).filter (fun q => !kindWrong s q.1 q.2 && q.2.coordValid)

/-- A SPARE_CMD command that runs at once: the expert level, not BUSY, and its lease granted (R379, R391). -/
structure SpareRuns (rq : Requester) (act t g : Nat) (s : State) : Prop where
  expert : Expert rq 6 s
  idle : (getTile s t).spareBusy = false
  lease : Grants s act t g

end Sys2Proof.Spec

/-- HELLO, HELLO_TIMER, PEER_LOST and DISCOVERY_END (R364, R366–R369, Table 11.4): a request is answered with its sequence
number; a reply that contradicts the profile or the accepted coordinates withdraws the strand for 50 µs of drain; the
timer sends the next HELLO and counts a missed one; three misses in a row train the strand again; discovery ends with the
coordinates of the majority of the rack plane replies, or with the fallback number when none came. The withdrawal and the retraining
take the strand's lease (R385). (What a withdrawn strand keeps, the cadence of HELLO and the module number without coordinates are the
model's readings, log entries 71 and 90.) Completion of hello, helloTimer, peerLost and discoveryEnd. -/
def Obligations.HelloAndDiscovery : Prop :=
  (∀ (st : Fin 160) (p : Packet) (s v : State), mainOn s = true → Speaks s st.val → pType p = 0x70 → rxCheck (servingTile (st.val / 8)) p s = (true, v) →
    (bit p.w3 61 = false → Does (.hello st p) s (egressPush st.val (mkHello v st.val true (fld p.w4 63 32)) v)) ∧
    (bit p.w3 61 = true → s.topo.discovering = false → strandLive s st.val = true → laterWrong s st.val (helloRec p) = true →
      Grants s 6 (servingTile (st.val / 8)) st.val → (∀ l ∈ s.topo.leaseRetries, l.act ≠ .strandAuto st.val 2) → ∃ u, Does (.hello st p) s u ∧
      (getStrand u st.val).state = .withdrawn ∧ (getStrand u st.val).drainAt = some (s.now + 50000) ∧ tget (helloRec p) u.topo.replies st.val = helloRec p) ∧
    (bit p.w3 61 = true → s.topo.discovering = false → strandLive s st.val = true → (getStrand s st.val).helloValid = true →
      laterWrong s st.val (helloRec p) = false → fld p.w4 63 32 = (getStrand s st.val).helloSeq.toNat → ∃ u, Does (.hello st p) s u ∧
      (getStrand u st.val).state = (getStrand s st.val).state ∧ (getStrand u st.val).helloAnswered = true ∧ (getStrand u st.val).helloMisses = 0)) ∧
  (∀ (st : Fin 160) (s : State) (due : Nat), mainOn s = true → Speaks s st.val → (getStrand s st.val).helloDue = some due → ∃ u, Does (.helloTimer st) s u ∧
    u.now = max s.now due ∧ (getStrand u st.val).helloSeq = (getStrand s st.val).helloSeq + 1 ∧ (getStrand u st.val).helloAnswered = false ∧
    (getStrand u st.val).helloDue = some (due + if (getStrand s st.val).helloValid then 100000000 else 1000000) ∧
    (getStrand u st.val).helloMisses = (getStrand s st.val).helloMisses +
      (if (getStrand s st.val).helloValid = true ∧ (getStrand s st.val).helloAnswered = false then 1 else 0)) ∧
  (∀ (st : Fin 160) (s : State), mainOn s = true → strandLive s st.val = true → 3 ≤ (getStrand s st.val).helloMisses →
    Grants s 6 (servingTile (st.val / 8)) st.val → (∀ l ∈ s.topo.leaseRetries, l.act ≠ .strandAuto st.val 1) →
    ∃ u, Does (.peerLost st) s u ∧ (getStrand u st.val).state = .training ∧ (getStrand u st.val).trained = false) ∧
  (∀ (s : State), mainOn s = true → s.keeper.phase = 5 → s.topo.discovering = true → s.keeper.presets = [] →
    (rackReplies s = [] → ∃ u, Does .discoveryEnd s u ∧ u.keeper.phase = 7 ∧ u.myModule = s.keeper.fallback % 2 ^ 14 ∧ u.topo.reach = 1 ∧ u.topo.discovering = false) ∧
    (∀ r t l, rackReplies s ≠ [] → majority (rackReplies s) = some (r, t, l) → r ≤ 255 → ∃ u, Does .discoveryEnd s u ∧ u.keeper.phase = 7 ∧
      u.myModule = (64 * r + 4 * t + l) % 2 ^ 14 ∧ (u.topo.rack, u.topo.tray, u.topo.slot) = (r, t, l) ∧ u.topo.coordKnown = true ∧ u.topo.discovering = false ∧
      (u.topo.reach = 2 ∨ u.topo.reach = 3) ∧ u.routing.activeB = false ∧ bankEpoch u.routing.a = 1 ∧ bit (bankWord u.routing.a 0) 0 = true) ∧
    (rackReplies s ≠ [] → majority (rackReplies s) = none → ∃ u, Does .discoveryEnd s u ∧ u.keeper.phase = 9))

/-- RETIRE, RESTORE, SHIFT_COPY_COMPLETE, WITHDRAW_CORE, RETURN_CORE and CORE_DRAIN_TIMEOUT (R371, R372, R379, Tables 11.5,
11.6): under its lease a shift starts when the spare is free and is otherwise REJECTED; at the end of the copy the
position is retired or restored and BUSY clears with OK; a withdrawal lasts 2 ms, after which the kernel ends and the saved ones go; a core
returns with a bench of zeros. Completion of retire, restore, shiftCopyComplete, withdrawCore, returnCore and coreDrainTimeout. (RESULT OK at the start of a withdrawal, and REJECTED for the return of a core in service, are the model's reading, log entry 86.) -/
def Sys2Proof.Spec.SparingCommands : Prop :=
  ∀ (rq : Requester) (t : Fin 24) (g : Fin 4) (p : BitVec 6) (s : State),
    (SpareRuns rq 4 t.val g.val s → p.toNat < 16 → spareFree s t.val g.val = true → ∃ u, Does (.retire rq t g p) s (ends .ok u) ∧
      (getGroup u t.val g.val).shift = some ⟨3, p.toNat, false, true⟩ ∧ (getTile u t.val).spareBusy = true ∧
      (∃ l ∈ u.topo.leases, l.activity = 4 ∧ l.tile = t.val ∧ l.unit_ = g.val)) ∧
    (SpareRuns rq 4 t.val g.val s → p.toNat < 16 → spareFree s t.val g.val = false → ∃ u, Does (.retire rq t g p) s (ends .rejected u) ∧
      (getTile u t.val).spareBusy = false ∧ (getTile u t.val).spareResult = .rejected ∧ u.groups = s.groups) ∧
    (SpareRuns rq 4 t.val g.val s → p.toNat = 16 → (getGroup s t.val g.val).retiredPos = 16 → ∃ u, Does (.retire rq t g p) s (ends .ok u) ∧
      bit (getGroup u t.val g.val).off 16 = true ∧ (getTile u t.val).spareResult = .ok ∧ u.topo.sparingDirty = true) ∧
    (SpareRuns rq 4 t.val g.val s → p.toNat < 16 → (getGroup s t.val g.val).retiredPos = p.toNat → ∃ u, Does (.restore rq t g p) s (ends .ok u) ∧
      (getGroup u t.val g.val).shift = some ⟨4, p.toNat, true, true⟩ ∧ (getTile u t.val).spareBusy = true) ∧
    (SpareRuns rq 4 t.val g.val s → p.toNat = 16 → ∃ u, Does (.restore rq t g p) s (ends .ok u) ∧
      bit (getGroup u t.val g.val).off 16 = false ∧ (getTile u t.val).spareResult = .ok ∧ u.topo.sparingDirty = true) ∧
    (Expert rq 6 s → 16 < p.toNat → Does (.retire rq t g p) s (ends .rejected s) ∧ Does (.restore rq t g p) s (ends .rejected s)) ∧
    (mainOn s = true → expertOk rq 6 s = false → Does (.retire rq t g p) s (ends .keyFault s) ∧ Does (.restore rq t g p) s (ends .keyFault s)) ∧
    (mainOn s = true → (getGroup s t.val g.val).waking = none → (getGroup s t.val g.val).changing = false → ∀ h, (getGroup s t.val g.val).shift = some h →
      ∃ u, Does (.shiftCopyComplete t g) s u ∧ (getGroup u t.val g.val).shift = none ∧
        (getGroup u t.val g.val).retiredPos = (if h.restore then 16 else h.position) ∧
        (getGroup u t.val g.val).off = putBit (getGroup s t.val g.val).off h.position (!h.restore) ∧
        (∀ a, a < 2 → (getArray (getCore u (ck t.val (16 * g.val + h.position))) a).out = false) ∧
        (h.byCmd = true → (getTile u t.val).spareBusy = false ∧ (getTile u t.val).spareResult = .ok) ∧ u.topo.sparingDirty = true) ∧
    (∀ c : CoreRef, SpareRuns rq 5 c.tile.val (groupOf (coreKey c)) s →
      ((getCore s (coreKey c)).withdrawn = false → ∃ u, Does (.withdrawCore rq c) s (ends .ok u) ∧ (getTile u c.tile.val).spareResult = .ok ∧
        (getTile u c.tile.val).spareBusy = false ∧
        getCore u (coreKey c) = { getCore s (coreKey c) with withdrawn := true, withdrawBy := some (s.now + 2000000) }) ∧
      ((getCore s (coreKey c)).withdrawn = true → ∃ u, Does (.returnCore rq c) s (ends .ok u) ∧ (getTile u c.tile.val).spareResult = .ok ∧
        getCore u (coreKey c) = { getCore s (coreKey c) with bench := [], benchErr := [], benchDead := false, withdrawn := false, withdrawBy := none }) ∧
      ((getCore s (coreKey c)).withdrawn = false → ∃ u, Does (.returnCore rq c) s (ends .rejected u) ∧ u.cores = s.cores)) ∧
    (∀ (c : CoreRef) (due : Nat), mainOn s = true → (getCore s (coreKey c)).withdrawBy = some due → ∃ u, Does (.coreDrainTimeout c) s u ∧ u.now = max s.now due ∧
      (getCore u (coreKey c)).withdrawBy = none ∧ (getCore u (coreKey c)).saved = [] ∧ ∀ k, (getCore u (coreKey c)).kernel = some k → ∃ e, k.phase = .ending e)

/-- TEST_BAKE_COMPARE, TILE_OUT and SPARING_RECORD_RETRY (R374–R378, R385, R388, Table 11.11): a compared pass that agrees only
ends the bake; one that differs is logged with its tag, position, bins and array; one that the spare cannot keep up with is abandoned and
counted (R375); a tile that leaves service, under its lease, ends the streams of every slot that uses it; and the sparing record is written when the flash window allows, else tried again
60 s later. Completion of testBakeCompare, tileOut and sparingRecordRetry. -/
def Sys2Proof.Spec.BakesTilesRecord : Prop :=
  (∀ (t : Fin 24) (g : Fin 4) (s : State) (b : Bake), mainOn s = true → (getGroup s t.val g.val).bake = some b →
    Does (.testBakeCompare t g .agrees) s (putGroup s t.val g.val { getGroup s t.val g.val with bake := none }) ∧
    Does (.testBakeCompare t g .behind) s (countGroup t.val g.val 2 1 (putGroup s t.val g.val { getGroup s t.val g.val with bake := none })) ∧
    ∃ u, Does (.testBakeCompare t g .differs) s u ∧ (getGroup u t.val g.val).bake = none ∧ (getGroup u t.val g.val).bakeLog =
      pack [(48, b.tag), (31, 1), (26, posOf s (ck t.val b.core)), (21, b.tempBin), (19, b.utilBin), (18, b.array)]) ∧
  (∀ (t : Fin 24) (s : State), mainOn s = true → (getTile s t.val).inService = true → Grants s 7 t.val 0 →
    (∀ l ∈ s.topo.leaseRetries, l.act ≠ .tileWork t.val) → ∃ u, Does (.tileOut t) s u ∧ (getTile u t.val).inService = false ∧
    ((s.streams.map (·.1)).Nodup → ∀ m : Fin 64, (getModel s m.val).state = 1 → maskHas (getModel s m.val) t.val = true →
      ∀ q ∈ accepted u, q.2.model ≠ m.val)) ∧
  (∀ (s : State), mainOn s = true → s.topo.sparingDirty = true →
    (s.power.flashWindow = true → ∃ u, Does .sparingRecordRetry s u ∧ u.topo.sparingDirty = false ∧
      (u.keeper.flash.sparing0, u.keeper.flash.sparing1) = recordWrite (s.keeper.flash.sparing0, s.keeper.flash.sparing1) (sparingBody s)) ∧
    (s.power.flashWindow = false → Does .sparingRecordRetry s (countHearth 12 1 { s with
      now := max s.now s.topo.sparingRetry, topo := { s.topo with sparingRetry := max s.now s.topo.sparingRetry + 60000000000 } })))

/-- LEASE_GRANT, LEASE_WAIT_TIMEOUT, LEASE_RETRY and LEASE_EXPIRED (R385–R387): the first waiting request that nothing held
refuses is granted and runs; one that has waited 100 ms ends with CONFLICT, and an automatic one asks again 10 ms later;
a repeated request that is granted runs; an explicit lease ends at its time. Completion of leaseGrant, leaseWaitTimeout,
leaseRetry and leaseExpired. -/
def Obligations.LeaseEvents : Prop :=
  ∀ (s : State), mainOn s = true →
    (∀ l, s.topo.leases.length < 256 → s.topo.leaseWaits.find? (fun l => leaseDecide s l.activity l.tile l.unit_ == .grant) = some l → leaseExplicit l = false →
      Does .leaseGrant s (runAct l.act (leaseAdd l.activity l.tile l.unit_ l.act 0 { s with
        topo := { s.topo with leaseWaits := s.topo.leaseWaits.erase l } }))) ∧
    (∀ l r, s.topo.leaseWaits = l :: r → leaseExplicit l = false → ∃ u, Does .leaseWaitTimeout s u ∧ u.now = max s.now (l.time + 100000000) ∧
      u.topo.leaseWaits = r ∧ (∀ key ret, l.act = .coreState key ret → (getTile u (key / 64)).spareResult = .conflict ∧ (getTile u (key / 64)).spareBusy = false) ∧
      (actAuto l.act = true → u.topo.leaseRetries = s.topo.leaseRetries ++ [{ l with time := u.now + 10000000 }]) ∧
      (actAuto l.act = false → u.topo.leaseRetries = s.topo.leaseRetries)) ∧
    (∀ l r, s.topo.leaseRetries = l :: r → (∀ e, l.act ≠ .engineWork e) → s.topo.leases.length < 256 →
      (leaseDecide s l.activity l.tile l.unit_ = .grant → Does .leaseRetry s (runAct l.act (leaseAdd l.activity l.tile l.unit_ l.act 0 { s with
        now := max s.now l.time, topo := { s.topo with leaseRetries := r } }))) ∧
      (leaseDecide s l.activity l.tile l.unit_ = .conflict → ∃ u, Does .leaseRetry s u ∧ u.topo.leaseRetries =
        r ++ [⟨0, l.activity, leaseKind l.activity, l.tile, l.unit_, l.act, max s.now l.time + 10000000⟩])) ∧
    (∀ (i : BitVec 16) (l : Lease), s.topo.leases.find? (fun l => l.id == i.toNat && leaseExplicit l) = some l → ∃ u, Does (.leaseExpired i) s u ∧
      u.now = max s.now l.time ∧ u.topo.leases = s.topo.leases.filter (fun l => !(l.id == i.toNat && leaseExplicit l)))

/-! ## Power, clocks and temperature -/

namespace Sys2Proof.Spec

/-- The clock target that a round gives a tile (Table 12.5, R405, R407), from the state `s` before the round and the
readings and limits that `u` holds after it: EMERG_MHZ in an emergency; unchanged in the round that ends one; towards FLOOR_MHZ, down by
one step, during a MEASURE on the tile (Table 7.11); a step down above MAX_MHZ, and above FLOOR_MHZ while the diode or the input power is over its limit; FLOOR_MHZ from below; and a step
up while both leave room. -/
def governed (s u : State) (t : Nat) : Nat :=
  let c := (getGroup s t 0).target
  let hot := degC 90 ≤ (getTP u t).diode ∨ 10 * limitW u < u.power.inputMw100
  if tileEmergency u t = true then emergMhz u
  else if tileEmergency s t = true then c
  else if calibrating s t = true then (if floorMhz u < c then max (floorMhz u) (c - 50) else floorMhz u)
  else if maxMhz u < c then c - 50
  else if hot ∧ floorMhz u < c then c - 50
  else if c < floorMhz u ∧ ¬ hot then floorMhz u
  else if c < maxMhz u ∧ (getTP u t).diode ≤ degC 87 ∧ u.power.inputMw100 + 1000 ≤ 10 * limitW u then c + 50
  else c

/-- A group at rest that may nap: it runs, its clock does not change, nothing wakes or shifts it, its cores are quiet, and
its tile's DEEPEST_STATE allows Nap (R396, R397). -/
structure MayNap (s : State) (t g : Nat) : Prop where
  state : (getGroup s t g).pstate = .run ∨ (getGroup s t g).pstate = .idle
  steady : (getGroup s t g).changing = false
  awake : (getGroup s t g).waking = none
  unshifted : (getGroup s t g).shift = none
  quiet : groupQuiet s t g = true
  allowed : 2 ≤ fld (getTile s t).dispCtrl 1 0

end Sys2Proof.Spec

/-- HOUSEKEEPING_ROUND (R395, R400–R408, R410, Tables 12.4, 12.5, 12.9): the round's samples and limits are taken on the next
millisecond; each diode counts its invalid readings; a valid diode at 115 °C latches the shutdown, also while the tiles are off; a
reference counted outside 99–101 MHz is lost; and while the tiles run every tile's four groups take the clock of Table 12.5. Completion
of housekeepingRound. (That the round which ends an emergency leaves the clock is the model's reading, log entry 94; what a diode's invalid
readings stand at, and that the hearth's diode has neighbours, are too, log entries 96 and 97.) -/
def Obligations.HousekeepingRound : Prop :=
  ∀ (x : HkSample) (s : State), s.pins.powered = true → s.power.shutdown = false → s.keeper.counterDirty = false → s.keeper.phase ≠ 0 →
    ∃ u, Does (.housekeepingRound x) s u ∧ u.now = (s.now / 1000000 + 1) * 1000000 ∧
      u.power.round = s.now / 1000000 + 1 ∧ u.power.inputMw100 = hkVal x 58 ∧ u.power.input10mV = hkVal x 57 ∧
      ((∃ t, t < 24 ∧ diodeOk x t = true ∧ degC 115 ≤ hkSigned x t) → u.power.shutdown = true ∧ u.power.thermalTrip = true ∧ u.keeper.phase = 10) ∧
      (u.power.shutdown = false → u.power.inForce = s.power.govCtrl ∧
        (bit x.valid 63 = true → (hkVal x 63 < 9900 ∨ 10100 < hkVal x 63) →
          u.power.refLost = true ∧ (s.power.refLost = false → bit u.power.emerg 4 = true)) ∧
        ∀ t, t < 24 →
        (getTP u t).invalid = (if diodeOk x t then 0 else (getTP s t).invalid + 1) ∧
        (getTP u t).diode = diodeFor x t (getTP u t).invalid (getTP s t).diode ∧
        (mainOn s = true → (getGroup u t 0).target = governed s u t ∧
          ∀ g, g < 4 → (getGroup s t g).target = (getGroup s t 0).target → (getGroup u t g).target = governed s u t))

/-- NAP_ENTRY, SLEEP_ENTRY, GROUP_WAKE and WAKE_COMPLETE (R396–R399, Table 12.1): a group that has been quiet for NAP_AFTER_US enters Nap
where its tile allows it, and after SLEEP_AFTER_US of Nap Sleep, which keeps its benches; a wake takes 4 µs from Nap and 12 µs from Sleep, and the group then runs
at the clock set for its tile. Completion of napEntry, sleepEntry, groupWake and wakeComplete. -/
def Sys2Proof.Spec.LowPower : Prop :=
  ∀ (t : Fin 24) (g : Fin 4) (s : State), mainOn s = true →
    (MayNap s t.val g.val → ∀ at_ due, (getGroup s t.val g.val).idleFrom = some at_ → due = max s.now (at_ + 1000 * fld (getTP s t.val).stateCtrl 15 0) →
      Does (.napEntry t g) s (countGroup t.val g.val 3 1 (putGroup { s with now := due } t.val g.val { getGroup s t.val g.val with
        pstate := .nap, request := none, idleFrom := some due }))) ∧
    ((getGroup s t.val g.val).pstate = .nap → (getGroup s t.val g.val).waking = none → (getGroup s t.val g.val).shift = none →
      fld (getTile s t.val).dispCtrl 1 0 = 3 → ∀ at_, (getGroup s t.val g.val).idleFrom = some at_ →
      ∃ u, Does (.sleepEntry t g) s u ∧ (getGroup u t.val g.val).pstate = .sleep ∧ u.now = max s.now (at_ + 1000 * fld (getTP s t.val).stateCtrl 31 16) ∧
        ∀ r, (getCore u r).bench = (getCore s r).bench ∧ (getCore u r).scale = (getCore s r).scale ∧ (getCore u r).trackers = (getCore s r).trackers) ∧
    ((getGroup s t.val g.val).waking = none →
      ((getGroup s t.val g.val).pstate = .nap → Does (.groupWake t g) s (putGroup s t.val g.val { getGroup s t.val g.val with waking := some (s.now + 4000) })) ∧
      ((getGroup s t.val g.val).pstate = .sleep → Does (.groupWake t g) s (putGroup s t.val g.val { getGroup s t.val g.val with waking := some (s.now + 12000) }))) ∧
    (∀ due, (getGroup s t.val g.val).waking = some due → Does (.wakeComplete t g) s (putGroup { s with now := max s.now due } t.val g.val
      { getGroup s t.val g.val with pstate := .run, waking := none, mhz := (getGroup s t.val g.val).target, idleFrom := none }))

/-- EMERG_THROTTLE_ASSERT and DEASSERT, REFERENCE_LOST and RESTORED, and GOV_CTRL_WRITE (R395, R407, R409, Table 12.7): the pin and
a lost reference put every group of every tile at EMERG_MHZ; a pin that falls while the module is off or shut down is kept (Table 15.8); a
reference that has been back for 10 ms ends its condition, the pin's ends with a round; and GOV_CTRL takes clocks of 500–1,000 MHz in steps of 50 in their order and a limit of 600–2,400 W.
Completion of emergThrottleAssert, emergThrottleDeassert, referenceLost, referenceRestored and govCtrlWrite. -/
def Sys2Proof.Spec.ThrottleAndGovernor : Prop :=
  (∀ (s : State), s.pins.powered = true → s.power.shutdown = false →
    (∃ u, Does .emergThrottleAssert s u ∧ u.power.pinThrottle = true ∧ bit u.power.emerg 3 = true ∧
      (mainOn s = true → ∀ t g, t < 24 → g < 4 → (getGroup u t g).target = emergMhz s ∧ (getGroup u t g).emergency = true)) ∧
    (∀ f, s.power.refLost = false → ∃ u, Does (.referenceLost f) s u ∧ u.power.refLost = true ∧ bit u.power.emerg 4 = true ∧
      (mainOn s = true → ∀ t g, t < 24 → g < 4 → (getGroup u t g).target = emergMhz s ∧ (getGroup u t g).emergency = true)) ∧
    (s.keeper.waiting = none →
      (s.power.refLost = true → ∃ u, Does .referenceRestored s u ∧ u.power.refLost = false ∧ bit u.power.emerg 4 = false ∧ u.groups = s.groups ∧
        s.power.refSince + 10000000 ≤ u.now) ∧
      (s.power.refLost = false → Does .referenceRestored s s))) ∧
  (∀ (s : State), Does .emergThrottleDeassert s { s with power := { s.power with pinThrottle := false } } ∧
    ((s.pins.powered = false ∨ s.power.shutdown = true) → Does .emergThrottleAssert s { s with power := { s.power with pinThrottle := true } })) ∧
  (∀ (rq : Requester) (v : BitVec 64) (s : State),
    (mainOn s = true → expertOk rq 7 s = false → Does (.govCtrlWrite rq v) s (ends .keyFault s)) ∧
    (Expert rq 7 s →
      (mhzOk (fld v 31 22) = true → mhzOk (fld v 21 12) = true → mhzOk (fld v 11 2) = true → fld v 11 2 ≤ fld v 21 12 → fld v 21 12 ≤ fld v 31 22 →
        600 ≤ fld v 63 48 → fld v 63 48 ≤ 2400 → (fld s.power.govCtrl 21 12 ≤ fld v 21 12 ∨ floorConflict s (fld v 21 12) = false) →
        Does (.govCtrlWrite rq v) s (ends .ok { s with power := { s.power with govCtrl := v &&& 0xFFFF0000FFFFFFFC } })) ∧
      ((mhzOk (fld v 31 22) = false ∨ mhzOk (fld v 21 12) = false ∨ mhzOk (fld v 11 2) = false ∨ fld v 21 12 < fld v 11 2 ∨
        fld v 31 22 < fld v 21 12 ∨ fld v 63 48 < 600 ∨ 2400 < fld v 63 48) →
        (fld s.power.govCtrl 21 12 ≤ fld v 21 12 ∨ floorConflict s (fld v 21 12) = false) → Does (.govCtrlWrite rq v) s (ends .rejected s)) ∧
      (fld v 21 12 < fld s.power.govCtrl 21 12 → floorConflict s (fld v 21 12) = true →
        Does (.govCtrlWrite rq v) s (ends .conflict s))))

/-! ## Power and reset signals -/

namespace Sys2Proof.Spec

/-- The starter copy that a start-up chooses, and its PARAMETERS section (Tables 13.2, 13.5). -/
def chosenCopy (f : FlashImage) (b : Bool) : List Byte :=
  let l := if b then f.copyB else f.copyA
  flashTake (plField (flashTake 512 l) 0x0C 4) l
def chosenParameters (f : FlashImage) (b : Bool) : List Byte := (copySection (chosenCopy f b) 1).getD []

/-- The link-division profile of a PARAMETERS section. -/
def profileOf (b : List Byte) : List (BitVec 16) := (upto 20).map (fun i => BitVec.ofNat 16 (plField b (8 + 2 * i) 2))

/-- The module as RESET_RELEASE finds it: powered, not shut down, before step 1 of Table 13.7. -/
structure AtRest (s : State) : Prop where
  powered : s.pins.powered = true
  cold : s.power.shutdown = false
  phase : s.keeper.phase = 0

end Sys2Proof.Spec

/-- INPUT_POWER_RISE, INPUT_LOSS_STOP, RESET_ASSERT and RESET_RELEASE (R425, R426, R481, R484, Tables 13.7, 15.5, 15.8): from 38 V
the always-on domain has power, and takes an emergency-throttle input that is low as it stands, and above 65 V nothing is specified: the
model stops with the fault beyondRatings; a loss leaves only the one-time-programmable store and the flash; a reset keeps the event log, the key slots and the flash; and
a release runs the start-up sequence to the end of crust bring-up, or to hearth-only recovery or FAILED_START, and waits at
step 8 while a stack is outside its write window (R171). Completion of inputPowerRise (up to 65 V), inputLossStop, resetAssert and
resetRelease. -/
def Obligations.PowerAndReset : Prop :=
  (∀ (mv : Nat) (s : State), (65000 < mv → exec (.inputPowerRise mv) s = .fault .beyondRatings) ∧
    (mv < 38000 → exec (.inputPowerRise mv) s = .next s) ∧
    (mv ≤ 65000 → 38000 ≤ mv → s.pins.powered = false →
      (s.power.pinThrottle = false → exec (.inputPowerRise mv) s = .next { s with pins := { s.pins with powered := true } }) ∧
      (s.power.pinThrottle = true → ∃ u, exec (.inputPowerRise mv) s = .next u ∧ u.pins = { s.pins with powered := true } ∧ bit u.power.emerg 3 = true ∧
        u.pending = s.pending ∧ u.now = s.now))) ∧
  (∀ (s : State), s.pins.powered = true → ∃ u, exec .inputLossStop s = .next u ∧ u.pins.powered = false ∧ u.pending = s.pending ∧
    u.now = s.now ∧ u.keeper.phase = 0 ∧ u.keeper.flash = s.keeper.flash ∧ u.keeper.verify1 = s.keeper.verify1 ∧
    (∀ k, (getSlot u k).keys = (getSlot s k).keys ∧ (getSlot u k).bits = (getSlot s k).bits) ∧
    u.power.pinThrottle = s.power.pinThrottle ∧ u.cores = [] ∧ u.slices = [] ∧ u.log = State.reset.log) ∧
  (∀ (pin : ResetPin) (s : State), s.pins.powered = true → s.power.shutdown = false → s.keeper.phase ≠ 0 → ∃ u, exec (.resetAssert pin) s = .next u ∧
    u.pending = s.pending ∧ u.keeper.phase = 0 ∧ u.keeper.slots = s.keeper.slots ∧ u.keeper.flash = s.keeper.flash ∧ u.log = s.log ∧
    u.keeper.enables = [] ∧ u.cores = [] ∧ u.slices = [] ∧ u.pins = (match pin with
      | .resetN => { s.pins with resetN := false } | .pwrGood => { s.pins with pwrGood := false })) ∧
  (∀ (e : StartEnv) (s : State), AtRest s →
    (e.otpOk = false → ∃ u, exec (.resetRelease e) s = .next u ∧ u.keeper.phase = 9) ∧
    (e.otpOk = true → flashMeets e.sfdp = false → ∃ u, exec (.resetRelease e) s = .next u ∧ u.keeper.phase = 8) ∧
    (e.otpOk = true → flashMeets e.sfdp = true → copyChoose { s with keeper := { s.keeper with flash := e.flash.getD s.keeper.flash } } = none →
      ∃ u, exec (.resetRelease e) s = .next u ∧ u.keeper.phase = 8) ∧
    (∀ b, e.otpOk = true → flashMeets e.sfdp = true → copyChoose { s with keeper := { s.keeper with flash := e.flash.getD s.keeper.flash } } = some b →
      (profileValid (profileOf (chosenParameters (e.flash.getD s.keeper.flash) b)) = false → ∃ u, exec (.resetRelease e) s = .next u ∧ u.keeper.phase = 9) ∧
      (profileValid (profileOf (chosenParameters (e.flash.getD s.keeper.flash) b)) = true →
        ((e.refGood = false ∨ s.power.refLost = true) → ∃ u, exec (.resetRelease e) s = .next u ∧ u.keeper.phase = 2 ∧ u.keeper.waiting = some e) ∧
        (e.refGood = true → s.power.refLost = false → e.tileFail = [] → e.failedLanes = [] → (∀ t, t < 24 → (getTile s t).hold = false) →
          ∀ (t : Fin 24) (v : BitVec 16), e.stackTemp = [(t, v)] → (v.toInt < 0 ∨ 1600 < v.toInt) → ∃ u, exec (.resetRelease e) s = .next u ∧
          u.keeper.phase = 3 ∧ u.keeper.waiting = some e ∧ (getTile u t.val).hold = true) ∧
        (e.refGood = true → s.power.refLost = false → e.tileFail = [] → e.failedLanes = [] → e.stackTemp = [] →
          (∀ t, t < 24 → (getTile s t).hold = false ∧ (getTile s t).d2dDown = 0) → ∃ u, exec (.resetRelease e) s = .next u ∧ u.keeper.phase = 5 ∧
          u.keeper.copyB = b ∧ u.topo.discovering = true ∧ u.topo.profile = profileOf (chosenParameters (e.flash.getD s.keeper.flash) b) ∧
          u.pins.straps = (if s.pins.resetN then s.pins.straps else 2 * b2n e.addr1 + b2n e.addr0) ∧
          ∀ t, t < 24 → (getTile u t).inService = true ∧ (∀ g, g < 4 → (getGroup u t g).pstate = .run) ∧ (∀ n, n < 64 → (getSlice u (ck t n)).state = 1)))))

/-! ## The keeper's commands -/

namespace Sys2Proof.Spec

/-- The message of a command over the service port: its row's COMMAND and the bytes after it. -/
def portMsg (code : Nat) (b : List (BitVec 8)) : List Byte := leBytes 2 code ++ b.drop 2

/-- The state in which the keeper has taken a message in: an unread reply is gone, and C has taken the stamp (R429, R450). -/
def heard (m : List Byte) (s : State) : State :=
  stampSeen (plField m 0x18 6) { s with keeper := { s.keeper with port := { s.keeper.port with
    buffer := [], next := 0, reply := none, read := 0, acked := true } } }

/-- A well-formed basic command over the service port in a phase that allows it (R430, Table 13.12). -/
structure BasicRuns (code : Nat) (b : List (BitVec 8)) (s : State) : Prop where
  answers : portAnswers s = true
  formed : igMalformed (portMsg code b) (portMsg code b).length = false
  basic : igCritical (portMsg code b) = false
  phase : igPhaseOk s code = true

/-- A critical command over the service port that Table 13.13 accepts, and whose reservation, if it needs one, finds thermometer bits that
program (R440). -/
structure CriticalRuns (code : Nat) (b : List (BitVec 8)) (s : State) : Prop where
  answers : portAnswers s = true
  formed : igMalformed (portMsg code b) (portMsg code b).length = false
  critical : igCritical (portMsg code b) = true
  accepted : criticalRefusal (portMsg code b) (heard (portMsg code b) s) = none
  programs : thermometerFault (heard (portMsg code b) s) (plField (portMsg code b) 3 1) (plField (portMsg code b) 0x10 8) = none

/-- A well-formed critical command over the service port. -/
structure CriticalComes (code : Nat) (b : List (BitVec 8)) (s : State) : Prop where
  answers : portAnswers s = true
  formed : igMalformed (portMsg code b) (portMsg code b).length = false
  critical : igCritical (portMsg code b) = true

/-- The service port holds the reply to a message with a code and a body (Table 13.10): it repeats the message's COMMAND and
its bytes 8–15. -/
def Replied (u : State) (m : List Byte) (c : Code) (body : List Byte) : Prop :=
  u.lastCode = c ∧ ∃ r, u.keeper.port.reply = some r ∧ r.take 2 = m.take 2 ∧ (r.drop 2).take 1 = leBytes 1 (codeNum c) ∧
    (r.drop 8).take 8 = (m.drop 8).take 8 ∧ r.drop 48 = body

/-- The key that a ROLLOVER authorised by slot k carries (R445): its WRAPPED_KEY under the slot's key. -/
def rolledKey (k : Nat) (m : List Byte) (s : State) : List Byte :=
  (((m.drop 0x38).take 32).zip (hkdf256 (currentKey s k) ((m.drop 0x10).take 8)
    ("IGRIN-ROLLOVER".toList.map (fun c => BitVec.ofNat 8 c.toNat) ++ leBytes 1 (plField m 0x30 1)))).map (fun p => p.1 ^^^ p.2)

end Sys2Proof.Spec

/-- What turns a command away (R21, R430, R438–R440, Table 13.13): a critical command with CRITICAL 0 ends with KEY_FAULT, whatever else is
wrong with it; another malformed message with REJECTED; a critical command by a slot without a key, or with a wrong TAG, ends with KEY_FAULT and a wrong TAG counts a failure; by a locked slot, with
LOCKED_OUT; a basic command in a phase that does not allow it, with REJECTED. None changes the module otherwise. Over the
fabric the message of an ordered MANAGEMENT packet is taken in the same way. (The order of these checks beyond R21 is the model's reading, log
entry 103.) -/
def Obligations.CommandsTurnedAway : Prop :=
  ∀ (c : IgrinIn → Instr) (code : Nat), (c, code) ∈
    [(Instr.igIdentify, 0x01), (.igRegRead, 0x02), (.igRegWrite, 0x03), (.igLeaseTake, 0x10), (.igLeaseRelease, 0x11), (.igExpertEnable, 0x20),
      (.igExpertDisable, 0x21), (.igStarterBegin, 0x30), (.igStarterData, 0x31), (.igStarterCommit, 0x32), (.igSystemLoad, 0x40),
      (.igRollover, 0x50), (.igProvision, 0x51), (.igResetModule, 0x60)] →
  ∀ (b : List (BitVec 8)) (s : State) (m : List Byte) (k : Nat), m = portMsg code b → k = plField m 3 1 → portAnswers s = true →
    (igMalformed m m.length = true → (igIsCritical code = false ∨ igCritical m = true) → Does (c (.port b)) s (igReply .servicePort (igHeader m) .rejected none [] (heard m s))) ∧
    (igMalformed m m.length = false → igCritical m = false → igIsCritical code = false → igPhaseOk s code = false →
      Does (c (.port b)) s (igReply .servicePort (igHeader m) .rejected none [] (heard m s))) ∧
    (igCritical m = false → igIsCritical code = true →
      Does (c (.port b)) s (igReply .servicePort (igHeader m) .keyFault none [] (heard m s))) ∧
    (CriticalComes code b s →
      ((getSlot s k).keys = [] → Does (c (.port b)) s (igReply .servicePort (igHeader m) .keyFault none [] (heard m s))) ∧
      ((getSlot s k).keys ≠ [] → (getSlot s k).locked = true → Does (c (.port b)) s (igReply .servicePort (igHeader m) .lockedOut none [] (heard m s))) ∧
      ((getSlot s k).keys ≠ [] → (getSlot s k).locked = false → (getSlot s k).limited = none → slotMay s k m = true →
        igTag (currentKey s k) m ≠ (m.drop 0x20).take 16 →
        Does (c (.port b)) s (igReply .servicePort (igHeader m) .keyFault none [] (slotFail k (heard m s))))) ∧
    (∀ (p : Packet) (f : FlowRx), Comes 0x40 p 30 f s → igCode p.payload = code → s.keeper.phase ≠ 9 →
      Does (c (.packet p)) s (followUp 30 (rxKey p) (igPacketTake p (taken p 30 f s))))

/-- The basic commands (R435, R436, R433, R444, R446): IDENTIFY, REG_READ, REG_WRITE, LEASE_TAKE, LEASE_RELEASE, EXPERT_DISABLE,
STARTER_DATA, STARTER_COMMIT and PROVISION have their effect and reply with their code and body; a REG_READ that must
wait, for a shift (R34) or for the wake of its group (R398), waits; a LEASE_TAKE with a time out of range ends with REJECTED, but with
CONFLICT where a held lease forbids it too (R21). Completion of igIdentify, igRegRead, igRegWrite, igLeaseTake, igLeaseRelease, igExpertDisable,
igStarterData, igStarterCommit and igProvision. (Log entries 105 and 106 give the model's choices.) -/
def Obligations.BasicCommands : Prop :=
  ∀ (b : List (BitVec 8)) (s : State),
    (BasicRuns 0x01 b s → ∃ u, Does (.igIdentify (.port b)) s u ∧ Replied u (portMsg 1 b) .ok (leBytes 8 Config.deviceId.toNat ++
      leBytes 2 s.myModule ++ leBytes 1 s.keeper.phase ++ leBytes 1 0 ++ leBytes 4 s.keeper.starterSeq ++ (upto 24 ++ [30]).map Config.dieRevision ++
      List.replicate 7 0)) ∧
    (∀ m a, m = portMsg 2 b → a = plField m 0x38 8 → BasicRuns 0x02 b s → plField m 0x30 2 = 1 → igAddrOk s a = true →
      (∀ v t, pathRead (heard m s) .servicePort a = some (v, t) → ∃ u, Does (.igRegRead (.port b)) s u ∧
        Replied u m (codeMerge .ok t.lastCode) (leBytes 8 v.toNat)) ∧
      (pathRead (heard m s) .servicePort a = none → ∃ u, Does (.igRegRead (.port b)) s u ∧ u.keeper.port.reply = none ∧
        u.keeper.reads = s.keeper.reads ++ [⟨.servicePort, igHeader m, [a], [], .ok⟩])) ∧
    (∀ m a v t, m = portMsg 3 b → a = plField m 0x38 8 → v = plField m 0x40 8 → BasicRuns 0x03 b s → plField m 0x30 2 = 1 → igAddrOk s a = true →
      pathWrite (heard m s) .servicePort a (BitVec.ofNat 64 v) = some t → codeFailed t.lastCode = false → ∃ u, Does (.igRegWrite (.port b)) s u ∧
      Replied u m (codeMerge .ok t.lastCode) (leBytes 2 1)) ∧
    (∀ m act scope secs, m = portMsg 0x10 b → act = plField m 0x30 1 → scope = plField m 0x32 2 → secs = plField m 0x34 2 → BasicRuns 0x10 b s →
      scopeOk act scope = true → 1 ≤ secs → secs ≤ 600 → Grants s act (nbits scope 12 8) (nbits scope 7 0) → ∃ u h, Does (.igLeaseTake (.port b)) s u ∧
      Replied u m .ok (leBytes 2 s.topo.leaseNext) ∧ u.topo.leases = s.topo.leases ++ [⟨s.topo.leaseNext, act, leaseKind act, nbits scope 12 8, nbits scope 7 0,
        .explicit .servicePort h secs, s.now + 1000000000 * secs⟩]) ∧
    (∀ m act scope secs, m = portMsg 0x10 b → act = plField m 0x30 1 → scope = plField m 0x32 2 → secs = plField m 0x34 2 → BasicRuns 0x10 b s →
      scopeOk act scope = true → (secs = 0 ∨ 600 < secs) → ∃ u, Does (.igLeaseTake (.port b)) s u ∧ u.topo = s.topo ∧
      Replied u m (if leaseDecide s act (nbits scope 12 8) (nbits scope 7 0) = .conflict then .conflict else .rejected) []) ∧
    (∀ m l, m = portMsg 0x11 b → BasicRuns 0x11 b s → l ∈ s.topo.leases → leaseExplicit l = true → l.id = plField m 0x30 2 → ∃ u,
      Does (.igLeaseRelease (.port b)) s u ∧ Replied u m .ok [] ∧ u.topo.leases = s.topo.leases.filter (fun x => !(x.id == l.id && leaseExplicit x))) ∧
    (∀ m, m = portMsg 0x21 b → BasicRuns 0x21 b s → plField m 0x30 1 = 0xFF → ∃ u, Does (.igExpertDisable (.port b)) s u ∧ Replied u m .ok [] ∧
      u.keeper.enables = []) ∧
    (∀ m x, m = portMsg 0x31 b → BasicRuns 0x31 b s → s.keeper.session = some x → x.who = .servicePort → plField m 0x30 4 = x.written →
      x.written + plField m 0x34 2 ≤ x.bytes →
      (s.power.flashWindow = true → ∃ u, Does (.igStarterData (.port b)) s u ∧ Replied u m .ok [] ∧
        u.keeper.session = some { x with written := x.written + plField m 0x34 2, last := s.now } ∧
        (s.keeper.copyB = true → u.keeper.flash = { s.keeper.flash with copyA := starterPut s.keeper.flash.copyA x.written ((m.drop 0x38).take (plField m 0x34 2)) }) ∧
        (s.keeper.copyB = false → u.keeper.flash = { s.keeper.flash with copyB := starterPut s.keeper.flash.copyB x.written ((m.drop 0x38).take (plField m 0x34 2)) })) ∧
      (s.power.flashWindow = false → ∃ u, Does (.igStarterData (.port b)) s u ∧ Replied u m .retryLater [] ∧ u.keeper.flash = s.keeper.flash)) ∧
    (∀ m x c, m = portMsg 0x32 b → BasicRuns 0x32 b s → s.keeper.session = some x → x.who = .servicePort → c = (if s.keeper.copyB then s.keeper.flash.copyA else s.keeper.flash.copyB) →
      (x.written = x.bytes → copyValid s c = true → copySeq c = x.sequence → s.keeper.phase = 7 → ∃ u, Does (.igStarterCommit (.port b)) s u ∧
        Replied u m .ok [] ∧ u.keeper.session = none ∧ u.keeper.flash = s.keeper.flash) ∧
      ((x.written ≠ x.bytes ∨ copyValid s c = false ∨ copySeq c ≠ x.sequence) → ∃ u, Does (.igStarterCommit (.port b)) s u ∧ Replied u m .rejected [] ∧
        u.keeper.session = none)) ∧
    (∀ m, m = portMsg 0x51 b → BasicRuns 0x51 b s → (getSlot s 0).keys = [] → ((m.drop 0x30).take 32).all (· == 0) = false →
      ((m.drop 0x50).take 32).all (· == 0) = false → (m.drop 0x30).take 32 ≠ (m.drop 0x50).take 32 → ∃ u, Does (.igProvision (.port b)) s u ∧ Replied u m .ok [] ∧
      (getSlot u 0).keys = [(m.drop 0x30).take 32] ∧ (getSlot u 3).keys = [(m.drop 0x50).take 32] ∧
      (((m.drop 0x70).take 48).all (· == 0) = false → s.keeper.verify1 = none → u.keeper.verify1 = some ((m.drop 0x70).take 48)))

/-- The critical commands that Table 13.13 accepts, and the keeper's timers (R433, R437, R440, R445, R446): the counter becomes LAST of
its slot; EXPERT_ENABLE puts the lowest free enable in force; STARTER_BEGIN opens the session; SYSTEM_LOAD starts a
registration; ROLLOVER adds a key to its slot; a COUNTER of END locks its slot, also where that slot rolls over itself (R442); RESET_MODULE starts the module again; an enable, a session and a rate limit
end at their time. Completion of igExpertEnable, igStarterBegin, igSystemLoad, igRollover, igResetModule, expertEnableExpire,
starterSessionTimeout and rateLimitExpire. -/
def Obligations.CriticalCommands : Prop :=
  (∀ (b : List (BitVec 8)) (s : State),
    (∀ m i, m = portMsg 0x20 b → CriticalRuns 0x20 b s → plField m 0x30 2 < 1024 → 1 ≤ plField m 0x32 2 → plField m 0x32 2 ≤ 3600 → i < 4 →
      (∀ e ∈ s.keeper.enables, e.1 ≠ i) → (∀ j, j < i → ∃ e ∈ s.keeper.enables, e.1 = j) → ∃ u, Does (.igExpertEnable (.port b)) s u ∧ Replied u m .ok (leBytes 1 i) ∧
      u.keeper.enables = tput s.keeper.enables i ⟨.servicePort, BitVec.ofNat 16 (plField m 0x30 2), s.now + 1000000000 * plField m 0x32 2, plField m 3 1⟩ ∧
      (getSlot u (plField m 3 1)).last = plField m 0x10 8) ∧
    (∀ m, m = portMsg 0x30 b → CriticalRuns 0x30 b s → s.keeper.session = none → 736 ≤ plField m 0x30 4 → plField m 0x30 4 ≤ 33554432 →
      seqLater (plField m 0x34 4) s.keeper.starterSeq = true → (s.keeper.phase = 7 → Grants s 9 0 0) → ∃ u, Does (.igStarterBegin (.port b)) s u ∧
      Replied u m .ok [] ∧ u.keeper.session = some ⟨.servicePort, plField m 0x30 4, plField m 0x34 4, 0, s.now⟩) ∧
    (∀ m, m = portMsg 0x40 b → CriticalRuns 0x40 b s → plField m 0x30 8 < 2 ^ 47 → s.adm.queue.length < 64 → ∃ u, Does (.igSystemLoad (.port b)) s u ∧
      (∃ l ∈ u.keeper.loads, l.id = s.nextId ∧ l.who = .servicePort)) ∧
    (∀ m t, m = portMsg 0x50 b → CriticalRuns 0x50 b s → t = plField m 0x30 1 → (getSlot s t).keys.length < 8 →
      (rolledKey (plField m 3 1) m s).all (· == 0) = false → ∃ u, Does (.igRollover (.port b)) s u ∧ Replied u m .ok [] ∧
      (getSlot u t).keys = (getSlot s t).keys ++ [rolledKey (plField m 3 1) m s] ∧
      (plField m 0x10 8 = counterEnd → (getSlot u (plField m 3 1)).locked = true)) ∧
    (CriticalRuns 0x60 b s → (plField (portMsg 0x60 b) 0x30 1 = 0 → ∃ u, Does (.igResetModule (.port b)) s u ∧ u.keeper.phase = 0 ∧ u.cores = [] ∧
        Replied u (portMsg 0x60 b) .ok []) ∧
      (plField (portMsg 0x60 b) 0x30 1 = 1 → ∃ u, Does (.igResetModule (.port b)) s u ∧ u.keeper.phase = 8 ∧ u.cores = [] ∧ Replied u (portMsg 0x60 b) .ok []))) ∧
  (∀ (i : Fin 4) (s : State),
    (∀ e, s.keeper.enables.find? (fun p => p.1 == i.val) = some e → ∃ u, Does (.expertEnableExpire i) s u ∧ u.now = max s.now e.2.until_ ∧
      u.keeper.enables = s.keeper.enables.filter (fun p => p.1 != i.val)) ∧
    (∀ x, s.keeper.session = some x → ∃ u, Does .starterSessionTimeout s u ∧ u.now = max s.now (x.last + 60000000000) ∧ u.keeper.session = none ∧
      u.keeper.flash = s.keeper.flash) ∧
    (∀ t, (getSlot s i.val).limited = some t → Does (.rateLimitExpire i) s (modSlot { s with now := max s.now t } i.val (fun x => { x with limited := none }))))

/-! ## Service firmware, service port, events, registers, JTAG -/

namespace Sys2Proof.Spec

/-- The service firmware runs, and so can make requests (R417). -/
structure FirmwareRuns (s : State) : Prop where
  on : mainOn s = true
  running : s.keeper.fw.running = true

/-- The instructions that the 25 JTAG ports execute, the hearth's first: those loaded, and BYPASS for one that is not mandatory (R479, R480). -/
def jtagLoaded (chain : List JtagIns) : List JtagIns :=
  (upto 25).map (fun i => match chain.getD i .bypass with | .other _ => .bypass | x => x)

/-- The restarts that count at a time: those of the last 600 s and this one (R418). -/
def restartsAt (s : State) (now : Nat) : List Nat := s.keeper.fw.restarts.filter (fun t => decide (now < t + 600000000000)) ++ [now]

/-- The refusals that count at a time: those of the last second and this one. -/
def refusalsAt (s : State) : List Nat := s.keeper.fw.refusals.filter (fun t => decide (s.now < t + 1000000000)) ++ [s.now]

/-- The bench of a core that a register-path write reaches at once: the level of PASS AND BENCH, an aligned offset in the bench,
a core in service whose group runs and does not shift (R21, R398, R435). -/
structure BenchOpen (rq : Requester) (s : State) (r : CoreRef) (off : Nat) : Prop where
  expert : Expert rq 0 s
  writer : rq ≠ .firmware
  inside : off < 0x600000
  aligned : off % 8 = 0
  core : coreWithdrawnOrOff s (coreKey r) = false
  tile : (getTile s r.tile.val).inService = true
  still : inShift s (coreKey r) = false
  awake : groupAsleep s r.tile.val (r.core.val / 16) = false

end Sys2Proof.Spec

/-- READ_REGISTERS, READ_EVENTS, POST_EVENT, HEARTBEAT, HEARTBEAT_TIMEOUT and GUARD_VIOLATION (R398, R417, R418, R449): a request of running
firmware answers in the reply block, one with a reserved code with REJECTED; a read that must wait for the wake of a group waits, and no other
request is served meanwhile; a missed heartbeat restarts it, and the third restart within 600 s leaves it halted;
a refused access counts, and the 16th within a second restarts it. (The halt at the third restart and the positions of READ_EVENTS are the
model's readings, log entry 113.) Completion of readRegisters, readEvents, postEvent, heartbeat,
heartbeatTimeout and guardViolation. -/
def Obligations.FirmwareRequests : Prop :=
  ∀ (s : State), FirmwareRuns s →
    ((∀ w ∈ s.keeper.reads, w.who ≠ .firmware) →
    (∀ (code : BitVec 8) (l : List (BitVec 64)), (code ≠ 1 ∨ 32 < l.length) → Does (.readRegisters ⟨code, l⟩) s (fwAnswer .rejected [] s)) ∧
    (∀ a : BitVec 64, gModule a.toNat ≠ s.myModule → Does (.readRegisters ⟨1, [a]⟩) s (fwAnswer .rejected [0] (ends .rejected s))) ∧
    (∀ (a : BitVec 64) (v : Word) (t : State), gModule a.toNat = s.myModule →
      ((gSpace a.toNat = 1 ∧ (v, t) = regRead s .firmware a.toNat) ∨ (gSpace a.toNat ≠ 1 ∧ pathRead s .firmware a.toNat = some (v, t))) →
      Does (.readRegisters ⟨1, [a]⟩) s (fwAnswer (codeMerge .ok t.lastCode) [v] t)) ∧
    (∀ (a : BitVec 64) (t : State), gModule a.toNat = s.myModule → gSpace a.toNat ≠ 1 → pathRead s .firmware a.toNat = none → t = regWake a.toNat s →
      Does (.readRegisters ⟨1, [a]⟩) s { t with keeper := { t.keeper with reads := t.keeper.reads ++ [⟨.firmware, [], [a.toNat], [], .ok⟩] } }) ∧
    (∀ (pos : BitVec 32) (d : Int), d = serialDiff 32 s.log.seq.toNat pos.toNat →
      (0 < d → d ≤ 16384 → ∀ r, r = tget (⟨0, 0, 0, 0⟩ : LogRec) s.log.ring (pos.toNat % 16384) →
        Does (.readEvents pos 1) s (fwAnswer .ok [r.w0, r.w1, r.w2, r.w3] s)) ∧
      (¬ (0 < d ∧ d ≤ 16384) → Does (.readEvents pos 1) s (fwAnswer .ok [] s))) ∧
    (∀ w2 w3 : BitVec 64, Does (.postEvent w2 w3) s (fwAnswer .ok [] (raise { mkEv 0x0A08 clsNotice 0 7 30 0 w2 w3 with firmware := true } s))) ∧
    Does .heartbeat s (fwAnswer .ok [] (modFw s (fun f => { f with due := some (s.now + 2000000000) })))) ∧
    ((∃ w ∈ s.keeper.reads, w.who = .firmware) → ∀ (code : BitVec 8) (l : List (BitVec 64)) (pos : BitVec 32) (n : Fin 9) (w2 w3 : BitVec 64),
      Does (.readRegisters ⟨code, l⟩) s s ∧ Does (.readEvents pos n) s s ∧ Does (.postEvent w2 w3) s s ∧ Does .heartbeat s s) ∧
    (∀ d, s.keeper.fw.due = some d → ∃ u, Does .heartbeatTimeout s u ∧ u.now = max s.now d ∧ u.keeper.fw.restarts = restartsAt s u.now ∧
      (3 ≤ (restartsAt s u.now).length → u.keeper.fw.halted = true ∧ u.keeper.fw.running = false ∧ u.keeper.fw.memory = []) ∧
      ((restartsAt s u.now).length < 3 → ∀ b, copySection (runningCopy s) 2 = some b → u.keeper.fw.running = true ∧ u.keeper.fw.memory = b ∧
        u.keeper.fw.due = some (u.now + 6000000000))) ∧
    (∀ (core : Fin 4) (write : Bool) (a : BitVec 48),
      ((refusalsAt s).length < 16 → (∀ t, s.keeper.fw.guardEvent = some t → t + 1000000 ≤ s.now) → Does (.guardViolation core write a) s
        (raise (mkEv 0x0A04 clsNotice 0 7 30 0 evW2 (pack [(62, core.val), (61, b2n write), (0, a.toNat)])) (modFw (countHearth 13 1
          (modFw s (fun f => { f with refusals := refusalsAt s }))) (fun f => { f with guardEvent := some s.now })))) ∧
      ((refusalsAt s).length < 16 → (∃ t, s.keeper.fw.guardEvent = some t ∧ s.now < t + 1000000) → Does (.guardViolation core write a) s
        (countHearth 13 1 (modFw s (fun f => { f with refusals := refusalsAt s })))) ∧
      (16 ≤ (refusalsAt s).length → ∃ u, Does (.guardViolation core write a) s u ∧ u.keeper.fw.restarts = restartsAt s s.now ∧ u.keeper.fw.refusals = []))

/-- The transactions of the service port and the instructions of its JTAG ports (R429, R475, R479, R480, Table 15.6): STATUS
shows REPLY_READY and BUSY; REPLY_READ gives the next fragment of at most 240 bytes; an alert draws the module's address; a
block write with a wrong PEC is not acknowledged, a fragment out of order discards the message, and the LAST one hands it
to the keeper; before step 2 of the start-up nothing is acknowledged (R475). The 25 ports, the hearth's first, load an instruction each,
those that IEEE 1149.1 makes mandatory, and BYPASS for any other code without the DEBUG enable; IDCODE shifts out the codes, the tile nearest
to JTAG_TDO first; SAMPLE/PRELOAD and EXTEST hold the shifted levels of the connector's pins, which EXTEST drives while RESET_N is low; with the
DEBUG enable the manual gives another code no effect, and the model refuses it by name (log entries 114, 115 and 116 give the model's
choices). Completion of smbusStatusRead, smbusReplyRead, smbusAlertResponse, smbusBlockWrite and jtagInstruction. -/
def Obligations.ServiceConnector : Prop :=
  (∀ (s : State), portAnswers s = true →
    Does .smbusStatusRead s (modSmb s (fun p => { p with acked := true, out := [BitVec.ofNat 8 (b2n p.reply.isSome + 2 * b2n (portBusy s))] })) ∧
    (∀ b, s.keeper.port.reply = some b → Does .smbusReplyRead s (modSmb s (fun p => { p with
      acked := true
      out := BitVec.ofNat 8 (128 * b2n (decide (b.length ≤ 240 * (p.read + 1))) + p.read) :: (b.drop (240 * p.read)).take 240
      reply := if b.length ≤ 240 * (p.read + 1) then none else some b
      read := if b.length ≤ 240 * (p.read + 1) then 0 else p.read + 1 }))) ∧
    (s.keeper.port.reply = none → Does .smbusReplyRead s (smbNack s)) ∧
    (s.log.alert ≠ 0 → Does .smbusAlertResponse s (modSmb s (fun p => { p with acked := true, out := [BitVec.ofNat 8 (2 * (0x4C + s.pins.straps))] }))) ∧
    (s.log.alert = 0 → Does .smbusAlertResponse s (smbNack s)) ∧
    (∀ (frag : BitVec 8) (b : List (BitVec 8)), Does (.smbusBlockWrite frag b false) s (smbNack s) ∧
      (b.length ≤ 240 → fld frag 6 0 ≠ 0 → fld frag 6 0 ≠ s.keeper.port.next → Does (.smbusBlockWrite frag b true) s
        (modSmb s (fun p => { p with acked := true, out := [], buffer := [], next := 0 }))) ∧
      (b.length ≤ 240 → fld frag 6 0 ≠ 0 → fld frag 6 0 = s.keeper.port.next → bit frag 7 = false → Does (.smbusBlockWrite frag b true) s
        (modSmb s (fun p => { p with acked := true, out := [], buffer := p.buffer ++ b, next := p.next + 1 }))) ∧
      (b.length ≤ 240 → fld frag 6 0 = 0 → bit frag 7 = false → Does (.smbusBlockWrite frag b true) s
        (modSmb s (fun p => { p with acked := true, out := [], buffer := b, next := 1, reply := none, read := 0 }))) ∧
      (b.length ≤ 240 → fld frag 6 0 = 0 → bit frag 7 = true → Does (.smbusBlockWrite frag b true) s (igTake .servicePort b b.length
        (modSmb s (fun p => { p with acked := true, out := [], buffer := [], next := 0, reply := none, read := 0 })))))) ∧
  (∀ (s : State), portAnswers s = false → Does .smbusStatusRead s (smbNack s) ∧ Does .smbusReplyRead s (smbNack s) ∧
    Does .smbusAlertResponse s (smbNack s) ∧ ∀ (frag : BitVec 8) (b : List (BitVec 8)) (pecOk : Bool), Does (.smbusBlockWrite frag b pecOk) s (smbNack s)) ∧
  (∀ (s : State) (chain : List JtagIns) (shift levels : PinLevels), s.pins.powered = true →
    ((debugPort s = false ∨ ∀ code, .other code ∉ chain) → ∃ u, exec (.jtagInstruction ⟨chain, shift, levels⟩) s = .next u ∧
      u = { s with pins := { s.pins with jtag := jtagLoaded chain, boundary := u.pins.boundary, tdo := u.pins.tdo } } ∧
      u.pins.boundary = (if (jtagLoaded chain).headD .bypass = .samplePreload ∨ (jtagLoaded chain).headD .bypass = .extest then shift else s.pins.boundary) ∧
      pinsDriven u = (if (jtagLoaded chain).headD .bypass = .extest ∧ s.pins.resetN = false then some shift else none) ∧
      (jtagLoaded chain = List.replicate 25 .idcode → u.pins.tdo = ((upto 24).reverse ++ [30]).map (fun t => .idcode (idcode t))) ∧
      (jtagLoaded chain = List.replicate 25 .bypass → u.pins.tdo = List.replicate 25 .bypass) ∧
      (jtagLoaded chain = .samplePreload :: List.replicate 24 .bypass → u.pins.tdo = List.replicate 24 .bypass ++ [.boundary (pinLevels levels s)])) ∧
    (debugPort s = true → (∃ code, .other code ∈ chain) → exec (.jtagInstruction ⟨chain, shift, levels⟩) s = .refused .jtagPrivate))

/-- EVENT_LOG_TAKE, COUNTERS_CLEAR and ALERT_CLEAR (R448, R450, R452, R459, R462): the hearth takes the next staged record of the
round robin, gives it the next stamp and sequence number, and sets its ALERT_STATUS bit; CLEAR zeroes the statistics
counters of its block and raises COUNTERS_CLEARED; a written one clears an alert bit. Completion of eventLogTake, countersClear
and alertClear. -/
def Sys2Proof.Spec.EventsAndCounters : Prop :=
  (∀ (s : State) (i : Nat) (e : EvRec) (r : List EvRec),
    ((upto 25).map (fun j => (s.log.turn + j) % 25)).find? (fun j => !(getStage s (logSource j)).queue.isEmpty) = some i →
    (getStage s (logSource i)).queue = e :: r → ∃ u stamp, Does .eventLogTake s u ∧
      stamp = (if s.log.stamp = BitVec.allOnes 48 then s.log.stamp else s.log.stamp + 1) ∧ u.log.seq = s.log.seq + 1 ∧ u.log.turn = (i + 1) % 25 ∧
      tget (⟨0, 0, 0, 0⟩ : LogRec) u.log.ring (s.log.seq.toNat % 16384) = logWords s stamp.toNat e ∧
      u.log.alert = (match alertBit s.log.ctrl e with | some b => s.log.alert ||| BitVec.ofNat 16 (2 ^ b) | none => s.log.alert) ∧
      (s.log.subs = [] → u.log.stamp = stamp)) ∧
  (∀ (rq : Requester) (s : State),
    (mainOn s = true → expertOk rq 9 s = false → ∀ b, Does (.countersClear rq b) s (ends .keyFault s)) ∧
    (Expert rq 9 s →
      (∀ r : CoreRef, Does (.countersClear rq (.core r)) s (ends .ok (raise (mkEv 0x0B04 clsNotice 0 4 r.tile.val r.core.val (evW2 (unit := r.core.val)) 0xBF00)
        { s with counters := s.counters.filter (fun p => counterBlockOf p.1 != coreKey r) }))) ∧
      (∀ t : Fin 24, Does (.countersClear rq (.tile t)) s (ends .ok (raise (mkEv 0x0B04 clsNotice 0 6 t.val 0 (evW2 (unit := 0)) 0x128000)
        { s with counters := s.counters.filter (fun p => counterBlockOf p.1 != 1536 + t.val) }))) ∧
      Does (.countersClear rq .hearth) s (ends .ok (raise (mkEv 0x0B04 clsNotice 0 7 30 0 (evW2 (unit := 0)) 0x700F00)
        { s with counters := s.counters.filter (fun p => counterBlockOf p.1 != 2000) }))) ∧
    (mainOn s = true → rq ≠ .firmware → ∀ mask : BitVec 64, Does (.alertClear rq mask) s (ends .ok { s with
      log := { s.log with alert := s.log.alert &&& ~~~(mask.setWidth 16) } })))

/-- REGISTER_WRITE and LOCK_WAIT_TIMEOUT of a register-path write (R68, R135, R431, R435): an address of another module or of no register space is
REJECTED; service firmware writes nothing; a bench write stores its 8 bytes and no others, or waits while a lock holds
them, and the group's time towards Nap starts again (R397); MODULE of an own address has 14 bits (Table 1.4); an event control write keeps the register's fields; and a wait of 32 µs ends with RETRY_LATER. Completion of
registerWrite and lockWaitTimeout. -/
def Sys2Proof.Spec.RegisterWrites : Prop :=
  (∀ (rq : Requester) (a v : BitVec 64) (s : State), mainOn s = true →
    (rq ≠ .firmware → (gModule a.toNat ≠ s.myModule ∨ gSpace a.toNat = 0 ∨ 3 < gSpace a.toNat) → Does (.registerWrite rq a v) s (ends .rejected s)) ∧
    Does (.registerWrite .firmware a v) s (ends .keyFault s)) ∧
  (∀ (rq : Requester) (r : CoreRef) (off : Nat) (v : BitVec 64) (s : State), BenchOpen rq s r off →
    (benchLocked (getCore s (coreKey r)) off 8 = false → Does (.registerWrite rq (ownAddr s r.tile.val r.core.val 1 off) v) s
      (ends .ok (groupBusy r.tile.val (r.core.val / 16) (putCore s (coreKey r) (benchWrite (getCore s (coreKey r)) off (leBytes 8 v.toNat)))))) ∧
    (benchLocked (getCore s (coreKey r)) off 8 = true → ∀ t, t = groupBusy r.tile.val (r.core.val / 16) s →
      Does (.registerWrite rq (ownAddr s r.tile.val r.core.val 1 off) v) s
      { t with keeper := { t.keeper with works := t.keeper.works ++ [⟨rq, [], [(ownAddr s r.tile.val r.core.val 1 off, v)], 0, .ok, s.now⟩] } })) ∧
  (∀ (rq : Requester) (v : BitVec 64) (s : State), Expert rq 9 s → rq ≠ .firmware →
    Does (.registerWrite rq (ownAddr s 30 0 3 0x700010) v) s (ends .ok { s with log := { s.log with ctrl := v &&& 0x1BFFF } })) ∧
  (∀ (r : CoreRef) (w : RegWork) (s : State), mainOn s = true → (getPort s r.tile.val).waits = [] → groupAsleep s r.tile.val (r.core.val / 16) = false →
    s.keeper.works.find? (fun w => workKey w == coreKey r) = some w → w.header = [] →
    Does (.lockWaitTimeout r) s (ends (codeMerge w.code .retryLater) { s with
      now := max s.now (w.since + 32000), keeper := { s.keeper with works := s.keeper.works.erase w } }))

/-! ## The whole module -/

namespace Sys2Proof.Spec

/-- The scalar, predicate, branch and vector instructions, whose effect lies in the registers of their kernel (Tables 3.10–3.14). -/
def computeForms : List Isa :=
  [ .kNop, .kAdd, .kSub, .kMul, .kMulhu, .kAnd, .kOr, .kXor, .kShl, .kShr, .kSra, .kMin, .kMax, .kSel, .kClz, .kPopc, .kAddi, .kAndi, .kOri,
    .kXori, .kShli, .kShri, .kSrai, .kMuli, .kLi, .kLih, .kCmpeq, .kCmplt, .kCmpltu, .kCmpeqi, .kCmplti, .kPand, .kPor, .kPnot, .kBr, .kCall,
    .kJr, .kLoop, .kVadd, .kVsub, .kVmul, .kVfma, .kVmax, .kVmin, .kVexp2, .kVrcp, .kVrsqrt, .kVcmplt, .kVsel, .kVbcast, .kVrmax, .kVrsum,
    .kVmov, .kVcvti, .kVcvtf, .kVextr, .kVins, .kVand ]

/-- What the service connector may show: an SMBus address of 0x4C to 0x4F, and JTAG ports that execute a mandatory instruction
(R475, R479, R480). -/
structure PinsLegal (s : State) : Prop where
  address : 0x4C ≤ smbAddress s ∧ smbAddress s ≤ 0x4F
  ports : s.pins.jtag.length = 25
  jtag : ∀ code, .other code ∉ s.pins.jtag

/-- The reset values of the registers: tile, core, SPACE, OFFSET and value (the tables of chapters 1–14; for the tiles those
of tile 5 and its core 2). -/
def resetValues : List (Nat × Nat × Nat × Nat × Nat) :=
  [ (5, 0, 3, 0x0, 0x47454F4D010A0050), (5, 0, 3, 0x8, 0x001855221E140810), (5, 0, 3, 0x10, 0x0004111040044020), (5, 0, 3, 0x18, 0x0240401000402080),
    (30, 0, 3, 0x20, 0x1000010010200480), (30, 0, 3, 0x28, 0x18000800108001F4), (30, 0, 3, 0x30, 0x1015300E00004000), (30, 0, 3, 0x38, 0x0001000010001000),
    (30, 0, 3, 0x40, 0x4000104040084004), (30, 0, 3, 0x48, 0x03E801F432320064),
    (5, 2, 2, 0x8090, 3), (5, 2, 2, 0x8098, 0), (5, 2, 2, 0x0, 4), (5, 2, 2, 0x8, 0), (5, 2, 2, 0x10, 0), (5, 2, 2, 0x1000, 0x3F800000),
    (5, 2, 2, 0x4FFC, 0x3F800000), (5, 2, 2, 0x6000, 0x380380), (5, 2, 2, 0x6FF0, 0x380380), (5, 2, 2, 0x6008, 0), (5, 2, 2, 0x7100, 0),
    (5, 0, 3, 0x20000, 0), (5, 0, 3, 0x20008, 0x100), (5, 0, 3, 0x20020, 1), (5, 0, 3, 0x2FC08, 0x100), (5, 0, 3, 0x30000, 0), (5, 0, 3, 0x30008, 0xC22),
    (5, 0, 3, 0x80048, 0x402400700), (5, 0, 3, 0x80040, 0), (30, 0, 3, 0x200000, 0x0C900C80), (30, 0, 3, 0x200080, 0), (5, 0, 3, 0xA0000, 2),
    (5, 0, 3, 0xC0000, 0x20102000), (5, 0, 3, 0xC0010, 0x0808101020201010), (5, 0, 3, 0xC0018, 0x0000080808080808), (5, 0, 3, 0xC1000, 0),
    (30, 0, 3, 0x400000, 0), (30, 0, 3, 0x400008, 1), (30, 0, 3, 0x400100, 0), (30, 0, 3, 0x400200, 1), (30, 0, 3, 0x900000, 0), (5, 0, 3, 0xC2030, 0),
    (30, 0, 3, 0x300000, 0xA01), (30, 0, 3, 0x300008, 0x1000000000000), (30, 0, 3, 0x30A000, 0), (5, 0, 3, 0xE0000, 3), (5, 0, 3, 0xE0008, 0),
    (5, 0, 3, 0x10010, 0), (5, 0, 3, 0x10018, 0), (5, 0, 3, 0x40000, 0x200000), (5, 0, 3, 0x40018, 0x200000), (5, 0, 3, 0x40020, 0), (5, 0, 3, 0x40028, 0x607),
    (30, 0, 3, 0x600000, 0x09600000FA3207D0), (30, 0, 3, 0x600008, 0), (30, 0, 3, 0x600010, 0), (5, 0, 3, 0x100000, 0), (5, 0, 3, 0x100008, 0),
    (5, 0, 3, 0x100020, 0x8000000), (5, 0, 3, 0x100028, 0x3E80014), (30, 0, 3, 0x800000, 0), (30, 0, 3, 0x800010, 0), (30, 0, 3, 0x700000, 0),
    (30, 0, 3, 0x700008, 0), (30, 0, 3, 0x700010, 0x13860), (30, 0, 3, 0x700018, 0), (30, 0, 3, 0x700020, 0), (5, 0, 3, 0x120000, 0) ]

end Sys2Proof.Spec

/-- After each step the queue is what stood behind the front command, and module time has not run back. -/
def Sys2Proof.Spec.QueueAndTimeSteps : Prop :=
  ∀ (s t : State) (c : Instr) (rest : List Instr), s.pending = c :: rest → step s = .next t → t.pending = rest ∧ s.now ≤ t.now

/-- Every command in every state has an effect, but for two: an input above 65.0 V, of which nothing is specified (R484), and a
private JTAG instruction under the DEBUG enable (R480); the two stops are the model's, log entries 116 and 117. -/
def Obligations.EveryCommandRuns : Prop :=
  ∀ (c : Instr) (s : State), (∃ t, exec c s = .next t) ∨
    (∃ mv, c = .inputPowerRise mv ∧ 65000 < mv ∧ exec c s = .fault .beyondRatings) ∨
    (∃ code scan, c = .jtagInstruction scan ∧ .other code ∈ scan.chain ∧ s.pins.powered = true ∧ debugPort s = true ∧
      exec c s = .refused .jtagPrivate)

/-- The frame of the scalar, predicate, branch and vector instructions, also where one traps or cannot issue: every other core,
every byte of every bench, the scale registers, the trackers and the generator of the own core, and everything outside the
cores and the group's clock request stay as they were. -/
def Obligations.ComputeFrame : Prop :=
  ∀ x ∈ computeForms, ∀ (r : CoreRef) (w : BitVec 56) (s t : State), exec (x r w) s = .next t →
    t = { s with free := t.free, cores := t.cores, groups := t.groups } ∧
    (∀ key, key ≠ coreKey r → getCore t key = getCore s key) ∧
    (∀ o, benchByte (getCore t (coreKey r)) o = benchByte (getCore s (coreKey r)) o) ∧
    (getCore t (coreKey r)).scale = (getCore s (coreKey r)).scale ∧ (getCore t (coreKey r)).trackers = (getCore s (coreKey r)).trackers ∧
    (getCore t (coreKey r)).gen = (getCore s (coreKey r)).gen ∧ (getCore t (coreKey r)).arithCtl = (getCore s (coreKey r)).arithCtl

/-- A write that belongs to a function of Table 13.11 by a requester without the expert level in it changes nothing and ends
with KEY_FAULT (R432): the commands that have a row of their own. One to the control space of a core reaches it while its group is
awake, and its group's time towards Nap starts again (R397, R398). -/
def Obligations.ExpertLevel : Prop :=
  ∀ (rq : Requester) (t : Fin 24) (n : Fin 64) (g : Fin 4) (grp : Fin 1024) (st : Fin 160) (e : Fin 20) (layer : Fin 16) (lane : BitVec 7) (p : BitVec 6)
    (m : BitVec 12) (i : Fin 256) (v : BitVec 64) (b : CounterBlock) (a : Fin 2) (s : State), mainOn s = true →
    (∀ (c : Instr) (fn : Nat), (c, fn) ∈ [(Instr.fullRetraining rq t n, 1), (.spareSwitchIn rq t n layer lane, 1), (.stackCtrlWrite rq t v, 1),
      (.admCtrlWrite rq v, 3), (.dispCtrlWrite rq t v, 3), (.routeSwap rq, 4), (.groupWithdraw rq m, 4), (.circuitEntryWrite rq t i v, 4),
      (.strandWithdraw rq st, 4), (.strandEnable rq st, 4), (.strandRetrain rq st, 4), (.groupEntryWrite rq grp v, 5), (.groupEntryClear rq grp, 5),
      (.linkAdderWithdraw rq t, 5), (.retire rq t g p, 6), (.restore rq t g p, 6), (.withdrawCore rq ⟨t, n⟩, 6), (.returnCore rq ⟨t, n⟩, 6),
      (.engineWithdraw rq e, 6), (.engineEnable rq e, 6), (.engineRetrain rq e, 6), (.govCtrlWrite rq v, 7), (.countersClear rq b, 9)] →
    expertOk rq fn s = false → Does c s (ends .keyFault s)) ∧
    (∀ c, c ∈ [Instr.passStop rq ⟨t, n⟩ a, .passFlush rq ⟨t, n⟩ a, .arrayDisable rq ⟨t, n⟩ a, .arrayEnable rq ⟨t, n⟩ a] → expertOk rq 0 s = false →
      (rq = .firmware → Does c s (ends .keyFault s)) ∧
      (rq ≠ .firmware → groupAsleep s t.val (n.val / 16) = false → Does c s (groupBusy t.val (n.val / 16) (ends .keyFault s))))

/-- R18: a read of an offset that belongs to no block of Table 1.6 returns zero and ends with REJECTED; a write to such an
offset changes nothing and ends with REJECTED. (A write to a core whose group naps or sleeps first wakes it, R398.) -/
def Obligations.UnmappedOffsets : Prop :=
  ∀ (rq : Requester) (t : Fin 24) (n : Fin 64) (off : Nat) (v : BitVec 64) (s : State), off < 2 ^ 36 →
    ((0x5000 ≤ off ∧ off < 0x6000 ∨ 0xC000 ≤ off) →
      regRead s rq (ownAddr s t.val n.val 2 off).toNat = (0, ends .rejected s) ∧
      (mainOn s = true → rq ≠ .firmware → groupAsleep s t.val (n.val / 16) = false →
        Does (.registerWrite rq (ownAddr s t.val n.val 2 off) v) s (ends .rejected s))) ∧
    (0x140000 ≤ off → regRead s rq (ownAddr s t.val 0 3 off).toNat = (0, ends .rejected s) ∧
      (mainOn s = true → rq ≠ .firmware → Does (.registerWrite rq (ownAddr s t.val 0 3 off) v) s (ends .rejected s))) ∧
    (0xA00000 ≤ off → regRead s rq (ownAddr s 30 0 3 off).toNat = (0, ends .rejected s) ∧
      (mainOn s = true → rq ≠ .firmware → Does (.registerWrite rq (ownAddr s 30 0 3 off) v) s (ends .rejected s)))

/-- R220: an admission request ends with KEY_FAULT when its TIN is 0, when it names a FREE tin, or when its REQUEST_KEY differs
in any bit from the tin entry's key. -/
def Obligations.RequestKeyFault : Prop :=
  ∀ (p : Packet) (f : FlowRx) (s : State), Comes 0x30 p 30 f s →
    (rqTin p = 0 ∨ (getTin s (rqTin p)).state = .free ∨ plField (pBytes p) 4 4 ≠ (getTin s (rqTin p)).key.toNat) →
    (plField (pBytes p) 0 1 = 1 → Does (.openStream p) s (followUp 30 (rxKey p) (admRefuse p .keyFault none (taken p 30 f s)))) ∧
    (plField (pBytes p) 0 1 = 2 → Does (.stepStream p) s (followUp 30 (rxKey p) (admRefuse p .keyFault none (taken p 30 f s)))) ∧
    (plField (pBytes p) 0 1 = 3 → Does (.closeReq p) s (followUp 30 (rxKey p) (admRefuse p .keyFault none (taken p 30 f s))))

/-- R182 under the order of R21: a write to START while BUSY is 1 changes nothing and ends with RETRY_LATER, or with REJECTED where it
would also end with REJECTED (R21, R167); a spare switch-in for a layer with no spare left ends with REJECTED, unless its lease
conflicts. -/
def Obligations.TrainingBusy : Prop :=
  ∀ (rq : Requester) (t : Fin 24) (n : Fin 64) (layer : Fin 16) (lane : BitVec 7) (s : State), Expert rq 1 s →
    (trainRuns s (ck t.val n.val) = true →
      Does (.fullRetraining rq t n) s (ends (if coreWithdrawnOrOff s (ck t.val n.val) = true then .retryLater else .rejected) s) ∧
      (lane.toNat < 80 → Does (.spareSwitchIn rq t n layer lane) s
        (ends (if sparesUsed (tget 0 (getSlice s (ck t.val n.val)).laneMap layer.val) < 2 then .retryLater else .rejected) s))) ∧
    (trainRuns s (ck t.val n.val) = false → lane.toNat < 80 → 2 ≤ sparesUsed (tget 0 (getSlice s (ck t.val n.val)).laneMap layer.val) →
      leaseDecide s 2 t.val n.val ≠ .conflict → ∃ u, Does (.spareSwitchIn rq t n layer lane) s (ends .rejected u))

/-- The registers, the benches and the slices after reset (the tables' reset values; R166, R180): each register of the list
reads its reset value, no core holds a kernel, every bench byte and slice byte reads zero, and no command waits. -/
def Obligations.ResetState : Prop :=
  (∀ x ∈ resetValues, (regRead State.reset .keeper (gpaMake State.reset.myModule x.1 x.2.1 x.2.2.1 x.2.2.2.1)).1 = BitVec.ofNat 64 x.2.2.2.2) ∧
  (∀ key o, (getCore State.reset key).kernel = none ∧ benchByte (getCore State.reset key) o = 0 ∧ sliceRead State.reset key o 1 = [0]) ∧
  State.reset.pending = []

/-- The service connector after reset shows the lowest address and executes IDCODE. -/
def Obligations.PinsLegalAtReset : Prop := PinsLegal State.reset

/-- The service connector stays legal: no step takes the SMBus address out of 0x4C–0x4F or lets a JTAG port execute an instruction
that is not mandatory (R475, R479, R480); and the module's own MODULE stays one of 14 bits (Table 1.4). -/
def Obligations.PinsStayLegal : Prop := ∀ s t, PinsLegal s → step s = .next t → PinsLegal t ∧ t.myModule < 2 ^ 14

/-! ## Statements of several families together -/

/-- What a step does to the queue and to time: on an empty queue the block idles for one 20 ns slot (the model's choice, log entry
1); else the rest of the queue stays, and module time does not run back. -/
def Obligations.QueueAndTime : Prop := Sys2Proof.Spec.StepIdles ∧ Sys2Proof.Spec.QueueAndTimeSteps

/-- The scalar instructions of formats R and I (R83, R87, Table 3.4): gD takes the result and the tag of its sources, the instruction
retires to the next word, and nothing else of the module changes. Completion of kAdd, kSub, kMul, kMulhu, kAnd, kOr, kXor, kShl,
kShr, kSra, kMin, kMax, kSel, kClz, kPopc, kAddi, kAndi, kOri, kXori, kShli, kShri, kSrai, kMuli, kLi and kLih: exec answers the
stated next state under these conditions alone. -/
def Obligations.ScalarForms : Prop := Sys2Proof.Spec.ScalarRegisterForms ∧ Sys2Proof.Spec.ScalarImmediateForms

/-- Compares, predicate logic, NOP, the branches and END (R85, R87, R105). Completion of kNop, kCmpeq, kCmplt, kCmpltu, kCmpeqi,
kCmplti, kPand, kPor, kPnot, kBr, kCall, kJr, kLoop and kEnd: exec answers the stated next state under these conditions alone. -/
def Obligations.PredicatesAndBranches : Prop := Sys2Proof.Spec.PredicateForms ∧ Sys2Proof.Spec.ControlFlow

/-- Stores to the bench (R14, R90, R98, R99, R132), and what a write of bytes leaves in it. Completion of kSt, kVst and kVstq: exec
answers the stated next state under these conditions alone. (How a store waits behind a lock, and what a saved pass's range refuses, are the
model's readings, log entries 23 and 24.) -/
def Obligations.BenchStores : Prop := Sys2Proof.Spec.StoreForms ∧ Sys2Proof.Spec.BenchWriteBytes

/-- The vector instructions on registers (R87, R89, R116): lane by lane, and the reductions, broadcasts, VEXTR and VINS. Completion of
kVadd, kVsub, kVmul, kVfma, kVmax, kVmin, kVexp2, kVrcp, kVrsqrt, kVcmplt, kVsel, kVbcast, kVrmax, kVrsum, kVmov, kVcvti, kVcvtf,
kVextr, kVins and kVand: exec answers the stated next state under these conditions alone. -/
def Obligations.VectorForms : Prop := Sys2Proof.Spec.VectorLanes ∧ Sys2Proof.Spec.VectorScalarForms

/-- The scale bank (R132–R134) and the special and geometry registers (R103, R115). Completion of kKld, kKst, kVkld, kVkst, kRsr, kWsr
and kGeo: exec answers the stated next state under these conditions alone. -/
def Obligations.ScalesAndSpecialRegisters : Prop := Sys2Proof.Spec.ScaleBank ∧ Sys2Proof.Spec.SpecialRegisters

/-- The instructions that wait, the end of a wait, and the yield gap (R93, R98, R102, R108, R110). Completion of kWait, waitUnblock,
kPoll, kFence, fenceUnblock, kYield, kWaitwake, waitwakeUnblock and gapExceeded: exec answers the stated next state under these
conditions alone. -/
def Obligations.Waiting : Prop := Sys2Proof.Spec.WaitingInstructions ∧ Sys2Proof.Spec.UnblocksAndGap

/-- ABORT, BRK and TRAP, the order of the checks of an issue, and what a trap leaves (R85, R104, R105, R107). Completion of kAbort, kBrk
and kTrap: exec answers the stated next state under these conditions alone. -/
def Obligations.Traps : Prop := Sys2Proof.Spec.AbortBreakTrap ∧ Sys2Proof.Spec.TrapOrder ∧ Sys2Proof.Spec.TrapTaken

/-- The life of a kernel, and the end of a move (R82, R96, R97, R105, R109). Completion of kernelStart, moveComplete, kernelEndComplete,
preemptSaveComplete and resumeKernel: exec answers the stated next state under these conditions alone. (FP_FLAGS and WATCH_LINE at a kernel's start are the model's choice, log
entry 136.) -/
def Obligations.KernelsAndMoves : Prop := Sys2Proof.Spec.KernelLife ∧ Sys2Proof.Spec.MoveCompletes

/-- A residue mismatch and a clock change of a group (R70, R74, R394). Completion of residueMismatch, throttleStepTimeout and
clockChangeComplete: exec answers the stated next state under these conditions alone. -/
def Obligations.MismatchesAndClocks : Prop := Sys2Proof.Spec.ResidueMismatch ∧ Sys2Proof.Spec.ClockChanges

/-- The writes of trackers and scale registers, a window's charges, and the commit of a tracker (R135, R139, R147, R148, R150).
Completion of amaxCfgWrite, scaleKWrite and wideChargeWindowEnd: exec answers the stated next state under these conditions alone. -/
def Obligations.Trackers : Prop := Sys2Proof.Spec.TrackerCommands ∧ Sys2Proof.Spec.TrackerCommit

/-- SLICE_ACCESS (R156–R158, R162, R163, Table 5.3), with and without an error in its command word. Completion of sliceAccess: exec
answers the stated next state under these conditions alone. -/
def Obligations.SliceAccesses : Prop := Sys2Proof.Spec.LineAccesses ∧ Sys2Proof.Spec.CommandWordErrors

/-- Refresh, self-refresh and scrubbing, and the schedule of refresh (R168, R170, R175, Table 5.7). Completion of refreshCommand,
selfRefreshEntry, scrubRead and scrubWriteback: exec answers the stated next state under these conditions alone. -/
def Obligations.RefreshAndScrub : Prop := Sys2Proof.Spec.RefreshCommands ∧ Sys2Proof.Spec.RefreshSchedule

/-- The training of slices, STACK_CTRL and the held writes (R164, R167, R172, R183, R386). Completion of fullRetraining, spareSwitchIn,
sliceRetrainDone, stackCtrlWrite and heldWriteTimeout: exec answers the stated next state under these conditions alone. (The STATE that a retraining leaves is the model's
choice, log entry 139.) -/
def Obligations.SliceControl : Prop := Sys2Proof.Spec.SliceTraining ∧ Sys2Proof.Spec.StackControl

/-- The residency commands that change records alone, and what a requester may not do (R200, R203–R205, Table 6.9). Completion of
resCreateSpace, resSetQuota, resMap, resPin, resUnpin and resGrant: exec answers the stated next state under these conditions alone. (Cases that end with REJECTED beside those of R204, and
where tables lie, are the model's choices, log entries 143 and 44.) -/
def Obligations.ResidencyRecords : Prop := Sys2Proof.Spec.RecordCommands ∧ Sys2Proof.Spec.ResidencyRefusals

/-- The residency commands that end in an invalidation round or move bytes (R195, R199, R204, R205, R213, R216, Table 6.9). Completion
of resDestroySpace, resUnmap, resProtect, resPrefetch, resEvict, resMigrate, resEncode, resRebuild and resVerify: exec answers the
stated next state under these conditions alone. (The frame taken within a slice is the
model's choice, log entry 141.) -/
def Obligations.ResidencyWork : Prop := Sys2Proof.Spec.ResidencyRounds ∧ Sys2Proof.Spec.ResidencyTransfers

/-- The ends of page fills and moves, and what the residency manager does in time (R191, R195, R202, R207, R208, R211). Completion of
pageFillComplete, invalidationRoundComplete, pageMoveComplete, moveHoldTimeout, backgroundCompaction, hintApply and submitHint: exec
answers the stated next state under these conditions alone. -/
def Obligations.PagesAndHints : Prop := Sys2Proof.Spec.PageTransfers ∧ Sys2Proof.Spec.ResidencyTimers

/-- What an endpoint does with a packet (R266, R267, R277, R279, Table 8.7): delivered once in order, or turned away; and the messages
of the residency managers and of the keeper (R23, R199, R207, R450, Table 6.10). Completion of residencyMsg, residencyReplyMsg and
managementReplyMsg: exec answers the stated next state under these conditions alone. -/
def Obligations.Arrivals : Prop := Sys2Proof.Spec.Deliveries ∧ Sys2Proof.Spec.PacketsTurnedAway ∧ Sys2Proof.Spec.ManagerMessages

/-- The admission commands, LOAD_MODEL among them (R219, R229, R230, R236, R237, R243, R252–R254, Tables 7.7, 7.8, 7.15). Completion of
admSetTin, admWithdrawTin, admRegisterKernel, admLoadModel, admUnloadModel, admLoadRow, measure, admUnpin and admCloseStream: exec
answers the stated next state under these conditions alone. -/
def Obligations.AdmissionCommands : Prop := Sys2Proof.Spec.CommandsOfAdmission ∧ Sys2Proof.Spec.LoadModel

/-- What passes on a strand, and the timers and acknowledgements of flows (R260, R262, R263, R271, R277, R278, R280). Completion of
fecCodeword, strandErrorRetrain, linkControlFlit, egressPacketEnd, ackPacket, ackDelayExpire, retransmitTimeout and flowStateExpire:
exec answers the stated next state under these conditions alone. -/
def Obligations.StrandsAndFlows : Prop := Sys2Proof.Spec.StrandTraffic ∧ Sys2Proof.Spec.FlowTimers

/-- The remote operations at their home, and the results of read-modify-writes (R308, R315, R323, Tables 9.1, 9.2, 9.7). Completion of
moveWriteMsg, moveReadMsg, remLoad, remStore, remAtomic, remReduce and remMcastStore: exec answers the stated next state under these
conditions alone. -/
def Obligations.RemoteHome : Prop := Sys2Proof.Spec.HomeOperations ∧ Sys2Proof.Spec.AtomicOperations

/-- The answers at the source, and the timers of the target (R68, R97, R308, R315, R316, R320, Table 9.9). Completion of
lockWaitTimeout, moveDataMsg, moveDoneMsg, loadReply, doneReply, atomicReply, remoteReplyTimeout, targetWaitTimeout, arcEntryExpire
and lineBufferWriteback: exec answers the stated next state under these conditions alone. -/
def Obligations.RemoteEnds : Prop := Sys2Proof.Spec.RemoteSource ∧ Sys2Proof.Spec.TargetTimers

/-- Crumb rounds, link-adder steps and their packets (R24, R331, R335, R338–R340, R347, R349–R351, R353, R356, Tables 10.10, 10.11).
Completion of crumbRack, crumbHall, crumbNack, crumbAbort, crumbNackTimer, crumbRoundTimeout, collData, collRaw, collNack,
lateInputTimeout, linkStepEnd and linkAdderWithdraw: exec answers the stated next state under these conditions alone. (What a NACK names, who marks a kind FAILED, and
which packets an operation takes are the model's readings, log entries 79 and 82.) -/
def Obligations.CrumbsAndLinkAdders : Prop := Sys2Proof.Spec.CrumbRounds ∧ Sys2Proof.Spec.LinkAdderSteps ∧ Sys2Proof.Spec.LinkAdderData

/-- Sparing, the withdrawal and return of cores, test bakes, a lost tile and the sparing record (R371–R379, R388, Tables 11.5, 11.6,
11.11). Completion of retire, shiftCopyComplete, restore, withdrawCore, returnCore, coreDrainTimeout, testBakeCompare,
sparingRecordRetry and tileOut: exec answers the stated next state under these conditions alone. (What a shift returns and checks, what an Off spare
keeps, and what a lost tile ends at once are the model's readings, log entries 87, 88 and 89.) -/
def Obligations.Sparing : Prop := Sys2Proof.Spec.SparingCommands ∧ Sys2Proof.Spec.BakesTilesRecord

/-- Low-power states, emergency throttle, the reference and GOV_CTRL (R395–R399, R407, R409, Tables 12.1, 12.7). Completion of
emergThrottleAssert, emergThrottleDeassert, referenceLost, referenceRestored, napEntry, sleepEntry, groupWake, wakeComplete and
govCtrlWrite: exec answers the stated next state under these conditions alone. -/
def Obligations.PowerStates : Prop := Sys2Proof.Spec.LowPower ∧ Sys2Proof.Spec.ThrottleAndGovernor

/-- The event log, the counters and the register path (R68, R135, R431, R435, R448, R450, R452, R459, R462). Completion of
registerWrite, lockWaitTimeout, eventLogTake, countersClear and alertClear: exec answers the stated next state under these
conditions alone. -/
def Obligations.EventsAndRegisters : Prop := Sys2Proof.Spec.EventsAndCounters ∧ Sys2Proof.Spec.RegisterWrites
end

