-- ==== Sys2Proof/Laws/State.lean ====
section
/-! SUPPORT. The fields of a state after each of the updates that the meanings use: one lemma per field per update, and the
reading of a record after its own update. -/

namespace Sys2Proof.Laws

open Sys2Proof.Machine

@[simp] theorem putCore_now (s : State) (k : Nat) (c : Core) : (putCore s k c).now = s.now := rfl
@[simp] theorem putCore_pending (s : State) (k : Nat) (c : Core) : (putCore s k c).pending = s.pending := rfl
@[simp] theorem putCore_free (s : State) (k : Nat) (c : Core) : (putCore s k c).free = s.free := rfl
@[simp] theorem putCore_lastCode (s : State) (k : Nat) (c : Core) : (putCore s k c).lastCode = s.lastCode := rfl
@[simp] theorem putCore_myModule (s : State) (k : Nat) (c : Core) : (putCore s k c).myModule = s.myModule := rfl
@[simp] theorem putCore_counters (s : State) (k : Nat) (c : Core) : (putCore s k c).counters = s.counters := rfl
@[simp] theorem putCore_staging (s : State) (k : Nat) (c : Core) : (putCore s k c).staging = s.staging := rfl
@[simp] theorem putCore_stages (s : State) (k : Nat) (c : Core) : (putCore s k c).stages = s.stages := rfl
@[simp] theorem putCore_log (s : State) (k : Nat) (c : Core) : (putCore s k c).log = s.log := rfl
@[simp] theorem putCore_cores (s : State) (k : Nat) (c : Core) : (putCore s k c).cores = tput s.cores k c := rfl
@[simp] theorem putCore_slices (s : State) (k : Nat) (c : Core) : (putCore s k c).slices = s.slices := rfl
@[simp] theorem putCore_tiles (s : State) (k : Nat) (c : Core) : (putCore s k c).tiles = s.tiles := rfl
@[simp] theorem putCore_groups (s : State) (k : Nat) (c : Core) : (putCore s k c).groups = s.groups := rfl
@[simp] theorem putCore_pages (s : State) (k : Nat) (c : Core) : (putCore s k c).pages = s.pages := rfl
@[simp] theorem putCore_frames (s : State) (k : Nat) (c : Core) : (putCore s k c).frames = s.frames := rfl
@[simp] theorem putCore_tables (s : State) (k : Nat) (c : Core) : (putCore s k c).tables = s.tables := rfl
@[simp] theorem putCore_spaces (s : State) (k : Nat) (c : Core) : (putCore s k c).spaces = s.spaces := rfl
@[simp] theorem putCore_sets (s : State) (k : Nat) (c : Core) : (putCore s k c).sets = s.sets := rfl
@[simp] theorem putCore_res (s : State) (k : Nat) (c : Core) : (putCore s k c).res = s.res := rfl
@[simp] theorem putCore_nextId (s : State) (k : Nat) (c : Core) : (putCore s k c).nextId = s.nextId := rfl
@[simp] theorem putCore_tins (s : State) (k : Nat) (c : Core) : (putCore s k c).tins = s.tins := rfl
@[simp] theorem putCore_streams (s : State) (k : Nat) (c : Core) : (putCore s k c).streams = s.streams := rfl
@[simp] theorem putCore_models (s : State) (k : Nat) (c : Core) : (putCore s k c).models = s.models := rfl
@[simp] theorem putCore_jobs (s : State) (k : Nat) (c : Core) : (putCore s k c).jobs = s.jobs := rfl
@[simp] theorem putCore_kernels (s : State) (k : Nat) (c : Core) : (putCore s k c).kernels = s.kernels := rfl
@[simp] theorem putCore_adm (s : State) (k : Nat) (c : Core) : (putCore s k c).adm = s.adm := rfl
@[simp] theorem putCore_ports (s : State) (k : Nat) (c : Core) : (putCore s k c).ports = s.ports := rfl
@[simp] theorem putCore_strands (s : State) (k : Nat) (c : Core) : (putCore s k c).strands = s.strands := rfl
@[simp] theorem putCore_engines (s : State) (k : Nat) (c : Core) : (putCore s k c).engines = s.engines := rfl
@[simp] theorem putCore_routing (s : State) (k : Nat) (c : Core) : (putCore s k c).routing = s.routing := rfl
@[simp] theorem putCore_d2d (s : State) (k : Nat) (c : Core) : (putCore s k c).d2d = s.d2d := rfl
@[simp] theorem putCore_flight (s : State) (k : Nat) (c : Core) : (putCore s k c).flight = s.flight := rfl
@[simp] theorem putCore_failed (s : State) (k : Nat) (c : Core) : (putCore s k c).failed = s.failed := rfl
@[simp] theorem putCore_coll (s : State) (k : Nat) (c : Core) : (putCore s k c).coll = s.coll := rfl
@[simp] theorem putCore_topo (s : State) (k : Nat) (c : Core) : (putCore s k c).topo = s.topo := rfl
@[simp] theorem putCore_power (s : State) (k : Nat) (c : Core) : (putCore s k c).power = s.power := rfl
@[simp] theorem putCore_keeper (s : State) (k : Nat) (c : Core) : (putCore s k c).keeper = s.keeper := rfl
@[simp] theorem putCore_pins (s : State) (k : Nat) (c : Core) : (putCore s k c).pins = s.pins := rfl

@[simp] theorem putSlice_now (s : State) (k : Nat) (c : Slice) : (putSlice s k c).now = s.now := rfl
@[simp] theorem putSlice_pending (s : State) (k : Nat) (c : Slice) : (putSlice s k c).pending = s.pending := rfl
@[simp] theorem putSlice_free (s : State) (k : Nat) (c : Slice) : (putSlice s k c).free = s.free := rfl
@[simp] theorem putSlice_lastCode (s : State) (k : Nat) (c : Slice) : (putSlice s k c).lastCode = s.lastCode := rfl
@[simp] theorem putSlice_myModule (s : State) (k : Nat) (c : Slice) : (putSlice s k c).myModule = s.myModule := rfl
@[simp] theorem putSlice_counters (s : State) (k : Nat) (c : Slice) : (putSlice s k c).counters = s.counters := rfl
@[simp] theorem putSlice_staging (s : State) (k : Nat) (c : Slice) : (putSlice s k c).staging = s.staging := rfl
@[simp] theorem putSlice_stages (s : State) (k : Nat) (c : Slice) : (putSlice s k c).stages = s.stages := rfl
@[simp] theorem putSlice_log (s : State) (k : Nat) (c : Slice) : (putSlice s k c).log = s.log := rfl
@[simp] theorem putSlice_cores (s : State) (k : Nat) (c : Slice) : (putSlice s k c).cores = s.cores := rfl
@[simp] theorem putSlice_slices (s : State) (k : Nat) (c : Slice) : (putSlice s k c).slices = tput s.slices k c := rfl
@[simp] theorem putSlice_tiles (s : State) (k : Nat) (c : Slice) : (putSlice s k c).tiles = s.tiles := rfl
@[simp] theorem putSlice_groups (s : State) (k : Nat) (c : Slice) : (putSlice s k c).groups = s.groups := rfl
@[simp] theorem putSlice_pages (s : State) (k : Nat) (c : Slice) : (putSlice s k c).pages = s.pages := rfl
@[simp] theorem putSlice_frames (s : State) (k : Nat) (c : Slice) : (putSlice s k c).frames = s.frames := rfl
@[simp] theorem putSlice_tables (s : State) (k : Nat) (c : Slice) : (putSlice s k c).tables = s.tables := rfl
@[simp] theorem putSlice_spaces (s : State) (k : Nat) (c : Slice) : (putSlice s k c).spaces = s.spaces := rfl
@[simp] theorem putSlice_sets (s : State) (k : Nat) (c : Slice) : (putSlice s k c).sets = s.sets := rfl
@[simp] theorem putSlice_res (s : State) (k : Nat) (c : Slice) : (putSlice s k c).res = s.res := rfl
@[simp] theorem putSlice_nextId (s : State) (k : Nat) (c : Slice) : (putSlice s k c).nextId = s.nextId := rfl
@[simp] theorem putSlice_tins (s : State) (k : Nat) (c : Slice) : (putSlice s k c).tins = s.tins := rfl
@[simp] theorem putSlice_streams (s : State) (k : Nat) (c : Slice) : (putSlice s k c).streams = s.streams := rfl
@[simp] theorem putSlice_models (s : State) (k : Nat) (c : Slice) : (putSlice s k c).models = s.models := rfl
@[simp] theorem putSlice_jobs (s : State) (k : Nat) (c : Slice) : (putSlice s k c).jobs = s.jobs := rfl
@[simp] theorem putSlice_kernels (s : State) (k : Nat) (c : Slice) : (putSlice s k c).kernels = s.kernels := rfl
@[simp] theorem putSlice_adm (s : State) (k : Nat) (c : Slice) : (putSlice s k c).adm = s.adm := rfl
@[simp] theorem putSlice_ports (s : State) (k : Nat) (c : Slice) : (putSlice s k c).ports = s.ports := rfl
@[simp] theorem putSlice_strands (s : State) (k : Nat) (c : Slice) : (putSlice s k c).strands = s.strands := rfl
@[simp] theorem putSlice_engines (s : State) (k : Nat) (c : Slice) : (putSlice s k c).engines = s.engines := rfl
@[simp] theorem putSlice_routing (s : State) (k : Nat) (c : Slice) : (putSlice s k c).routing = s.routing := rfl
@[simp] theorem putSlice_d2d (s : State) (k : Nat) (c : Slice) : (putSlice s k c).d2d = s.d2d := rfl
@[simp] theorem putSlice_flight (s : State) (k : Nat) (c : Slice) : (putSlice s k c).flight = s.flight := rfl
@[simp] theorem putSlice_failed (s : State) (k : Nat) (c : Slice) : (putSlice s k c).failed = s.failed := rfl
@[simp] theorem putSlice_coll (s : State) (k : Nat) (c : Slice) : (putSlice s k c).coll = s.coll := rfl
@[simp] theorem putSlice_topo (s : State) (k : Nat) (c : Slice) : (putSlice s k c).topo = s.topo := rfl
@[simp] theorem putSlice_power (s : State) (k : Nat) (c : Slice) : (putSlice s k c).power = s.power := rfl
@[simp] theorem putSlice_keeper (s : State) (k : Nat) (c : Slice) : (putSlice s k c).keeper = s.keeper := rfl
@[simp] theorem putSlice_pins (s : State) (k : Nat) (c : Slice) : (putSlice s k c).pins = s.pins := rfl

@[simp] theorem putTile_now (s : State) (k : Nat) (c : Tile) : (putTile s k c).now = s.now := rfl
@[simp] theorem putTile_pending (s : State) (k : Nat) (c : Tile) : (putTile s k c).pending = s.pending := rfl
@[simp] theorem putTile_free (s : State) (k : Nat) (c : Tile) : (putTile s k c).free = s.free := rfl
@[simp] theorem putTile_lastCode (s : State) (k : Nat) (c : Tile) : (putTile s k c).lastCode = s.lastCode := rfl
@[simp] theorem putTile_myModule (s : State) (k : Nat) (c : Tile) : (putTile s k c).myModule = s.myModule := rfl
@[simp] theorem putTile_counters (s : State) (k : Nat) (c : Tile) : (putTile s k c).counters = s.counters := rfl
@[simp] theorem putTile_staging (s : State) (k : Nat) (c : Tile) : (putTile s k c).staging = s.staging := rfl
@[simp] theorem putTile_stages (s : State) (k : Nat) (c : Tile) : (putTile s k c).stages = s.stages := rfl
@[simp] theorem putTile_log (s : State) (k : Nat) (c : Tile) : (putTile s k c).log = s.log := rfl
@[simp] theorem putTile_cores (s : State) (k : Nat) (c : Tile) : (putTile s k c).cores = s.cores := rfl
@[simp] theorem putTile_slices (s : State) (k : Nat) (c : Tile) : (putTile s k c).slices = s.slices := rfl
@[simp] theorem putTile_tiles (s : State) (k : Nat) (c : Tile) : (putTile s k c).tiles = tput s.tiles k c := rfl
@[simp] theorem putTile_groups (s : State) (k : Nat) (c : Tile) : (putTile s k c).groups = s.groups := rfl
@[simp] theorem putTile_pages (s : State) (k : Nat) (c : Tile) : (putTile s k c).pages = s.pages := rfl
@[simp] theorem putTile_frames (s : State) (k : Nat) (c : Tile) : (putTile s k c).frames = s.frames := rfl
@[simp] theorem putTile_tables (s : State) (k : Nat) (c : Tile) : (putTile s k c).tables = s.tables := rfl
@[simp] theorem putTile_spaces (s : State) (k : Nat) (c : Tile) : (putTile s k c).spaces = s.spaces := rfl
@[simp] theorem putTile_sets (s : State) (k : Nat) (c : Tile) : (putTile s k c).sets = s.sets := rfl
@[simp] theorem putTile_res (s : State) (k : Nat) (c : Tile) : (putTile s k c).res = s.res := rfl
@[simp] theorem putTile_nextId (s : State) (k : Nat) (c : Tile) : (putTile s k c).nextId = s.nextId := rfl
@[simp] theorem putTile_tins (s : State) (k : Nat) (c : Tile) : (putTile s k c).tins = s.tins := rfl
@[simp] theorem putTile_streams (s : State) (k : Nat) (c : Tile) : (putTile s k c).streams = s.streams := rfl
@[simp] theorem putTile_models (s : State) (k : Nat) (c : Tile) : (putTile s k c).models = s.models := rfl
@[simp] theorem putTile_jobs (s : State) (k : Nat) (c : Tile) : (putTile s k c).jobs = s.jobs := rfl
@[simp] theorem putTile_kernels (s : State) (k : Nat) (c : Tile) : (putTile s k c).kernels = s.kernels := rfl
@[simp] theorem putTile_adm (s : State) (k : Nat) (c : Tile) : (putTile s k c).adm = s.adm := rfl
@[simp] theorem putTile_ports (s : State) (k : Nat) (c : Tile) : (putTile s k c).ports = s.ports := rfl
@[simp] theorem putTile_strands (s : State) (k : Nat) (c : Tile) : (putTile s k c).strands = s.strands := rfl
@[simp] theorem putTile_engines (s : State) (k : Nat) (c : Tile) : (putTile s k c).engines = s.engines := rfl
@[simp] theorem putTile_routing (s : State) (k : Nat) (c : Tile) : (putTile s k c).routing = s.routing := rfl
@[simp] theorem putTile_d2d (s : State) (k : Nat) (c : Tile) : (putTile s k c).d2d = s.d2d := rfl
@[simp] theorem putTile_flight (s : State) (k : Nat) (c : Tile) : (putTile s k c).flight = s.flight := rfl
@[simp] theorem putTile_failed (s : State) (k : Nat) (c : Tile) : (putTile s k c).failed = s.failed := rfl
@[simp] theorem putTile_coll (s : State) (k : Nat) (c : Tile) : (putTile s k c).coll = s.coll := rfl
@[simp] theorem putTile_topo (s : State) (k : Nat) (c : Tile) : (putTile s k c).topo = s.topo := rfl
@[simp] theorem putTile_power (s : State) (k : Nat) (c : Tile) : (putTile s k c).power = s.power := rfl
@[simp] theorem putTile_keeper (s : State) (k : Nat) (c : Tile) : (putTile s k c).keeper = s.keeper := rfl
@[simp] theorem putTile_pins (s : State) (k : Nat) (c : Tile) : (putTile s k c).pins = s.pins := rfl

@[simp] theorem putGroup_now (s : State) (t g : Nat) (c : Group) : (putGroup s t g c).now = s.now := rfl
@[simp] theorem putGroup_pending (s : State) (t g : Nat) (c : Group) : (putGroup s t g c).pending = s.pending := rfl
@[simp] theorem putGroup_free (s : State) (t g : Nat) (c : Group) : (putGroup s t g c).free = s.free := rfl
@[simp] theorem putGroup_lastCode (s : State) (t g : Nat) (c : Group) : (putGroup s t g c).lastCode = s.lastCode := rfl
@[simp] theorem putGroup_myModule (s : State) (t g : Nat) (c : Group) : (putGroup s t g c).myModule = s.myModule := rfl
@[simp] theorem putGroup_counters (s : State) (t g : Nat) (c : Group) : (putGroup s t g c).counters = s.counters := rfl
@[simp] theorem putGroup_staging (s : State) (t g : Nat) (c : Group) : (putGroup s t g c).staging = s.staging := rfl
@[simp] theorem putGroup_stages (s : State) (t g : Nat) (c : Group) : (putGroup s t g c).stages = s.stages := rfl
@[simp] theorem putGroup_log (s : State) (t g : Nat) (c : Group) : (putGroup s t g c).log = s.log := rfl
@[simp] theorem putGroup_cores (s : State) (t g : Nat) (c : Group) : (putGroup s t g c).cores = s.cores := rfl
@[simp] theorem putGroup_slices (s : State) (t g : Nat) (c : Group) : (putGroup s t g c).slices = s.slices := rfl
@[simp] theorem putGroup_tiles (s : State) (t g : Nat) (c : Group) : (putGroup s t g c).tiles = s.tiles := rfl
@[simp] theorem putGroup_groups (s : State) (t g : Nat) (c : Group) : (putGroup s t g c).groups = tput s.groups (4 * t + g) c := rfl
@[simp] theorem putGroup_pages (s : State) (t g : Nat) (c : Group) : (putGroup s t g c).pages = s.pages := rfl
@[simp] theorem putGroup_frames (s : State) (t g : Nat) (c : Group) : (putGroup s t g c).frames = s.frames := rfl
@[simp] theorem putGroup_tables (s : State) (t g : Nat) (c : Group) : (putGroup s t g c).tables = s.tables := rfl
@[simp] theorem putGroup_spaces (s : State) (t g : Nat) (c : Group) : (putGroup s t g c).spaces = s.spaces := rfl
@[simp] theorem putGroup_sets (s : State) (t g : Nat) (c : Group) : (putGroup s t g c).sets = s.sets := rfl
@[simp] theorem putGroup_res (s : State) (t g : Nat) (c : Group) : (putGroup s t g c).res = s.res := rfl
@[simp] theorem putGroup_nextId (s : State) (t g : Nat) (c : Group) : (putGroup s t g c).nextId = s.nextId := rfl
@[simp] theorem putGroup_tins (s : State) (t g : Nat) (c : Group) : (putGroup s t g c).tins = s.tins := rfl
@[simp] theorem putGroup_streams (s : State) (t g : Nat) (c : Group) : (putGroup s t g c).streams = s.streams := rfl
@[simp] theorem putGroup_models (s : State) (t g : Nat) (c : Group) : (putGroup s t g c).models = s.models := rfl
@[simp] theorem putGroup_jobs (s : State) (t g : Nat) (c : Group) : (putGroup s t g c).jobs = s.jobs := rfl
@[simp] theorem putGroup_kernels (s : State) (t g : Nat) (c : Group) : (putGroup s t g c).kernels = s.kernels := rfl
@[simp] theorem putGroup_adm (s : State) (t g : Nat) (c : Group) : (putGroup s t g c).adm = s.adm := rfl
@[simp] theorem putGroup_ports (s : State) (t g : Nat) (c : Group) : (putGroup s t g c).ports = s.ports := rfl
@[simp] theorem putGroup_strands (s : State) (t g : Nat) (c : Group) : (putGroup s t g c).strands = s.strands := rfl
@[simp] theorem putGroup_engines (s : State) (t g : Nat) (c : Group) : (putGroup s t g c).engines = s.engines := rfl
@[simp] theorem putGroup_routing (s : State) (t g : Nat) (c : Group) : (putGroup s t g c).routing = s.routing := rfl
@[simp] theorem putGroup_d2d (s : State) (t g : Nat) (c : Group) : (putGroup s t g c).d2d = s.d2d := rfl
@[simp] theorem putGroup_flight (s : State) (t g : Nat) (c : Group) : (putGroup s t g c).flight = s.flight := rfl
@[simp] theorem putGroup_failed (s : State) (t g : Nat) (c : Group) : (putGroup s t g c).failed = s.failed := rfl
@[simp] theorem putGroup_coll (s : State) (t g : Nat) (c : Group) : (putGroup s t g c).coll = s.coll := rfl
@[simp] theorem putGroup_topo (s : State) (t g : Nat) (c : Group) : (putGroup s t g c).topo = s.topo := rfl
@[simp] theorem putGroup_power (s : State) (t g : Nat) (c : Group) : (putGroup s t g c).power = s.power := rfl
@[simp] theorem putGroup_keeper (s : State) (t g : Nat) (c : Group) : (putGroup s t g c).keeper = s.keeper := rfl
@[simp] theorem putGroup_pins (s : State) (t g : Nat) (c : Group) : (putGroup s t g c).pins = s.pins := rfl

@[simp] theorem putPort_now (s : State) (k : Nat) (c : Port) : (putPort s k c).now = s.now := rfl
@[simp] theorem putPort_pending (s : State) (k : Nat) (c : Port) : (putPort s k c).pending = s.pending := rfl
@[simp] theorem putPort_free (s : State) (k : Nat) (c : Port) : (putPort s k c).free = s.free := rfl
@[simp] theorem putPort_lastCode (s : State) (k : Nat) (c : Port) : (putPort s k c).lastCode = s.lastCode := rfl
@[simp] theorem putPort_myModule (s : State) (k : Nat) (c : Port) : (putPort s k c).myModule = s.myModule := rfl
@[simp] theorem putPort_counters (s : State) (k : Nat) (c : Port) : (putPort s k c).counters = s.counters := rfl
@[simp] theorem putPort_staging (s : State) (k : Nat) (c : Port) : (putPort s k c).staging = s.staging := rfl
@[simp] theorem putPort_stages (s : State) (k : Nat) (c : Port) : (putPort s k c).stages = s.stages := rfl
@[simp] theorem putPort_log (s : State) (k : Nat) (c : Port) : (putPort s k c).log = s.log := rfl
@[simp] theorem putPort_cores (s : State) (k : Nat) (c : Port) : (putPort s k c).cores = s.cores := rfl
@[simp] theorem putPort_slices (s : State) (k : Nat) (c : Port) : (putPort s k c).slices = s.slices := rfl
@[simp] theorem putPort_tiles (s : State) (k : Nat) (c : Port) : (putPort s k c).tiles = s.tiles := rfl
@[simp] theorem putPort_groups (s : State) (k : Nat) (c : Port) : (putPort s k c).groups = s.groups := rfl
@[simp] theorem putPort_pages (s : State) (k : Nat) (c : Port) : (putPort s k c).pages = s.pages := rfl
@[simp] theorem putPort_frames (s : State) (k : Nat) (c : Port) : (putPort s k c).frames = s.frames := rfl
@[simp] theorem putPort_tables (s : State) (k : Nat) (c : Port) : (putPort s k c).tables = s.tables := rfl
@[simp] theorem putPort_spaces (s : State) (k : Nat) (c : Port) : (putPort s k c).spaces = s.spaces := rfl
@[simp] theorem putPort_sets (s : State) (k : Nat) (c : Port) : (putPort s k c).sets = s.sets := rfl
@[simp] theorem putPort_res (s : State) (k : Nat) (c : Port) : (putPort s k c).res = s.res := rfl
@[simp] theorem putPort_nextId (s : State) (k : Nat) (c : Port) : (putPort s k c).nextId = s.nextId := rfl
@[simp] theorem putPort_tins (s : State) (k : Nat) (c : Port) : (putPort s k c).tins = s.tins := rfl
@[simp] theorem putPort_streams (s : State) (k : Nat) (c : Port) : (putPort s k c).streams = s.streams := rfl
@[simp] theorem putPort_models (s : State) (k : Nat) (c : Port) : (putPort s k c).models = s.models := rfl
@[simp] theorem putPort_jobs (s : State) (k : Nat) (c : Port) : (putPort s k c).jobs = s.jobs := rfl
@[simp] theorem putPort_kernels (s : State) (k : Nat) (c : Port) : (putPort s k c).kernels = s.kernels := rfl
@[simp] theorem putPort_adm (s : State) (k : Nat) (c : Port) : (putPort s k c).adm = s.adm := rfl
@[simp] theorem putPort_ports (s : State) (k : Nat) (c : Port) : (putPort s k c).ports = tput s.ports k c := rfl
@[simp] theorem putPort_strands (s : State) (k : Nat) (c : Port) : (putPort s k c).strands = s.strands := rfl
@[simp] theorem putPort_engines (s : State) (k : Nat) (c : Port) : (putPort s k c).engines = s.engines := rfl
@[simp] theorem putPort_routing (s : State) (k : Nat) (c : Port) : (putPort s k c).routing = s.routing := rfl
@[simp] theorem putPort_d2d (s : State) (k : Nat) (c : Port) : (putPort s k c).d2d = s.d2d := rfl
@[simp] theorem putPort_flight (s : State) (k : Nat) (c : Port) : (putPort s k c).flight = s.flight := rfl
@[simp] theorem putPort_failed (s : State) (k : Nat) (c : Port) : (putPort s k c).failed = s.failed := rfl
@[simp] theorem putPort_coll (s : State) (k : Nat) (c : Port) : (putPort s k c).coll = s.coll := rfl
@[simp] theorem putPort_topo (s : State) (k : Nat) (c : Port) : (putPort s k c).topo = s.topo := rfl
@[simp] theorem putPort_power (s : State) (k : Nat) (c : Port) : (putPort s k c).power = s.power := rfl
@[simp] theorem putPort_keeper (s : State) (k : Nat) (c : Port) : (putPort s k c).keeper = s.keeper := rfl
@[simp] theorem putPort_pins (s : State) (k : Nat) (c : Port) : (putPort s k c).pins = s.pins := rfl

@[simp] theorem putStrand_now (s : State) (k : Nat) (c : Strand) : (putStrand s k c).now = s.now := rfl
@[simp] theorem putStrand_pending (s : State) (k : Nat) (c : Strand) : (putStrand s k c).pending = s.pending := rfl
@[simp] theorem putStrand_free (s : State) (k : Nat) (c : Strand) : (putStrand s k c).free = s.free := rfl
@[simp] theorem putStrand_lastCode (s : State) (k : Nat) (c : Strand) : (putStrand s k c).lastCode = s.lastCode := rfl
@[simp] theorem putStrand_myModule (s : State) (k : Nat) (c : Strand) : (putStrand s k c).myModule = s.myModule := rfl
@[simp] theorem putStrand_counters (s : State) (k : Nat) (c : Strand) : (putStrand s k c).counters = s.counters := rfl
@[simp] theorem putStrand_staging (s : State) (k : Nat) (c : Strand) : (putStrand s k c).staging = s.staging := rfl
@[simp] theorem putStrand_stages (s : State) (k : Nat) (c : Strand) : (putStrand s k c).stages = s.stages := rfl
@[simp] theorem putStrand_log (s : State) (k : Nat) (c : Strand) : (putStrand s k c).log = s.log := rfl
@[simp] theorem putStrand_cores (s : State) (k : Nat) (c : Strand) : (putStrand s k c).cores = s.cores := rfl
@[simp] theorem putStrand_slices (s : State) (k : Nat) (c : Strand) : (putStrand s k c).slices = s.slices := rfl
@[simp] theorem putStrand_tiles (s : State) (k : Nat) (c : Strand) : (putStrand s k c).tiles = s.tiles := rfl
@[simp] theorem putStrand_groups (s : State) (k : Nat) (c : Strand) : (putStrand s k c).groups = s.groups := rfl
@[simp] theorem putStrand_pages (s : State) (k : Nat) (c : Strand) : (putStrand s k c).pages = s.pages := rfl
@[simp] theorem putStrand_frames (s : State) (k : Nat) (c : Strand) : (putStrand s k c).frames = s.frames := rfl
@[simp] theorem putStrand_tables (s : State) (k : Nat) (c : Strand) : (putStrand s k c).tables = s.tables := rfl
@[simp] theorem putStrand_spaces (s : State) (k : Nat) (c : Strand) : (putStrand s k c).spaces = s.spaces := rfl
@[simp] theorem putStrand_sets (s : State) (k : Nat) (c : Strand) : (putStrand s k c).sets = s.sets := rfl
@[simp] theorem putStrand_res (s : State) (k : Nat) (c : Strand) : (putStrand s k c).res = s.res := rfl
@[simp] theorem putStrand_nextId (s : State) (k : Nat) (c : Strand) : (putStrand s k c).nextId = s.nextId := rfl
@[simp] theorem putStrand_tins (s : State) (k : Nat) (c : Strand) : (putStrand s k c).tins = s.tins := rfl
@[simp] theorem putStrand_streams (s : State) (k : Nat) (c : Strand) : (putStrand s k c).streams = s.streams := rfl
@[simp] theorem putStrand_models (s : State) (k : Nat) (c : Strand) : (putStrand s k c).models = s.models := rfl
@[simp] theorem putStrand_jobs (s : State) (k : Nat) (c : Strand) : (putStrand s k c).jobs = s.jobs := rfl
@[simp] theorem putStrand_kernels (s : State) (k : Nat) (c : Strand) : (putStrand s k c).kernels = s.kernels := rfl
@[simp] theorem putStrand_adm (s : State) (k : Nat) (c : Strand) : (putStrand s k c).adm = s.adm := rfl
@[simp] theorem putStrand_ports (s : State) (k : Nat) (c : Strand) : (putStrand s k c).ports = s.ports := rfl
@[simp] theorem putStrand_strands (s : State) (k : Nat) (c : Strand) : (putStrand s k c).strands = tput s.strands k c := rfl
@[simp] theorem putStrand_engines (s : State) (k : Nat) (c : Strand) : (putStrand s k c).engines = s.engines := rfl
@[simp] theorem putStrand_routing (s : State) (k : Nat) (c : Strand) : (putStrand s k c).routing = s.routing := rfl
@[simp] theorem putStrand_d2d (s : State) (k : Nat) (c : Strand) : (putStrand s k c).d2d = s.d2d := rfl
@[simp] theorem putStrand_flight (s : State) (k : Nat) (c : Strand) : (putStrand s k c).flight = s.flight := rfl
@[simp] theorem putStrand_failed (s : State) (k : Nat) (c : Strand) : (putStrand s k c).failed = s.failed := rfl
@[simp] theorem putStrand_coll (s : State) (k : Nat) (c : Strand) : (putStrand s k c).coll = s.coll := rfl
@[simp] theorem putStrand_topo (s : State) (k : Nat) (c : Strand) : (putStrand s k c).topo = s.topo := rfl
@[simp] theorem putStrand_power (s : State) (k : Nat) (c : Strand) : (putStrand s k c).power = s.power := rfl
@[simp] theorem putStrand_keeper (s : State) (k : Nat) (c : Strand) : (putStrand s k c).keeper = s.keeper := rfl
@[simp] theorem putStrand_pins (s : State) (k : Nat) (c : Strand) : (putStrand s k c).pins = s.pins := rfl

@[simp] theorem putEngine_now (s : State) (k : Nat) (c : Engine) : (putEngine s k c).now = s.now := rfl
@[simp] theorem putEngine_pending (s : State) (k : Nat) (c : Engine) : (putEngine s k c).pending = s.pending := rfl
@[simp] theorem putEngine_free (s : State) (k : Nat) (c : Engine) : (putEngine s k c).free = s.free := rfl
@[simp] theorem putEngine_lastCode (s : State) (k : Nat) (c : Engine) : (putEngine s k c).lastCode = s.lastCode := rfl
@[simp] theorem putEngine_myModule (s : State) (k : Nat) (c : Engine) : (putEngine s k c).myModule = s.myModule := rfl
@[simp] theorem putEngine_counters (s : State) (k : Nat) (c : Engine) : (putEngine s k c).counters = s.counters := rfl
@[simp] theorem putEngine_staging (s : State) (k : Nat) (c : Engine) : (putEngine s k c).staging = s.staging := rfl
@[simp] theorem putEngine_stages (s : State) (k : Nat) (c : Engine) : (putEngine s k c).stages = s.stages := rfl
@[simp] theorem putEngine_log (s : State) (k : Nat) (c : Engine) : (putEngine s k c).log = s.log := rfl
@[simp] theorem putEngine_cores (s : State) (k : Nat) (c : Engine) : (putEngine s k c).cores = s.cores := rfl
@[simp] theorem putEngine_slices (s : State) (k : Nat) (c : Engine) : (putEngine s k c).slices = s.slices := rfl
@[simp] theorem putEngine_tiles (s : State) (k : Nat) (c : Engine) : (putEngine s k c).tiles = s.tiles := rfl
@[simp] theorem putEngine_groups (s : State) (k : Nat) (c : Engine) : (putEngine s k c).groups = s.groups := rfl
@[simp] theorem putEngine_pages (s : State) (k : Nat) (c : Engine) : (putEngine s k c).pages = s.pages := rfl
@[simp] theorem putEngine_frames (s : State) (k : Nat) (c : Engine) : (putEngine s k c).frames = s.frames := rfl
@[simp] theorem putEngine_tables (s : State) (k : Nat) (c : Engine) : (putEngine s k c).tables = s.tables := rfl
@[simp] theorem putEngine_spaces (s : State) (k : Nat) (c : Engine) : (putEngine s k c).spaces = s.spaces := rfl
@[simp] theorem putEngine_sets (s : State) (k : Nat) (c : Engine) : (putEngine s k c).sets = s.sets := rfl
@[simp] theorem putEngine_res (s : State) (k : Nat) (c : Engine) : (putEngine s k c).res = s.res := rfl
@[simp] theorem putEngine_nextId (s : State) (k : Nat) (c : Engine) : (putEngine s k c).nextId = s.nextId := rfl
@[simp] theorem putEngine_tins (s : State) (k : Nat) (c : Engine) : (putEngine s k c).tins = s.tins := rfl
@[simp] theorem putEngine_streams (s : State) (k : Nat) (c : Engine) : (putEngine s k c).streams = s.streams := rfl
@[simp] theorem putEngine_models (s : State) (k : Nat) (c : Engine) : (putEngine s k c).models = s.models := rfl
@[simp] theorem putEngine_jobs (s : State) (k : Nat) (c : Engine) : (putEngine s k c).jobs = s.jobs := rfl
@[simp] theorem putEngine_kernels (s : State) (k : Nat) (c : Engine) : (putEngine s k c).kernels = s.kernels := rfl
@[simp] theorem putEngine_adm (s : State) (k : Nat) (c : Engine) : (putEngine s k c).adm = s.adm := rfl
@[simp] theorem putEngine_ports (s : State) (k : Nat) (c : Engine) : (putEngine s k c).ports = s.ports := rfl
@[simp] theorem putEngine_strands (s : State) (k : Nat) (c : Engine) : (putEngine s k c).strands = s.strands := rfl
@[simp] theorem putEngine_engines (s : State) (k : Nat) (c : Engine) : (putEngine s k c).engines = tput s.engines k c := rfl
@[simp] theorem putEngine_routing (s : State) (k : Nat) (c : Engine) : (putEngine s k c).routing = s.routing := rfl
@[simp] theorem putEngine_d2d (s : State) (k : Nat) (c : Engine) : (putEngine s k c).d2d = s.d2d := rfl
@[simp] theorem putEngine_flight (s : State) (k : Nat) (c : Engine) : (putEngine s k c).flight = s.flight := rfl
@[simp] theorem putEngine_failed (s : State) (k : Nat) (c : Engine) : (putEngine s k c).failed = s.failed := rfl
@[simp] theorem putEngine_coll (s : State) (k : Nat) (c : Engine) : (putEngine s k c).coll = s.coll := rfl
@[simp] theorem putEngine_topo (s : State) (k : Nat) (c : Engine) : (putEngine s k c).topo = s.topo := rfl
@[simp] theorem putEngine_power (s : State) (k : Nat) (c : Engine) : (putEngine s k c).power = s.power := rfl
@[simp] theorem putEngine_keeper (s : State) (k : Nat) (c : Engine) : (putEngine s k c).keeper = s.keeper := rfl
@[simp] theorem putEngine_pins (s : State) (k : Nat) (c : Engine) : (putEngine s k c).pins = s.pins := rfl

@[simp] theorem putRes_now (s : State) (k : Nat) (c : ResTile) : (putRes s k c).now = s.now := rfl
@[simp] theorem putRes_pending (s : State) (k : Nat) (c : ResTile) : (putRes s k c).pending = s.pending := rfl
@[simp] theorem putRes_free (s : State) (k : Nat) (c : ResTile) : (putRes s k c).free = s.free := rfl
@[simp] theorem putRes_lastCode (s : State) (k : Nat) (c : ResTile) : (putRes s k c).lastCode = s.lastCode := rfl
@[simp] theorem putRes_myModule (s : State) (k : Nat) (c : ResTile) : (putRes s k c).myModule = s.myModule := rfl
@[simp] theorem putRes_counters (s : State) (k : Nat) (c : ResTile) : (putRes s k c).counters = s.counters := rfl
@[simp] theorem putRes_staging (s : State) (k : Nat) (c : ResTile) : (putRes s k c).staging = s.staging := rfl
@[simp] theorem putRes_stages (s : State) (k : Nat) (c : ResTile) : (putRes s k c).stages = s.stages := rfl
@[simp] theorem putRes_log (s : State) (k : Nat) (c : ResTile) : (putRes s k c).log = s.log := rfl
@[simp] theorem putRes_cores (s : State) (k : Nat) (c : ResTile) : (putRes s k c).cores = s.cores := rfl
@[simp] theorem putRes_slices (s : State) (k : Nat) (c : ResTile) : (putRes s k c).slices = s.slices := rfl
@[simp] theorem putRes_tiles (s : State) (k : Nat) (c : ResTile) : (putRes s k c).tiles = s.tiles := rfl
@[simp] theorem putRes_groups (s : State) (k : Nat) (c : ResTile) : (putRes s k c).groups = s.groups := rfl
@[simp] theorem putRes_pages (s : State) (k : Nat) (c : ResTile) : (putRes s k c).pages = s.pages := rfl
@[simp] theorem putRes_frames (s : State) (k : Nat) (c : ResTile) : (putRes s k c).frames = s.frames := rfl
@[simp] theorem putRes_tables (s : State) (k : Nat) (c : ResTile) : (putRes s k c).tables = s.tables := rfl
@[simp] theorem putRes_spaces (s : State) (k : Nat) (c : ResTile) : (putRes s k c).spaces = s.spaces := rfl
@[simp] theorem putRes_sets (s : State) (k : Nat) (c : ResTile) : (putRes s k c).sets = s.sets := rfl
@[simp] theorem putRes_res (s : State) (k : Nat) (c : ResTile) : (putRes s k c).res = tput s.res k c := rfl
@[simp] theorem putRes_nextId (s : State) (k : Nat) (c : ResTile) : (putRes s k c).nextId = s.nextId := rfl
@[simp] theorem putRes_tins (s : State) (k : Nat) (c : ResTile) : (putRes s k c).tins = s.tins := rfl
@[simp] theorem putRes_streams (s : State) (k : Nat) (c : ResTile) : (putRes s k c).streams = s.streams := rfl
@[simp] theorem putRes_models (s : State) (k : Nat) (c : ResTile) : (putRes s k c).models = s.models := rfl
@[simp] theorem putRes_jobs (s : State) (k : Nat) (c : ResTile) : (putRes s k c).jobs = s.jobs := rfl
@[simp] theorem putRes_kernels (s : State) (k : Nat) (c : ResTile) : (putRes s k c).kernels = s.kernels := rfl
@[simp] theorem putRes_adm (s : State) (k : Nat) (c : ResTile) : (putRes s k c).adm = s.adm := rfl
@[simp] theorem putRes_ports (s : State) (k : Nat) (c : ResTile) : (putRes s k c).ports = s.ports := rfl
@[simp] theorem putRes_strands (s : State) (k : Nat) (c : ResTile) : (putRes s k c).strands = s.strands := rfl
@[simp] theorem putRes_engines (s : State) (k : Nat) (c : ResTile) : (putRes s k c).engines = s.engines := rfl
@[simp] theorem putRes_routing (s : State) (k : Nat) (c : ResTile) : (putRes s k c).routing = s.routing := rfl
@[simp] theorem putRes_d2d (s : State) (k : Nat) (c : ResTile) : (putRes s k c).d2d = s.d2d := rfl
@[simp] theorem putRes_flight (s : State) (k : Nat) (c : ResTile) : (putRes s k c).flight = s.flight := rfl
@[simp] theorem putRes_failed (s : State) (k : Nat) (c : ResTile) : (putRes s k c).failed = s.failed := rfl
@[simp] theorem putRes_coll (s : State) (k : Nat) (c : ResTile) : (putRes s k c).coll = s.coll := rfl
@[simp] theorem putRes_topo (s : State) (k : Nat) (c : ResTile) : (putRes s k c).topo = s.topo := rfl
@[simp] theorem putRes_power (s : State) (k : Nat) (c : ResTile) : (putRes s k c).power = s.power := rfl
@[simp] theorem putRes_keeper (s : State) (k : Nat) (c : ResTile) : (putRes s k c).keeper = s.keeper := rfl
@[simp] theorem putRes_pins (s : State) (k : Nat) (c : ResTile) : (putRes s k c).pins = s.pins := rfl

@[simp] theorem modTin_now (s : State) (k : Nat) (f : Tin → Tin) : (modTin s k f).now = s.now := rfl
@[simp] theorem modTin_pending (s : State) (k : Nat) (f : Tin → Tin) : (modTin s k f).pending = s.pending := rfl
@[simp] theorem modTin_free (s : State) (k : Nat) (f : Tin → Tin) : (modTin s k f).free = s.free := rfl
@[simp] theorem modTin_lastCode (s : State) (k : Nat) (f : Tin → Tin) : (modTin s k f).lastCode = s.lastCode := rfl
@[simp] theorem modTin_myModule (s : State) (k : Nat) (f : Tin → Tin) : (modTin s k f).myModule = s.myModule := rfl
@[simp] theorem modTin_counters (s : State) (k : Nat) (f : Tin → Tin) : (modTin s k f).counters = s.counters := rfl
@[simp] theorem modTin_staging (s : State) (k : Nat) (f : Tin → Tin) : (modTin s k f).staging = s.staging := rfl
@[simp] theorem modTin_stages (s : State) (k : Nat) (f : Tin → Tin) : (modTin s k f).stages = s.stages := rfl
@[simp] theorem modTin_log (s : State) (k : Nat) (f : Tin → Tin) : (modTin s k f).log = s.log := rfl
@[simp] theorem modTin_cores (s : State) (k : Nat) (f : Tin → Tin) : (modTin s k f).cores = s.cores := rfl
@[simp] theorem modTin_slices (s : State) (k : Nat) (f : Tin → Tin) : (modTin s k f).slices = s.slices := rfl
@[simp] theorem modTin_tiles (s : State) (k : Nat) (f : Tin → Tin) : (modTin s k f).tiles = s.tiles := rfl
@[simp] theorem modTin_groups (s : State) (k : Nat) (f : Tin → Tin) : (modTin s k f).groups = s.groups := rfl
@[simp] theorem modTin_pages (s : State) (k : Nat) (f : Tin → Tin) : (modTin s k f).pages = s.pages := rfl
@[simp] theorem modTin_frames (s : State) (k : Nat) (f : Tin → Tin) : (modTin s k f).frames = s.frames := rfl
@[simp] theorem modTin_tables (s : State) (k : Nat) (f : Tin → Tin) : (modTin s k f).tables = s.tables := rfl
@[simp] theorem modTin_spaces (s : State) (k : Nat) (f : Tin → Tin) : (modTin s k f).spaces = s.spaces := rfl
@[simp] theorem modTin_sets (s : State) (k : Nat) (f : Tin → Tin) : (modTin s k f).sets = s.sets := rfl
@[simp] theorem modTin_res (s : State) (k : Nat) (f : Tin → Tin) : (modTin s k f).res = s.res := rfl
@[simp] theorem modTin_nextId (s : State) (k : Nat) (f : Tin → Tin) : (modTin s k f).nextId = s.nextId := rfl
@[simp] theorem modTin_tins (s : State) (k : Nat) (f : Tin → Tin) : (modTin s k f).tins = tput s.tins k (f (getTin s k)) := rfl
@[simp] theorem modTin_streams (s : State) (k : Nat) (f : Tin → Tin) : (modTin s k f).streams = s.streams := rfl
@[simp] theorem modTin_models (s : State) (k : Nat) (f : Tin → Tin) : (modTin s k f).models = s.models := rfl
@[simp] theorem modTin_jobs (s : State) (k : Nat) (f : Tin → Tin) : (modTin s k f).jobs = s.jobs := rfl
@[simp] theorem modTin_kernels (s : State) (k : Nat) (f : Tin → Tin) : (modTin s k f).kernels = s.kernels := rfl
@[simp] theorem modTin_adm (s : State) (k : Nat) (f : Tin → Tin) : (modTin s k f).adm = s.adm := rfl
@[simp] theorem modTin_ports (s : State) (k : Nat) (f : Tin → Tin) : (modTin s k f).ports = s.ports := rfl
@[simp] theorem modTin_strands (s : State) (k : Nat) (f : Tin → Tin) : (modTin s k f).strands = s.strands := rfl
@[simp] theorem modTin_engines (s : State) (k : Nat) (f : Tin → Tin) : (modTin s k f).engines = s.engines := rfl
@[simp] theorem modTin_routing (s : State) (k : Nat) (f : Tin → Tin) : (modTin s k f).routing = s.routing := rfl
@[simp] theorem modTin_d2d (s : State) (k : Nat) (f : Tin → Tin) : (modTin s k f).d2d = s.d2d := rfl
@[simp] theorem modTin_flight (s : State) (k : Nat) (f : Tin → Tin) : (modTin s k f).flight = s.flight := rfl
@[simp] theorem modTin_failed (s : State) (k : Nat) (f : Tin → Tin) : (modTin s k f).failed = s.failed := rfl
@[simp] theorem modTin_coll (s : State) (k : Nat) (f : Tin → Tin) : (modTin s k f).coll = s.coll := rfl
@[simp] theorem modTin_topo (s : State) (k : Nat) (f : Tin → Tin) : (modTin s k f).topo = s.topo := rfl
@[simp] theorem modTin_power (s : State) (k : Nat) (f : Tin → Tin) : (modTin s k f).power = s.power := rfl
@[simp] theorem modTin_keeper (s : State) (k : Nat) (f : Tin → Tin) : (modTin s k f).keeper = s.keeper := rfl
@[simp] theorem modTin_pins (s : State) (k : Nat) (f : Tin → Tin) : (modTin s k f).pins = s.pins := rfl

@[simp] theorem modStream_now (s : State) (k : Nat) (f : Stream → Stream) : (modStream s k f).now = s.now := rfl
@[simp] theorem modStream_pending (s : State) (k : Nat) (f : Stream → Stream) : (modStream s k f).pending = s.pending := rfl
@[simp] theorem modStream_free (s : State) (k : Nat) (f : Stream → Stream) : (modStream s k f).free = s.free := rfl
@[simp] theorem modStream_lastCode (s : State) (k : Nat) (f : Stream → Stream) : (modStream s k f).lastCode = s.lastCode := rfl
@[simp] theorem modStream_myModule (s : State) (k : Nat) (f : Stream → Stream) : (modStream s k f).myModule = s.myModule := rfl
@[simp] theorem modStream_counters (s : State) (k : Nat) (f : Stream → Stream) : (modStream s k f).counters = s.counters := rfl
@[simp] theorem modStream_staging (s : State) (k : Nat) (f : Stream → Stream) : (modStream s k f).staging = s.staging := rfl
@[simp] theorem modStream_stages (s : State) (k : Nat) (f : Stream → Stream) : (modStream s k f).stages = s.stages := rfl
@[simp] theorem modStream_log (s : State) (k : Nat) (f : Stream → Stream) : (modStream s k f).log = s.log := rfl
@[simp] theorem modStream_cores (s : State) (k : Nat) (f : Stream → Stream) : (modStream s k f).cores = s.cores := rfl
@[simp] theorem modStream_slices (s : State) (k : Nat) (f : Stream → Stream) : (modStream s k f).slices = s.slices := rfl
@[simp] theorem modStream_tiles (s : State) (k : Nat) (f : Stream → Stream) : (modStream s k f).tiles = s.tiles := rfl
@[simp] theorem modStream_groups (s : State) (k : Nat) (f : Stream → Stream) : (modStream s k f).groups = s.groups := rfl
@[simp] theorem modStream_pages (s : State) (k : Nat) (f : Stream → Stream) : (modStream s k f).pages = s.pages := rfl
@[simp] theorem modStream_frames (s : State) (k : Nat) (f : Stream → Stream) : (modStream s k f).frames = s.frames := rfl
@[simp] theorem modStream_tables (s : State) (k : Nat) (f : Stream → Stream) : (modStream s k f).tables = s.tables := rfl
@[simp] theorem modStream_spaces (s : State) (k : Nat) (f : Stream → Stream) : (modStream s k f).spaces = s.spaces := rfl
@[simp] theorem modStream_sets (s : State) (k : Nat) (f : Stream → Stream) : (modStream s k f).sets = s.sets := rfl
@[simp] theorem modStream_res (s : State) (k : Nat) (f : Stream → Stream) : (modStream s k f).res = s.res := rfl
@[simp] theorem modStream_nextId (s : State) (k : Nat) (f : Stream → Stream) : (modStream s k f).nextId = s.nextId := rfl
@[simp] theorem modStream_tins (s : State) (k : Nat) (f : Stream → Stream) : (modStream s k f).tins = s.tins := rfl
@[simp] theorem modStream_streams (s : State) (k : Nat) (f : Stream → Stream) : (modStream s k f).streams = tput s.streams k (f (getStream s k)) := rfl
@[simp] theorem modStream_models (s : State) (k : Nat) (f : Stream → Stream) : (modStream s k f).models = s.models := rfl
@[simp] theorem modStream_jobs (s : State) (k : Nat) (f : Stream → Stream) : (modStream s k f).jobs = s.jobs := rfl
@[simp] theorem modStream_kernels (s : State) (k : Nat) (f : Stream → Stream) : (modStream s k f).kernels = s.kernels := rfl
@[simp] theorem modStream_adm (s : State) (k : Nat) (f : Stream → Stream) : (modStream s k f).adm = s.adm := rfl
@[simp] theorem modStream_ports (s : State) (k : Nat) (f : Stream → Stream) : (modStream s k f).ports = s.ports := rfl
@[simp] theorem modStream_strands (s : State) (k : Nat) (f : Stream → Stream) : (modStream s k f).strands = s.strands := rfl
@[simp] theorem modStream_engines (s : State) (k : Nat) (f : Stream → Stream) : (modStream s k f).engines = s.engines := rfl
@[simp] theorem modStream_routing (s : State) (k : Nat) (f : Stream → Stream) : (modStream s k f).routing = s.routing := rfl
@[simp] theorem modStream_d2d (s : State) (k : Nat) (f : Stream → Stream) : (modStream s k f).d2d = s.d2d := rfl
@[simp] theorem modStream_flight (s : State) (k : Nat) (f : Stream → Stream) : (modStream s k f).flight = s.flight := rfl
@[simp] theorem modStream_failed (s : State) (k : Nat) (f : Stream → Stream) : (modStream s k f).failed = s.failed := rfl
@[simp] theorem modStream_coll (s : State) (k : Nat) (f : Stream → Stream) : (modStream s k f).coll = s.coll := rfl
@[simp] theorem modStream_topo (s : State) (k : Nat) (f : Stream → Stream) : (modStream s k f).topo = s.topo := rfl
@[simp] theorem modStream_power (s : State) (k : Nat) (f : Stream → Stream) : (modStream s k f).power = s.power := rfl
@[simp] theorem modStream_keeper (s : State) (k : Nat) (f : Stream → Stream) : (modStream s k f).keeper = s.keeper := rfl
@[simp] theorem modStream_pins (s : State) (k : Nat) (f : Stream → Stream) : (modStream s k f).pins = s.pins := rfl

@[simp] theorem modModel_now (s : State) (k : Nat) (f : Model → Model) : (modModel s k f).now = s.now := rfl
@[simp] theorem modModel_pending (s : State) (k : Nat) (f : Model → Model) : (modModel s k f).pending = s.pending := rfl
@[simp] theorem modModel_free (s : State) (k : Nat) (f : Model → Model) : (modModel s k f).free = s.free := rfl
@[simp] theorem modModel_lastCode (s : State) (k : Nat) (f : Model → Model) : (modModel s k f).lastCode = s.lastCode := rfl
@[simp] theorem modModel_myModule (s : State) (k : Nat) (f : Model → Model) : (modModel s k f).myModule = s.myModule := rfl
@[simp] theorem modModel_counters (s : State) (k : Nat) (f : Model → Model) : (modModel s k f).counters = s.counters := rfl
@[simp] theorem modModel_staging (s : State) (k : Nat) (f : Model → Model) : (modModel s k f).staging = s.staging := rfl
@[simp] theorem modModel_stages (s : State) (k : Nat) (f : Model → Model) : (modModel s k f).stages = s.stages := rfl
@[simp] theorem modModel_log (s : State) (k : Nat) (f : Model → Model) : (modModel s k f).log = s.log := rfl
@[simp] theorem modModel_cores (s : State) (k : Nat) (f : Model → Model) : (modModel s k f).cores = s.cores := rfl
@[simp] theorem modModel_slices (s : State) (k : Nat) (f : Model → Model) : (modModel s k f).slices = s.slices := rfl
@[simp] theorem modModel_tiles (s : State) (k : Nat) (f : Model → Model) : (modModel s k f).tiles = s.tiles := rfl
@[simp] theorem modModel_groups (s : State) (k : Nat) (f : Model → Model) : (modModel s k f).groups = s.groups := rfl
@[simp] theorem modModel_pages (s : State) (k : Nat) (f : Model → Model) : (modModel s k f).pages = s.pages := rfl
@[simp] theorem modModel_frames (s : State) (k : Nat) (f : Model → Model) : (modModel s k f).frames = s.frames := rfl
@[simp] theorem modModel_tables (s : State) (k : Nat) (f : Model → Model) : (modModel s k f).tables = s.tables := rfl
@[simp] theorem modModel_spaces (s : State) (k : Nat) (f : Model → Model) : (modModel s k f).spaces = s.spaces := rfl
@[simp] theorem modModel_sets (s : State) (k : Nat) (f : Model → Model) : (modModel s k f).sets = s.sets := rfl
@[simp] theorem modModel_res (s : State) (k : Nat) (f : Model → Model) : (modModel s k f).res = s.res := rfl
@[simp] theorem modModel_nextId (s : State) (k : Nat) (f : Model → Model) : (modModel s k f).nextId = s.nextId := rfl
@[simp] theorem modModel_tins (s : State) (k : Nat) (f : Model → Model) : (modModel s k f).tins = s.tins := rfl
@[simp] theorem modModel_streams (s : State) (k : Nat) (f : Model → Model) : (modModel s k f).streams = s.streams := rfl
@[simp] theorem modModel_models (s : State) (k : Nat) (f : Model → Model) : (modModel s k f).models = tput s.models k (f (getModel s k)) := rfl
@[simp] theorem modModel_jobs (s : State) (k : Nat) (f : Model → Model) : (modModel s k f).jobs = s.jobs := rfl
@[simp] theorem modModel_kernels (s : State) (k : Nat) (f : Model → Model) : (modModel s k f).kernels = s.kernels := rfl
@[simp] theorem modModel_adm (s : State) (k : Nat) (f : Model → Model) : (modModel s k f).adm = s.adm := rfl
@[simp] theorem modModel_ports (s : State) (k : Nat) (f : Model → Model) : (modModel s k f).ports = s.ports := rfl
@[simp] theorem modModel_strands (s : State) (k : Nat) (f : Model → Model) : (modModel s k f).strands = s.strands := rfl
@[simp] theorem modModel_engines (s : State) (k : Nat) (f : Model → Model) : (modModel s k f).engines = s.engines := rfl
@[simp] theorem modModel_routing (s : State) (k : Nat) (f : Model → Model) : (modModel s k f).routing = s.routing := rfl
@[simp] theorem modModel_d2d (s : State) (k : Nat) (f : Model → Model) : (modModel s k f).d2d = s.d2d := rfl
@[simp] theorem modModel_flight (s : State) (k : Nat) (f : Model → Model) : (modModel s k f).flight = s.flight := rfl
@[simp] theorem modModel_failed (s : State) (k : Nat) (f : Model → Model) : (modModel s k f).failed = s.failed := rfl
@[simp] theorem modModel_coll (s : State) (k : Nat) (f : Model → Model) : (modModel s k f).coll = s.coll := rfl
@[simp] theorem modModel_topo (s : State) (k : Nat) (f : Model → Model) : (modModel s k f).topo = s.topo := rfl
@[simp] theorem modModel_power (s : State) (k : Nat) (f : Model → Model) : (modModel s k f).power = s.power := rfl
@[simp] theorem modModel_keeper (s : State) (k : Nat) (f : Model → Model) : (modModel s k f).keeper = s.keeper := rfl
@[simp] theorem modModel_pins (s : State) (k : Nat) (f : Model → Model) : (modModel s k f).pins = s.pins := rfl

@[simp] theorem modPte_now (s : State) (k : Nat) (f : Pte → Pte) : (modPte s k f).now = s.now := rfl
@[simp] theorem modPte_pending (s : State) (k : Nat) (f : Pte → Pte) : (modPte s k f).pending = s.pending := rfl
@[simp] theorem modPte_free (s : State) (k : Nat) (f : Pte → Pte) : (modPte s k f).free = s.free := rfl
@[simp] theorem modPte_lastCode (s : State) (k : Nat) (f : Pte → Pte) : (modPte s k f).lastCode = s.lastCode := rfl
@[simp] theorem modPte_myModule (s : State) (k : Nat) (f : Pte → Pte) : (modPte s k f).myModule = s.myModule := rfl
@[simp] theorem modPte_counters (s : State) (k : Nat) (f : Pte → Pte) : (modPte s k f).counters = s.counters := rfl
@[simp] theorem modPte_staging (s : State) (k : Nat) (f : Pte → Pte) : (modPte s k f).staging = s.staging := rfl
@[simp] theorem modPte_stages (s : State) (k : Nat) (f : Pte → Pte) : (modPte s k f).stages = s.stages := rfl
@[simp] theorem modPte_log (s : State) (k : Nat) (f : Pte → Pte) : (modPte s k f).log = s.log := rfl
@[simp] theorem modPte_cores (s : State) (k : Nat) (f : Pte → Pte) : (modPte s k f).cores = s.cores := rfl
@[simp] theorem modPte_slices (s : State) (k : Nat) (f : Pte → Pte) : (modPte s k f).slices = s.slices := rfl
@[simp] theorem modPte_tiles (s : State) (k : Nat) (f : Pte → Pte) : (modPte s k f).tiles = s.tiles := rfl
@[simp] theorem modPte_groups (s : State) (k : Nat) (f : Pte → Pte) : (modPte s k f).groups = s.groups := rfl
@[simp] theorem modPte_pages (s : State) (k : Nat) (f : Pte → Pte) : (modPte s k f).pages = tput s.pages k (f (getPte s k)) := rfl
@[simp] theorem modPte_frames (s : State) (k : Nat) (f : Pte → Pte) : (modPte s k f).frames = s.frames := rfl
@[simp] theorem modPte_tables (s : State) (k : Nat) (f : Pte → Pte) : (modPte s k f).tables = s.tables := rfl
@[simp] theorem modPte_spaces (s : State) (k : Nat) (f : Pte → Pte) : (modPte s k f).spaces = s.spaces := rfl
@[simp] theorem modPte_sets (s : State) (k : Nat) (f : Pte → Pte) : (modPte s k f).sets = s.sets := rfl
@[simp] theorem modPte_res (s : State) (k : Nat) (f : Pte → Pte) : (modPte s k f).res = s.res := rfl
@[simp] theorem modPte_nextId (s : State) (k : Nat) (f : Pte → Pte) : (modPte s k f).nextId = s.nextId := rfl
@[simp] theorem modPte_tins (s : State) (k : Nat) (f : Pte → Pte) : (modPte s k f).tins = s.tins := rfl
@[simp] theorem modPte_streams (s : State) (k : Nat) (f : Pte → Pte) : (modPte s k f).streams = s.streams := rfl
@[simp] theorem modPte_models (s : State) (k : Nat) (f : Pte → Pte) : (modPte s k f).models = s.models := rfl
@[simp] theorem modPte_jobs (s : State) (k : Nat) (f : Pte → Pte) : (modPte s k f).jobs = s.jobs := rfl
@[simp] theorem modPte_kernels (s : State) (k : Nat) (f : Pte → Pte) : (modPte s k f).kernels = s.kernels := rfl
@[simp] theorem modPte_adm (s : State) (k : Nat) (f : Pte → Pte) : (modPte s k f).adm = s.adm := rfl
@[simp] theorem modPte_ports (s : State) (k : Nat) (f : Pte → Pte) : (modPte s k f).ports = s.ports := rfl
@[simp] theorem modPte_strands (s : State) (k : Nat) (f : Pte → Pte) : (modPte s k f).strands = s.strands := rfl
@[simp] theorem modPte_engines (s : State) (k : Nat) (f : Pte → Pte) : (modPte s k f).engines = s.engines := rfl
@[simp] theorem modPte_routing (s : State) (k : Nat) (f : Pte → Pte) : (modPte s k f).routing = s.routing := rfl
@[simp] theorem modPte_d2d (s : State) (k : Nat) (f : Pte → Pte) : (modPte s k f).d2d = s.d2d := rfl
@[simp] theorem modPte_flight (s : State) (k : Nat) (f : Pte → Pte) : (modPte s k f).flight = s.flight := rfl
@[simp] theorem modPte_failed (s : State) (k : Nat) (f : Pte → Pte) : (modPte s k f).failed = s.failed := rfl
@[simp] theorem modPte_coll (s : State) (k : Nat) (f : Pte → Pte) : (modPte s k f).coll = s.coll := rfl
@[simp] theorem modPte_topo (s : State) (k : Nat) (f : Pte → Pte) : (modPte s k f).topo = s.topo := rfl
@[simp] theorem modPte_power (s : State) (k : Nat) (f : Pte → Pte) : (modPte s k f).power = s.power := rfl
@[simp] theorem modPte_keeper (s : State) (k : Nat) (f : Pte → Pte) : (modPte s k f).keeper = s.keeper := rfl
@[simp] theorem modPte_pins (s : State) (k : Nat) (f : Pte → Pte) : (modPte s k f).pins = s.pins := rfl

@[simp] theorem ends_now (c : Code) (s : State) : (ends c s).now = s.now := rfl
@[simp] theorem ends_pending (c : Code) (s : State) : (ends c s).pending = s.pending := rfl
@[simp] theorem ends_free (c : Code) (s : State) : (ends c s).free = s.free := rfl
@[simp] theorem ends_lastCode (c : Code) (s : State) : (ends c s).lastCode = c := rfl
@[simp] theorem ends_myModule (c : Code) (s : State) : (ends c s).myModule = s.myModule := rfl
@[simp] theorem ends_counters (c : Code) (s : State) : (ends c s).counters = s.counters := rfl
@[simp] theorem ends_staging (c : Code) (s : State) : (ends c s).staging = s.staging := rfl
@[simp] theorem ends_stages (c : Code) (s : State) : (ends c s).stages = s.stages := rfl
@[simp] theorem ends_log (c : Code) (s : State) : (ends c s).log = s.log := rfl
@[simp] theorem ends_cores (c : Code) (s : State) : (ends c s).cores = s.cores := rfl
@[simp] theorem ends_slices (c : Code) (s : State) : (ends c s).slices = s.slices := rfl
@[simp] theorem ends_tiles (c : Code) (s : State) : (ends c s).tiles = s.tiles := rfl
@[simp] theorem ends_groups (c : Code) (s : State) : (ends c s).groups = s.groups := rfl
@[simp] theorem ends_pages (c : Code) (s : State) : (ends c s).pages = s.pages := rfl
@[simp] theorem ends_frames (c : Code) (s : State) : (ends c s).frames = s.frames := rfl
@[simp] theorem ends_tables (c : Code) (s : State) : (ends c s).tables = s.tables := rfl
@[simp] theorem ends_spaces (c : Code) (s : State) : (ends c s).spaces = s.spaces := rfl
@[simp] theorem ends_sets (c : Code) (s : State) : (ends c s).sets = s.sets := rfl
@[simp] theorem ends_res (c : Code) (s : State) : (ends c s).res = s.res := rfl
@[simp] theorem ends_nextId (c : Code) (s : State) : (ends c s).nextId = s.nextId := rfl
@[simp] theorem ends_tins (c : Code) (s : State) : (ends c s).tins = s.tins := rfl
@[simp] theorem ends_streams (c : Code) (s : State) : (ends c s).streams = s.streams := rfl
@[simp] theorem ends_models (c : Code) (s : State) : (ends c s).models = s.models := rfl
@[simp] theorem ends_jobs (c : Code) (s : State) : (ends c s).jobs = s.jobs := rfl
@[simp] theorem ends_kernels (c : Code) (s : State) : (ends c s).kernels = s.kernels := rfl
@[simp] theorem ends_adm (c : Code) (s : State) : (ends c s).adm = s.adm := rfl
@[simp] theorem ends_ports (c : Code) (s : State) : (ends c s).ports = s.ports := rfl
@[simp] theorem ends_strands (c : Code) (s : State) : (ends c s).strands = s.strands := rfl
@[simp] theorem ends_engines (c : Code) (s : State) : (ends c s).engines = s.engines := rfl
@[simp] theorem ends_routing (c : Code) (s : State) : (ends c s).routing = s.routing := rfl
@[simp] theorem ends_d2d (c : Code) (s : State) : (ends c s).d2d = s.d2d := rfl
@[simp] theorem ends_flight (c : Code) (s : State) : (ends c s).flight = s.flight := rfl
@[simp] theorem ends_failed (c : Code) (s : State) : (ends c s).failed = s.failed := rfl
@[simp] theorem ends_coll (c : Code) (s : State) : (ends c s).coll = s.coll := rfl
@[simp] theorem ends_topo (c : Code) (s : State) : (ends c s).topo = s.topo := rfl
@[simp] theorem ends_power (c : Code) (s : State) : (ends c s).power = s.power := rfl
@[simp] theorem ends_keeper (c : Code) (s : State) : (ends c s).keeper = s.keeper := rfl
@[simp] theorem ends_pins (c : Code) (s : State) : (ends c s).pins = s.pins := rfl

@[simp] theorem modLane_now (s : State) (k : Nat) (f : D2dLane → D2dLane) : (modLane s k f).now = s.now := rfl
@[simp] theorem modLane_pending (s : State) (k : Nat) (f : D2dLane → D2dLane) : (modLane s k f).pending = s.pending := rfl
@[simp] theorem modLane_free (s : State) (k : Nat) (f : D2dLane → D2dLane) : (modLane s k f).free = s.free := rfl
@[simp] theorem modLane_lastCode (s : State) (k : Nat) (f : D2dLane → D2dLane) : (modLane s k f).lastCode = s.lastCode := rfl
@[simp] theorem modLane_myModule (s : State) (k : Nat) (f : D2dLane → D2dLane) : (modLane s k f).myModule = s.myModule := rfl
@[simp] theorem modLane_counters (s : State) (k : Nat) (f : D2dLane → D2dLane) : (modLane s k f).counters = s.counters := rfl
@[simp] theorem modLane_staging (s : State) (k : Nat) (f : D2dLane → D2dLane) : (modLane s k f).staging = s.staging := rfl
@[simp] theorem modLane_stages (s : State) (k : Nat) (f : D2dLane → D2dLane) : (modLane s k f).stages = s.stages := rfl
@[simp] theorem modLane_log (s : State) (k : Nat) (f : D2dLane → D2dLane) : (modLane s k f).log = s.log := rfl
@[simp] theorem modLane_cores (s : State) (k : Nat) (f : D2dLane → D2dLane) : (modLane s k f).cores = s.cores := rfl
@[simp] theorem modLane_slices (s : State) (k : Nat) (f : D2dLane → D2dLane) : (modLane s k f).slices = s.slices := rfl
@[simp] theorem modLane_tiles (s : State) (k : Nat) (f : D2dLane → D2dLane) : (modLane s k f).tiles = s.tiles := rfl
@[simp] theorem modLane_groups (s : State) (k : Nat) (f : D2dLane → D2dLane) : (modLane s k f).groups = s.groups := rfl
@[simp] theorem modLane_pages (s : State) (k : Nat) (f : D2dLane → D2dLane) : (modLane s k f).pages = s.pages := rfl
@[simp] theorem modLane_frames (s : State) (k : Nat) (f : D2dLane → D2dLane) : (modLane s k f).frames = s.frames := rfl
@[simp] theorem modLane_tables (s : State) (k : Nat) (f : D2dLane → D2dLane) : (modLane s k f).tables = s.tables := rfl
@[simp] theorem modLane_spaces (s : State) (k : Nat) (f : D2dLane → D2dLane) : (modLane s k f).spaces = s.spaces := rfl
@[simp] theorem modLane_sets (s : State) (k : Nat) (f : D2dLane → D2dLane) : (modLane s k f).sets = s.sets := rfl
@[simp] theorem modLane_res (s : State) (k : Nat) (f : D2dLane → D2dLane) : (modLane s k f).res = s.res := rfl
@[simp] theorem modLane_nextId (s : State) (k : Nat) (f : D2dLane → D2dLane) : (modLane s k f).nextId = s.nextId := rfl
@[simp] theorem modLane_tins (s : State) (k : Nat) (f : D2dLane → D2dLane) : (modLane s k f).tins = s.tins := rfl
@[simp] theorem modLane_streams (s : State) (k : Nat) (f : D2dLane → D2dLane) : (modLane s k f).streams = s.streams := rfl
@[simp] theorem modLane_models (s : State) (k : Nat) (f : D2dLane → D2dLane) : (modLane s k f).models = s.models := rfl
@[simp] theorem modLane_jobs (s : State) (k : Nat) (f : D2dLane → D2dLane) : (modLane s k f).jobs = s.jobs := rfl
@[simp] theorem modLane_kernels (s : State) (k : Nat) (f : D2dLane → D2dLane) : (modLane s k f).kernels = s.kernels := rfl
@[simp] theorem modLane_adm (s : State) (k : Nat) (f : D2dLane → D2dLane) : (modLane s k f).adm = s.adm := rfl
@[simp] theorem modLane_ports (s : State) (k : Nat) (f : D2dLane → D2dLane) : (modLane s k f).ports = s.ports := rfl
@[simp] theorem modLane_strands (s : State) (k : Nat) (f : D2dLane → D2dLane) : (modLane s k f).strands = s.strands := rfl
@[simp] theorem modLane_engines (s : State) (k : Nat) (f : D2dLane → D2dLane) : (modLane s k f).engines = s.engines := rfl
@[simp] theorem modLane_routing (s : State) (k : Nat) (f : D2dLane → D2dLane) : (modLane s k f).routing = s.routing := rfl
@[simp] theorem modLane_d2d (s : State) (k : Nat) (f : D2dLane → D2dLane) : (modLane s k f).d2d = tput s.d2d k (f (getLane s k)) := rfl
@[simp] theorem modLane_flight (s : State) (k : Nat) (f : D2dLane → D2dLane) : (modLane s k f).flight = s.flight := rfl
@[simp] theorem modLane_failed (s : State) (k : Nat) (f : D2dLane → D2dLane) : (modLane s k f).failed = s.failed := rfl
@[simp] theorem modLane_coll (s : State) (k : Nat) (f : D2dLane → D2dLane) : (modLane s k f).coll = s.coll := rfl
@[simp] theorem modLane_topo (s : State) (k : Nat) (f : D2dLane → D2dLane) : (modLane s k f).topo = s.topo := rfl
@[simp] theorem modLane_power (s : State) (k : Nat) (f : D2dLane → D2dLane) : (modLane s k f).power = s.power := rfl
@[simp] theorem modLane_keeper (s : State) (k : Nat) (f : D2dLane → D2dLane) : (modLane s k f).keeper = s.keeper := rfl
@[simp] theorem modLane_pins (s : State) (k : Nat) (f : D2dLane → D2dLane) : (modLane s k f).pins = s.pins := rfl

end Sys2Proof.Laws
end

