-- ==== Sys2Proof/Laws/Tables.lean ====
section
/-! SUPPORT. The tables that hold sparse state: reading after writing, writing twice, and the canonical form. -/

namespace Sys2Proof.Laws

open Sys2Proof.Machine

variable {α : Type}

@[simp] theorem tget_nil (d : α) (k : Nat) : tget d [] k = d := rfl

@[simp] theorem tget_tput_same (d : α) (t : Tab α) (k : Nat) (v : α) : tget d (tput t k v) k = v := by
  induction t with
  | nil => simp [tput, tget]
  | cons p r ih =>
    obtain ⟨i, w⟩ := p
    by_cases h : k = i
    · simp [tput, tget, h]
    · by_cases g : k < i
      · simp [tput, tget, h, g]
      · simp [tput, tget, h, g, Ne.symm h, ih]

theorem tget_tput_other (d : α) (t : Tab α) {k j : Nat} (v : α) (hj : j ≠ k) : tget d (tput t k v) j = tget d t j := by
  induction t with
  | nil => simp [tput, tget, Ne.symm hj]
  | cons p r ih =>
    obtain ⟨i, w⟩ := p
    by_cases h : k = i
    · subst h; simp [tput, tget, Ne.symm hj]
    · by_cases g : k < i
      · simp [tput, tget, h, g, Ne.symm hj]
      · simp [tput, tget, h, g, ih]

@[simp] theorem tput_tput (t : Tab α) (k : Nat) (v w : α) : tput (tput t k v) k w = tput t k w := by
  induction t with
  | nil => simp [tput]
  | cons p r ih =>
    obtain ⟨i, x⟩ := p
    by_cases h : k = i
    · simp [tput, h]
    · by_cases g : k < i
      · simp [tput, h, g]
      · simp [tput, h, g, ih]

@[simp] theorem tget_tdel_same (d : α) (t : Tab α) (k : Nat) : tget d (tdel t k) k = d := by
  induction t with
  | nil => rfl
  | cons p r ih =>
    obtain ⟨i, x⟩ := p
    by_cases h : i = k
    · simpa [tdel, h] using ih
    · simpa [tdel, h, tget] using ih

theorem tget_tdel_other (d : α) (t : Tab α) {k j : Nat} (hj : j ≠ k) : tget d (tdel t k) j = tget d t j := by
  induction t with
  | nil => rfl
  | cons p r ih =>
    obtain ⟨i, x⟩ := p
    by_cases h : i = k
    · subst h; simpa [tdel, tget, Ne.symm hj] using ih
    · by_cases g : i = j
      · subst g; simp [tdel, h, tget]
      · simpa [tdel, h, tget, g] using ih

@[simp] theorem tget_tset_same [DecidableEq α] (d : α) (t : Tab α) (k : Nat) (v : α) : tget d (tset d t k v) k = v := by
  unfold tset; split
  · next h => simp [h]
  · simp

theorem tget_tset_other [DecidableEq α] (d : α) (t : Tab α) {k j : Nat} (v : α) (hj : j ≠ k) :
    tget d (tset d t k v) j = tget d t j := by
  unfold tset; split
  · exact tget_tdel_other d t hj
  · exact tget_tput_other d t v hj

/-! ### The canonical form -/

/-- Every key of the table is above b. -/
def above (b : Nat) (t : Tab α) : Prop := ∀ p ∈ t, b < p.1

theorem rising_cons {i : Nat} {v : α} {t : Tab α} (h : Tab.rising ((i, v) :: t)) : above i t ∧ Tab.rising t := by
  induction t generalizing i v with
  | nil => exact ⟨fun p hp => by simp at hp, rfl⟩
  | cons q r ih =>
    obtain ⟨j, w⟩ := q
    simp only [Tab.rising, Bool.and_eq_true, decide_eq_true_eq] at h
    have hr := ih h.2
    refine ⟨fun p hp => ?_, h.2⟩
    rcases List.mem_cons.1 hp with rfl | hp
    · exact h.1
    · exact Nat.lt_trans h.1 (hr.1 p hp)

theorem rising_of_above {i : Nat} {v : α} {t : Tab α} (h : above i t) (hr : Tab.rising t) : Tab.rising ((i, v) :: t) := by
  cases t with
  | nil => rfl
  | cons q r => simp only [Tab.rising, Bool.and_eq_true, decide_eq_true_eq]; exact ⟨h q (by simp), hr⟩

theorem above_tput {b k : Nat} {v : α} {t : Tab α} (h : above b t) (hk : b < k) : above b (tput t k v) := by
  induction t with
  | nil => intro p hp; simp [tput] at hp; simpa [hp] using hk
  | cons q r ih =>
    obtain ⟨i, w⟩ := q
    have hr : above b r := fun p hp => h p (by simp [hp])
    intro p hp
    by_cases e : k = i
    · simp only [tput, e, if_true] at hp
      rcases List.mem_cons.1 hp with rfl | hp
      · simpa [← e] using hk
      · exact hr p hp
    · by_cases g : k < i
      · simp only [tput, e, g, if_true, if_false] at hp
        rcases List.mem_cons.1 hp with rfl | hp
        · exact hk
        · exact h p hp
      · simp only [tput, e, g, if_false] at hp
        rcases List.mem_cons.1 hp with rfl | hp
        · exact h _ (by simp)
        · exact ih hr p hp

theorem rising_tput {k : Nat} {v : α} {t : Tab α} (h : Tab.rising t) : Tab.rising (tput t k v) := by
  induction t with
  | nil => rfl
  | cons q r ih =>
    obtain ⟨i, w⟩ := q
    have ⟨ha, hr⟩ := rising_cons h
    by_cases e : k = i
    · subst e; simp only [tput, if_true]; exact rising_of_above ha hr
    · by_cases g : k < i
      · simp only [tput, e, g, if_true, if_false]
        refine rising_of_above (fun p hp => ?_) h
        rcases List.mem_cons.1 hp with rfl | hp
        · exact g
        · exact Nat.lt_trans g (ha p hp)
      · simp only [tput, e, g, if_false]
        exact rising_of_above (above_tput ha (by omega)) (ih hr)

theorem above_tdel {b k : Nat} {t : Tab α} (h : above b t) : above b (tdel t k) :=
  fun p hp => h p (List.mem_of_mem_filter hp)

theorem rising_tdel {k : Nat} {t : Tab α} (h : Tab.rising t) : Tab.rising (tdel t k) := by
  induction t with
  | nil => rfl
  | cons q r ih =>
    obtain ⟨i, w⟩ := q
    have ⟨ha, hr⟩ := rising_cons h
    by_cases e : i = k
    · simpa [tdel, e] using ih hr
    · simp only [tdel, List.filter_cons, bne_iff_ne, ne_eq, e, not_false_eq_true, if_true]
      exact rising_of_above (above_tdel ha) (ih hr)

theorem mem_tput {k : Nat} {v : α} {t : Tab α} {p : Nat × α} (h : p ∈ tput t k v) : p = (k, v) ∨ p ∈ t := by
  induction t with
  | nil => simpa [tput] using h
  | cons q r ih =>
    obtain ⟨i, w⟩ := q
    by_cases e : k = i
    · simp only [tput, e, if_true] at h
      rcases List.mem_cons.1 h with rfl | h
      · exact .inl (by rw [e])
      · exact .inr (by simp [h])
    · by_cases g : k < i
      · simp only [tput, e, g, if_true, if_false] at h
        rcases List.mem_cons.1 h with rfl | h
        · exact .inl rfl
        · exact .inr h
      · simp only [tput, e, g, if_false] at h
        rcases List.mem_cons.1 h with rfl | h
        · exact .inr (by simp)
        · rcases ih h with h | h
          · exact .inl h
          · exact .inr (by simp [h])

end Sys2Proof.Laws
end

