-- ==== Sys2Proof/Laws/Isa.lean ====
section
/-! SUPPORT. The issue of one instruction, said once: when a core can issue, what an instruction's outcome makes of the
state, and how retiring composes with a write of the kernel. -/

namespace Sys2Proof.Laws

open Sys2Proof.Machine

theorem answer_eq (s t : State) : answer s t = .next { t with pending := s.pending, pins := s.pins, now := max s.now t.now } := rfl

/-- An effect that touches neither the queue, the pins nor the time answers itself. -/
theorem answer_same {s t : State} (hp : t.pending = s.pending) (hi : t.pins = s.pins) (hn : t.now = s.now) : answer s t = .next t := by
  cases t; simp_all [answer]

@[simp] theorem getCore_putCore_same (s : State) (key : Nat) (c : Core) : getCore (putCore s key c) key = c := by
  simp [getCore, putCore]

theorem getCore_putCore_other (s : State) {key j : Nat} (c : Core) (h : j ≠ key) : getCore (putCore s key c) j = getCore s j := by
  simp [getCore, putCore, tget_tput_other _ _ _ h]

@[simp] theorem putCore_putCore (s : State) (key : Nat) (c d : Core) : putCore (putCore s key c) key d = putCore s key d := by
  simp [putCore]

/-- Retiring an instruction whose effect left core `key` as `c` with kernel `k`. -/
theorem retire_putCore (s : State) (key pc : Nat) (c : Core) (k : Kernel) (h : c.kernel = some k) :
    retire key pc (putCore s key c) = { s with
      free := s.free + 1
      cores := tput s.cores key { c with
        kernel := some { k with pc := pc, cycles := k.cycles + (1 + Config.stall s.free), gap := k.gap + (1 + Config.stall s.free) } } } := by
  simp [retire, modCore, getCore, putCore, modKernel, h]

theorem retire_putKernel (s : State) (key pc : Nat) (k : Kernel) :
    retire key pc (putKernel s key k) = { s with
      free := s.free + 1
      cores := tput s.cores key { getCore s key with
        kernel := some { k with pc := pc, cycles := k.cycles + (1 + Config.stall s.free), gap := k.gap + (1 + Config.stall s.free) } } } := by
  simp only [putKernel, modCore]; exact retire_putCore _ _ _ _ _ rfl

theorem retire_self (s : State) (key pc : Nat) (k : Kernel) (h : (getCore s key).kernel = some k) :
    retire key pc s = { s with
      free := s.free + 1
      cores := tput s.cores key { getCore s key with
        kernel := some { k with pc := pc, cycles := k.cycles + (1 + Config.stall s.free), gap := k.gap + (1 + Config.stall s.free) } } } := by
  have h' : (tget coreInit s.cores key).kernel = some k := h
  simp [retire, modCore, getCore, putCore, modKernel, h']

/-- A core that can issue runs the instruction through `issue`. -/
theorem isaStep_issue {op : IOp} {r : CoreRef} {w : BitVec 56} {s : State} {k : Kernel}
    (hk : (getCore s (coreKey r)).kernel = some k) (hc : canIssue s (coreKey r) (getCore s (coreKey r)) k = true) :
    isaStep op r w s = issueEnd (coreKey r) k s (issue op (coreKey r) w k s) := by
  simp [isaStep, hk, hc]

/-- Issue of a legal instruction whose guard holds, with its registers final: its effect. -/
theorem issue_run {op : IOp} {key : Nat} {w : BitVec 56} {s : State} {k : Kernel} (hg : k.gap ≤ k.image.maxYieldGap)
    (hp : fetchBad k = false) (hguard : pReg k (wGuard w) ≠ wGneg w) (hf : op.fetch k w = false) (hl : op.legal w = true)
    (hr : ∀ i ∈ op.regs w, bit k.gWait i = false) : issue op key w k s = op.run key k w s := by
  have hany : (op.regs w).any (fun i => bit k.gWait i) = false := by simpa using hr
  have hgd : (pReg k (wGuard w) != wGneg w) = true := by simpa using hguard
  simp [issue, Nat.not_lt.2 hg, hp, hgd, hf, hl, hany]

end Sys2Proof.Laws
end

