-- ==== Sys2Proof/Laws/Memory.lean ====
section
/-! SUPPORT. The memories of bytes: every write keeps the canonical form, a byte reads as it was last written, and reset
lists nothing. -/

namespace Sys2Proof.Laws

open Sys2Proof.Machine

theorem tset_wf {t : Tab Byte} (h : Memory.wf t = true) (k : Nat) (v : Byte) : Memory.wf (tset 0 t k v) = true := by
  simp only [Memory.wf, Bool.and_eq_true, List.all_eq_true, bne_iff_ne] at h ⊢
  unfold tset
  split
  · exact ⟨rising_tdel h.1, fun p hp => h.2 p (List.mem_of_mem_filter hp)⟩
  · next hv =>
    refine ⟨rising_tput h.1, fun p hp => ?_⟩
    rcases mem_tput hp with rfl | hp
    · exact hv
    · exact h.2 p hp

theorem memWrite_wf (bs : List Byte) {t : Tab Byte} (h : Memory.wf t = true) (o : Nat) : Memory.wf (memWrite t o bs) = true := by
  induction bs generalizing t o with
  | nil => exact h
  | cons b r ih => exact ih (tset_wf h o b) (o + 1)

theorem memWrite_before (bs : List Byte) (t : Tab Byte) {o a : Nat} (h : a < o) : tget 0 (memWrite t o bs) a = tget 0 t a := by
  induction bs generalizing t o with
  | nil => rfl
  | cons b r ih => exact (ih _ (by omega)).trans (tget_tset_other 0 t b (by omega))

theorem memWrite_after (bs : List Byte) (t : Tab Byte) {o a : Nat} (h : o + bs.length ≤ a) :
    tget 0 (memWrite t o bs) a = tget 0 t a := by
  induction bs generalizing t o with
  | nil => rfl
  | cons b r ih =>
    simp only [List.length_cons] at h
    exact (ih _ (by omega)).trans (tget_tset_other 0 t b (by omega))

theorem memWrite_at (bs : List Byte) (t : Tab Byte) (o i : Nat) (h : i < bs.length) :
    tget 0 (memWrite t o bs) (o + i) = bs[i] := by
  induction bs generalizing t o i with
  | nil => simp at h
  | cons b r ih =>
    cases i with
    | zero => exact (memWrite_before r _ (by omega)).trans (tget_tset_same 0 t o b)
    | succ j =>
      have := ih (tset 0 t o b) (o + 1) j (by simpa using h)
      rw [show o + (j + 1) = o + 1 + j from by omega]
      simpa [memWrite] using this

theorem benchWrite_bench (c : Core) (o : Nat) (bs : List Byte) : (benchWrite c o bs).bench = memWrite c.bench o bs := by
  unfold benchWrite
  cases c.kernel with
  | none => rfl
  | some k => simp only; split <;> rfl

theorem benchWrite_wf {c : Core} (h : Memory.wf c.bench = true) (o : Nat) (bs : List Byte) :
    Memory.wf (benchWrite c o bs).bench = true := by
  rw [benchWrite_bench]; exact memWrite_wf bs h o

theorem reset_memoryWf : State.reset.memoryWf = true := by decide

end Sys2Proof.Laws
end

