-- ==== Sys2Proof/Laws/PerInstr.lean ====
section
/-! SUPPORT. Laws.PerInstr: the family Wf, one lemma per command: a well-formed command that carries a packet carries whole flits
of payload, at most 64 of them (R265, R267). -/

namespace Sys2Proof.Laws

/-- The packet that a command carries, if its row is a message of the fabric. -/
def carried (i : Instr) : Option Packet :=
  match i with
  | .openStream p => some p
  | .stepStream p => some p
  | .closeReq p => some p
  | .ackPacket p => some p
  | .moveWriteMsg p => some p
  | .moveReadMsg p => some p
  | .moveDataMsg p => some p
  | .moveDoneMsg p => some p
  | .residencyMsg p => some p
  | .residencyReplyMsg p => some p
  | .managementReplyMsg p => some p
  | .remLoad p => some p
  | .remStore p => some p
  | .remAtomic p => some p
  | .remReduce p => some p
  | .remMcastStore p => some p
  | .loadReply p => some p
  | .doneReply p => some p
  | .atomicReply p => some p
  | .crumbRack p => some p
  | .crumbHall p => some p
  | .crumbNack p => some p
  | .crumbAbort p => some p
  | .collData p _ => some p
  | .collRaw p => some p
  | .collNack p => some p
  | .hello _ p => some p
  | .transitPacket _ p => some p
  | _ => none

/-- The payload of a well-formed packet is whole flits, at most 64. -/
theorem packet_whole {p : Packet} (h : p.wf = true) : 64 ∣ p.payload.length ∧ p.payload.length ≤ 64 * 64 := by
  simp only [Packet.wf, Bool.and_eq_true, beq_iff_eq, decide_eq_true_eq] at h
  refine ⟨?_, h.2⟩
  have := h.1
  exact ⟨_, this⟩

/-- What the family says of a command. -/
def Wf.Statement (i : Instr) : Prop := i.wf = true → ∀ p, carried i = some p → 64 ∣ p.payload.length ∧ p.payload.length ≤ 64 * 64

/-- A command that carries no packet. -/
theorem wf_none {i : Instr} (h : carried i = none) : Wf.Statement i := fun _ p e => by rw [h] at e; cases e

/-- A command whose well-formedness is its packet's. -/
theorem wf_some {i : Instr} {p : Packet} (h : carried i = some p) (e : i.wf = p.wf) : Wf.Statement i := fun w q f => by
  rw [h] at f; cases f; exact packet_whole (e ▸ w)

theorem Wf.registerWrite (x0 : Requester) (x1 : BitVec 64) (x2 : BitVec 64) : Wf.Statement (.registerWrite x0 x1 x2) := wf_none rfl
theorem Wf.kPass (x0 : CoreRef) (x1 : BitVec 56) : Wf.Statement (.kPass x0 x1) := wf_none rfl
theorem Wf.passDescSubmit (x0 : Requester) (x1 : CoreRef) (x2 : Fin 2) (x3 : BitVec 64) : Wf.Statement (.passDescSubmit x0 x1 x2 x3) := wf_none rfl
theorem Wf.passActivate (x0 : CoreRef) (x1 : Fin 2) : Wf.Statement (.passActivate x0 x1) := wf_none rfl
theorem Wf.drainBegin (x0 : CoreRef) (x1 : Fin 2) : Wf.Statement (.drainBegin x0 x1) := wf_none rfl
theorem Wf.passComplete (x0 : CoreRef) (x1 : Fin 2) : Wf.Statement (.passComplete x0 x1) := wf_none rfl
theorem Wf.residueMismatch (x0 : CoreRef) (x1 : Fin 2) (x2 : Fin 64) (x3 : Fin 64) : Wf.Statement (.residueMismatch x0 x1 x2 x3) := wf_none rfl
theorem Wf.passStop (x0 : Requester) (x1 : CoreRef) (x2 : Fin 2) : Wf.Statement (.passStop x0 x1 x2) := wf_none rfl
theorem Wf.passFlush (x0 : Requester) (x1 : CoreRef) (x2 : Fin 2) : Wf.Statement (.passFlush x0 x1 x2) := wf_none rfl
theorem Wf.arrayDisable (x0 : Requester) (x1 : CoreRef) (x2 : Fin 2) : Wf.Statement (.arrayDisable x0 x1 x2) := wf_none rfl
theorem Wf.arrayEnable (x0 : Requester) (x1 : CoreRef) (x2 : Fin 2) : Wf.Statement (.arrayEnable x0 x1 x2) := wf_none rfl
theorem Wf.throttleStepTimeout (x0 : Fin 24) (x1 : Fin 4) : Wf.Statement (.throttleStepTimeout x0 x1) := wf_none rfl
theorem Wf.clockChangeComplete (x0 : Fin 24) (x1 : Fin 4) : Wf.Statement (.clockChangeComplete x0 x1) := wf_none rfl
theorem Wf.kernelStart (x0 : CoreRef) : Wf.Statement (.kernelStart x0) := wf_none rfl
theorem Wf.kNop (x0 : CoreRef) (x1 : BitVec 56) : Wf.Statement (.kNop x0 x1) := wf_none rfl
theorem Wf.kAdd (x0 : CoreRef) (x1 : BitVec 56) : Wf.Statement (.kAdd x0 x1) := wf_none rfl
theorem Wf.kSub (x0 : CoreRef) (x1 : BitVec 56) : Wf.Statement (.kSub x0 x1) := wf_none rfl
theorem Wf.kMul (x0 : CoreRef) (x1 : BitVec 56) : Wf.Statement (.kMul x0 x1) := wf_none rfl
theorem Wf.kMulhu (x0 : CoreRef) (x1 : BitVec 56) : Wf.Statement (.kMulhu x0 x1) := wf_none rfl
theorem Wf.kAnd (x0 : CoreRef) (x1 : BitVec 56) : Wf.Statement (.kAnd x0 x1) := wf_none rfl
theorem Wf.kOr (x0 : CoreRef) (x1 : BitVec 56) : Wf.Statement (.kOr x0 x1) := wf_none rfl
theorem Wf.kXor (x0 : CoreRef) (x1 : BitVec 56) : Wf.Statement (.kXor x0 x1) := wf_none rfl
theorem Wf.kShl (x0 : CoreRef) (x1 : BitVec 56) : Wf.Statement (.kShl x0 x1) := wf_none rfl
theorem Wf.kShr (x0 : CoreRef) (x1 : BitVec 56) : Wf.Statement (.kShr x0 x1) := wf_none rfl
theorem Wf.kSra (x0 : CoreRef) (x1 : BitVec 56) : Wf.Statement (.kSra x0 x1) := wf_none rfl
theorem Wf.kMin (x0 : CoreRef) (x1 : BitVec 56) : Wf.Statement (.kMin x0 x1) := wf_none rfl
theorem Wf.kMax (x0 : CoreRef) (x1 : BitVec 56) : Wf.Statement (.kMax x0 x1) := wf_none rfl
theorem Wf.kSel (x0 : CoreRef) (x1 : BitVec 56) : Wf.Statement (.kSel x0 x1) := wf_none rfl
theorem Wf.kClz (x0 : CoreRef) (x1 : BitVec 56) : Wf.Statement (.kClz x0 x1) := wf_none rfl
theorem Wf.kPopc (x0 : CoreRef) (x1 : BitVec 56) : Wf.Statement (.kPopc x0 x1) := wf_none rfl
theorem Wf.kAddi (x0 : CoreRef) (x1 : BitVec 56) : Wf.Statement (.kAddi x0 x1) := wf_none rfl
theorem Wf.kAndi (x0 : CoreRef) (x1 : BitVec 56) : Wf.Statement (.kAndi x0 x1) := wf_none rfl
theorem Wf.kOri (x0 : CoreRef) (x1 : BitVec 56) : Wf.Statement (.kOri x0 x1) := wf_none rfl
theorem Wf.kXori (x0 : CoreRef) (x1 : BitVec 56) : Wf.Statement (.kXori x0 x1) := wf_none rfl
theorem Wf.kShli (x0 : CoreRef) (x1 : BitVec 56) : Wf.Statement (.kShli x0 x1) := wf_none rfl
theorem Wf.kShri (x0 : CoreRef) (x1 : BitVec 56) : Wf.Statement (.kShri x0 x1) := wf_none rfl
theorem Wf.kSrai (x0 : CoreRef) (x1 : BitVec 56) : Wf.Statement (.kSrai x0 x1) := wf_none rfl
theorem Wf.kMuli (x0 : CoreRef) (x1 : BitVec 56) : Wf.Statement (.kMuli x0 x1) := wf_none rfl
theorem Wf.kLi (x0 : CoreRef) (x1 : BitVec 56) : Wf.Statement (.kLi x0 x1) := wf_none rfl
theorem Wf.kLih (x0 : CoreRef) (x1 : BitVec 56) : Wf.Statement (.kLih x0 x1) := wf_none rfl
theorem Wf.kCmpeq (x0 : CoreRef) (x1 : BitVec 56) : Wf.Statement (.kCmpeq x0 x1) := wf_none rfl
theorem Wf.kCmplt (x0 : CoreRef) (x1 : BitVec 56) : Wf.Statement (.kCmplt x0 x1) := wf_none rfl
theorem Wf.kCmpltu (x0 : CoreRef) (x1 : BitVec 56) : Wf.Statement (.kCmpltu x0 x1) := wf_none rfl
theorem Wf.kCmpeqi (x0 : CoreRef) (x1 : BitVec 56) : Wf.Statement (.kCmpeqi x0 x1) := wf_none rfl
theorem Wf.kCmplti (x0 : CoreRef) (x1 : BitVec 56) : Wf.Statement (.kCmplti x0 x1) := wf_none rfl
theorem Wf.kPand (x0 : CoreRef) (x1 : BitVec 56) : Wf.Statement (.kPand x0 x1) := wf_none rfl
theorem Wf.kPor (x0 : CoreRef) (x1 : BitVec 56) : Wf.Statement (.kPor x0 x1) := wf_none rfl
theorem Wf.kPnot (x0 : CoreRef) (x1 : BitVec 56) : Wf.Statement (.kPnot x0 x1) := wf_none rfl
theorem Wf.kBr (x0 : CoreRef) (x1 : BitVec 56) : Wf.Statement (.kBr x0 x1) := wf_none rfl
theorem Wf.kCall (x0 : CoreRef) (x1 : BitVec 56) : Wf.Statement (.kCall x0 x1) := wf_none rfl
theorem Wf.kJr (x0 : CoreRef) (x1 : BitVec 56) : Wf.Statement (.kJr x0 x1) := wf_none rfl
theorem Wf.kLoop (x0 : CoreRef) (x1 : BitVec 56) : Wf.Statement (.kLoop x0 x1) := wf_none rfl
theorem Wf.kEnd (x0 : CoreRef) (x1 : BitVec 56) : Wf.Statement (.kEnd x0 x1) := wf_none rfl
theorem Wf.kLd (x0 : CoreRef) (x1 : BitVec 56) : Wf.Statement (.kLd x0 x1) := wf_none rfl
theorem Wf.kLds (x0 : CoreRef) (x1 : BitVec 56) : Wf.Statement (.kLds x0 x1) := wf_none rfl
theorem Wf.kSt (x0 : CoreRef) (x1 : BitVec 56) : Wf.Statement (.kSt x0 x1) := wf_none rfl
theorem Wf.kLdc (x0 : CoreRef) (x1 : BitVec 56) : Wf.Statement (.kLdc x0 x1) := wf_none rfl
theorem Wf.kRldLoad (x0 : CoreRef) (x1 : BitVec 56) : Wf.Statement (.kRldLoad x0 x1) := wf_none rfl
theorem Wf.kRldLoadSigned (x0 : CoreRef) (x1 : BitVec 56) : Wf.Statement (.kRldLoadSigned x0 x1) := wf_none rfl
theorem Wf.kRstStore (x0 : CoreRef) (x1 : BitVec 56) : Wf.Statement (.kRstStore x0 x1) := wf_none rfl
theorem Wf.kRstMcastStore (x0 : CoreRef) (x1 : BitVec 56) : Wf.Statement (.kRstMcastStore x0 x1) := wf_none rfl
theorem Wf.kRatomAdd (x0 : CoreRef) (x1 : BitVec 56) : Wf.Statement (.kRatomAdd x0 x1) := wf_none rfl
theorem Wf.kRatomAnd (x0 : CoreRef) (x1 : BitVec 56) : Wf.Statement (.kRatomAnd x0 x1) := wf_none rfl
theorem Wf.kRatomOr (x0 : CoreRef) (x1 : BitVec 56) : Wf.Statement (.kRatomOr x0 x1) := wf_none rfl
theorem Wf.kRatomXor (x0 : CoreRef) (x1 : BitVec 56) : Wf.Statement (.kRatomXor x0 x1) := wf_none rfl
theorem Wf.kRatomMin (x0 : CoreRef) (x1 : BitVec 56) : Wf.Statement (.kRatomMin x0 x1) := wf_none rfl
theorem Wf.kRatomMax (x0 : CoreRef) (x1 : BitVec 56) : Wf.Statement (.kRatomMax x0 x1) := wf_none rfl
theorem Wf.kRatomMinu (x0 : CoreRef) (x1 : BitVec 56) : Wf.Statement (.kRatomMinu x0 x1) := wf_none rfl
theorem Wf.kRatomMaxu (x0 : CoreRef) (x1 : BitVec 56) : Wf.Statement (.kRatomMaxu x0 x1) := wf_none rfl
theorem Wf.kRatomSwap (x0 : CoreRef) (x1 : BitVec 56) : Wf.Statement (.kRatomSwap x0 x1) := wf_none rfl
theorem Wf.kRatomCas (x0 : CoreRef) (x1 : BitVec 56) : Wf.Statement (.kRatomCas x0 x1) := wf_none rfl
theorem Wf.kRatomFadd (x0 : CoreRef) (x1 : BitVec 56) : Wf.Statement (.kRatomFadd x0 x1) := wf_none rfl
theorem Wf.kRredAdd (x0 : CoreRef) (x1 : BitVec 56) : Wf.Statement (.kRredAdd x0 x1) := wf_none rfl
theorem Wf.kRredAnd (x0 : CoreRef) (x1 : BitVec 56) : Wf.Statement (.kRredAnd x0 x1) := wf_none rfl
theorem Wf.kRredOr (x0 : CoreRef) (x1 : BitVec 56) : Wf.Statement (.kRredOr x0 x1) := wf_none rfl
theorem Wf.kRredXor (x0 : CoreRef) (x1 : BitVec 56) : Wf.Statement (.kRredXor x0 x1) := wf_none rfl
theorem Wf.kRredMin (x0 : CoreRef) (x1 : BitVec 56) : Wf.Statement (.kRredMin x0 x1) := wf_none rfl
theorem Wf.kRredMax (x0 : CoreRef) (x1 : BitVec 56) : Wf.Statement (.kRredMax x0 x1) := wf_none rfl
theorem Wf.kRredMinu (x0 : CoreRef) (x1 : BitVec 56) : Wf.Statement (.kRredMinu x0 x1) := wf_none rfl
theorem Wf.kRredMaxu (x0 : CoreRef) (x1 : BitVec 56) : Wf.Statement (.kRredMaxu x0 x1) := wf_none rfl
theorem Wf.kRredFaddRed (x0 : CoreRef) (x1 : BitVec 56) : Wf.Statement (.kRredFaddRed x0 x1) := wf_none rfl
theorem Wf.kVadd (x0 : CoreRef) (x1 : BitVec 56) : Wf.Statement (.kVadd x0 x1) := wf_none rfl
theorem Wf.kVsub (x0 : CoreRef) (x1 : BitVec 56) : Wf.Statement (.kVsub x0 x1) := wf_none rfl
theorem Wf.kVmul (x0 : CoreRef) (x1 : BitVec 56) : Wf.Statement (.kVmul x0 x1) := wf_none rfl
theorem Wf.kVfma (x0 : CoreRef) (x1 : BitVec 56) : Wf.Statement (.kVfma x0 x1) := wf_none rfl
theorem Wf.kVmax (x0 : CoreRef) (x1 : BitVec 56) : Wf.Statement (.kVmax x0 x1) := wf_none rfl
theorem Wf.kVmin (x0 : CoreRef) (x1 : BitVec 56) : Wf.Statement (.kVmin x0 x1) := wf_none rfl
theorem Wf.kVexp2 (x0 : CoreRef) (x1 : BitVec 56) : Wf.Statement (.kVexp2 x0 x1) := wf_none rfl
theorem Wf.kVrcp (x0 : CoreRef) (x1 : BitVec 56) : Wf.Statement (.kVrcp x0 x1) := wf_none rfl
theorem Wf.kVrsqrt (x0 : CoreRef) (x1 : BitVec 56) : Wf.Statement (.kVrsqrt x0 x1) := wf_none rfl
theorem Wf.kVcmplt (x0 : CoreRef) (x1 : BitVec 56) : Wf.Statement (.kVcmplt x0 x1) := wf_none rfl
theorem Wf.kVsel (x0 : CoreRef) (x1 : BitVec 56) : Wf.Statement (.kVsel x0 x1) := wf_none rfl
theorem Wf.kVbcast (x0 : CoreRef) (x1 : BitVec 56) : Wf.Statement (.kVbcast x0 x1) := wf_none rfl
theorem Wf.kVrmax (x0 : CoreRef) (x1 : BitVec 56) : Wf.Statement (.kVrmax x0 x1) := wf_none rfl
theorem Wf.kVrsum (x0 : CoreRef) (x1 : BitVec 56) : Wf.Statement (.kVrsum x0 x1) := wf_none rfl
theorem Wf.kVmov (x0 : CoreRef) (x1 : BitVec 56) : Wf.Statement (.kVmov x0 x1) := wf_none rfl
theorem Wf.kVcvti (x0 : CoreRef) (x1 : BitVec 56) : Wf.Statement (.kVcvti x0 x1) := wf_none rfl
theorem Wf.kVcvtf (x0 : CoreRef) (x1 : BitVec 56) : Wf.Statement (.kVcvtf x0 x1) := wf_none rfl
theorem Wf.kVextr (x0 : CoreRef) (x1 : BitVec 56) : Wf.Statement (.kVextr x0 x1) := wf_none rfl
theorem Wf.kVins (x0 : CoreRef) (x1 : BitVec 56) : Wf.Statement (.kVins x0 x1) := wf_none rfl
theorem Wf.kVand (x0 : CoreRef) (x1 : BitVec 56) : Wf.Statement (.kVand x0 x1) := wf_none rfl
theorem Wf.kKld (x0 : CoreRef) (x1 : BitVec 56) : Wf.Statement (.kKld x0 x1) := wf_none rfl
theorem Wf.kKst (x0 : CoreRef) (x1 : BitVec 56) : Wf.Statement (.kKst x0 x1) := wf_none rfl
theorem Wf.kVkld (x0 : CoreRef) (x1 : BitVec 56) : Wf.Statement (.kVkld x0 x1) := wf_none rfl
theorem Wf.kVkst (x0 : CoreRef) (x1 : BitVec 56) : Wf.Statement (.kVkst x0 x1) := wf_none rfl
theorem Wf.kVld (x0 : CoreRef) (x1 : BitVec 56) : Wf.Statement (.kVld x0 x1) := wf_none rfl
theorem Wf.kVst (x0 : CoreRef) (x1 : BitVec 56) : Wf.Statement (.kVst x0 x1) := wf_none rfl
theorem Wf.kVldq (x0 : CoreRef) (x1 : BitVec 56) : Wf.Statement (.kVldq x0 x1) := wf_none rfl
theorem Wf.kVstq (x0 : CoreRef) (x1 : BitVec 56) : Wf.Statement (.kVstq x0 x1) := wf_none rfl
theorem Wf.kMove (x0 : CoreRef) (x1 : BitVec 56) : Wf.Statement (.kMove x0 x1) := wf_none rfl
theorem Wf.moveComplete (x0 : CoreRef) (x1 : BitVec 64) : Wf.Statement (.moveComplete x0 x1) := wf_none rfl
theorem Wf.kCrumb (x0 : CoreRef) (x1 : BitVec 56) : Wf.Statement (.kCrumb x0 x1) := wf_none rfl
theorem Wf.kLinkop (x0 : CoreRef) (x1 : BitVec 56) : Wf.Statement (.kLinkop x0 x1) := wf_none rfl
theorem Wf.kWait (x0 : CoreRef) (x1 : BitVec 56) : Wf.Statement (.kWait x0 x1) := wf_none rfl
theorem Wf.waitUnblock (x0 : CoreRef) : Wf.Statement (.waitUnblock x0) := wf_none rfl
theorem Wf.kPoll (x0 : CoreRef) (x1 : BitVec 56) : Wf.Statement (.kPoll x0 x1) := wf_none rfl
theorem Wf.kFence (x0 : CoreRef) (x1 : BitVec 56) : Wf.Statement (.kFence x0 x1) := wf_none rfl
theorem Wf.fenceUnblock (x0 : CoreRef) : Wf.Statement (.fenceUnblock x0) := wf_none rfl
theorem Wf.kYield (x0 : CoreRef) (x1 : BitVec 56) : Wf.Statement (.kYield x0 x1) := wf_none rfl
theorem Wf.kWaitwake (x0 : CoreRef) (x1 : BitVec 56) : Wf.Statement (.kWaitwake x0 x1) := wf_none rfl
theorem Wf.waitwakeUnblock (x0 : CoreRef) : Wf.Statement (.waitwakeUnblock x0) := wf_none rfl
theorem Wf.kRsr (x0 : CoreRef) (x1 : BitVec 56) : Wf.Statement (.kRsr x0 x1) := wf_none rfl
theorem Wf.kWsr (x0 : CoreRef) (x1 : BitVec 56) : Wf.Statement (.kWsr x0 x1) := wf_none rfl
theorem Wf.kGeo (x0 : CoreRef) (x1 : BitVec 56) : Wf.Statement (.kGeo x0 x1) := wf_none rfl
theorem Wf.kAbort (x0 : CoreRef) (x1 : BitVec 56) : Wf.Statement (.kAbort x0 x1) := wf_none rfl
theorem Wf.kBrk (x0 : CoreRef) (x1 : BitVec 56) : Wf.Statement (.kBrk x0 x1) := wf_none rfl
theorem Wf.kTrap (x0 : CoreRef) (x1 : BitVec 64) : Wf.Statement (.kTrap x0 x1) := wf_none rfl
theorem Wf.gapExceeded (x0 : CoreRef) : Wf.Statement (.gapExceeded x0) := wf_none rfl
theorem Wf.kernelEndComplete (x0 : CoreRef) : Wf.Statement (.kernelEndComplete x0) := wf_none rfl
theorem Wf.preemptSaveComplete (x0 : CoreRef) : Wf.Statement (.preemptSaveComplete x0) := wf_none rfl
theorem Wf.resumeKernel (x0 : CoreRef) (x1 : Fin 15) : Wf.Statement (.resumeKernel x0 x1) := wf_none rfl
theorem Wf.amaxCfgWrite (x0 : Requester) (x1 : CoreRef) (x2 : Fin 256) (x3 : BitVec 64) : Wf.Statement (.amaxCfgWrite x0 x1 x2 x3) := wf_none rfl
theorem Wf.scaleKWrite (x0 : Requester) (x1 : CoreRef) (x2 : Fin 4096) (x3 : BitVec 32) : Wf.Statement (.scaleKWrite x0 x1 x2 x3) := wf_none rfl
theorem Wf.lockWaitTimeout (x0 : CoreRef) : Wf.Statement (.lockWaitTimeout x0) := wf_none rfl
theorem Wf.wideChargeWindowEnd (x0 : BitVec 12) : Wf.Statement (.wideChargeWindowEnd x0) := wf_none rfl
theorem Wf.sliceAccess (x0 : Fin 24) (x1 : Fin 64) (x2 : BitVec 24) (x3 : SliceOp) (x4 : SymbolErrors) (x5 : CommandLanes) : Wf.Statement (.sliceAccess x0 x1 x2 x3 x4 x5) := wf_none rfl
theorem Wf.refreshCommand (x0 : Fin 24) (x1 : Fin 64) : Wf.Statement (.refreshCommand x0 x1) := wf_none rfl
theorem Wf.selfRefreshEntry (x0 : Fin 24) (x1 : Fin 64) : Wf.Statement (.selfRefreshEntry x0 x1) := wf_none rfl
theorem Wf.scrubRead (x0 : Fin 24) (x1 : Fin 64) (x2 : SymbolErrors) : Wf.Statement (.scrubRead x0 x1 x2) := wf_none rfl
theorem Wf.scrubWriteback (x0 : Fin 24) (x1 : Fin 64) : Wf.Statement (.scrubWriteback x0 x1) := wf_none rfl
theorem Wf.fullRetraining (x0 : Requester) (x1 : Fin 24) (x2 : Fin 64) : Wf.Statement (.fullRetraining x0 x1 x2) := wf_none rfl
theorem Wf.spareSwitchIn (x0 : Requester) (x1 : Fin 24) (x2 : Fin 64) (x3 : Fin 16) (x4 : BitVec 7) : Wf.Statement (.spareSwitchIn x0 x1 x2 x3 x4) := wf_none rfl
theorem Wf.sliceRetrainDone (x0 : Fin 24) (x1 : Fin 64) (x2 : RetrainResult) : Wf.Statement (.sliceRetrainDone x0 x1 x2) := wf_none rfl
theorem Wf.stackCtrlWrite (x0 : Requester) (x1 : Fin 24) (x2 : BitVec 64) : Wf.Statement (.stackCtrlWrite x0 x1 x2) := wf_none rfl
theorem Wf.heldWriteTimeout (x0 : Fin 24) (x1 : Fin 64) : Wf.Statement (.heldWriteTimeout x0 x1) := wf_none rfl
theorem Wf.pageFillComplete (x0 : Fin 24) (x1 : Nat) (x2 : Nat) : Wf.Statement (.pageFillComplete x0 x1 x2) := wf_none rfl
theorem Wf.invalidationRoundComplete (x0 : Fin 24) : Wf.Statement (.invalidationRoundComplete x0) := wf_none rfl
theorem Wf.pageMoveComplete (x0 : Fin 24) (x1 : Nat) (x2 : Bool) : Wf.Statement (.pageMoveComplete x0 x1 x2) := wf_none rfl
theorem Wf.moveHoldTimeout (x0 : Fin 24) (x1 : Nat) : Wf.Statement (.moveHoldTimeout x0 x1) := wf_none rfl
theorem Wf.backgroundCompaction (x0 : Fin 24) (x1 : Fin 64) : Wf.Statement (.backgroundCompaction x0 x1) := wf_none rfl
theorem Wf.hintApply (x0 : Fin 24) : Wf.Statement (.hintApply x0) := wf_none rfl
theorem Wf.resCreateSpace (x0 : Requester) (x1 : Fin 24) (x2 : CmdDesc) : Wf.Statement (.resCreateSpace x0 x1 x2) := wf_none rfl
theorem Wf.resDestroySpace (x0 : Requester) (x1 : Fin 24) (x2 : CmdDesc) : Wf.Statement (.resDestroySpace x0 x1 x2) := wf_none rfl
theorem Wf.resSetQuota (x0 : Requester) (x1 : Fin 24) (x2 : CmdDesc) : Wf.Statement (.resSetQuota x0 x1 x2) := wf_none rfl
theorem Wf.resMap (x0 : Requester) (x1 : Fin 24) (x2 : CmdDesc) : Wf.Statement (.resMap x0 x1 x2) := wf_none rfl
theorem Wf.resUnmap (x0 : Requester) (x1 : Fin 24) (x2 : CmdDesc) : Wf.Statement (.resUnmap x0 x1 x2) := wf_none rfl
theorem Wf.resProtect (x0 : Requester) (x1 : Fin 24) (x2 : CmdDesc) : Wf.Statement (.resProtect x0 x1 x2) := wf_none rfl
theorem Wf.resPin (x0 : Requester) (x1 : Fin 24) (x2 : CmdDesc) : Wf.Statement (.resPin x0 x1 x2) := wf_none rfl
theorem Wf.resUnpin (x0 : Requester) (x1 : Fin 24) (x2 : CmdDesc) : Wf.Statement (.resUnpin x0 x1 x2) := wf_none rfl
theorem Wf.resPrefetch (x0 : Requester) (x1 : Fin 24) (x2 : CmdDesc) : Wf.Statement (.resPrefetch x0 x1 x2) := wf_none rfl
theorem Wf.resEvict (x0 : Requester) (x1 : Fin 24) (x2 : CmdDesc) : Wf.Statement (.resEvict x0 x1 x2) := wf_none rfl
theorem Wf.resMigrate (x0 : Requester) (x1 : Fin 24) (x2 : CmdDesc) : Wf.Statement (.resMigrate x0 x1 x2) := wf_none rfl
theorem Wf.resGrant (x0 : Requester) (x1 : Fin 24) (x2 : CmdDesc) : Wf.Statement (.resGrant x0 x1 x2) := wf_none rfl
theorem Wf.resEncode (x0 : Requester) (x1 : Fin 24) (x2 : CmdDesc) : Wf.Statement (.resEncode x0 x1 x2) := wf_none rfl
theorem Wf.resRebuild (x0 : Requester) (x1 : Fin 24) (x2 : CmdDesc) : Wf.Statement (.resRebuild x0 x1 x2) := wf_none rfl
theorem Wf.resVerify (x0 : Requester) (x1 : Fin 24) (x2 : CmdDesc) : Wf.Statement (.resVerify x0 x1 x2) := wf_none rfl
theorem Wf.openStream (x0 : Packet) : Wf.Statement (.openStream x0) := wf_some rfl rfl
theorem Wf.stepStream (x0 : Packet) : Wf.Statement (.stepStream x0) := wf_some rfl rfl
theorem Wf.closeReq (x0 : Packet) : Wf.Statement (.closeReq x0) := wf_some rfl rfl
theorem Wf.beatBoundary (x0 : Fin 64) : Wf.Statement (.beatBoundary x0) := wf_none rfl
theorem Wf.operatorStart (x0 : Fin 24) : Wf.Statement (.operatorStart x0) := wf_none rfl
theorem Wf.jobEnd (x0 : BitVec 32) : Wf.Statement (.jobEnd x0) := wf_none rfl
theorem Wf.tinDrainTimeout (x0 : BitVec 12) : Wf.Statement (.tinDrainTimeout x0) := wf_none rfl
theorem Wf.admSetTin (x0 : Requester) (x1 : CmdDesc) : Wf.Statement (.admSetTin x0 x1) := wf_none rfl
theorem Wf.admWithdrawTin (x0 : Requester) (x1 : CmdDesc) : Wf.Statement (.admWithdrawTin x0 x1) := wf_none rfl
theorem Wf.admRegisterKernel (x0 : Requester) (x1 : CmdDesc) : Wf.Statement (.admRegisterKernel x0 x1) := wf_none rfl
theorem Wf.admLoadModel (x0 : Requester) (x1 : CmdDesc) : Wf.Statement (.admLoadModel x0 x1) := wf_none rfl
theorem Wf.admUnloadModel (x0 : Requester) (x1 : CmdDesc) : Wf.Statement (.admUnloadModel x0 x1) := wf_none rfl
theorem Wf.admLoadRow (x0 : Requester) (x1 : CmdDesc) : Wf.Statement (.admLoadRow x0 x1) := wf_none rfl
theorem Wf.measure (x0 : Requester) (x1 : CmdDesc) (x2 : MeasureFound) : Wf.Statement (.measure x0 x1 x2) := wf_none rfl
theorem Wf.admUnpin (x0 : Requester) (x1 : CmdDesc) : Wf.Statement (.admUnpin x0 x1) := wf_none rfl
theorem Wf.admCloseStream (x0 : Requester) (x1 : CmdDesc) : Wf.Statement (.admCloseStream x0 x1) := wf_none rfl
theorem Wf.admCtrlWrite (x0 : Requester) (x1 : BitVec 64) : Wf.Statement (.admCtrlWrite x0 x1) := wf_none rfl
theorem Wf.dispCtrlWrite (x0 : Requester) (x1 : Fin 24) (x2 : BitVec 64) : Wf.Statement (.dispCtrlWrite x0 x1 x2) := wf_none rfl
theorem Wf.fecCodeword (x0 : Fin 160) (x1 : Nat) (x2 : List FlitCount) (x3 : Option Nat) : Wf.Statement (.fecCodeword x0 x1 x2 x3) := wf_none rfl
theorem Wf.strandErrorRetrain (x0 : Fin 160) : Wf.Statement (.strandErrorRetrain x0) := wf_none rfl
theorem Wf.linkControlFlit (x0 : Fin 160) (x1 : LinkControl) : Wf.Statement (.linkControlFlit x0 x1) := wf_none rfl
theorem Wf.egressPacketEnd (x0 : Fin 160) : Wf.Statement (.egressPacketEnd x0) := wf_none rfl
theorem Wf.ackPacket (x0 : Packet) : Wf.Statement (.ackPacket x0) := wf_some rfl rfl
theorem Wf.ackDelayExpire (x0 : Fin 25) (x1 : FlowKey) : Wf.Statement (.ackDelayExpire x0 x1) := wf_none rfl
theorem Wf.retransmitTimeout (x0 : Fin 25) (x1 : FlowKey) : Wf.Statement (.retransmitTimeout x0 x1) := wf_none rfl
theorem Wf.flowStateExpire (x0 : Fin 25) (x1 : FlowKey) (x2 : Bool) : Wf.Statement (.flowStateExpire x0 x1 x2) := wf_none rfl
theorem Wf.moveWriteMsg (x0 : Packet) : Wf.Statement (.moveWriteMsg x0) := wf_some rfl rfl
theorem Wf.moveReadMsg (x0 : Packet) : Wf.Statement (.moveReadMsg x0) := wf_some rfl rfl
theorem Wf.moveDataMsg (x0 : Packet) : Wf.Statement (.moveDataMsg x0) := wf_some rfl rfl
theorem Wf.moveDoneMsg (x0 : Packet) : Wf.Statement (.moveDoneMsg x0) := wf_some rfl rfl
theorem Wf.residencyMsg (x0 : Packet) : Wf.Statement (.residencyMsg x0) := wf_some rfl rfl
theorem Wf.residencyReplyMsg (x0 : Packet) : Wf.Statement (.residencyReplyMsg x0) := wf_some rfl rfl
theorem Wf.managementReplyMsg (x0 : Packet) : Wf.Statement (.managementReplyMsg x0) := wf_some rfl rfl
theorem Wf.routeSwap (x0 : Requester) : Wf.Statement (.routeSwap x0) := wf_none rfl
theorem Wf.swapDrained : Wf.Statement .swapDrained := wf_none rfl
theorem Wf.groupWithdraw (x0 : Requester) (x1 : BitVec 12) : Wf.Statement (.groupWithdraw x0 x1) := wf_none rfl
theorem Wf.mcastDrainTimeout : Wf.Statement .mcastDrainTimeout := wf_none rfl
theorem Wf.circuitEntryWrite (x0 : Requester) (x1 : Fin 24) (x2 : Fin 256) (x3 : BitVec 64) : Wf.Statement (.circuitEntryWrite x0 x1 x2 x3) := wf_none rfl
theorem Wf.strandWithdraw (x0 : Requester) (x1 : Fin 160) : Wf.Statement (.strandWithdraw x0 x1) := wf_none rfl
theorem Wf.strandEnable (x0 : Requester) (x1 : Fin 160) : Wf.Statement (.strandEnable x0 x1) := wf_none rfl
theorem Wf.strandRetrain (x0 : Requester) (x1 : Fin 160) : Wf.Statement (.strandRetrain x0 x1) := wf_none rfl
theorem Wf.strandDrainTimeout (x0 : Fin 160) : Wf.Statement (.strandDrainTimeout x0) := wf_none rfl
theorem Wf.strandTrained (x0 : Fin 160) (x1 : Nat) : Wf.Statement (.strandTrained x0 x1) := wf_none rfl
theorem Wf.laserFailure (x0 : Fin 20) (x1 : Fin 16) : Wf.Statement (.laserFailure x0 x1) := wf_none rfl
theorem Wf.remLoad (x0 : Packet) : Wf.Statement (.remLoad x0) := wf_some rfl rfl
theorem Wf.remStore (x0 : Packet) : Wf.Statement (.remStore x0) := wf_some rfl rfl
theorem Wf.remAtomic (x0 : Packet) : Wf.Statement (.remAtomic x0) := wf_some rfl rfl
theorem Wf.remReduce (x0 : Packet) : Wf.Statement (.remReduce x0) := wf_some rfl rfl
theorem Wf.remMcastStore (x0 : Packet) : Wf.Statement (.remMcastStore x0) := wf_some rfl rfl
theorem Wf.loadReply (x0 : Packet) : Wf.Statement (.loadReply x0) := wf_some rfl rfl
theorem Wf.doneReply (x0 : Packet) : Wf.Statement (.doneReply x0) := wf_some rfl rfl
theorem Wf.atomicReply (x0 : Packet) : Wf.Statement (.atomicReply x0) := wf_some rfl rfl
theorem Wf.remoteReplyTimeout (x0 : Fin 24) (x1 : BitVec 32) : Wf.Statement (.remoteReplyTimeout x0 x1) := wf_none rfl
theorem Wf.targetWaitTimeout (x0 : Fin 24) : Wf.Statement (.targetWaitTimeout x0) := wf_none rfl
theorem Wf.arcEntryExpire (x0 : Fin 24) : Wf.Statement (.arcEntryExpire x0) := wf_none rfl
theorem Wf.lineBufferWriteback (x0 : Fin 24) (x1 : Fin 64) (x2 : BitVec 24) : Wf.Statement (.lineBufferWriteback x0 x1 x2) := wf_none rfl
theorem Wf.regionOpen (x0 : Requester) (x1 : Fin 24) (x2 : CmdDesc) : Wf.Statement (.regionOpen x0 x1 x2) := wf_none rfl
theorem Wf.regionClose (x0 : Requester) (x1 : Fin 24) (x2 : CmdDesc) : Wf.Statement (.regionClose x0 x1 x2) := wf_none rfl
theorem Wf.regionCloseComplete (x0 : Fin 24) (x1 : BitVec 14) : Wf.Statement (.regionCloseComplete x0 x1) := wf_none rfl
theorem Wf.importEntry (x0 : Requester) (x1 : Fin 24) (x2 : CmdDesc) : Wf.Statement (.importEntry x0 x1 x2) := wf_none rfl
theorem Wf.unimportEntry (x0 : Requester) (x1 : Fin 24) (x2 : CmdDesc) : Wf.Statement (.unimportEntry x0 x1 x2) := wf_none rfl
theorem Wf.groupEntryWrite (x0 : Requester) (x1 : Fin 1024) (x2 : BitVec 64) : Wf.Statement (.groupEntryWrite x0 x1 x2) := wf_none rfl
theorem Wf.groupEntryClear (x0 : Requester) (x1 : Fin 1024) : Wf.Statement (.groupEntryClear x0 x1) := wf_none rfl
theorem Wf.collectiveDrainTimeout (x0 : Fin 1024) : Wf.Statement (.collectiveDrainTimeout x0) := wf_none rfl
theorem Wf.crumbRack (x0 : Packet) : Wf.Statement (.crumbRack x0) := wf_some rfl rfl
theorem Wf.crumbHall (x0 : Packet) : Wf.Statement (.crumbHall x0) := wf_some rfl rfl
theorem Wf.crumbNack (x0 : Packet) : Wf.Statement (.crumbNack x0) := wf_some rfl rfl
theorem Wf.crumbAbort (x0 : Packet) : Wf.Statement (.crumbAbort x0) := wf_some rfl rfl
theorem Wf.crumbNackTimer (x0 : Fin 1024) (x1 : Fin 2) : Wf.Statement (.crumbNackTimer x0 x1) := wf_none rfl
theorem Wf.crumbRoundTimeout (x0 : Fin 1024) (x1 : Fin 2) : Wf.Statement (.crumbRoundTimeout x0 x1) := wf_none rfl
theorem Wf.collData (x0 : Packet) (x1 : CollFault) : Wf.Statement (.collData x0 x1) := wf_some rfl rfl
theorem Wf.collRaw (x0 : Packet) : Wf.Statement (.collRaw x0) := wf_some rfl rfl
theorem Wf.collNack (x0 : Packet) : Wf.Statement (.collNack x0) := wf_some rfl rfl
theorem Wf.lateInputTimeout (x0 : Fin 24) (x1 : Fin 1024) : Wf.Statement (.lateInputTimeout x0 x1) := wf_none rfl
theorem Wf.linkStepEnd (x0 : Fin 24) (x1 : Fin 1024) : Wf.Statement (.linkStepEnd x0 x1) := wf_none rfl
theorem Wf.linkAdderWithdraw (x0 : Requester) (x1 : Fin 24) : Wf.Statement (.linkAdderWithdraw x0 x1) := wf_none rfl
theorem Wf.suspectClear (x0 : Requester) (x1 : Fin 256) (x2 : BitVec 64) : Wf.Statement (.suspectClear x0 x1 x2) := wf_none rfl
theorem Wf.hello (x0 : Fin 160) (x1 : Packet) : Wf.Statement (.hello x0 x1) := wf_some rfl rfl
theorem Wf.helloTimer (x0 : Fin 160) : Wf.Statement (.helloTimer x0) := wf_none rfl
theorem Wf.peerLost (x0 : Fin 160) : Wf.Statement (.peerLost x0) := wf_none rfl
theorem Wf.discoveryEnd : Wf.Statement .discoveryEnd := wf_none rfl
theorem Wf.retire (x0 : Requester) (x1 : Fin 24) (x2 : Fin 4) (x3 : BitVec 6) : Wf.Statement (.retire x0 x1 x2 x3) := wf_none rfl
theorem Wf.shiftCopyComplete (x0 : Fin 24) (x1 : Fin 4) : Wf.Statement (.shiftCopyComplete x0 x1) := wf_none rfl
theorem Wf.restore (x0 : Requester) (x1 : Fin 24) (x2 : Fin 4) (x3 : BitVec 6) : Wf.Statement (.restore x0 x1 x2 x3) := wf_none rfl
theorem Wf.withdrawCore (x0 : Requester) (x1 : CoreRef) : Wf.Statement (.withdrawCore x0 x1) := wf_none rfl
theorem Wf.returnCore (x0 : Requester) (x1 : CoreRef) : Wf.Statement (.returnCore x0 x1) := wf_none rfl
theorem Wf.coreDrainTimeout (x0 : CoreRef) : Wf.Statement (.coreDrainTimeout x0) := wf_none rfl
theorem Wf.testBakeCompare (x0 : Fin 24) (x1 : Fin 4) (x2 : BakeEnd) : Wf.Statement (.testBakeCompare x0 x1 x2) := wf_none rfl
theorem Wf.engineWithdraw (x0 : Requester) (x1 : Fin 20) : Wf.Statement (.engineWithdraw x0 x1) := wf_none rfl
theorem Wf.engineEnable (x0 : Requester) (x1 : Fin 20) : Wf.Statement (.engineEnable x0 x1) := wf_none rfl
theorem Wf.engineRetrain (x0 : Requester) (x1 : Fin 20) : Wf.Statement (.engineRetrain x0 x1) := wf_none rfl
theorem Wf.leaseGrant : Wf.Statement .leaseGrant := wf_none rfl
theorem Wf.leaseWaitTimeout : Wf.Statement .leaseWaitTimeout := wf_none rfl
theorem Wf.leaseRetry : Wf.Statement .leaseRetry := wf_none rfl
theorem Wf.leaseExpired (x0 : BitVec 16) : Wf.Statement (.leaseExpired x0) := wf_none rfl
theorem Wf.sparingRecordRetry : Wf.Statement .sparingRecordRetry := wf_none rfl
theorem Wf.tileOut (x0 : Fin 24) : Wf.Statement (.tileOut x0) := wf_none rfl
theorem Wf.housekeepingRound (x0 : HkSample) : Wf.Statement (.housekeepingRound x0) := wf_none rfl
theorem Wf.emergThrottleAssert : Wf.Statement .emergThrottleAssert := wf_none rfl
theorem Wf.emergThrottleDeassert : Wf.Statement .emergThrottleDeassert := wf_none rfl
theorem Wf.referenceLost (x0 : Nat) : Wf.Statement (.referenceLost x0) := wf_none rfl
theorem Wf.referenceRestored : Wf.Statement .referenceRestored := wf_none rfl
theorem Wf.napEntry (x0 : Fin 24) (x1 : Fin 4) : Wf.Statement (.napEntry x0 x1) := wf_none rfl
theorem Wf.sleepEntry (x0 : Fin 24) (x1 : Fin 4) : Wf.Statement (.sleepEntry x0 x1) := wf_none rfl
theorem Wf.groupWake (x0 : Fin 24) (x1 : Fin 4) : Wf.Statement (.groupWake x0 x1) := wf_none rfl
theorem Wf.wakeComplete (x0 : Fin 24) (x1 : Fin 4) : Wf.Statement (.wakeComplete x0 x1) := wf_none rfl
theorem Wf.govCtrlWrite (x0 : Requester) (x1 : BitVec 64) : Wf.Statement (.govCtrlWrite x0 x1) := wf_none rfl
theorem Wf.inputPowerRise (x0 : Nat) : Wf.Statement (.inputPowerRise x0) := wf_none rfl
theorem Wf.inputLossStop : Wf.Statement .inputLossStop := wf_none rfl
theorem Wf.resetRelease (x0 : StartEnv) : Wf.Statement (.resetRelease x0) := wf_none rfl
theorem Wf.resetAssert (x0 : ResetPin) : Wf.Statement (.resetAssert x0) := wf_none rfl
theorem Wf.igIdentify (x0 : IgrinIn) : Wf.Statement (.igIdentify x0) := wf_none rfl
theorem Wf.igRegRead (x0 : IgrinIn) : Wf.Statement (.igRegRead x0) := wf_none rfl
theorem Wf.igRegWrite (x0 : IgrinIn) : Wf.Statement (.igRegWrite x0) := wf_none rfl
theorem Wf.igLeaseTake (x0 : IgrinIn) : Wf.Statement (.igLeaseTake x0) := wf_none rfl
theorem Wf.igLeaseRelease (x0 : IgrinIn) : Wf.Statement (.igLeaseRelease x0) := wf_none rfl
theorem Wf.igExpertEnable (x0 : IgrinIn) : Wf.Statement (.igExpertEnable x0) := wf_none rfl
theorem Wf.igExpertDisable (x0 : IgrinIn) : Wf.Statement (.igExpertDisable x0) := wf_none rfl
theorem Wf.expertEnableExpire (x0 : Fin 4) : Wf.Statement (.expertEnableExpire x0) := wf_none rfl
theorem Wf.igStarterBegin (x0 : IgrinIn) : Wf.Statement (.igStarterBegin x0) := wf_none rfl
theorem Wf.igStarterData (x0 : IgrinIn) : Wf.Statement (.igStarterData x0) := wf_none rfl
theorem Wf.igStarterCommit (x0 : IgrinIn) : Wf.Statement (.igStarterCommit x0) := wf_none rfl
theorem Wf.starterSessionTimeout : Wf.Statement .starterSessionTimeout := wf_none rfl
theorem Wf.igSystemLoad (x0 : IgrinIn) : Wf.Statement (.igSystemLoad x0) := wf_none rfl
theorem Wf.igRollover (x0 : IgrinIn) : Wf.Statement (.igRollover x0) := wf_none rfl
theorem Wf.igProvision (x0 : IgrinIn) : Wf.Statement (.igProvision x0) := wf_none rfl
theorem Wf.igResetModule (x0 : IgrinIn) : Wf.Statement (.igResetModule x0) := wf_none rfl
theorem Wf.rateLimitExpire (x0 : Fin 4) : Wf.Statement (.rateLimitExpire x0) := wf_none rfl
theorem Wf.readRegisters (x0 : RegRequest) : Wf.Statement (.readRegisters x0) := wf_none rfl
theorem Wf.readEvents (x0 : BitVec 32) (x1 : Fin 9) : Wf.Statement (.readEvents x0 x1) := wf_none rfl
theorem Wf.postEvent (x0 : BitVec 64) (x1 : BitVec 64) : Wf.Statement (.postEvent x0 x1) := wf_none rfl
theorem Wf.submitHint (x0 : Fin 24) (x1 : Hint) : Wf.Statement (.submitHint x0 x1) := wf_none rfl
theorem Wf.heartbeat : Wf.Statement .heartbeat := wf_none rfl
theorem Wf.heartbeatTimeout : Wf.Statement .heartbeatTimeout := wf_none rfl
theorem Wf.guardViolation (x0 : Fin 4) (x1 : Bool) (x2 : BitVec 48) : Wf.Statement (.guardViolation x0 x1 x2) := wf_none rfl
theorem Wf.smbusStatusRead : Wf.Statement .smbusStatusRead := wf_none rfl
theorem Wf.smbusReplyRead : Wf.Statement .smbusReplyRead := wf_none rfl
theorem Wf.smbusAlertResponse : Wf.Statement .smbusAlertResponse := wf_none rfl
theorem Wf.eventLogTake : Wf.Statement .eventLogTake := wf_none rfl
theorem Wf.countersClear (x0 : Requester) (x1 : CounterBlock) : Wf.Statement (.countersClear x0 x1) := wf_none rfl
theorem Wf.alertClear (x0 : Requester) (x1 : BitVec 64) : Wf.Statement (.alertClear x0 x1) := wf_none rfl
theorem Wf.transitPacket (x0 : Fin 160) (x1 : Packet) : Wf.Statement (.transitPacket x0 x1) := wf_some rfl rfl
theorem Wf.smbusBlockWrite (x0 : BitVec 8) (x1 : List (BitVec 8)) (x2 : Bool) : Wf.Statement (.smbusBlockWrite x0 x1 x2) := wf_none rfl
theorem Wf.jtagInstruction (x0 : JtagScan) : Wf.Statement (.jtagInstruction x0) := wf_none rfl
theorem Wf.laserTakeoverComplete (x0 : Fin 20) : Wf.Statement (.laserTakeoverComplete x0) := wf_none rfl
theorem Wf.dieToDieLinkDown (x0 : Fin 24) (x1 : Fin 4) : Wf.Statement (.dieToDieLinkDown x0 x1) := wf_none rfl

end Sys2Proof.Laws
end

