-- ==== Sys2Proof/Tests/Slice0.lean ====
section
/-! SUPPORT. Tests: for each statement with hypotheses a concrete state and operands that meet them, a few steps with the
values that the manual gives, and for each check of WellFormed a command that it refuses. -/

namespace Sys2Proof.Tests

open Sys2Proof Sys2Proof.Machine Sys2Proof.Spec

set_option Elab.async false

/-! ### States the tests start from -/

/-- The module after a start-up: reset with the keeper in phase 7, so that the main domains are on. -/
def on : State := { State.reset with keeper := { Keeper.initial with phase := 7 } }

/-- The first core of tile 0. -/
def c0 : CoreRef := ⟨0, 0⟩

/-- A SYSTEM kernel image: 4 KiB of code, 64 bytes of constants, the bench window 0–0xFFFF, MAX_YIELD_GAP 1000. -/
def img : KernelImage := ⟨1, 0x100000, 1, 0x2000, 0, 0x1000, 0x1000, 64, 0, 1000, 0, 0x10000, 7⟩

/-- A kernel at its entry with every register zero. -/
def kern : Kernel where
  image := img
  job := 0
  op := 0
  wide := false
  wideInput := false
  stream := 0
  args := []
  seed := 0
  g := []
  gPoison := 0
  gWait := 0
  p := 0
  v := []
  vPoison := 0
  pc := 0
  classes := []
  wake := 0
  fpFlags := 0
  watchLine := 0
  cycles := 0
  gap := 0
  blocked := none
  kwriteRefused := 0
  kwriteFirst := 0
  trackers := []
  phase := .running

/-- A group that runs. -/
def runGroup : Group := { groupInit with pstate := .run }

/-- The module with core `c` as its first core, whose group runs. -/
def withCore (c : Core) : State := { on with cores := [(0, c)], groups := [(0, runGroup)] }

/-- The module whose first core runs kernel `k`. -/
def runs (k : Kernel) : State := withCore { coreInit with kernel := some k }

/-- A word with the register fields D, A, B and C and bits 31:0 (R84), guard p0. -/
def word (d a b c imm : Nat) : BitVec 56 := BitVec.ofNat 56 (d * 2 ^ 47 + a * 2 ^ 42 + b * 2 ^ 37 + c * 2 ^ 32 + imm)

/-- A kernel that can issue in `runs`. -/
def ready (k : Kernel) : Bool :=
  k.phase == .running && k.blocked.isNone && decide (k.gap ≤ k.image.maxYieldGap) && decide (k.pc < k.image.codeBytes) && k.pc % 8 == 0

theorem issues_core {c : Core} {k : Kernel} {w : BitVec 56} (hc : c.kernel = some k) (hw : c.writes = []) (h : ready k = true)
    (hg : pReg k (wGuard w) ≠ wGneg w) : Issues (withCore c) c0 k w := by
  simp only [ready, Bool.and_eq_true, beq_iff_eq, decide_eq_true_eq, Option.isNone_iff_eq_none] at h
  exact ⟨hc, h.1.1.1.1, h.1.1.1.2, by rfl, hw, h.1.1.2, h.1.2, h.2, hg⟩

/-- In the states `runs` every word with guard p0 issues. -/
theorem issues {k : Kernel} {w : BitVec 56} (h : ready k = true) (hg : wGuard w = 0 ∧ wGneg w = false) : Issues (runs k) c0 k w :=
  issues_core rfl rfl h (by simp [hg.1, hg.2, pReg])

/-! ### Witnesses: instructions -/

theorem witness_StepRunsFront : ({ State.reset with pending := [.heartbeat] } : State).pending = .heartbeat :: [] := rfl

theorem witness_StepIdles : State.reset.pending = [] := rfl

/-- g3 and g4 hold operands. -/
def kAB : Kernel := { kern with g := [(3, 0xFFFFFFFFFFFFFFFF), (4, 63)], p := 6 }

theorem witness_ScalarRegisterForms :
    (.kAdd, fun a b => a + b) ∈ aluRR ∧
    (Issues (runs kAB) c0 kAB (word 31 3 4 0 0) ∧ fld (word 31 3 4 0 0) 36 0 = 0 ∧ Final kAB [31, 3, 4]) ∧
    (Issues (runs kAB) c0 kAB (word 0 3 0 0 0) ∧ fld (word 0 3 0 0 0) 41 0 = 0 ∧ Final kAB [0, 3]) ∧
    (Issues (runs kAB) c0 kAB (word 5 3 4 7 0) ∧ fld (word 5 3 4 7 0) 31 0 = 0 ∧ wC (word 5 3 4 7 0) < 8 ∧ Final kAB [5, 3, 4]) :=
  ⟨.head _, ⟨issues rfl (by decide), by decide, by unfold Final; decide⟩, ⟨issues rfl (by decide), by decide, by unfold Final; decide⟩,
    issues rfl (by decide), by decide, by decide, by unfold Final; decide⟩

/-- ADD wraps modulo 2^64 (R86): 2^64 − 1 + 63 = 62. -/
theorem test_add_wraps : (match exec (.kAdd c0 (word 31 3 4 0 0)) (runs kAB) with
    | .next t => (getCore t 0).kernel.map (fun k => gReg k 31) | _ => none) = some 62 := by decide +kernel

theorem witness_ScalarImmediateForms :
    (.kShli, 0xFFFFFFC0, fun (a : Word) (i : BitVec 32) => a <<< i.toNat) ∈ aluRI ∧
    (Issues (runs kAB) c0 kAB (word 31 3 0 0 63) ∧ fld (word 31 3 0 0 63) 41 32 = 0 ∧
      (word 31 3 0 0 63).setWidth 32 &&& (0xFFFFFFC0 : BitVec 32) = 0 ∧ Final kAB [31, 3]) ∧
    (Issues (runs kAB) c0 kAB (word 31 0 0 0 0x80000000) ∧ fld (word 31 0 0 0 0x80000000) 46 32 = 0 ∧ Final kAB [31]) :=
  ⟨by simp [aluRI], ⟨issues rfl (by decide), by decide, by decide, by unfold Final; decide⟩,
    issues rfl (by decide), by decide, by unfold Final; decide⟩

theorem witness_PredicateForms :
    ((.kCmplt, fun a b => a.slt b) ∈ cmpRR ∧ Issues (runs kAB) c0 kAB (word 7 3 4 0 0) ∧ fld (word 7 3 4 0 0) 36 0 = 0 ∧
      wD (word 7 3 4 0 0) < 8 ∧ Final kAB [3, 4]) ∧
    ((.kCmplti, fun a b => a.slt b) ∈ cmpRI ∧ Issues (runs kAB) c0 kAB (word 0 3 0 0 0xFFFFFFFF) ∧
      fld (word 0 3 0 0 0xFFFFFFFF) 41 32 = 0 ∧ wD (word 0 3 0 0 0xFFFFFFFF) < 8 ∧ Final kAB [3]) ∧
    ((.kPor, fun a b => a || b) ∈ predRR ∧ Issues (runs kAB) c0 kAB (word 7 1 2 0 0) ∧ fld (word 7 1 2 0 0) 36 0 = 0 ∧
      wD (word 7 1 2 0 0) < 8 ∧ wA (word 7 1 2 0 0) < 8 ∧ wB (word 7 1 2 0 0) < 8) ∧
    (Issues (runs kAB) c0 kAB (word 7 7 0 0 0) ∧ fld (word 7 7 0 0 0) 41 0 = 0 ∧ wD (word 7 7 0 0 0) < 8 ∧ wA (word 7 7 0 0 0) < 8) :=
  ⟨⟨by simp [cmpRR], issues rfl (by decide), by decide, by decide, by unfold Final; decide⟩,
    ⟨by simp [cmpRI], issues rfl (by decide), by decide, by decide, by unfold Final; decide⟩,
    ⟨by simp [predRR], issues rfl (by decide), by decide, by decide, by decide, by decide⟩,
    issues rfl (by decide), by decide, by decide, by decide⟩

/-- −1 is below 63 as signed numbers (R86), and p0 stays true (R85). -/
theorem test_cmplt : (match exec (.kCmplt c0 (word 7 3 4 0 0)) (runs kAB) with
    | .next t => (getCore t 0).kernel.map (fun k => (pReg k 7, pReg k 0)) | _ => none) = some (true, true) := by decide +kernel

theorem witness_ControlFlow :
    Issues (runs kAB) c0 kAB 0 ∧ fld (0 : BitVec 56) 51 0 = 0 ∧
    (Issues (runs kAB) c0 kAB (word 0 0 0 0 2) ∧ fld (word 0 0 0 0 2) 51 32 = 0) ∧
    (Issues (runs kAB) c0 kAB (word 4 0 0 0 2) ∧ fld (word 4 0 0 0 2) 46 32 = 0 ∧ Final kAB [4] ∧ gTag kAB 4 = false) ∧
    (Issues (runs kAB) c0 kAB (word 0 4 0 0 0) ∧ fld (word 0 4 0 0 0) 51 47 = 0 ∧ fld (word 0 4 0 0 0) 41 0 = 0 ∧
      Final kAB [4] ∧ gTag kAB 4 = false) :=
  ⟨issues rfl (by decide), by decide, ⟨issues rfl (by decide), by decide⟩,
    ⟨issues rfl (by decide), by decide, by unfold Final; decide, by decide⟩,
    issues rfl (by decide), by decide, by decide, by unfold Final; decide, by decide⟩

/-- LOOP counts 63 down and continues at PC + 8 × DISP (R87). -/
theorem test_loop : (match exec (.kLoop c0 (word 4 0 0 0 2)) (runs kAB) with
    | .next t => (getCore t 0).kernel.map (fun k => (gReg k 4, k.pc)) | _ => none) = some (62, 16) := by decide +kernel

/-- A page of code and constants of space 1 in frame 8 of slice 0 of tile 0, readable and executable. -/
def codePage : Pte := { pteInit with ty := .page, frame := 8, rd := true, ex := true }

/-- The module that runs `k` with its image's page resident. -/
def paged (k : Kernel) : State := { runs k with pages := [(pkey 1 0x10 false, codePage)] }

theorem witness_BenchLoads :
    (Issues (runs kern) c0 kern (word 31 0 7 0 0xFFF8) ∧ gTag kern 0 = false ∧ (getCore (runs kern) 0).benchErr = [] ∧
      wSize (word 31 0 12 0 0xFFF8) = 3 ∧ fld (word 31 0 12 0 0xFFF8) 38 32 = 0 ∧ Final kern [31, 0] ∧
      memAddr kern (word 31 0 12 0 0xFFF8) % 8 = 0 ∧ inWindow kern (memAddr kern (word 31 0 12 0 0xFFF8)) 8 = true) ∧
    (Issues (paged kern) c0 kern (word 31 0 12 0 56) ∧ fld (word 31 0 12 0 56) 38 32 = 0 ∧ wSize (word 31 0 12 0 56) < 4 ∧ Final kern [31, 0] ∧
      memAddr kern (word 31 0 12 0 56) % 8 = 0 ∧ memAddr kern (word 31 0 12 0 56) + 2 ^ 3 ≤ kern.image.constBytes ∧
      windowOf (paged kern) kern (kern.image.va + kern.image.constOffset + memAddr kern (word 31 0 12 0 56)) = some (1, 0x101038) ∧
      ∃ u, translate 0 1 0x101038 .fetch (kern.image.flags.testBit 0) false (paged kern) = (.at_ (pkey 1 0x10 false) 0 0 0 0x81038 0, u) ∧
        sliceTrains u 0 = false ∧ sliceOut u 0 = false ∧ ∃ v, sliceLoad 0 0x81038 (2 ^ 3) u = ([0, 0, 0, 0, 0, 0, 0, 0], false, v)) ∧
    (Issues (runs kern) c0 kern (word 31 0 0 0 0xFF00) ∧ fld (word 31 0 0 0 0xFF00) 41 32 = 0 ∧ Final kern [0] ∧
      memAddr kern (word 31 0 0 0 0xFF00) % 4 = 0 ∧ inWindow kern (memAddr kern (word 31 0 0 0 0xFF00)) 256 = true) ∧
    (Issues (runs kern) c0 kern (word 31 0 3 0 0) ∧ qFmt (word 31 0 3 0 0) = 12 ∧ fld (word 31 0 3 0 0) 41 39 = 0 ∧
      fld (word 31 0 3 0 0) 34 32 = 0 ∧ memAddr kern (word 31 0 3 0 0) % 8 = 0 ∧
      inWindow kern (memAddr kern (word 31 0 3 0 0)) (qInBytes 12) = true) := by
  refine ⟨⟨issues rfl (by decide), by decide, by decide, by decide, by decide, by unfold Final; decide, by decide, by decide⟩,
    ⟨⟨rfl, rfl, rfl, rfl, rfl, by decide, by decide, by decide, by decide⟩, by decide, by decide, by unfold Final; decide, by decide, by decide,
      by decide, (translate 0 1 0x101038 .fetch (kern.image.flags.testBit 0) false (paged kern)).2, Prod.ext (by decide +kernel) rfl,
      by decide +kernel, by decide +kernel,
      (sliceLoad 0 0x81038 (2 ^ 3) (translate 0 1 0x101038 .fetch (kern.image.flags.testBit 0) false (paged kern)).2).2.2,
      Prod.ext (by decide +kernel) (Prod.ext (by decide +kernel) rfl)⟩,
    ⟨issues rfl (by decide), by decide, by unfold Final; decide, by decide, by decide⟩,
    issues rfl (by decide), by decide, by decide, by decide, by decide, by decide⟩

/-- A bench with four bytes at 0xFFF8. -/
def benchCore (k : Kernel) : Core := { coreInit with kernel := some k, bench := [(0xFFF8, 0x80), (0xFFF9, 0xFF)] }

/-- Little-endian, sign-extended from 16 bits (R90): bytes 0x80, 0xFF. -/
theorem test_lds : (match exec (.kLds c0 (word 31 0 4 0 0xFFF8)) (withCore (benchCore kern)) with
    | .next t => (getCore t 0).kernel.map (fun k => gReg k 31) | _ => none) = some 0xFFFFFFFFFFFFFF80 := by decide +kernel

/-- A pass of one cell: FP8 E4M3 at 0x4000 and 0x4100, K_LEN 1, FP32 output at 0x8000, tag 9. -/
def pd : CmdDesc := ⟨0x3350000000000000, 0x4000, 0x4100, 0x8000, 0x800000, 1, 1, 0x0009000000000000⟩

/-- A queue entry of a stage. -/
def entry (d : CmdDesc) (stage : PassStage) : PassEntry := ⟨d, 0, 0, none, stage, false, 0, true, none, none, none, false⟩

/-- A core whose array 0 holds one entry, the first work of the core. -/
def passCore (k : Option Kernel) (e : PassEntry) : Core :=
  putArray { coreInit with kernel := k, enqSeq := 1 } 0 { arrayInit with queue := [e] }

theorem witness_BenchStores :
    (Issues (runs kern) c0 kern (word 31 0 12 0 0xFFF8) ∧ gTag kern 0 = false ∧ fld (word 31 0 12 0 0xFFF8) 38 32 = 0 ∧
      wSize (word 31 0 12 0 0xFFF8) = 3 ∧ Final kern [31, 0] ∧ gTag kern 31 = false ∧ memAddr kern (word 31 0 12 0 0xFFF8) % 8 = 0 ∧
      inWindow kern (memAddr kern (word 31 0 12 0 0xFFF8)) 8 = true ∧
      savedLocked (getCore (runs kern) 0) 0xFFF8 8 = false ∧ Unlocked (getCore (runs kern) 0) 0xFFF8 8) ∧
    (Issues (withCore (passCore (some kern) (entry pd .queued))) c0 kern (word 31 0 12 0 0x4000) ∧
      memAddr kern (word 31 0 12 0 0x4000) = 0x4000 ∧ savedLocked (passCore (some kern) (entry pd .queued)) 0x4000 8 = false ∧
      ¬ Unlocked (passCore (some kern) (entry pd .queued)) 0x4000 8) ∧
    (Issues (withCore (passCore (some kern) (entry pd .saved))) c0 kern (word 31 0 12 0 0x4000) ∧
      savedLocked (passCore (some kern) (entry pd .saved)) 0x4000 8 = true) ∧
    (Issues (runs kern) c0 kern (word 31 0 0 0 0xFF00) ∧ fld (word 31 0 0 0 0xFF00) 41 32 = 0 ∧ Final kern [0] ∧ vTag kern 31 = false ∧
      memAddr kern (word 31 0 0 0 0xFF00) % 4 = 0 ∧ inWindow kern (memAddr kern (word 31 0 0 0 0xFF00)) 256 = true ∧
      Unlocked (getCore (runs kern) 0) 0xFF00 256) ∧
    (Issues (runs kern) c0 kern (word 0 0 1 8 0x100) ∧ wZero (word 0 0 1 8 0x100) 41 39 = true ∧
      qFmt (word 0 0 1 8 0x100) ≤ 5 ∧ fld (word 0 0 1 8 0x100) 34 33 ≠ 3 ∧ wZero (word 0 0 1 8 0x100) 32 32 = true ∧
      memAddr kern (word 0 0 1 8 0x100) % 8 = 0 ∧
      inWindow kern (memAddr kern (word 0 0 1 8 0x100)) (qOutBytes (qFmt (word 0 0 1 8 0x100))) = true) := by
  refine ⟨⟨issues rfl (by decide), by decide, by decide, by decide, by unfold Final; decide, by decide, by decide, by decide, by decide,
      by unfold Unlocked; decide⟩,
    ⟨issues_core rfl rfl rfl (by decide), by decide, by decide, by unfold Unlocked; decide⟩, ⟨issues_core rfl rfl rfl (by decide), by decide⟩,
    ⟨issues rfl (by decide), by decide, by unfold Final; decide, by decide, by decide, by decide, by unfold Unlocked; decide⟩,
    issues rfl (by decide), by decide, by decide, by decide, by decide, by decide, by decide⟩

/-- A store under the lock of a queued pass waits, and the core retires it (R68). -/
theorem test_st_waits : (match exec (.kSt c0 (word 3 0 4 0 0x4000)) (withCore (passCore (some kAB) (entry pd .queued))) with
    | .next t => ((getCore t 0).writes.length, benchByte (getCore t 0) 0x4000) | _ => (0, 1)) = (1, 0) := by decide +kernel

theorem witness_BenchWriteBytes :
    0 < [(1 : Byte)].length ∧ (0xFFF9 < 0xFFFA ∧ 0xFFFA + [(1 : Byte)].length ≤ 0xFFFB) ∧ (benchCore kern).kernel = some kern ∧
    (∃ i, i < 128 ∧ benchByte (benchWrite (benchCore kern) 127 [5]) (kern.watchLine.toNat / 128 * 128 + i) ≠
      benchByte (benchCore kern) (kern.watchLine.toNat / 128 * 128 + i)) ∧
    (∀ i, i < 128 → benchByte (benchWrite (benchCore kern) 128 [5]) (kern.watchLine.toNat / 128 * 128 + i) =
      benchByte (benchCore kern) (kern.watchLine.toNat / 128 * 128 + i)) ∧ Memory.wf (benchCore kern).bench = true :=
  ⟨by decide, by decide, rfl, ⟨127, by decide, by decide +kernel⟩, by decide +kernel, by decide⟩

theorem witness_VectorLanes :
    ((.kVmov, fun a => (a, 0)) ∈ vec1 ∧ Issues (runs kern) c0 kern (word 31 0 0 0 0) ∧ fld (word 31 0 0 0 0) 41 0 = 0) ∧
    ((.kVadd, fAdd) ∈ vec2 ∧ Issues (runs kern) c0 kern (word 31 30 29 0 0) ∧ fld (word 31 30 29 0 0) 36 0 = 0) ∧
    ((.kVfma, fFma) ∈ vec3 ∧ Issues (runs kern) c0 kern (word 31 30 29 28 0) ∧ fld (word 31 30 29 28 0) 31 0 = 0) :=
  ⟨⟨by simp [vec1], issues rfl (by decide), by decide⟩, ⟨.head _, issues rfl (by decide), by decide⟩,
    .head _, issues rfl (by decide), by decide⟩

/-- A vector register whose lane 63 is 1.0 and whose other lanes are zero. -/
def kV : Kernel := { kern with v := [(1, (0x3F800000 : BitVec 2048) <<< 2016)], g := [(4, 64)] }

/-- 1.0 + 1.0 = 2.0 in lane 63. -/
theorem test_vadd : (match exec (.kVadd c0 (word 2 1 1 0 0)) (runs kV) with
    | .next t => (getCore t 0).kernel.map (fun k => (lane (vReg k 2) 63, lane (vReg k 2) 62)) | _ => none) = some (0x40000000, 0) := by
  decide +kernel

theorem witness_VectorScalarForms :
    (Issues (runs kAB) c0 kAB (word 1 3 0 0 0) ∧ fld (word 1 3 0 0 0) 41 0 = 0 ∧ Final kAB [3] ∧ Final kAB [1]) ∧
    (Issues (runs kAB) c0 kAB (word 1 3 4 0 0) ∧ fld (word 1 3 4 0 0) 36 0 = 0 ∧ Final kAB [1, 3, 4] ∧ gReg kAB 4 < 64 ∧
      gTag kAB 3 = false ∧ gTag kAB 4 = false) ∧
    (Issues (runs kV) c0 kV (word 1 1 4 0 0) ∧ Final kV [1, 1, 4] ∧ 64 ≤ gReg kV 4) :=
  ⟨⟨issues rfl (by decide), by decide, by unfold Final; decide, by unfold Final; decide⟩,
    ⟨issues rfl (by decide), by decide, by unfold Final; decide, by decide, by decide, by decide⟩,
    issues rfl (by decide), by unfold Final; decide, by decide⟩

/-- g1 = 4095 and g2 = 4032 name the last scale register and the last 64; g3 = 2.0. -/
def kS : Kernel := { kern with g := [(1, 4095), (2, 4032), (3, 0x40000000)] }
/-- The same in a kernel without SYSTEM, which the write window of a core at reset refuses. -/
def kUser : Kernel := { kS with image := { img with flags := 0 } }

theorem witness_ScaleBank :
    (Issues (runs kS) c0 kS (word 5 1 0 0 0) ∧ gTag kS 1 = false ∧ Final kS [5, 1, 0] ∧ fld (word 5 1 0 0 0) 41 0 = 0 ∧ gReg kS 1 < 4096) ∧
    (Issues (runs kS) c0 kS (word 5 2 0 0 0) ∧ Final kS [5, 2, 0] ∧ gReg kS 2 ≤ 4032 ∧ vTag kS 5 = false ∧
      (∀ i < 64, kwriteOk (getCore (runs kS) 0) kS (4032 + i) = true ∧ scaleLocked (getCore (runs kS) 0) (4032 + i) 1 = false)) ∧
    (Issues (runs kS) c0 kS (word 0 1 3 0 0) ∧ Final kS [0, 1, 3] ∧ fld (word 0 1 3 0 0) 51 47 = 0 ∧ fld (word 0 1 3 0 0) 36 0 = 0 ∧
      gTag kS 3 = false ∧ kwriteOk (getCore (runs kS) 0) kS 4095 = true ∧ scaleLocked (getCore (runs kS) 0) 4095 1 = false) ∧
    (Issues (runs kUser) c0 kUser (word 0 1 3 0 0) ∧ Final kUser [0, 1, 3] ∧ kwriteOk (getCore (runs kUser) 0) kUser 4095 = false) :=
  ⟨⟨issues rfl (by decide), by decide, by unfold Final; decide, by decide, by decide⟩,
    ⟨issues rfl (by decide), by unfold Final; decide, by decide, by decide, by decide +kernel⟩,
    ⟨issues rfl (by decide), by unfold Final; decide, by decide, by decide, by decide, by decide, by decide⟩,
    issues rfl (by decide), by unfold Final; decide, by decide⟩

/-- KST writes the last scale register. -/
theorem test_kst : (match exec (.kKst c0 (word 0 1 3 0 0)) (runs kS) with
    | .next t => scaleReg (getCore t 0) 4095 | _ => 0) = 0x40000000 := by decide +kernel

/-- A bench that holds little-endian words from an address. -/
def benchOf (a : Nat) (ws : List Word) : Tab Byte := memWrite [] a (ws.flatMap (fun w => leBytes 8 w.toNat))

/-- The words of a descriptor. -/
def wordsOf (d : CmdDesc) : List Word := [d.w0, d.w1, d.w2, d.w3, d.w4, d.w5, d.w6, d.w7]

/-- A core that runs `k` with a descriptor at 0x100 of its bench. -/
def descCore (k : Kernel) (d : CmdDesc) : Core := { coreInit with kernel := some k, bench := benchOf 0x100 (wordsOf d) }

/-- g3 names the descriptor at 0x100. -/
def kD : Kernel := { kern with g := [(3, 0x100)] }

/-- PASS, MOVE, CRUMB or LINKOP with ticket register 5 and descriptor register 3. -/
def wD3 : BitVec 56 := word 5 3 0 0 0

/-- A core whose arrays are as given. -/
def arrCore (c : Core) (a b : ArrayState) : Core := putArray (putArray c 0 a) 1 b

/-- An array with a full queue. -/
def fullArray : ArrayState := { arrayInit with queue := [entry pd .active, entry pd .queued, entry pd .queued, entry pd .queued] }

/-- An array out of service. -/
def outArray : ArrayState := { arrayInit with out := true, outByWrite := true }

theorem witness_PassInstruction :
    (Issues (withCore (descCore kD pd)) c0 kD wD3 ∧ wSel wD3 < 2 ∧ fld wD3 39 0 = 0 ∧ Final kD [wD wD3, wA wD3] ∧
      gTag kD (wA wD3) = false ∧ inWindow kD (gReg kD (wA wD3)).toNat 64 = true ∧
      pd = descOf (benchRead (getCore (withCore (descCore kD pd)) 0) (gReg kD (wA wD3)).toNat 64) ∧ (getCore (withCore (descCore kD pd)) 0).benchErr = []) ∧
    (passFieldsBad { pd with w5 := 0 } = true ∧
      ({ pd with w5 := 0 } : CmdDesc) = descOf (benchRead (getCore (withCore (descCore kD { pd with w5 := 0 })) 0) 0x100 64)) ∧
    (passFieldsBad pd = false ∧ passRangeBad pd = false ∧ (∀ x ∈ passIn pd ++ passOut pd, inWindow kD x.1 x.2 = true) ∧
      takingArray (descCore kD pd) 0 = some 0 ∧ (getArray (descCore kD pd) 0).queue.length < 4) ∧
    (Issues (withCore (arrCore (descCore kD pd) outArray fullArray)) c0 kD wD3 ∧
      takingArray (arrCore (descCore kD pd) outArray fullArray) 0 = some 1 ∧
      4 ≤ (getArray (arrCore (descCore kD pd) outArray fullArray) 1).queue.length) ∧
    (Issues (withCore (arrCore (descCore kD pd) outArray outArray)) c0 kD wD3 ∧
      takingArray (arrCore (descCore kD pd) outArray outArray) 0 = none) := by
  refine ⟨⟨issues_core rfl rfl rfl (by decide), by decide, by decide, by unfold Final; decide, by decide, by decide, by decide +kernel, rfl⟩,
    ⟨by decide +kernel, by decide +kernel⟩, ⟨by decide +kernel, by decide +kernel, by decide +kernel, by decide, by decide⟩,
    ⟨issues_core rfl rfl rfl (by decide), by decide, by decide⟩, issues_core rfl rfl rfl (by decide), by decide⟩

/-- PASS enqueues one pass with the core's enqueue number and hands out ticket 1 (R55, R92). -/
theorem test_pass : (match exec (.kPass c0 wD3) (withCore (descCore kD pd)) with
    | .next t => ((getArray (getCore t 0) 0).queue.map (fun e => (e.desc, e.ticket)), (getCore t 0).enqSeq,
        (getCore t 0).kernel.map (fun k => (gReg k 5, k.pc))) | _ => ([], 0, none)) = ([(pd, some 1)], 1, some (1, 8)) := by decide +kernel

/-- A move inside the bench: one row of eight bytes from 0x100 to 0x200. -/
def md : CmdDesc := ⟨0x2000000800010001, 0x100, 0x200, 0, 0, 0, 0, 0⟩
/-- A crumb of group 5, barrier, RESULT_OFF 0x400. -/
def cd : CmdDesc := ⟨0x0000500000000007, 0x400, 0, 0, 0, 0, 0, 0⟩
/-- An ALL_GATHER of one word in group 5, from 0x1000 to 0x2000. -/
def ld : CmdDesc := ⟨0x0300005000000003, 1, 0x2000 * 2 ^ 18 + 0x1000 * 2 ^ 41, 0, 0, 0, 0, 0⟩
/-- Group 5 of this module's first tile and first core. -/
def group5 : CollGroup := { groupEmpty with w0 := 1, w1 := 1, valid := true, members := [0] }
/-- The module with a core whose descriptor is `d`, and group 5. -/
def grouped (d : CmdDesc) : State := { withCore (descCore kD d) with coll := { State.reset.coll with groups := [(5, group5)] } }

/-- An ALL_REDUCE of one FP32 value in group 5 with thinning over two steps, at a step: its input at 0x1000, output at 0x2000, working block
at 0x3000 and accumulator at 0x4000. -/
def ldThin (step : Nat) : CmdDesc :=
  ⟨0x0100405000000003, BitVec.ofNat 64 (step * 2 ^ 32 + 1), 0x2000 * 2 ^ 18 + 0x1000 * 2 ^ 41, 0x4000 * 2 ^ 18 + 0x3000 * 2 ^ 41, 0, 0, 0, 0⟩
/-- The same with ENABLE 0 in the tile's LINK_CTRL. -/
def unlinked (d : CmdDesc) : State := { grouped d with coll := { (grouped d).coll with linkCtrl := [(0, 2)] } }

theorem issues_grouped (d : CmdDesc) : Issues (grouped d) c0 kD wD3 :=
  ⟨rfl, rfl, rfl, rfl, rfl, by decide, by decide, rfl, by decide⟩

theorem issues_unlinked (d : CmdDesc) : Issues (unlinked d) c0 kD wD3 :=
  ⟨rfl, rfl, rfl, rfl, rfl, by decide, by decide, rfl, by decide⟩

/-- The further forms of LINKOP: a thinning step that sends, one that does not, and ENABLE 0. -/
theorem witness_LinkopForms :
    (∀ x ∈ [grouped (ldThin 1), grouped (ldThin 0), unlinked (ldThin 1)], let d := descOf (benchRead (getCore x 0) 0x100 64)
      linkBad x 0 d = false ∧ (∀ y ∈ linkRanges x 0 d, inWindow kD y.1 y.2 = true) ∧ linkOverlaps d (linkRanges x 0 d) = false ∧
      (∀ y ∈ (linkRanges x 0 d).drop 1, savedLocked (getCore x 0) y.1 y.2 = false) ∧ findLink x 0 (lGroup d) = none ∧ lThins d = true) ∧
    (linkEnabled (grouped (ldThin 1)) 0 = true ∧ lSends (ldThin 1) = true) ∧ (linkEnabled (grouped (ldThin 0)) 0 = true ∧ lSends (ldThin 0) = false) ∧
    (Issues (unlinked (ldThin 1)) c0 kD wD3 ∧ linkEnabled (unlinked (ldThin 1)) 0 = false) :=
  ⟨by decide +kernel, by decide +kernel, by decide +kernel, issues_unlinked _, by decide +kernel⟩

theorem witness_MoveCrumbLinkop :
    (wSel wD3 = 0 ∧ fld wD3 39 0 = 0 ∧ Final kD [wD wD3, wA wD3] ∧ gTag kD (wA wD3) = false ∧ 0x100 = (gReg kD (wA wD3)).toNat) ∧
    (Issues (grouped md) c0 kD wD3 ∧ md = descOf (benchRead (getCore (grouped md) 0) 0x100 64) ∧ (getCore (grouped md) 0).benchErr = [] ∧ inWindow kD 0x100 32 = true ∧
      (∀ m : MoveOp, m = ⟨1, 0, md.w0, md.w1, md.w2, md.w3, false, [], [], .ok, true, [], false⟩ →
        moveFieldsBad m = false ∧ (movePrivileged m = true → kD.image.flags.testBit 0 = true) ∧ moveInWindow kD m = true ∧
        (∀ x ∈ moveDstRange m, savedLocked (getCore (grouped md) 0) x.1 x.2 = false))) ∧
    (Issues (grouped cd) c0 kD wD3 ∧ cd = descOf (benchRead (getCore (grouped cd) 0) 0x100 64) ∧ (getCore (grouped cd) 0).benchErr = [] ∧ crumbBad (grouped cd) 0 cd.w0 cd.w1 = false ∧
      inWindow kD (fld cd.w1 22 0) 16 = true ∧ savedLocked (getCore (grouped cd) 0) (fld cd.w1 22 0) 16 = false ∧ crumbBusy (grouped cd) (fld cd.w0 53 44) 0 = false) ∧
    (Issues (grouped ld) c0 kD wD3 ∧ ld = descOf (benchRead (getCore (grouped ld) 0) 0x100 64) ∧ (getCore (grouped ld) 0).benchErr = [] ∧ inWindow kD 0x100 64 = true ∧ linkBad (grouped ld) 0 ld = false ∧
      (∀ x ∈ linkRanges (grouped ld) 0 ld, inWindow kD x.1 x.2 = true) ∧ linkOverlaps ld (linkRanges (grouped ld) 0 ld) = false ∧
      (∀ x ∈ (linkRanges (grouped ld) 0 ld).drop 1, savedLocked (getCore (grouped ld) 0) x.1 x.2 = false) ∧
      findLink (grouped ld) 0 (lGroup ld) = none ∧ linkEnabled (grouped ld) 0 = true ∧ lThins ld = false) := by
  refine ⟨⟨by decide, by decide, by unfold Final; decide, by decide, by decide⟩,
    ⟨issues_grouped md, by decide +kernel, rfl, by decide, fun m h => by subst h; decide +kernel⟩,
    ⟨issues_grouped cd, by decide +kernel, rfl, by decide +kernel, by decide, by decide +kernel, by decide +kernel⟩,
    issues_grouped ld, by decide +kernel, rfl, by decide, by decide +kernel, by decide +kernel, by decide +kernel, by decide +kernel, by decide +kernel, by decide +kernel,
    by decide +kernel⟩

/-- MOVE puts the move into the engine under ticket 1 of class 2. -/
theorem test_move : (match exec (.kMove c0 wD3) (grouped md) with
    | .next t => ((getCore t 0).moves.map (·.ticket), (getCore t 0).kernel.map (fun k => gReg k 5)) | _ => ([], none)) = ([1], some 1) := by
  decide +kernel

/-- CRUMB of the group's one member completes the round: RESULT_OFF is written at its end, and ticket 1 of class 4 is out. -/
theorem test_crumb : (match exec (.kCrumb c0 wD3) (grouped cd) with
    | .next t => (getCore t 0).kernel.map (fun k => (gReg k 5, (getCls k 4).issued)) | _ => none) = some (1, 1) := by decide +kernel

theorem witness_RemoteInstructions :
    ((.kRldLoad, .load false, [0, 1, 2, 3], false) ∈ remoteOps ∧ Issues (paged kern) c0 kern (word 31 0 12 0 0xFFF8) ∧
      wSize (word 31 0 12 0 0xFFF8) ∈ [0, 1, 2, 3] ∧ Final kern [31, 0] ∧ gTag kern 0 = false ∧
      memAddr kern (word 31 0 12 0 0xFFF8) % 2 ^ 3 = 0 ∧ remRoom (paged kern) 0 = true ∧
      windowOf (paged kern) kern (memAddr kern (word 31 0 12 0 0xFFF8)) = some (1, 0xFFF8)) ∧
    ((.kRatomCas, .atomic 9, [2, 3], true) ∈ remoteOps ∧ Issues (paged kern) c0 kern (word 30 0 12 9 8) ∧
      wSize (word 30 0 12 9 8) ∈ [2, 3] ∧ wD (word 30 0 12 9 8) < 31 ∧ Final kern [30, 0, 31] ∧ gTag kern 30 = false ∧ gTag kern 31 = false ∧
      memAddr kern (word 30 0 12 9 8) % 2 ^ 3 = 0) ∧
    (Issues (paged kern) c0 kern (word 30 0 12 1 8) ∧ wSize (word 30 0 12 1 8) < 4 ∧ wD (word 30 0 12 1 8) < 31 ∧ Final kern [30, 0, 31] ∧
      windowOf (paged kern) kern (memAddr kern (word 30 0 12 1 8)) = some (1, 8)) := by
  have h : ∀ w, wGuard w = 0 ∧ wGneg w = false → Issues (paged kern) c0 kern w := fun w hg =>
    ⟨rfl, rfl, rfl, rfl, rfl, by decide, by decide, by decide, by rw [hg.1, hg.2]; decide⟩
  exact ⟨⟨.head _, h _ (by decide), by decide, by unfold Final; decide, by decide, by decide, by decide, by decide⟩,
    ⟨by simp [remoteOps], h _ (by decide), by decide, by decide, by unfold Final; decide, by decide, by decide, by decide⟩,
    h _ (by decide), by decide, by decide, by unfold Final; decide, by decide⟩

/-- A kernel with tickets 1 and 2 of class 0 issued: 1 ended with OK, 2 is live; g1 to g3 hold 0, 1 and 2. -/
def kT : Kernel := { kern with classes := [(0, ⟨2, 1, [2], [(1, .ok)]⟩)], g := [(2, 1), (3, 2)], wake := 9 }

theorem witness_WaitingInstructions :
    (fld (word 5 1 0 0 0) 41 32 = 0 ∧ fld (word 5 1 0 0 5) 31 3 = 0 ∧ fld (word 5 1 0 0 5) 2 0 < 6 ∧ Final kT [5, 1] ∧ gTag kT 1 = false) ∧
    (Issues (runs kT) c0 kT (word 5 1 0 0 0) ∧ 0 = (gReg kT 1).toNat ∧ 0 ≤ (getCls kT 0).issued) ∧
    (Issues (runs kT) c0 kT (word 5 2 0 0 0) ∧ 1 = (gReg kT 2).toNat ∧ 1 ≤ (getCls kT 0).issued ∧ Ended kT 0 1 ∧ Final kT [5, 2]) ∧
    (Issues (runs kT) c0 kT (word 5 3 0 0 0) ∧ 2 = (gReg kT 3).toNat ∧ 2 ≤ (getCls kT 0).issued ∧ ¬ Ended kT 0 2 ∧ Final kT [5, 3]) ∧
    (Issues (runs kT) c0 kT (word 5 3 0 0 0x70) ∧ fld (word 5 3 0 0 0x70) 31 7 = 0 ∧ fld (word 5 3 0 0 0x70) 3 3 = 0) ∧
    (Issues (runs kT) c0 kT (word 0 0 0 0 0x3E) ∧ fld (word 0 0 0 0 0x3E) 51 32 = 0 ∧ fld (word 0 0 0 0 0x3E) 31 6 = 0 ∧
      (∀ i < 6, (fld (word 0 0 0 0 0x3E) 5 0).testBit i = true → (getCls kT i).live = [])) ∧
    (Issues (runs kT) c0 kT (word 0 0 0 0 0x3F) ∧ ¬ (∀ i < 6, (fld (word 0 0 0 0 0x3F) 5 0).testBit i = true → (getCls kT i).live = [])) ∧
    (Issues (runs kT) c0 kT 0 ∧ (getCore (runs kT) 0).preemptReq = false) ∧
    (Issues (runs kT) c0 kT (word 5 0 0 0 0x1F) ∧ fld (word 5 0 0 0 0x1F) 31 5 = 0 ∧ kT.wake.toNat &&& 0x1F ≠ 0) ∧
    (Issues (runs kT) c0 kT (word 5 0 0 0 6) ∧ kT.wake.toNat &&& 6 = 0) := by
  refine ⟨⟨by decide, by decide, by decide, by unfold Final; decide, by decide⟩, ⟨issues rfl (by decide), by decide, by decide⟩,
    ⟨issues rfl (by decide), by decide, by decide, by unfold Ended; decide, by unfold Final; decide⟩,
    ⟨issues rfl (by decide), by decide, by decide, by unfold Ended; decide, by unfold Final; decide⟩,
    ⟨issues rfl (by decide), by decide, by decide⟩, ⟨issues rfl (by decide), by decide, by decide, by decide⟩,
    ⟨issues rfl (by decide), by decide⟩, ⟨issues rfl (by decide), rfl⟩, ⟨issues rfl (by decide), by decide, by decide⟩,
    issues rfl (by decide), by decide⟩

/-- POLL of a live ticket clears its predicate and retires (R93). -/
theorem test_poll : (match exec (.kPoll c0 (word 5 3 0 0 0x70)) (runs { kT with p := 0x80 }) with
    | .next t => (getCore t 0).kernel.map (fun k => (pReg k 7, k.pc)) | _ => none) = some (false, 8) := by decide +kernel

theorem witness_UnblocksAndGap :
    (∀ k ∈ [{ kT with blocked := some (.wait 5 0 1) }, { kT with blocked := some (.fence 0x3E) }, { kT with blocked := some (.waitwake 5 8) }, kT],
      mainOn (runs k) = true ∧ (getCore (runs k) 0).kernel = some k ∧ k.phase = .running ∧ groupRuns (runs k) 0 = true) ∧
    Ended kT 0 1 ∧ (∀ i < 6, (0x3E).testBit i = true → (getCls kT i).live = []) ∧ kT.wake.toNat &&& 8 ≠ 0 ∧ kT.gap ≤ kT.image.maxYieldGap :=
  ⟨by decide, by unfold Ended; decide, by decide, by decide, by decide⟩

/-- The passed gap traps with GAP_EXCEEDED and the kernel stops at its own address (R110). -/
theorem test_gap : (match exec (.gapExceeded c0) (runs kT) with
    | .next t => (getCore t 0).kernel.map (fun k => (k.phase, k.gap)) | _ => none) = some (.ending (.trap .gapExceeded 0 0), 1001) := by
  decide +kernel

theorem witness_SpecialRegisters :
    ((0x15, (0 : Word)) ∈ specials (runs kern) c0 kern ∧ Issues (runs kern) c0 kern (word 31 0 0 0 0x15) ∧
      fld (word 31 0 0 0 0x15) 46 32 = 0 ∧ fld (word 31 0 0 0 0x15) 31 0 = 0x15 ∧ Final kern [31]) ∧
    (Issues (runs kern) c0 kern (word 0 3 0 0 6) ∧ fld (word 0 3 0 0 6) 51 47 = 0 ∧ fld (word 0 3 0 0 6) 41 32 = 0 ∧ Final kern [3] ∧
      gTag kern 3 = false ∧ fld (word 0 3 0 0 6) 31 0 = 6) ∧
    (Issues (runs kern) c0 kern (word 0 3 0 0 7) ∧ fld (word 0 3 0 0 7) 31 0 = 7) ∧
    (Issues (runs kern) c0 kern (word 31 0 0 0 0xFF) ∧ fld (word 31 0 0 0 0xFF) 46 32 = 0 ∧ fld (word 31 0 0 0 0xFF) 31 8 = 0) :=
  ⟨⟨by simp [specials, kern, getCls]; rfl, issues rfl (by decide), by decide, by decide, by unfold Final; decide⟩,
    ⟨issues rfl (by decide), by decide, by decide, by unfold Final; decide, by decide, by decide⟩,
    ⟨issues rfl (by decide), by decide⟩, issues rfl (by decide), by decide, by decide⟩

/-- The module with an enable with DEBUG in force. -/
def debugOn (s : State) : State := { s with keeper := { s.keeper with enables := [(0, ⟨.servicePort, 0x100, 1000, 0⟩)] } }

theorem witness_AbortBreakTrap :
    (Issues (runs kern) c0 kern (word 0 0 0 0 0xFFFF) ∧ fld (word 0 0 0 0 0xFFFF) 51 16 = 0) ∧
    (Issues (debugOn (runs kern)) c0 kern 0 ∧ fld (0 : BitVec 56) 51 0 = 0 ∧ (∃ e ∈ (debugOn (runs kern)).keeper.enables, bit e.2.functions 8 = true)) ∧
    (Issues (runs kern) c0 kern 0 ∧ (∀ e ∈ (runs kern).keeper.enables, bit e.2.functions 8 = false)) ∧
    (Issues (runs kern) c0 kern ((0x1A00000000000000 : BitVec 64).setWidth 56) ∧ listed (fld (0x1A00000000000000 : Word) 63 56) 0 = false) ∧
    (Issues (runs kern) c0 kern ((0x4400000200000000 : BitVec 64).setWidth 56) ∧
      listed (fld (0x4400000200000000 : Word) 63 56) (fld (0x4400000200000000 : Word) 38 32) = false) :=
  ⟨⟨issues rfl (by decide), by decide⟩,
    ⟨⟨rfl, rfl, rfl, rfl, rfl, by decide, by decide, rfl, by decide⟩, by decide, ⟨_, .head _, by decide⟩⟩,
    ⟨issues rfl (by decide), by decide⟩, ⟨issues rfl (by decide), by decide⟩, issues rfl (by decide), by decide⟩

/-- An unlisted opcode traps with ILLEGAL at its own address (R104). -/
theorem test_trap : (match exec (.kTrap c0 0x1A00000000000000) (runs kern) with
    | .next t => (getCore t 0).kernel.map (·.phase) | _ => none) = some (.ending (.trap .illegal 0 0)) := by decide +kernel

theorem witness_TrapOrder :
    (.kAdd, fun a b => a + b) ∈ aluRR ∧
    (∀ k ∈ [{ kern with gap := 1001 }, { kern with pc := 0x1000 }, { kern with pc := 4 }, { kern with gap := 1000, pc := 0xFF8 }],
      (getCore (runs k) 0).kernel = some k ∧ canIssue (runs k) 0 (getCore (runs k) 0) k = true) ∧
    fld (word 31 3 4 0 1) 36 0 ≠ 0 ∧ (fld (word 31 3 4 0 0 ||| BitVec.twoPow 56 52) 36 0 = 0 ∧
      pReg kern (wGuard (word 31 3 4 0 0 ||| BitVec.twoPow 56 52)) = wGneg (word 31 3 4 0 0 ||| BitVec.twoPow 56 52)) :=
  ⟨.head _, by decide, by decide, by decide⟩

/-- A core in a pass, a drain and two moves, one of them started. -/
def busyCore : Core :=
  { putArray { coreInit with kernel := some kern } 0 { arrayInit with queue := [entry pd .draining, entry pd .active, entry pd .queued] } with
    moves := [⟨1, 0, md.w0, md.w1, md.w2, md.w3, true, [], [], .ok, true, [], false⟩,
      ⟨2, 1, md.w0, md.w1, md.w2, md.w3, false, [], [], .ok, true, [], false⟩] }

theorem witness_TrapTaken : (getCore (withCore busyCore) 0).kernel = some kern ∧ (getCore (withCore busyCore) 0).writes = [] ∧
    (∃ e ∈ (getArray (getCore (withCore busyCore) 0) 0).queue, e.stage = .draining) ∧
    (∃ e ∈ (getArray (getCore (takeTrap 0 .abort 7 (withCore busyCore)) 0) 0).queue, e.stage = .draining) :=
  ⟨rfl, rfl, ⟨_, .head _, rfl⟩, by decide +kernel⟩

theorem witness_KernelLife :
    (mainOn (runs { kern with phase := .placed }) = true ∧ groupRuns (runs { kern with phase := .placed }) 0 = true) ∧
    (mainOn (runs { kern with phase := .saving 14 }) = true ∧ (getTile (runs { kern with phase := .saving 14 }) 0).hold = false ∧
      sliceTrains (runs { kern with phase := .saving 14 }) 0 = false ∧ sliceOut (runs { kern with phase := .saving 14 }) 0 = false ∧
      sliceEvac (runs { kern with phase := .saving 14 }) 0 = false) ∧
    (∀ s, s = withCore { coreInit with resumeReq := some 14, saved := [⟨14, kern, 7⟩] } →
      mainOn s = true ∧ (getCore s 0).kernel = none ∧ (getCore s 0).resumeReq = some 14 ∧ groupRuns s 0 = true ∧
      (getCore s 0).saved.find? (fun y => y.slot == 14) = some ⟨14, kern, 7⟩) ∧
    (∀ e ∈ [EndKind.fin, .trap .abort 7 8, .withdrawn], endReady (getCore (runs { kern with phase := .ending e }) 0) kern e = true) :=
  ⟨by decide, by decide, fun s h => by subst h; decide, by decide⟩

/-- A kernel begins at ENTRY with its first argument in g1 and true only p0 (R82). -/
theorem test_start : (match exec (.kernelStart c0) (runs { kern with phase := .placed, args := [0x34, 0x12], image := { img with entry := 64 } }) with
    | .next t => (getCore t 0).kernel.map (fun k => (gReg k 1, k.p, k.pc, k.phase)) | _ => none) = some (0x1234, 1, 64, .running) := by
  decide +kernel

/-- TRAP_CAUSE after an ABORT with immediate 7 at address 8 (R105). -/
theorem test_kernel_end : (match exec (.kernelEndComplete c0) (runs { kern with phase := .ending (.trap .abort 7 8) }) with
    | .next t => ((getCore t 0).kernel, fld (getCore t 0).trap 63 48, fld (getCore t 0).trap 19 0) | _ => (some kern, 0, 0)) = (none, 7, 8) := by
  decide +kernel

/-- The running move of `busyCore` in a core of its own, NOTIFY set. -/
def mv : MoveOp := ⟨1, 0, md.w0 ||| 0x0800000000000000, md.w1, md.w2, md.w3, true, [], [], .ok, true, [], false⟩
/-- A core with that move. -/
def moveCore : Core := { descCore kern md with moves := [mv] }

/-- A started move of eight bytes of the image's page to the bench, and the module whose first core runs it. -/
def mvTin : MoveOp := ⟨1, 0, 0x3000000800010001, 0x101038, 0x200, 0, true, [], [], .ok, true, [], false⟩
def moveTin : State := { withCore { descCore kern md with moves := [mvTin] } with pages := [(pkey 1 0x10 false, codePage)] }

theorem witness_MoveCompletes :
    (mainOn (withCore moveCore) = true ∧ (getCore (withCore moveCore) 0).kernel = some kern ∧
      (getCore (withCore moveCore) 0).moves.find? (fun x => x.ticket == (1 : BitVec 64).toNat) = some mv ∧ mv.started = true ∧ mv.todo = [] ∧
      mv.await = [] ∧ moveLocked (getCore (withCore moveCore) 0) mv = false ∧ inShift (withCore moveCore) 0 = false ∧ mKind mv = 2 ∧
      (getCore (withCore moveCore) 0).benchErr = [] ∧ (moveLocal regPath 0 kern mv (withCore moveCore)).isSome = true) ∧
    (codeFailed .ok = false ∧ (getCore (withCore moveCore) 0).writes = []) ∧
    (mainOn moveTin = true ∧ (getCore moveTin 0).kernel = some kern ∧ (getCore moveTin 0).moves.find? (fun x => x.ticket == 1) = some mvTin ∧
      moveLocked (getCore moveTin 0) mvTin = false ∧ inShift moveTin 0 = false ∧ mKind mvTin = 3 ∧ codeFailed mvTin.code = false ∧
      ∃ u, movePages 0 kern mvTin true moveTin = (false, .ok, u) ∧ (moveLocal regPath 0 kern mvTin u).isSome = true) :=
  ⟨⟨by decide, rfl, by decide, rfl, rfl, rfl, by decide, by decide, by decide, rfl, by decide +kernel⟩, by decide,
    by decide, rfl, by decide, by decide, by decide, by decide, by decide,
    (movePages 0 kern mvTin true moveTin).2.2, Prod.ext (by decide +kernel) (Prod.ext (by decide +kernel) rfl), by decide +kernel⟩

/-- The move copies eight bytes (the low byte of the descriptor's word 0 is 1) and sets wake-pending bit 1. -/
theorem test_move_complete : (match exec (.moveComplete c0 1) (withCore moveCore) with
    | .next t => (benchByte (getCore t 0) 0x200, (getCore t 0).moves.length, (getCore t 0).kernel.map (·.wake)) | _ => (0, 9, none)) = (1, 0, some 2) := by
  decide +kernel

/-- A core whose array 0 holds the entries and whose array 1 is `b`. -/
def queueCore (q : List PassEntry) (b : ArrayState := arrayInit) : Core := arrCore coreInit { arrayInit with queue := q } b

/-- In `withCore` the keeper reaches the first core at once. -/
theorem corePath (c : Core) : CorePath .keeper (withCore c) c0 := ⟨by rfl, by decide, by rfl⟩

/-- The staging buffer of the keeper for array 0 of the first core, words 0 to 6 of `pd`. -/
def stagedPass : State := { withCore (queueCore []) with staging := [⟨.keeper, gpaKey 0 0 2 0x8000, { pd with w7 := 0 }⟩] }

theorem witness_PassRegisters :
    (CorePath .keeper stagedPass c0 ∧ pd = descPut (stageGet stagedPass .keeper (gpaKey 0 0 2 0x8000)) 7 pd.w7 ∧
      passFieldsBad pd = false ∧ passRangeBad pd = false ∧ (getCore stagedPass 0).withdrawn = false ∧ takingArray (getCore stagedPass 0) 0 = some 0 ∧
      (getArray (getCore stagedPass 0) 0).queue.length < 4) ∧
    (CorePath .keeper (withCore { coreInit with withdrawn := true }) c0 ∧ (getCore (withCore { coreInit with withdrawn := true }) 0).withdrawn = true) ∧
    (CorePath .keeper (withCore busyCore) c0 ∧ expertOk .keeper 0 (withCore busyCore) = true ∧
      (∃ e ∈ (getArray (getCore (withCore busyCore) 0) 0).queue, e.stage = .active) ∧ (getArray (getCore (withCore busyCore) 0) 0).out = false) ∧
    ((getArray (queueCore [entry pd .queued] outArray) 1).out = true ∧ (getArray (queueCore [entry pd .queued]) 1).out = false ∧
      (∃ e ∈ (getArray (queueCore [entry pd .queued]) 0).queue, e.stage ≠ .draining)) ∧
    ((getArray (arrCore coreInit outArray arrayInit) 0).out = true ∧ (getArray (arrCore coreInit outArray arrayInit) 0).outByWrite = true ∧
      (getArray (arrCore coreInit outArray arrayInit) 1).out = false) :=
  ⟨⟨⟨by rfl, by decide, by rfl⟩, by decide +kernel, by decide +kernel, by decide +kernel, by decide, by decide, by decide⟩,
    ⟨corePath _, rfl⟩, ⟨corePath _, by decide, ⟨_, .tail _ (.head _), rfl⟩, by decide⟩, ⟨by decide, by decide, ⟨_, .head _, by decide⟩⟩, by decide, by decide, by decide⟩

/-- ARRAY_DISABLE moves a queued pass to the other array (R74) and marks CORE_HALF (R80). -/
theorem test_array_disable : (match exec (.arrayDisable .keeper c0 0) (withCore (queueCore [entry pd .queued])) with
    | .next t => ((getArray (getCore t 0) 0).queue.length, (getArray (getCore t 0) 1).queue.length, (getTile t 0).coreHalf, t.lastCode)
    | _ => (9, 9, 0, .rejected)) = (0, 1, 1, .ok) := by decide +kernel

/-- A draining entry with its accumulator: 2.0 in cell (0, 0). -/
def drained : PassEntry := { entry pd .draining with acc := some ⟨[(0, 0x40000000)], [], 0, 0, 0⟩, snapshot := some 1 }

theorem witness_PassStages :
    (mainOn (withCore (queueCore [entry pd .queued])) = true ∧ groupRuns (withCore (queueCore [entry pd .queued])) 0 = true ∧
      nextQueued (queueCore [entry pd .queued]) 0 = some (entry pd .queued) ∧
      (∀ x ∈ (getArray (queueCore [entry pd .queued]) 0).queue, x.stage ≠ .active) ∧
      (getGroup (withCore (queueCore [entry pd .queued])) 0 0).request = none ∧
      InputsFinal (queueCore [entry pd .queued]) 0 (entry pd .queued) ∧ (entry pd .queued).snapshot = none) ∧
    ((getArray (queueCore [entry pd .active]) 0).queue.find? (fun x => x.stage == .active) = some (entry pd .active) ∧
      (∀ x ∈ (getArray (queueCore [entry pd .active]) 0).queue, x.stage ≠ .draining)) ∧
    ((getArray (queueCore [drained]) 0).queue.find? (fun x => x.stage == .draining) = some drained ∧
      drained.acc = some ⟨[(0, 0x40000000)], [], 0, 0, 0⟩ ∧ OutputFree (queueCore [drained]) drained ∧
      (drainAll (queueCore [drained]) drained ⟨[(0, 0x40000000)], [], 0, 0, 0⟩).1.writes = []) := by
  refine ⟨⟨by decide, by decide, by decide, by decide, by decide, by unfold InputsFinal; decide +kernel, rfl⟩, ⟨by decide, by decide⟩,
    ⟨by decide, rfl, by unfold OutputFree; decide +kernel, by decide +kernel⟩⟩

/-- The bench with FP8 E4M3 2.0 (0x40) at 0x4000 and 1.5 (0x3C) at 0x4100: one product, 3.0. -/
theorem test_pass_compute :
    (passCompute { coreInit with bench := [(0x4000, 0x40), (0x4100, 0x3C)] } pd).acc = [(0, 0x40400000)] := by decide +kernel

/-- The queue of the core of a pass that has missed a residue n times. -/
def missed (n : Nat) : PassEntry := { entry pd .active with mismatches := n }

theorem witness_ResidueMismatch : ∀ n ∈ [0, 1], mainOn (withCore (queueCore [missed n])) = true ∧
    (getArray (getCore (withCore (queueCore [missed n])) 0) 0).queue.find? (fun x => x.stage == .active) = some (missed n) := by decide

/-- The first mismatch re-queues the pass and the second takes the array out (R74). -/
theorem test_residue : (match exec (.residueMismatch c0 0 5 6) (withCore (queueCore [missed 0])), exec (.residueMismatch c0 0 5 6) (withCore (queueCore [missed 1])) with
    | .next t, .next u => ((getArray (getCore t 0) 0).queue.map (·.stage), (getArray (getCore t 0) 0).out, (getArray (getCore u 0) 0).out)
    | _, _ => ([], true, false)) = ([.queued], false, true) := by decide +kernel

/-- The module whose first group is `g`. -/
def withGroup (g : Group) : State := { withCore (queueCore [entry pd .active]) with groups := [(0, g)] }

theorem witness_ClockChanges :
    (mainOn (withGroup { runGroup with request := some 100 }) = true ∧ (getGroup (withGroup { runGroup with request := some 100 }) 0 0).request = some 100 ∧
      (getGroup (withGroup { runGroup with request := some 100 }) 0 0).changing = false ∧
      (getGroup (withGroup { runGroup with request := some 100 }) 0 0).shift = none) ∧
    (getArray (getCore (stopActive 0 0 (withGroup runGroup)) 0) 0).queue.length = 1 ∧
    (getGroup (withGroup { runGroup with changing := true, target := 900 }) 0 0).changing = true :=
  ⟨by decide, by decide +kernel, by decide⟩

/-- The change completes at the target frequency (R394). -/
theorem test_clock_change : (match exec (.clockChangeComplete 0 0) (withGroup { runGroup with changing := true, target := 900 }) with
    | .next t => ((getGroup t 0 0).mhz, (getGroup t 0 0).changing) | _ => (0, true)) = (900, false) := by decide +kernel

/-- A valid AMAX_CFG: target 3, K 1, scale register 0. -/
def cfgOk : BitVec 64 := 0x301000

/-- A pass that reads scale registers 0–63 and 4032–4095. -/
def scaledPass : CmdDesc := { pd with w0 := 0x3350800000000000, w4 := 0xFC00000000800000 }

theorem witness_TrackerCommands :
    (CorePath .keeper (runs kern) c0 ∧ amaxCfgOk cfgOk = true ∧ (getCore (runs kern) 0).kernel = some kern) ∧
    (CorePath .keeper (withCore coreInit) c0 ∧ (getCore (withCore coreInit) 0).kernel = none ∧ amaxCfgOk 0 = false) ∧
    (CorePath .keeper (withCore (queueCore [entry scaledPass .queued])) c0 ∧ scaleLocked (queueCore [entry scaledPass .queued]) 4095 1 = true ∧
      scaleLocked (queueCore [entry scaledPass .queued]) 2000 1 = false) ∧
    (∀ x, x = { tinInit with state := .active, windowSteps := 1024, wideAllow := 2, charges := [(3, 5, 5), (4, 0, 1)] } →
      mainOn { on with tins := [(5, x)] } = true ∧ x = getTin { on with tins := [(5, x)] } (5 : BitVec 12).toNat ∧ x.state ≠ .free ∧
      1024 ≤ x.windowSteps ∧ (x.charges.filter (fun c => decide (x.wideAllow < c.2.1) && decide (x.wideAllow < c.2.2))).map (·.1) = [3]) ∧
    (∀ x, x = { tinInit with state := .active, pins := upto 64 } → ∀ u, u = { on with tins := [(5, x), (6, { tinInit with pinAll := true })] } →
      (getTin u 6).pinAll = true ∧ 63 ∈ (getTin u 5).pins ∧ (getTin u 7).pinAll = false ∧ 3 ∉ (getTin u 7).pins ∧ (getTin u 7).pins.length < 64 ∧
      (getTin u 5).pinAll = false ∧ 64 ∉ (getTin u 5).pins ∧ 64 ≤ (getTin u 5).pins.length) :=
  ⟨⟨corePath _, by decide, rfl⟩, ⟨corePath _, rfl, by decide⟩, ⟨corePath _, by decide +kernel, by decide +kernel⟩, fun x h => by subst h; decide +kernel,
    fun x h u hu => by subst h hu; decide +kernel⟩

/-- A write of a scale register that a queued pass reads waits (R68). -/
theorem test_scale_waits : (match exec (.scaleKWrite .keeper c0 4095 0x40000000) (withCore (queueCore [entry scaledPass .queued])) with
    | .next t => (t.keeper.works.length, scaleReg (getCore t 0) 4095) | _ => (0, 0)) = (1, 0x3F800000) := by decide +kernel

theorem witness_TrackerCommit :
    let c : Core := { coreInit with trackers := [(255, { trackerInit with cfg := cfgOk, pendingAmax := 0x40000000, pending := true })] }
    bit (getTracker c 255).cfg 1 = false ∧ (getTracker c 255).widePending = false ∧ trFolded (getTracker c 255) = false := by decide

/-! ### Witnesses: slices -/

/-- The module whose first slice is `x`, its core off. -/
def withSlice (x : Slice) : State := { on with slices := [(0, x)] }

/-- A trained slice. -/
def trained : Slice := { sliceInit with state := 1 }

/-- The keeper holds every expert level. -/
theorem expert (fn : Nat) {s : State} (h : mainOn s = true) : Expert .keeper fn s := ⟨h, rfl⟩

/-- n symbols in error, none of a layer that is erased. -/
def errs (n : Nat) : SymbolErrors := (List.range n).map (fun i => (⟨i % 160, by omega⟩, 1))

theorem witness_SliceAccesses :
    (mainOn (withSlice { trained with state := 5 }) = true ∧ (getSlice (withSlice { trained with state := 5 }) 0).state = 5 ∧
      (getSlice (withSlice { trained with state := 5 }) 0).trainBusy = none ∧ SparesTables (withSlice { trained with state := 5 }) 0 0xFFFFFF (.writePart 127 [7])) ∧
    (¬ SparesTables (withSlice trained) 0 2559 (.writePart 127 [7]) ∧ SparesTables (withSlice trained) 0 2560 (.writeLine (List.replicate 128 7))) ∧
    (∀ s, s = withSlice { trained with bad := [(5, true)], heldWrites := [(640, 0, List.replicate 128 7)] } →
      Serves s 0 ∧ Correctable s 0 5 (errs 17) ∧ lineQueued s 0 5 = true) ∧
    (Serves (withSlice trained) 0 ∧ Correctable (withSlice trained) 0 0xFFFFFF (errs 16) ∧ hardErrors (withSlice trained) 0 (errs 16) ≠ [] ∧
      Correctable (withSlice trained) 0 0xFFFFFF [] ∧ hardErrors (withSlice trained) 0 [] = [] ∧ ¬ Correctable (withSlice trained) 0 0xFFFFFF (errs 17)) ∧
    (Serves (withSlice { trained with state := 4 }) 0 ∧ (getSlice (withSlice { trained with state := 4 }) 0).state = 4) ∧
    (Serves (withSlice { trained with state := 3 }) 0 ∧ (getSlice (withSlice { trained with state := 3 }) 0).state ≠ 4 ∧
      (getTile (withSlice { trained with state := 3 }) 0).hold = false ∧ (List.replicate 128 (7 : BitVec 8)).length = 128 ∧
      (127 : Fin 128).val + [(7 : BitVec 8)].length ≤ 128) := by
  unfold Serves Correctable SparesTables
  refine ⟨by decide +kernel, by decide +kernel, fun s h => by subst h; decide +kernel, by decide +kernel⟩

/-- Sixteen symbols are corrected and seventeen are not (R162). -/
theorem test_slice_read : (match exec (.sliceAccess 0 0 5 .read (errs 16) []) (withSlice trained), exec (.sliceAccess 0 0 5 .read (errs 17) []) (withSlice trained) with
    | .next t, .next u => (t.lastCode, tget false (getSlice t 0).bad 5, u.lastCode, tget false (getSlice u 0).bad 5)
    | _, _ => (.rejected, true, .rejected, false)) = (.ok, false, .poisoned, true) := by decide +kernel

theorem witness_SliceMemory : (getTile (withSlice trained) (0 / 64)).hold = false ∧ 0 < [(7 : BitVec 8)].length ∧
    (4 < 5 ∧ 5 + [(7 : BitVec 8)].length ≤ 6) ∧ (1 : Nat) ≠ 0 ∧ (128 % 128 = 0 ∧ (List.replicate 128 (7 : BitVec 8)).length = 128) ∧
    (∀ l, lineBad (withSlice trained) 0 l = true → 128 * l + 128 ≤ 5 ∨ 5 + 1 ≤ 128 * l ∨ (5 ≤ 128 * l ∧ 128 * l + 128 ≤ 5 + 1)) ∧
    (lineBad (withSlice { trained with bad := [(1, true)] }) 0 (128 / 128) = true ∧ 128 % 128 + [(7 : BitVec 8)].length ≤ 128) :=
  ⟨by decide +kernel, by decide, by decide, by decide, by decide +kernel, fun _ h => Bool.noConfusion (h : false = true),
    by decide +kernel⟩

theorem witness_CommandWordErrors : mainOn (withSlice trained) = true ∧ Serves (withSlice trained) 0 ∧ 1 < ([0, 63] : CommandLanes).length ∧
    SparesTables (withSlice trained) 0 0 .read ∧
    Correctable (withSlice trained) 0 0 [] ∧ (getSlice (withSlice { trained with caFault := true }) 0).caFault = true ∧
    Serves (withSlice { trained with caFault := true }) 0 := by
  unfold Serves Correctable SparesTables; decide +kernel

/-- Two lanes take the slice out of service (R156). -/
theorem test_command_lanes : (match exec (.sliceAccess 0 0 5 .read [] [0, 63]) (withSlice trained) with
    | .next t => ((getSlice t 0).state, t.lastCode) | _ => (0, .ok)) = (5, .poisoned) := by decide +kernel

theorem witness_RefreshAndScrub :
    (∀ x ∈ [trained, { trained with state := 5 }], (getSlice (withSlice x) 0).state ≠ 0 ∧ mainOn (withSlice x) = true) ∧
    ((getSlice (withSlice trained) 0).state = 1 ∧ (getSlice (withSlice trained) 0).trainBusy = none ∧
      coreAsleep { withSlice trained with groups := [(0, { runGroup with pstate := .sleep })] } 0 = true) ∧
    (∀ x ∈ [{ trained with scrubEn := true, scrubNext := 0xFFFFFF }, { trained with scrubEn := true, state := 3 }],
      (getSlice (withSlice x) 0).scrubEn = true ∧ Serves (withSlice x) 0 ∧ tget false (getSlice (withSlice x) 0).bad (getSlice (withSlice x) 0).scrubNext = false) ∧
    ((getSlice (withSlice { trained with scrubPending := some 9 }) 0).scrubPending = some 9 ∧
      (getSlice (withSlice { trained with scrubPending := some 9 }) 0).trainBusy = none ∧ (getSlice (withSlice { trained with scrubPending := some 9 }) 0).state ≠ 2) := by
  unfold Serves; decide +kernel

/-- The last line of a pass starts the next one (R175). -/
theorem test_scrub : (match exec (.scrubRead 0 0 []) (withSlice { trained with scrubEn := true, scrubNext := 0xFFFFFF }) with
    | .next t => ((getSlice t 0).scrubNext, (getSlice t 0).scrubPasses) | _ => (1, 0)) = (0, 1) := by decide +kernel

theorem witness_RefreshSchedule : 0 < 4000000 ∧ 62500 ≤ 1 * 4000000 / 64 + 0 * 4000000 := by decide

/-- Slice 1 starts a 64th of an interval in, 62,500 units (R168). -/
theorem test_refresh_schedule : nextRefreshAt 1 4000000 0 = 62500 ∧ nextRefreshAt 1 4000000 62501 = 4062500 := by decide +kernel

theorem witness_SliceTraining :
    (mainOn (withSlice trained) = true ∧ expertOk .servicePort 1 (withSlice trained) = false) ∧
    (Expert .keeper 1 (withSlice trained) ∧ trainRuns (withSlice trained) 0 = false ∧ (withSlice trained).topo.leases.length < 256 ∧
      coreWithdrawnOrOff (withSlice trained) 0 = true ∧ leaseDecide (withSlice trained) 1 0 0 = .grant ∧
      (79 : BitVec 7).toNat < 80 ∧ sparesUsed (tget 0 (getSlice (withSlice trained) 0).laneMap 15) < 2 ∧ leaseDecide (withSlice trained) 2 0 0 = .grant) ∧
    (coreWithdrawnOrOff { withSlice trained with groups := [(0, runGroup)] } 0 = false ∧
      leaseDecide { withSlice trained with groups := [(0, runGroup)] } 1 0 0 ≠ .conflict) ∧
    leaseDecide { withSlice trained with topo := { on.topo with leases := [⟨4, 1, 1, 0, 0, .sliceRetrain 0, 0⟩] } } 1 0 0 = .conflict ∧
    leaseDecide { withSlice trained with topo := { on.topo with leases := [⟨4, 7, leaseKind 7, 0, 0, .sliceRetrain 0, 0⟩] } } 2 0 0 = .conflict ∧
    (getSlice (withSlice { trained with trainBusy := some 2 }) 0).trainBusy = some 2 ∧
    (getSlice (withSlice { trained with trainBusy := some 1 }) 0).trainBusy = some 1 :=
  ⟨by decide, ⟨expert 1 rfl, by decide, by decide, by decide, by decide +kernel, by decide, by decide, by decide +kernel⟩,
    by decide, by decide +kernel, by decide +kernel, rfl, rfl⟩

/-- A retraining takes its lease and the slice is untrained (R164, R386). -/
theorem test_retraining : (match exec (.fullRetraining .keeper 0 0) (withSlice trained) with
    | .next t => ((getSlice t 0).state, t.topo.leases.length, t.lastCode) | _ => (0, 0, .rejected)) = (2, 1, .ok) := by decide +kernel

/-- A request that waits for a place among the held writes of slice 0. -/
def heldPkt : Packet := ⟨0, 0, 0, 0, 0, 0, 0, 0, []⟩
/-- A tile endpoint at which it waits. -/
def waitingPort (why : Nat) : State := { withSlice trained with ports := [(0, { portInit with waits := [⟨heldPkt, 50, why, 100⟩] })] }
/-- The module with a trained slice of tile 0 and an interactive stream that the tile serves. -/
def busyTile : State :=
  { withSlice trained with models := [(0, { modelInit with state := 1, mask := 1 })], streams := [(1, { streamInit with state := .open_ })] }

theorem witness_StackControl :
    (Expert .keeper 1 (withSlice trained) ∧ fld (0x844 : Word) 11 8 + fld (0x844 : Word) 7 4 + fld (0x844 : Word) 3 0 = 16 ∧ 8 ≤ fld (0x844 : Word) 11 8 ∧
      (fld (getTile (withSlice trained) 0).stackCtrl 11 8 ≤ fld (0x844 : Word) 11 8 ∨ tileServes (withSlice trained) 0 = false) ∧
      (fld (0x754 : Word) 11 8 + fld (0x754 : Word) 7 4 + fld (0x754 : Word) 3 0 ≠ 16 ∨ fld (0x754 : Word) 11 8 < 8)) ∧
    (Expert .keeper 1 busyTile ∧ fld (0x754 : Word) 11 8 < fld (getTile busyTile 0).stackCtrl 11 8 ∧ tileServes busyTile 0 = true) ∧
    (mainOn (waitingPort 1) = true ∧
      (getPort (waitingPort 1) 0).waits.find? (fun w => w.why == 1 && gCore (fld w.pkt.w3 49 0) == 0) = some ⟨heldPkt, 50, 1, 100⟩) :=
  ⟨⟨expert 1 rfl, by decide, by decide, by decide +kernel, by decide⟩, ⟨expert 1 rfl, by decide, by decide⟩, by decide, by decide⟩

/-- An OWN share of 8 is taken and one of 7 is not (R183). -/
theorem test_stack_ctrl : (match exec (.stackCtrlWrite .keeper 0 0x844) (withSlice trained), exec (.stackCtrlWrite .keeper 0 0x754) (withSlice trained) with
    | .next t, .next u => ((getTile t 0).stackCtrl, t.lastCode, u.lastCode) | _, _ => (0, .rejected, .ok)) = (0x844, .ok, .rejected) := by decide +kernel

/-! ### Witnesses: residency -/

/-- A clean page of the shared half, and pages 2 (resident, frame 8) and 3 (ABSENT) of space 1. -/
def pageTab : Tab Pte :=
  [ (pkey 0 (2 ^ 31) false, { pteInit with ty := .page, frame := 11, rd := true }),
    (pkey 1 2 false, { pteInit with ty := .page, frame := 8, rd := true }),
    (pkey 1 3 false, { pteInit with ty := .absent, place := 1, first := 3 }) ]

/-- Shard set 3: one data shard and one parity shard a stripe, over pages 2 to 16 of space 1. -/
def set3 : ShardSet := ⟨1, 1, 1, 1, 2, 15, 1, List.replicate 15 [⟨0, 0, 0, 12, true, false, 0⟩, ⟨0, 0, 0, 13, true, false, 0⟩]⟩

/-- Page tables of the first 2 MiB of space 1, and the level 1 of segment 0 of the shared half, in frames 8 and 9 of slice 1. -/
def tables1 : List TabLoc :=
  [⟨1, 0, 256, 0, 1, 0x80000, 4096⟩, ⟨1, 1, 0, 0, 1, 0x81000, 4096⟩, ⟨2, 1, 0, 0, 1, 0x82000, 4096⟩, ⟨3, 1, 0, 0, 1, 0x90000, 256⟩]

/-- The module with tile 0 in service, two trained slices, spaces 0 and 1, space 1 bound to set 3, and its pages. -/
def resS : State :=
  { on with
    tiles := [(0, { tileInit with inService := true })]
    slices := [(0, { trained with data := [(0x80008, 1)] }), (1, trained)]
    spaces := [(0, ⟨1000, [], 0, false⟩), (1, ⟨1000, [⟨2, 15, 3⟩], 0, false⟩)]
    sets := [(3, set3)]
    tables := tables1
    frames := [(fkey 0 8, ⟨1, 2, false, false, false, false, false⟩), (fkey 1 8, ⟨0, 0, true, false, false, false, false⟩),
      (fkey 1 9, ⟨0, 0, true, false, false, false, false⟩)]
    pages := pageTab }

/-- A descriptor of space 1 with words 1 to 5. -/
def rd (w0 w1 w2 w3 w4 w5 : Word) : CmdDesc := ⟨w0 ||| 0x100007, w1, w2, w3, w4, w5, 0, 0⟩

/-- A command of the service port or the keeper that can run at once. -/
def resOk (rq : Requester) (t : Fin 24) (d : CmdDesc) (s : State) : Bool :=
  mainOn s && decide (rq ≠ .firmware) && (getRes s t.val).queue.isEmpty && (decide (rSpace d ≠ 0) || expertOk rq 2 s) && !resRejects s d &&
  (match getSpace s (rSpace d) with | some r => !r.withdrawn | none => true)

theorem resRuns {rq : Requester} {t : Fin 24} {d : CmdDesc} {s : State} (h : resOk rq t d s = true) : ResRuns rq t d s := by
  simp only [resOk, Bool.and_eq_true, Bool.or_eq_true, decide_eq_true_eq, List.isEmpty_iff, Bool.not_eq_true'] at h
  obtain ⟨⟨⟨⟨⟨h1, h2⟩, h3⟩, h4⟩, h5⟩, h6⟩ := h
  refine ⟨h1, h2, h3, h4, h5, fun r hr => ?_⟩
  rw [hr] at h6
  simpa using h6

/-- Page 2 of space 1. -/
def d2 : CmdDesc := rd 0 0x20000 1 0 0 0

theorem witness_ResidencyRecords :
    (ResRuns .servicePort 0 (resDesc 1 ⟨0xFFF00007, 0, 1000, 0, 0, 0, 0, 0⟩) resS ∧ TableRoom resS 0 8192) ∧
    (ResRuns .servicePort 0 (resDesc 3 (rd 0 0 0xFFFFFFFF 0 0 0)) resS) ∧
    (ResRuns .servicePort 0 (resDesc 0xC (rd 0 0 1 0x4000000000 0 0)) resS ∧ bit (rd 0 0 1 0x4000000000 0 0).w3 38 = true) ∧
    (ResRuns .servicePort 0 (resDesc 4 (rd 0 0x100000 2 0 0 0)) resS ∧ rFill (rd 0 0x100000 2 0 0 0) = 0 ∧
      (∀ v ∈ rRange (rd 0 0x100000 2 0 0 0), tabsMissing resS 1 v false = [])) ∧
    (ResRuns .servicePort 0 (resDesc 4 (rd 0 0x200000 1 0 0 0)) resS ∧ tabsMissing resS 1 32 false = [(3, 1, 256)] ∧
      tabSlot resS 256 = some (1, 0x90100)) ∧
    (ResRuns .servicePort 0 (resDesc 4 (rd 0x200000000000 0x100000 1 0 0x3000000000000 0)) resS ∧
      rFill (rd 0x200000000000 0x100000 1 0 0x3000000000000 0) = 1) ∧
    (ResRuns .servicePort 0 (resDesc 7 d2) resS ∧ Lone resS d2 ∧ Resident (getPte resS (firstKey d2))) ∧
    ResRuns .servicePort 0 (resDesc 8 d2) resS := by
  refine ⟨⟨resRuns ?_, ?_⟩, resRuns ?_, ⟨resRuns ?_, ?_⟩, ⟨resRuns ?_, ?_, ?_⟩, ⟨resRuns ?_, ?_, ?_⟩, ⟨resRuns ?_, ?_⟩, ⟨resRuns ?_, ?_, ?_⟩, resRuns ?_⟩
  all_goals (try unfold Lone); (try unfold Resident); (try unfold TableRoom); decide +kernel

/-- GRANT sets bit 0 of space 1's grants and completes with OK. -/
theorem test_grant : (match exec (.resGrant .servicePort 0 (rd 0 0 1 0x4000000000 0 0)) resS with
    | .next t => ((getSpace t 1).map (·.grants), (getRes t 0).statCode, (getRes t 0).statTag) | _ => (none, .rejected, 0)) = (some 1, .ok, 7) := by
  decide +kernel

theorem witness_ResidencyRounds :
    (ResRuns .servicePort 0 (resDesc 5 d2) resS ∧ Lone resS d2 ∧ Resident (getPte resS (firstKey d2)) ∧ (getPte resS (firstKey d2)).module = resS.myModule) ∧
    ResRuns .servicePort 0 (resDesc 6 d2) resS ∧
    (ResRuns .servicePort 0 (resDesc 0xA d2) resS ∧ evictable resS (firstKey d2) = true) ∧
    (ResRuns .servicePort 0 (resDesc 2 d2) resS ∧ spaceBusy resS (rSpace d2) = false ∧ (∀ p ∈ resS.tins, p.1 = rSpace d2 → p.2.state = .free)) := by
  refine ⟨⟨resRuns ?_, ?_, ?_, ?_⟩, resRuns ?_, ⟨resRuns ?_, ?_⟩, resRuns ?_, ?_, ?_⟩
  all_goals (try unfold Lone); (try unfold Resident); decide +kernel

/-- UNMAP takes the entry out and starts a round (R195). -/
theorem test_unmap : (match exec (.resUnmap .servicePort 0 d2) resS with
    | .next t => ((getPte t (firstKey d2)).ty, (getRes t 0).rounds.length, (getRes t 0).queue.length) | _ => (.page, 0, 0)) = (.invalid, 1, 1) := by
  decide +kernel

/-- Page 3 of space 1; MIGRATE of page 2 to slice 1; ENCODE of page 2 as set 4 with K = M = 1, its LIST in frame 8; REBUILD of shard
0 of stripe 0 of set 3 to frame 20 of slice 1; VERIFY of set 3. -/
def d3 : CmdDesc := rd 0 0x30000 1 0 0 0
def dMigrate : CmdDesc := rd 0x10000000000000 0x20000 1 0x8000000000 0 0
def dEncode : CmdDesc := rd 0 0x20000 1 0 0x0004090000000000 0x80000
def dRebuild : CmdDesc := rd 0 0x20000 1 0 0x0003000000000000 0x8014000000
def dVerify : CmdDesc := rd 0 0x20000 1 0 0x0003000000000000 0

theorem witness_ResidencyTransfers :
    (ResRuns .servicePort 0 (resDesc 9 d3) resS ∧ Lone resS d3 ∧ (getPte resS (firstKey d3)).ty = .absent ∧ (getPte resS (firstKey d3)).fill = 0 ∧
      rPlace d3 ≠ 4 ∧ pickSlice resS (rPlace d3) d3.w3.toNat 0 none = some 0 ∧ quotaOk resS 1 0 1 = true ∧ freeInTile resS 0 0 1 = some (0, 9)) ∧
    (ResRuns .servicePort 0 (resDesc 0xB dMigrate) resS ∧ Lone resS dMigrate ∧ Resident (getPte resS (firstKey dMigrate)) ∧
      (getPte resS (firstKey dMigrate)).pinned = false ∧ placeExported resS (ptePlace (getPte resS (firstKey dMigrate))) 1 = false ∧
      migrateTo resS dMigrate (firstKey dMigrate) = some (0, 1)) ∧
    (ResRuns .servicePort 0 (resDesc 0xD dEncode) resS ∧ Lone resS dEncode ∧ Resident (getPte resS (firstKey dEncode)) ∧
      gpaTrains resS dEncode.w5.toNat = false) ∧
    (ResRuns .servicePort 0 (resDesc 0xE dRebuild) resS ∧ getSet? resS (rSet dRebuild) = some set3 ∧ fld dRebuild.w5 63 50 = resS.myModule ∧
      frameFree resS (placeKey ⟨0, 0, 1, 20⟩) 20 = true ∧ sliceUsable resS (placeKey ⟨0, 0, 1, 20⟩) = true ∧
      (⟨0, fld dRebuild.w5 49 45, fld dRebuild.w5 44 39, fld dRebuild.w5 38 24⟩ : Place) = ⟨0, 0, 1, 20⟩ ∧
      (fld dRebuild.w4 7 3 ∈ validShards (stripeOf set3 0) ∨ set3.k ≤ (validShards (stripeOf set3 0)).length) ∧
      (∀ h ∈ stripeOf set3 0, h.valid = true → PageReadable resS ⟨h.module, h.tile, h.core, h.frame⟩)) ∧
    (ResRuns .servicePort 0 (resDesc 0xF dVerify) resS ∧ getSet? resS (rSet dVerify) = some set3 ∧
      (∀ l ∈ set3.stripes, ∀ h ∈ l, h.valid = true → PageReadable resS ⟨h.module, h.tile, h.core, h.frame⟩)) := by
  have hr : ∀ f ∈ [8, 12, 13], PageReadable resS ⟨0, 0, 0, f⟩ := by unfold PageReadable; decide +kernel
  have h3 : ∀ l ∈ set3.stripes, ∀ h ∈ l, h.valid = true → PageReadable resS ⟨h.module, h.tile, h.core, h.frame⟩ := by
    intro l hl h hh _
    simp only [set3, List.mem_replicate] at hl
    rw [hl.2] at hh
    simp only [List.mem_cons, List.not_mem_nil, or_false] at hh
    rcases hh with rfl | rfl <;> exact hr _ (by decide)
  refine ⟨⟨resRuns ?_, ?_, ?_, ?_, ?_, ?_, ?_, ?_⟩, ⟨resRuns ?_, ?_, ?_, ?_, ?_, ?_⟩, ⟨resRuns ?_, ?_, ?_, ?_⟩,
    ⟨resRuns ?_, ?_, ?_, ?_, ?_, ?_, ?_, h3 _ (by decide +kernel)⟩, resRuns ?_, ?_, h3⟩
  all_goals (try unfold Lone); (try unfold Resident); decide +kernel

/-- That ENCODE once its round has ended, its pages held MOVING. -/
def encCmd : ResCmd :=
  { id := 9, tag := 9, desc := resDesc 0xD dEncode, who := .servicePort, code := .ok, todo := [], waiting := [], rounds := 0, frees := [], remote := [], stage := 4, admin := none }
def encS : State := { resS with res := [(0, { resInit with queue := [encCmd] })] }

theorem witness_Encode : findCmd encS 0 encCmd.id = some encCmd ∧ rCount dEncode = 1 ∧ 1 ≤ rK dEncode ∧ encodeFar encS 0 encCmd = [] ∧
    gpaTrains encS dEncode.w5.toNat = false ∧ (encodeLoad encS dEncode).1.isSome = true ∧ rUnit dEncode = 1 ∧
    PageReadable (encodeLoad encS dEncode).2 { ptePlace (getPte (encodeLoad encS dEncode).2 (firstKey dEncode)) with
      frame := (getPte (encodeLoad encS dEncode).2 (firstKey dEncode)).frame + 0 } ∧ TableRoom (encodeLoad encS dEncode).2 0 (descBytes 2 1) := by
  refine ⟨?_, ?_, ?_, ?_, ?_, ?_, ?_, ?_, ?_⟩
  all_goals (try unfold PageReadable); (try unfold TableRoom); decide +kernel

/-- PREFETCH gives page 3 frame 9 of slice 0 and starts its fill. -/
theorem test_prefetch : (match exec (.resPrefetch .servicePort 0 d3) resS with
    | .next t => ((getPte t (firstKey d3)).ty, (getPte t (firstKey d3)).frame, (getRes t 0).xfers.map (·.kind)) | _ => (.page, 0, [])) =
    (.filling, 9, [.prefetch]) := by decide +kernel

/-- The module with n commands in the queue of tile 0. -/
def resFull (n : Nat) : State :=
  { resS with res := [(0, { resInit with queue := (List.range n).map (fun i => ⟨i, 0, d2, .servicePort, .ok, [], [], 1, [], [], 2, none⟩) })] }

theorem witness_ResidencyRefusals :
    mainOn resS = true ∧ Requester.servicePort ≠ .firmware ∧ 64 ≤ ((getRes (resFull 64) 0).queue.filter (fun q => q.admin.isNone)).length ∧
    ((∀ x y, Requester.servicePort ≠ .systemKernel x y) ∧ ((getRes (resFull 63) 0).queue.filter (fun q => q.admin.isNone)).length < 64 ∧
      rSpace (⟨7, 0, 0, 0, 0, 0, 0, 0⟩ : CmdDesc) = 0 ∧ expertOk .servicePort 2 (resFull 63) = false) ∧
    ((getRes resS 0).queue = [] ∧ rSpace d2 ≠ 0 ∧ resRejects resS (resDesc 1 d2) = true ∧ resRejects resS (resDesc 13 d2) = true ∧
      gpaTrains resS d2.w5.toNat = false) := by decide +kernel

/-- A second CREATE_SPACE of space 1 is REJECTED (R204). -/
theorem test_create_again : (match exec (.resCreateSpace .servicePort 0 d2) resS with
    | .next t => ((getRes t 0).statCode, t.spaces) | _ => (.ok, [])) = (.rejected, resS.spaces) := by decide +kernel

/-- A transfer of page 3 to frame 9, and a move of page 2 from frame 8 to frame 9, ready to complete. -/
def fillX : Xfer := { xferBlank .fill (some (pkey 1 3 false)) false none with id := 5, new := ⟨0, 0, 0, 9⟩, phase := 4 }
def moveX : Xfer := { xferBlank .migrate (some (pkey 1 2 false)) true none with id := 6, old := ⟨0, 0, 0, 8⟩, new := ⟨0, 0, 0, 9⟩, phase := 4 }
def xferS : State := { resS with res := [(0, { resInit with xfers := [fillX, moveX] })] }

theorem witness_PageTransfers :
    (mainOn xferS = true ∧ findXfer xferS 0 5 = some fillX ∧ fillX.key = some (pkey 1 3 false) ∧ fillX.phase = 4 ∧ fillX.big = false ∧ fillX.part = 0 ∧
      xferServed xferS 0 fillX = true ∧ fillX.new.module = xferS.myModule ∧ (getTile xferS fillX.new.tile).hold = false ∧ fillX.move = false ∧
      fillX.kind ≠ .verify ∧ fillX.kind ≠ .encode ∧ sliceUsable xferS (placeKey fillX.new) = true ∧ sliceTrains xferS (placeKey fillX.new) = false ∧
      assembled 0 fillX xferS = (some [], xferS) ∧
      fillX.srcs = []) ∧
    (findXfer xferS 0 6 = some moveX ∧ xferServed xferS 0 moveX = true ∧ moveX.move = true ∧ moveX.rebuild = false ∧ moveX.kind ≠ .verify ∧ PageReadable xferS moveX.old) := by
  unfold PageReadable; decide +kernel

/-- The filled page is resident in its frame (R191). -/
theorem test_fill : (match exec (.pageFillComplete 0 5 0) xferS with
    | .next t => ((getPte t (pkey 1 3 false)).ty, (getPte t (pkey 1 3 false)).frame, (getRes t 0).xfers.map (·.id)) | _ => (.absent, 0, [])) =
    (.page, 9, [6]) := by decide +kernel

/-- Frames that hold tables, one in each of runs 1 to 800 of slice 0. -/
def tabFrames : Tab Frame := (List.range 800).map (fun i => (fkey 0 (32 * (i + 1)), (⟨0, 0, true, false, false, false, false⟩ : Frame)))
/-- And page 2 of space 1 alone in run 900. -/
def crowdedFrames : Tab Frame := tabFrames ++ [(fkey 0 (32 * 900), ⟨1, 2, false, false, false, false, false⟩)]

theorem foldl_addNew (l : List Nat) : ∀ acc : List Nat, (acc ++ l).Nodup → l.foldl addNew acc = acc ++ l := by
  induction l with
  | nil => intro acc _; simp
  | cons x l ih =>
    intro acc h
    have hx : acc.contains x = false := by
      simp only [List.contains_eq_mem, decide_eq_false_iff_not]
      intro hc
      exact (List.nodup_append.1 h).2.2 x hc x (by simp) rfl
    rw [List.foldl_cons, show addNew acc x = acc ++ [x] by unfold addNew; rw [hx]; rfl, ih _ (by simpa using h)]
    simp

theorem crowded_runs : crowdedFrames.map (fun p => p.1 % 32768 / 32) = List.range' 1 800 ++ [900] := by decide +kernel

theorem crowded_nodup : (List.range' 1 800 ++ [900]).Nodup := by
  rw [List.nodup_append]
  refine ⟨List.nodup_range', by simp, fun a ha b hb => ?_⟩
  simp at ha hb; omega

theorem crowded_slice : crowdedFrames.filter (fun p => p.1 / 32768 == 0) = crowdedFrames := by
  rw [List.filter_eq_self]; decide +kernel

theorem crowded_last : crowdedFrames.filter (fun p => p.1 % 32768 / 32 == 900) = [(fkey 0 (32 * 900), ⟨1, 2, false, false, false, false, false⟩)] := by
  decide +kernel

/-- The module with these frames; background compaction below 255 free runs. -/
def crowded : State :=
  { resS with
    frames := crowdedFrames
    pages := [(pkey 1 2 false, { pteInit with ty := .page, frame := 32 * 900, rd := true })]
    res := [(0, { resInit with ctrl := 0xFF000200 })] }

theorem crowded_used : usedIn crowded 0 = crowdedFrames.map (fun p => p.1 % 32768) := by
  unfold usedIn
  rw [show crowded.frames = crowdedFrames from rfl, crowded_slice]

theorem crowded_list : (List.range' 1 800 ++ [900]).filter (fun r => r != 0) = List.range' 1 800 ++ [900] := by
  rw [List.filter_eq_self]; intro a ha; simp at ha; simp; omega

theorem freeRuns_of {s : State} {key n : Nat} {l : List Nat}
    (h : (((usedIn s key).map (· / 32)).filter (fun r => r != 0)).foldl addNew [] = l) (hn : l.length = n) : freeRuns s key = 1023 - n := by
  unfold freeRuns
  rw [h, hn]

theorem crowded_free : freeRuns crowded 0 = 1023 - 801 := by
  refine freeRuns_of (l := List.range' 1 800 ++ [900]) ?_ (by rw [List.length_append, List.length_range']; rfl)
  rw [crowded_used, List.map_map]
  have h : crowdedFrames.map ((fun r => r / 32) ∘ fun p => p.1 % 32768) = List.range' 1 800 ++ [900] := crowded_runs
  rw [h, crowded_list, foldl_addNew _ [] (by rw [List.nil_append]; exact crowded_nodup), List.nil_append]

theorem crowded_compact : compactRun crowded 0 = some (900, [(fkey 0 (32 * 900), ⟨1, 2, false, false, false, false, false⟩)]) := by
  unfold compactRun
  rw [show crowded.frames = crowdedFrames from rfl, crowded_slice]
  dsimp only
  rw [crowded_runs,
    foldl_addNew _ [] (by rw [List.nil_append]; exact crowded_nodup), List.nil_append, crowded_list, List.filterMap_append]
  rw [List.filterMap_eq_nil_iff.2 ?_, List.nil_append]
  · simp only [List.filterMap_cons, List.filterMap_nil, crowded_last]
    decide +kernel
  · intro r hr
    rw [if_neg]
    rw [List.all_eq_true]
    intro hc
    have hm : ((fkey 0 (32 * r), (⟨0, 0, true, false, false, false, false⟩ : Frame))) ∈ crowdedFrames := by
      simp only [List.mem_range'] at hr
      obtain ⟨i, hi, rfl⟩ := hr
      refine List.mem_append_left _ (List.mem_map.2 ⟨i, List.mem_range.2 hi, ?_⟩)
      rw [Nat.one_mul, Nat.add_comm]
    have hr' : fkey 0 (32 * r) % 32768 / 32 = r := by
      simp only [List.mem_range'] at hr
      obtain ⟨i, hi, rfl⟩ := hr
      unfold fkey; omega
    have := hc _ (List.mem_filter.2 ⟨hm, by rw [hr']; exact beq_self_eq_true r⟩)
    simp [frameMovable, pageOfFrame] at this

/-- A hint of page 2 of space 1. -/
def hint2 (a : HintAction) : Hint := ⟨1, 2, 1, a⟩
/-- The module with hints in the list of tile 0, two seconds in. -/
def hinted (ctrl : Word) (l : List Hint) : State := { resS with now := 2000000000, res := [(0, { resInit with ctrl := ctrl, hints := l })] }

/-- A move held since 100 ns by a write hold of tile 0. -/
def heldS : State :=
  { xferS with
    tiles := [(0, { tileInit with inService := true, hold := true })]
    res := [(0, { resInit with xfers := [{ moveX with heldSince := some 100 }] })] }

/-- A load of page 2 under way. -/
def load2 : RemOp := ⟨3, 0, .load false, 5, 3, 1, 1, 0x20000, 0, 0, 0, 0, 0x80000, none, some 10, [], []⟩

/-- The invalidation round of page 2, and the move that waits for it; `l` are the accesses under way. -/
def roundS (l : List RemOp) : State :=
  { xferS with
    cores := [(0, { coreInit with tlb := [(1, 2, false)] })]
    ports := [(0, { portInit with ops := l })]
    res := [(0, { resInit with rounds := [⟨1, 2, 1, [fkey 0 8], [], none, [(0, 3)]⟩], xfers := [{ moveX with phase := 5 }] })] }

theorem witness_ResidencyTimers :
    (mainOn heldS = true ∧ findXfer heldS 0 6 = some { moveX with heldSince := some 100 } ∧ moveX.key = some (pkey 1 2 false) ∧ moveX.move = true ∧
      moveX.new.module = heldS.myModule ∧ (getTile heldS moveX.new.tile).hold = true) ∧
    (mainOn (roundS [load2]) = true ∧ (findOp (roundS [load2]) 0 3).isSome = true) ∧
    (mainOn (roundS []) = true ∧ (getRes (roundS []) 0).rounds = [⟨1, 2, 1, [fkey 0 8], [], none, [(0, 3)]⟩] ∧
      findOp (roundS []) 0 3 = none ∧ ((getRes (roundS []) 0).xfers.map (·.id)).Nodup ∧
      (∃ x ∈ (getRes (roundS []) 0).xfers, x.phase = 5 ∧ x.key = some (pkey 1 2 false) ∧ x.old.module = (roundS []).myModule) ∧
      pkSpace (pkey 1 2 false) = 1 ∧ pkVpn (pkey 1 2 false) = 2) ∧
    (mainOn crowded = true ∧ bit (getRes crowded 0).ctrl 9 = true ∧ sliceUsable crowded 0 = true ∧ freeRuns crowded 0 < fld (getRes crowded 0).ctrl 31 24 ∧
      compacting crowded 0 0 = false ∧ (usedIn crowded 0).length + 32 ≤ 32760 ∧
      compactRun crowded 0 = some (900, [(fkey 0 (32 * 900), ⟨1, 2, false, false, false, false, false⟩)])) ∧
    (mainOn (hinted 0 [hint2 .evict]) = true ∧ (getRes (hinted 0 [hint2 .evict]) 0).hints = [hint2 .evict] ∧ bit (getRes (hinted 0 [hint2 .evict]) 0).ctrl 8 = false ∧
      (hinted 0 [hint2 .evict]).keeper.fw.halted = false ∧ (hinted 0x402400700 [hint2 .evict]).keeper.fw.halted = false) ∧
    (bit (getRes (hinted 0x402400700 [hint2 .evict]) 0).ctrl 8 = true ∧ 0 < (hint2 .evict).pages ∧ (hint2 .evict).pages ≤ 64 ∧
      hintPages (hinted 0x402400700 [hint2 .evict]) (hint2 .evict) ≠ [] ∧
      getSpace (hinted 0x402400700 [hint2 .evict]) 1 = some ⟨1000, [⟨2, 15, 3⟩], 0, false⟩ ∧
      (getRes (hinted 0x402400700 [hint2 .evict]) 0).hintWindow < (hinted 0x402400700 [hint2 .evict]).now / 1000000000 ∧
      (hintPages (hinted 0x402400700 [hint2 .evict]) (hint2 .evict)).length ≤ 1000 * fld (getRes (hinted 0x402400700 [hint2 .evict]) 0).ctrl 39 32) ∧
    (∀ n ∈ [63, 64], ∀ s, s = { hinted 0 (List.replicate n (hint2 .prefetch)) with keeper := { on.keeper with fw := { on.keeper.fw with running := true } } } →
      mainOn s = true ∧ s.keeper.fw.running = true ∧ (getRes s 0).hints.length = n) := by
  refine ⟨by decide +kernel, by decide +kernel, by decide +kernel, ⟨rfl, by decide, by decide, by rw [crowded_free]; decide, by decide, ?_, crowded_compact⟩,
    by decide +kernel, by decide +kernel, fun n hn s hs => ?_⟩
  · rw [crowded_used, List.length_map]
    exact (by decide +kernel : crowdedFrames.length + 32 ≤ 32760)
  subst hs
  fin_cases hn <;> decide +kernel

/-- The hint evicts its clean, backed page (R211). -/
theorem test_hint : (match exec (.hintApply 0) (hinted 0x402400700 [hint2 .evict]) with
    | .next t => ((getPte t (pkey 1 2 false)).ty, (getPte t (pkey 1 2 false)).fill, (getRes t 0).hints.length) | _ => (.page, 0, 9)) = (.absent, 1, 0) := by
  decide +kernel

/-! ### Witnesses: packets that arrive -/

/-- The virtual channel on which a type starts (R285, Table 8.4). -/
def vcOf (type : Nat) : Nat := match typeClass type with | some c => phase1 c | none => if type < 0x60 then 1 else if type < 0x70 then 8 else 0

/-- A sealed packet from a tile of a module to a tile of this module, with SEQ. -/
def pktFrom (src stile type tile seq : Nat) (start : Bool) (w3 w4 w5 w6 : Word) (bs : List Byte) : Packet :=
  let p := mkPkt src stile 0 tile type 0 1 0 w3 w4 w5 w6 bs
  pktSeal { p with w0 := p.w0 ||| BitVec.ofNat 64 (vcOf type * 2 ^ 56), w1 := p.w1 ||| BitVec.ofNat 64 (seq * 2 ^ 21 + b2n start * 2 ^ 20) }

/-- One from tile 2 of module 1. -/
def pkt (type tile seq : Nat) (start : Bool) (w3 w4 w5 w6 : Word) (bs : List Byte) : Packet := pktFrom 1 2 type tile seq start w3 w4 w5 w6 bs

/-- The receive state of the flow of a class from tile 2 of module 1, whose NEXT is 7. -/
def flowRx (cls : BitVec 2) : FlowRx := ⟨⟨1, 2, cls, none⟩, 7, [], [], [], none, 0, 0, 0, none⟩

/-- The module whose endpoint `t` holds the four flows from tile 2 of module 1. -/
def withFlows (s : State) (t : Nat) : State := { s with ports := tput s.ports t { portInit with rx := [flowRx 0, flowRx 1, flowRx 2, flowRx 3] } }

/-- Whether a packet passes the checks of R266, R267 and R297 at an endpoint. -/
def soundB (type : Nat) (p : Packet) (t : Nat) (s : State) : Bool :=
  mainOn s && pType p == type && forUs s p && pDstTile p == t && !badType p && pCrc p == pktCrc p &&
  decide (serialDiff 8 (bankEpoch (bankSel s true) % 256) (pEpoch p) ≤ 1)

theorem sound {type : Nat} {p : Packet} {t : Nat} {s : State} (h : soundB type p t s = true) : Sound type p t s := by
  simp only [soundB, Bool.and_eq_true, beq_iff_eq, decide_eq_true_eq, Bool.not_eq_true'] at h
  obtain ⟨⟨⟨⟨⟨⟨h1, h2⟩, h3⟩, h4⟩, h5⟩, h6⟩, h7⟩ := h
  exact ⟨h1, h2, h3, h4, h5, h6, h7⟩

/-- Whether a packet is the next one of a flow that its endpoint holds. -/
def comesB (type : Nat) (p : Packet) (t : Nat) (f : FlowRx) (s : State) : Bool :=
  soundB type p t s && findRx (getPort s t) (rxKey p) == some f && !pStart p && f.next == pSeq p && !f.got.contains (pSeq p) &&
  !f.held.any (fun h => h.1 == pSeq p) && decide (pMsgPkts p ≤ 1)

theorem comes {type : Nat} {p : Packet} {t : Nat} {f : FlowRx} {s : State} (h : comesB type p t f s = true) : Comes type p t f s := by
  simp only [comesB, Bool.and_eq_true, beq_iff_eq, decide_eq_true_eq, Bool.not_eq_true'] at h
  obtain ⟨⟨⟨⟨⟨⟨h1, h2⟩, h3⟩, h4⟩, h5⟩, h6⟩, h7⟩ := h
  exact ⟨sound h1, h2, h3, h4, ⟨h5, h6⟩, h7⟩

/-- The class of a type as a flow names it. -/
def clsOf (type : Nat) : BitVec 2 := BitVec.ofNat 2 ((typeClass type).getD 0)

/-- An admission request of a type, with REQ_ID 9. -/
def ask (type cls tin key stream slot deadline : Nat) : List Byte :=
  plPack [(1, type), (1, cls), (2, tin), (4, key), (2, stream), (1, slot), (1, 0), (4, deadline), (8, 0), (4, 0), (4, 0), (8, 9)]

set_option maxRecDepth 100000 in
theorem witness_Deliveries :
    (∀ x ∈ flowRows, Comes x.2 (pkt x.2 3 7 false 0 0 0 0 []) 3 (flowRx (clsOf x.2)) (withFlows on 3)) ∧
    (∀ n ∈ [1, 2, 3], Comes 0x30 (pkt 0x30 30 7 false 0 0 0 0 (ask n 0 5 1 1 0 1000)) 30 (flowRx 1) (withFlows on 30) ∧
      plField (pBytes (pkt 0x30 30 7 false 0 0 0 0 (ask n 0 5 1 1 0 1000))) 0 1 = n) ∧
    (∀ type ∈ [0x7E, 0x50, 0x51, 0x52, 0x53, 0x60, 0x61, 0x62], Sound type (pkt type 3 0 false 0 0 0 0 []) 3 on) := by
  refine ⟨fun x hx => comes ?_, fun n hn => ⟨comes ?_, ?_⟩, fun t ht => sound ?_⟩
  · have h : ∀ y ∈ flowRows.map (·.2), comesB y (pkt y 3 7 false 0 0 0 0 []) 3 (flowRx (clsOf y)) (withFlows on 3) = true := by decide +kernel
    exact h _ (List.mem_map.2 ⟨x, hx, rfl⟩)
  · revert n; decide +kernel
  · revert n; decide +kernel
  · revert t; decide +kernel

/-- A STORE packet of eight bytes at bench offset 0x100 of core 0 of tile 3 is delivered and its flow's NEXT advances (R279). -/
theorem test_flow_next : (match exec (.remStore (pkt 0x02 3 7 false 0 0 0 0 [])) (withFlows on 3) with
    | .next t => (findRx (getPort t 3) ⟨1, 2, 1, none⟩).map (·.next) | _ => none) = some 8 := by decide +kernel

/-- A packet with a reserved bit set; one with a wrong CRC. -/
def badPkt (type : Nat) : Packet := let p := pkt type 3 7 false 0 0 0 0 []; { p with w0 := p.w0 ||| 1 }
def crcPkt (type : Nat) : Packet := let p := pkt type 3 7 false 0 0 0 0 []; { p with w7 := p.w7 ^^^ 0x100000000 }

theorem witness_PacketsTurnedAway :
    ((.remStore, 0x02) ∈ flowRows ∧ (.atomicReply, 0x12) ∈ flowRows) ∧
    (∀ y ∈ [0x02, 0x12], mainOn on = true ∧ pType (badPkt y) = y ∧ forUs on (badPkt y) = true ∧ pDstTile (badPkt y) = 3 ∧ badType (badPkt y) = true ∧
      pType (crcPkt y) = y ∧ forUs on (crcPkt y) = true ∧ pDstTile (crcPkt y) = 3 ∧ badType (crcPkt y) = false ∧ pCrc (crcPkt y) ≠ pktCrc (crcPkt y)) ∧
    (∀ y ∈ [0x02], ∀ n ∈ [6, 8, 1030, 1031], soundB y (pkt y 3 n false 0 0 0 0 []) 3 (withFlows on 3) = true ∧
      (getPort (withFlows on 3) 3).network = [] ∧ findRx (getPort (withFlows on 3) 3) (rxKey (pkt y 3 n false 0 0 0 0 [])) = some (flowRx (clsOf y)) ∧
      pStart (pkt y 3 n false 0 0 0 0 []) = false) ∧
    (∀ y ∈ [0x02, 0x12], serialDiff 24 (pSeq (pkt y 3 6 false 0 0 0 0 [])) 7 < 0 ∧ 1024 ≤ serialDiff 24 (pSeq (pkt y 3 1031 false 0 0 0 0 [])) 7 ∧
      serialDiff 24 (pSeq (pkt y 3 1030 false 0 0 0 0 [])) 7 < 1024) ∧
    (pMsgPkts (pkt 2 3 8 false 0 0 0 0 []) ≤ 1 ∧ pOrdered (pkt 2 3 8 false 0 0 0 0 []) = true ∧ 0 < serialDiff 24 (pSeq (pkt 2 3 8 false 0 0 0 0 [])) 7 ∧
      reorderFlits (setRx (getPort (withFlows on 3) 3) (flowRx 1)) + pktFlits (pkt 2 3 8 false 0 0 0 0 []) ≤ 32768) ∧
    (∀ y ∈ [0x02, 0x12], soundB y (pkt y 3 7 false 0 0 0 0 []) 3 on = true ∧ (getPort on 3).network = [] ∧
      findRx (getPort on 3) (rxKey (pkt y 3 7 false 0 0 0 0 [])) = none ∧ pStart (pkt y 3 7 false 0 0 0 0 []) = false) :=
  ⟨⟨by simp [flowRows], by simp [flowRows]⟩, by decide +kernel, by decide +kernel, by decide +kernel, by decide +kernel, by decide +kernel⟩

/-- An ordered packet one ahead waits, and one already taken counts in PORT counter 16 (Table 8.7). -/
theorem test_flow_ahead : (match exec (.remStore (pkt 0x02 3 8 false 0 0 0 0 [])) (withFlows on 3) with
    | .next t => (findRx (getPort t 3) ⟨1, 2, 1, none⟩).map (fun f => (f.next, f.held.length)) | _ => none) = some (7, 1) := by decide +kernel

/-- Tile 0 with the four flows, transfer 5 awaiting its frames, and region 6 of an owner over frame 20 of slice 1, which it opened itself. -/
def askedX : Xfer := { xferBlank .rebuild none false none with id := 5, phase := 1 }
def managerS : State :=
  { resS with
    ports := [(0, { portInit with rx := [flowRx 0, flowRx 1, flowRx 2, flowRx 3]
                                  regions := [(6, (pack [(63, 1), (56, 1), (32, 1), (0, 9)], pack [(40, 20 * 512), (15, 512)]))] })]
    res := [(0, { resInit with xfers := [askedX] })] }
/-- A request for n frames of a kind, that names frame 20 of slice 1; an answer with a code, which gives that frame; and the keeper's reply to a notice. -/
def framesPkt (kind n : Nat) : Packet :=
  pkt 0x38 0 7 false (pack [(56, kind), (0, 5)]) (pack [(56, 1), (32, n)]) (BitVec.ofNat 64 (gpaMake 0 0 1 0 (20 * 65536))) 6 []
def givePkt (code : Nat) : Packet :=
  pkt 0x39 0 7 false (pack [(0, 5)]) (pack [(56, code), (32, 1)]) (BitVec.ofNat 64 (gpaMake 1 2 1 0 (20 * 65536))) 6 []
def seenPkt : Packet := pkt 0x41 30 7 false 0 0 0 0 (List.replicate 64 0)
def managerAt (p : Packet) : State := taken p 0 (flowRx (clsOf (pType p))) managerS

set_option maxRecDepth 100000 in
theorem witness_ManagerMessages :
    (∀ x ∈ [(1, 2), (2, 31), (1, 1), (2, 1)], Comes 0x38 (framesPkt x.1 x.2) 0 (flowRx (clsOf 0x38)) managerS ∧ fld (framesPkt x.1 x.2).w3 63 56 = x.1 ∧
      fld (framesPkt x.1 x.2).w4 39 32 = x.2) ∧
    (∀ k ∈ [1, 2], bit (framesPkt k 1).w4 56 = true ∧ gTile (framesPkt k 1).w5.toNat = 0 ∧ ck (gTile (framesPkt k 1).w5.toNat) (gCore (framesPkt k 1).w5.toNat) = 1 ∧
      gOff (framesPkt k 1).w5.toNat / 65536 = 20 ∧ sliceUsable (managerAt (framesPkt k 1)) 1 = true ∧ frameFree (managerAt (framesPkt k 1)) 1 20 = true ∧
      (openOwned 1 20 1 (markFrames 1 20 1 0 0 (fld (framesPkt k 1).w3 63 56 == 2) true (managerAt (framesPkt k 1)))).isSome = true) ∧
    (Comes 0x38 (framesPkt 3 1) 0 (flowRx (clsOf 0x38)) managerS ∧ fld (framesPkt 3 1).w3 63 56 = 3 ∧
      ∃ e, (getPort (managerAt (framesPkt 3 1)) 0).regions.find? (fun e => e.1 == fld (framesPkt 3 1).w6 13 0) = some e ∧ bit e.2.1 56 = true) ∧
    (∀ c ∈ [0, 6], Comes 0x39 (givePkt c) 0 (flowRx (clsOf 0x39)) managerS ∧ fld (givePkt c).w4 63 56 = c ∧
      (getRes (managerAt (givePkt c)) 0).xfers.find? (fun x => x.id % 2 ^ 32 == fld (givePkt c).w3 31 0 && x.phase == 1) = some askedX) ∧
    codeReceived 6 ≠ .ok ∧ askedX.key = none ∧ askedX.kind = .rebuild ∧
    (∀ y s, y = { askedX with kind := XferKind.verify } → s = { managerS with res := [(0, { resInit with xfers := [y] })] } → comesB 0x39 (givePkt 0) 0 (flowRx (clsOf 0x39)) s = true ∧
      (getRes (taken (givePkt 0) 0 (flowRx (clsOf 0x39)) s) 0).xfers.find? (fun x => x.id % 2 ^ 32 == fld (givePkt 0).w3 31 0 && x.phase == 1) = some y ∧
      y.key = none ∧ y.kind ≠ .rebuild) ∧
    (Comes 0x41 seenPkt 30 (flowRx (clsOf 0x41)) (withFlows on 30) ∧ (withFlows on 30).keeper.phase ≠ 9 ∧ plField seenPkt.payload 2 1 < 16) := by
  refine ⟨fun x hx => ⟨comes ?_, ?_⟩, ?_, ⟨comes ?_, ?_, _, rfl, ?_⟩, fun c hc => ⟨comes ?_, ?_⟩, ?_, rfl, rfl, fun y s hy hs => ?_, comes ?_, ?_⟩
  · revert x; decide +kernel
  · revert x; decide +kernel
  · decide +kernel
  · decide +kernel
  · decide +kernel
  · decide +kernel
  · revert c; decide +kernel
  · revert c; decide +kernel
  · decide +kernel
  · subst hy hs; decide +kernel
  all_goals decide +kernel

/-! ### Witnesses: admission and dispatch -/

/-- A step plan of one operator of kernel 7, layer 3, core 0, with the argument templates at 0x20000. -/
def model1 : Model :=
  { modelInit with
    state := 1, space := 1, mask := 1, ops := [⟨7, 3, 0, 1, 0x20000⟩]
    rows := [(0, { bakeInit with measStepNs := 1000, loaded := true }), (1, { bakeInit with measStepNs := 1000, loaded := true })] }

/-- An ACTIVE tin with TIN_KEY 1. -/
def tin1 : Tin := { tinInit with state := .active, key := 1, maxStreams := 9, openStreams := 1 }

/-- A stream of tin 5 on slot 0. -/
def stream1 (st : StreamState) (cls : Nat) : Stream := { streamInit with state := st, cls := cls, tin := 5, deadlineUs := 1000 }

/-- A serving module: ADM_EN set, one model, tin 5, kernel 7 of space 1 registered, and the streams given. -/
def serve (l : Tab Stream) : State :=
  { resS with
    adm := { State.reset.adm with ctrl := 0x0C900C81 }
    models := [(0, model1)], tins := [(5, tin1)], streams := l, kernels := [img] }

/-- A request of tile 2 of module 1 at tile 30, the module before it, and the module whose endpoint has taken it. -/
def askPkt (type cls tin key stream slot deadline : Nat) : Packet := pkt 0x30 30 7 false 0 0 0 0 (ask type cls tin key stream slot deadline)
def admitting (l : Tab Stream) : State := withFlows (serve l) 30
def asked (p : Packet) (l : Tab Stream) : State := taken p 30 (flowRx 1) (admitting l)

/-- The streams of the module at hand: entry 1 is open. -/
def oneOpen : Tab Stream := [(1, stream1 .open_ 0)]

set_option maxRecDepth 100000 in
theorem witness_StreamRequests :
    (∀ p, p = askPkt 1 0 5 2 0 0 1000 → comesB 0x30 p 30 (flowRx 1) (admitting []) = true ∧ plField (pBytes p) 0 1 = 1 ∧
      tinCheck (asked p []) (pBytes p) = some .keyFault ∧ plField (pBytes p) 4 4 ≠ (getTin (asked p []) (rqTin p)).key.toNat) ∧
    (∀ p, p = askPkt 1 2 5 1 0 0 0 → comesB 0x30 p 30 (flowRx 1) (admitting oneOpen) = true ∧ tinCheck (asked p oneOpen) (pBytes p) = none ∧
      openRejected (asked p oneOpen) (pBytes p) = none ∧ nextEntry (asked p oneOpen) = some 2 ∧ rqClass p = 2) ∧
    (∀ p, p = askPkt 1 0 5 1 0 0 1000 → comesB 0x30 p 30 (flowRx 1) (admitting oneOpen) = true ∧ tinCheck (asked p oneOpen) (pBytes p) = none ∧
      openRejected (asked p oneOpen) (pBytes p) = none ∧ nextEntry (asked p oneOpen) = some 2 ∧ rqClass p = 0 ∧
      admits (asked p oneOpen) ⟨0, 0, 1000, 5, 0⟩ = true ∧ rqSlot p = 0 ∧ rqDeadline p = 1000 ∧ rqTin p = 5 ∧
      cdiv (plField (pBytes p) 0x18 4) 512 = 0 ∧ promised (asked p oneOpen) (rqTin p) ≠ []) ∧
    (∀ st ∈ [stream1 .open_ 0, stream1 .due 0, stream1 .open_ 2], ∀ n ∈ [2, 3], ∀ p, p = askPkt n 0 5 1 1 0 0 →
      comesB 0x30 p 30 (flowRx 1) (admitting [(1, st)]) = true ∧ plField (pBytes p) 0 1 = n ∧ tinCheck (asked p [(1, st)]) (pBytes p) = none ∧
      reqReserved (pBytes p) = false ∧ namesStream (asked p [(1, st)]) (pBytes p) = true ∧ getStream (asked p [(1, st)]) (rqStream p) = st ∧
      st.closeReq = [] ∧ st.closeCmd = [] ∧ st.tin = rqTin p) := by
  refine ⟨?_, ?_, ?_, ?_⟩
  · intro p h; subst h; decide +kernel
  · intro p h; subst h; decide +kernel
  · intro p h; subst h; decide +kernel
  · intro st hs n hn p h
    subst h
    revert st n
    decide +kernel

set_option maxRecDepth 100000 in
/-- An OPEN takes entry 2 (R224), DUE at its DEADLINE_US or after the second beat (R242). -/
theorem test_open : (let t := openTake (askPkt 1 0 5 1 0 0 1000) (asked (askPkt 1 0 5 1 0 0 1000) oneOpen)
    ((getStream t 2).state, (getStream t 2).dueUs, (getTin t 5).openStreams)) = (.due, 1000, 2) := by decide +kernel

/-- The module in a beat of slot 0. -/
def beating (l : Tab Stream) : State := { serve l with models := [(0, { model1 with beat := 490, beatEndUs := 600 })] }

/-- A job of slot 0 in its first run, which core 0 of tile 0 has to start. -/
def job1 : Job := ⟨4, 0, 0, 0, [⟨1, 5, .ok, false⟩], some 1000, 0, [⟨0, false, false, false⟩], [(0, ⟨0, [0], [], []⟩)], [], [], [], [], false, false, false, false, .done, none⟩

/-- The same job with every run ended. -/
def jobDone : Job := { job1 with tiles := [(0, ⟨0, [], [], []⟩)] }

/-- The serving module with jobs, its stream running. -/
def jobbing (l : List Job) : State := { serve [(1, { stream1 .running 0 with dueUs := 1000 })] with jobs := l }

theorem readTemplate_of {s : State} {sp va : Nat} {bs : List Byte} (h : vaRead s sp va 96 = some bs) (ht : vaTrains s sp va 96 = false) :
    readTemplate s sp va = .ready bs := by
  simp [readTemplate, h, ht]

theorem witness_DispatchEvents :
    (mainOn (beating []) = true ∧ (getModel (beating []) 0).beat ≠ 0 ∧ interOf (beating []) none 0 = []) ∧
    (mainOn (beating [(1, stream1 .due 0)]) = true ∧ (getModel (beating [(1, stream1 .due 0)]) 0).beat ≠ 0 ∧
      interOf (beating [(1, stream1 .due 0)]) none 0 ≠ [] ∧ dueStreams (beating [(1, stream1 .due 0)]) 0 ≠ []) ∧
    (mainOn (jobbing [job1]) = true ∧ (∀ c' : Fin 64, c' ≠ 0 → ∀ q ∈ (jobbing [job1]).jobs, jobWants (getCore (jobbing [job1]) (ck 0 c'.val)) 0 c'.val q = false) ∧
      (jobOrder (jobbing [job1]) 0).find? (jobWants (getCore (jobbing [job1]) 0) 0 0) = some job1 ∧ (getCore (jobbing [job1]) 0).kernel = none ∧
      (getCore (jobbing [job1]) 0).saved = [] ∧ (getCore (jobbing [job1]) 0).resumeReq = none ∧ (getCore (jobbing [job1]) 0).withdrawn = false ∧
      runImage (jobbing [job1]) job1 0 = some (⟨0, false, false, false⟩, img) ∧ savedOverlap (getCore (jobbing [job1]) 0) img = false ∧
      sliceOut (jobbing [job1]) 0 = false ∧ sliceEvac (jobbing [job1]) 0 = false ∧ sliceTrains (jobbing [job1]) 0 = false ∧ (getTile (jobbing [job1]) 0).hold = false ∧
      (∃ bs, readTemplate (jobbing [job1]) (getModel (jobbing [job1]) job1.slot).space ((runOp (jobbing [job1]) job1 ⟨0, false, false, false⟩).argVa + 96 * (64 * 0 + 0)) = .ready bs)) ∧
    (∀ s, s = jobbing [jobDone] → mainOn s = true ∧ getJob s (4 : BitVec 32).toNat = some jobDone ∧ jobOver jobDone = true ∧ jobDone.cal = none ∧ jobDone.cls = 0 ∧
      jobDone.positions = [⟨1, 5, .ok, false⟩] ∧ (getStream s 1).cls = 0 ∧ (getStream s 1).tin = 5 ∧ (getTin s 5).state = .active ∧
      (getStream s 1).closeReq = [] ∧ (getStream s 1).closeCmd = [] ∧ s.now ≤ 1000 * (getStream s 1).dueUs ∧
      vaTrains s (getStream s 1).tin (getStream s 1).ioVa 48 = false) ∧
    (∀ s, s = { jobbing [job1] with tins := [(5, { tin1 with state := .withdrawing })] } → mainOn s = true ∧
      (getTin s (5 : BitVec 12).toNat).state = .withdrawing ∧ (∃ j ∈ s.jobs, 5 ∈ jobTins j)) := by
  refine ⟨by decide +kernel, by decide +kernel, ⟨by decide, by decide +kernel, by decide +kernel, by decide, by decide, by decide, by decide,
    by decide +kernel, by decide +kernel, by decide, by decide, by decide, by decide, ⟨List.replicate 8 0 ++ 1 :: List.replicate 87 0, ?_⟩⟩, fun s hs => ?_, fun s hs => ?_⟩
  · refine readTemplate_of ?_ ?_ <;> decide +kernel
  · subst hs; decide +kernel
  · subst hs; decide +kernel

/-- The kernel stands placed on core 0 (R231). -/
theorem test_operator_start : (match exec (.operatorStart 0) (jobbing [job1]) with
    | .next t => (getCore t 0).kernel.map (fun k => (k.phase, k.image.kernelId, k.job)) | _ => none) = some (.placed, 7, 4) := by decide +kernel

/-- The end of the job completes its stream's step. -/
theorem test_job_end : (match exec (.jobEnd 4) (jobbing [jobDone]) with
    | .next t => (t.jobs.length, (getStream t 1).state, (getStream t 1).step) | _ => (1, .free, 0)) = (0, .open_, 1) := by decide +kernel

/-- Bytes at the start of frame 8. -/
def atFrame8 (bs : List Byte) : Tab Byte := memWrite [] 0x80000 bs

/-- A kernel image of 136 bytes (Table 3.11): eight bytes of code, MAX_YIELD_GAP 1000, KERNEL_ID 8. -/
def imageBytes1 : List Byte :=
  [(4, 0x4E524B54), (2, 1), (2, 0), (4, 136), (4, 0x453FB302), (4, 128), (4, 8), (4, 0), (4, 0), (4, 0), (4, 1000), (4, 0), (4, 128), (8, 0), (8, 7)].flatMap
    (fun p => leBytes p.1 p.2) ++ List.replicate 72 0

/-- A step plan of one operator (Tables 7.7, 7.8). -/
def planBytes1 : List Byte :=
  [(4, 0x4E414C50), (2, 1), (1, 0), (1, 0), (4, 0xCF678136), (4, 0), (8, 7), (2, 3), (2, 0), (4, 0), (8, 1), (8, 0x20000)].flatMap (fun p => leBytes p.1 p.2)

/-- The module of `resS` with other bytes in frame 8, and kernels registered. -/
def admS (bs : List Byte) (l : List KernelImage) : State :=
  { resS with slices := [(0, { trained with data := atFrame8 bs })], kernels := l, tins := [(5, tin1)] }

/-- An admission descriptor with MODEL 0 of tin or space t, TAG 9. -/
def ad (t row : Nat) (w1 w2 w3 : Word) : CmdDesc := ⟨BitVec.ofNat 64 (row * 2 ^ 46 + t * 2 ^ 32 + 9), w1, w2, w3, 0, 0, 0, 0⟩

/-- Whether an admission command of the keeper can run at once. -/
def admOk (op : Nat) (d : CmdDesc) (s : State) : Bool :=
  mainOn s && s.adm.queue.isEmpty && s.keeper.loads.isEmpty && !admReserved (admDesc op d)

theorem admRuns {op : Nat} {d : CmdDesc} {s : State} (h : admOk op d s = true) : AdmRuns op .keeper d s := by
  simp only [admOk, Bool.and_eq_true, List.isEmpty_iff, Bool.not_eq_true'] at h
  obtain ⟨⟨⟨h1, h2⟩, h3⟩, h4⟩ := h
  exact ⟨h1, by decide, h2, (fun l hl => by rw [h3] at hl; cases hl), fun _ _ => rfl, h4⟩

theorem readSpace_of {s : State} {sp va n : Nat} {bs : List Byte} (h : vaRead s sp va n = some bs) (ht : vaTrains s sp va n = false) :
    readSpace s sp va n = .ready bs := by
  simp [readSpace, h, ht]

/-- A MEASURE of n job steps of slot 0 in tin 5, and the module at the end of its first step. -/
def measCmd (n : Nat) : AdmCmd := ⟨3, 9, admDesc 7 (ad 5 9 (BitVec.ofNat 64 n) 0 0), .keeper, 3, 0, .ok, [], ⟨10, 20, 30⟩, 0⟩
def measJob : Job := { jobDone with cls := 1, positions := [⟨0, 5, .ok, false⟩], cal := some (3, 0) }
def measS (n : Nat) : State := { serve [] with adm := { State.reset.adm with ctrl := 0x0C900C81, queue := [measCmd n] }, jobs := [measJob] }

set_option maxRecDepth 100000 in
theorem witness_AdmissionCommands :
    (∀ n ∈ [1, 2], mainOn (measS n) = true ∧ getJob (measS n) (4 : BitVec 32).toNat = some measJob ∧ jobOver measJob = true ∧ measJob.cal = some ((measCmd n).id, 0) ∧
      (measS n).adm.queue.find? (fun x => x.id == (measCmd n).id) = some (measCmd n) ∧ (∀ x ∈ measJob.codes, x = .ok) ∧
      (∀ q ∈ measJob.positions, q.code = .ok) ∧ measJob.rerun = false ∧ (getTin (measS n) (aTin (measCmd n).desc)).state = .active ∧
      (∀ x ∈ (measS n).jobs, x.num = 4) ∧ calSteady (measS n) (aModel (measCmd n).desc) = true ∧ fld (measCmd n).desc.w1 15 0 = n) ∧
    (AdmRuns 1 .keeper (ad 1 0 0x20000 0 9) resS ∧ aTin (ad 1 0 0x20000 0 9) ≠ 0 ∧ (getSpace resS (aTin (ad 1 0 0x20000 0 9))).isSome = true ∧
      (∀ p ∈ resS.models, p.2.state = 0 ∨ p.2.space ≠ aTin (ad 1 0 0x20000 0 9)) ∧ fld (ad 1 0 0x20000 0 9).w1 47 0 % 65536 = 0 ∧
      fld (ad 1 0 0x20000 0 9).w1 47 0 < 2 ^ 38 ∧ spaceGone resS (aTin (ad 1 0 0x20000 0 9)) = false ∧
      (getTin resS (aTin (ad 1 0 0x20000 0 9))).openStreams = 0) ∧
    (AdmRuns 2 .keeper (ad 5 0 0 0 0) (serve []) ∧ (getTin (serve []) (aTin (ad 5 0 0 0 0))).state = .active) ∧
    (AdmRuns 3 .keeper (ad 1 0 0x20000 0 0) (admS imageBytes1 []) ∧ aTin (ad 1 0 0x20000 0 0) ≠ 0 ∧
      (getRes (admS imageBytes1 []) (ownCore (admS imageBytes1 []) / 64)).queue = [] ∧ 2 ^ 48 ≥ fld (ad 1 0 0x20000 0 0).w1 47 0 + 128 ∧
      readSpace (admS imageBytes1 []) 1 0x20000 128 = .ready (imageBytes1.take 128) ∧
      (imageOf 1 0x20000 (imageBytes1.take 128)).imageBytes = 136 ∧ 0x20000 + 136 ≤ 2 ^ 48) ∧
    (∀ c : AdmCmd, c = ⟨3, 9, admDesc 3 (ad 1 0 0x20000 0 0), .keeper, 1, 0, .ok, [], ⟨0, 0, 0⟩, 0⟩ →
      vaRead (admS imageBytes1 []) (aTin c.desc) (fld c.desc.w1 47 0) 128 = some (imageBytes1.take 128) ∧
      vaRead (admS imageBytes1 []) (aTin c.desc) (fld c.desc.w1 47 0) 136 = some imageBytes1 ∧
      vaTrains (admS imageBytes1 []) (aTin c.desc) (fld c.desc.w1 47 0) 128 = false ∧ vaTrains (admS imageBytes1 []) (aTin c.desc) (fld c.desc.w1 47 0) 136 = false ∧
      imageBad (isLoader c.who) (imageOf 1 0x20000 (imageBytes1.take 128)) imageBytes1 = false ∧
      (∀ k ∈ (admS imageBytes1 []).kernels, k.space = aTin c.desc → k.kernelId ≠ 8) ∧ ((admS imageBytes1 []).kernels.filter (fun k => k.space == aTin c.desc)).length < 1024) ∧
    (AdmRuns 5 .keeper (ad 0 0 0 0 0) (serve []) ∧ (getModel (serve []) (aModel (ad 0 0 0 0 0))).state ≠ 0 ∧
      (∀ p ∈ accepted (serve []), p.2.model ≠ aModel (ad 0 0 0 0 0)) ∧ (∀ j ∈ (serve []).jobs, j.slot ≠ aModel (ad 0 0 0 0 0))) ∧
    (AdmRuns 6 .keeper (ad 0 9 0x100000000 1 0) (serve []) ∧ (getModel (serve []) (aModel (ad 0 9 0x100000000 1 0))).state = 1 ∧
      aRow (ad 0 9 0x100000000 1 0) ≤ 9 ∧ fld (ad 0 9 0x100000000 1 0).w1 63 32 ≤ fld (ad 0 9 0x100000000 1 0).w2 31 0) ∧
    (AdmRuns 7 .keeper (ad 5 9 1 0 0) (serve []) ∧ fld (ad 5 9 1 0 0).w1 15 0 ≠ 0 ∧ (getTin (serve []) (aTin (ad 5 9 1 0 0))).state = .active ∧
      groupPromised (serve []) (aModel (ad 5 9 1 0 0)) = false ∧ (getRow (getModel (serve []) 0) 9).measMhz ≠ committedFloor (serve []) ∧
      (serve []).jobs = [] ∧ calSteady (serve []) (aModel (ad 5 9 1 0 0)) = true ∧
      calSteady { serve [] with groups := [(0, { runGroup with target := 700 })] } (aModel (ad 5 9 1 0 0)) = false) ∧
    (AdmRuns 8 .keeper (ad 5 0 0x10000 0 0) (serve []) ∧ (getTin (serve []) (aTin (ad 5 0 0x10000 0 0))).state ≠ .free) ∧
    (AdmRuns 9 .keeper (ad 5 0 1 0 0) (serve [(1, stream1 .running 0)]) ∧ (getTin (serve [(1, stream1 .running 0)]) (aTin (ad 5 0 1 0 0))).state = .active ∧
      (getStream (serve [(1, stream1 .running 0)]) (fld (ad 5 0 1 0 0).w1 15 0)).tin = aTin (ad 5 0 1 0 0) ∧
      (getStream (serve [(1, stream1 .running 0)]) (fld (ad 5 0 1 0 0).w1 15 0)).state = .running) := by
  refine ⟨?_, ⟨admRuns ?_, ?_, ?_, ?_, ?_, ?_, ?_, ?_⟩, ⟨admRuns ?_, ?_⟩, ⟨admRuns ?_, ?_, ?_, ?_, readSpace_of ?_ ?_, ?_⟩, fun c hc => ?_,
    ⟨admRuns ?_, ?_, ?_, ?_⟩, ⟨admRuns ?_, ?_, ?_, ?_⟩, ⟨admRuns ?_, ?_, ?_, ?_, ?_, ?_, ?_, ?_⟩, ⟨admRuns ?_, ?_⟩, admRuns ?_, ?_, ?_, ?_⟩
  all_goals (try subst hc); decide +kernel

theorem witness_LoadModel :
    let d : CmdDesc := ad 0 0 0x20000 0 0x10000000001
    let s := admS planBytes1 [img]
    AdmRuns 4 .keeper d s ∧ (∀ p ∈ accepted s, p.2.model ≠ aModel d) ∧ (∀ j ∈ s.jobs, j.slot ≠ aModel d) ∧
    (getSpace s (fld d.w3 11 0)).isSome = true ∧ (getTin s (fld d.w3 11 0)).state = .free ∧ BitVec.ofNat 24 (fld d.w3 63 40) ≠ 0 ∧
    d.w1.toNat < 2 ^ 48 ∧ d.w2.toNat % 65536 = 0 ∧ (∀ t : Fin 24, bit (BitVec.ofNat 24 (fld d.w3 63 40)) t.val = true → (getTile s t.val).inService = true) ∧
    (∀ p ∈ s.models, p.2.state ≠ 0 → p.1 ≠ aModel d → p.2.mask = BitVec.ofNat 24 (fld d.w3 63 40) ∨ p.2.mask &&& BitVec.ofNat 24 (fld d.w3 63 40) = 0) ∧
    readSpace s (fld d.w3 11 0) d.w1.toNat 16 = .ready (planBytes1.take 16) ∧ plField (planBytes1.take 16) 4 2 = 1 ∧
    readSpace (vaSeen (ownCore s / 64) 1 0x20000 16 s) (fld d.w3 11 0) d.w1.toNat (16 + 32 * 1) = .ready planBytes1 ∧ planBad s 1 (BitVec.ofNat 24 (fld d.w3 63 40)) planBytes1 = false := by
  refine ⟨admRuns ?_, ?_, ?_, ?_, ?_, ?_, ?_, ?_, ?_, ?_, readSpace_of ?_ ?_, ?_, readSpace_of ?_ ?_, ?_⟩
  all_goals decide +kernel

/-- The plan becomes model 0 (R229). -/
theorem test_load_model : (match exec (.admLoadModel .keeper (ad 0 0 0x20000 0 0x10000000001)) (admS planBytes1 [img]) with
    | .next t => ((getModel t 0).state, (getModel t 0).ops.map (·.layer), t.adm.statCode, t.adm.statTag) | _ => (0, [], .rejected, 0)) = (1, [3], .ok, 9) := by
  decide +kernel

/-- The module with n admission commands waiting. -/
def admFull (n : Nat) : State := { on with adm := { State.reset.adm with queue := List.replicate n ⟨0, 0, ad 0 0 0 0 0, .servicePort, 2, 0, .ok, [], ⟨0, 0, 0⟩, 0⟩ } }

theorem witness_AdmissionControls :
    (Expert .keeper 3 on ∧ fld (500 * 2 ^ 6 : Word) 15 6 ≤ 500 ∧ (∀ p ∈ on.streams, p.2.state = .free) ∧ 500 < fld (501 * 2 ^ 6 : Word) 15 6 ∧
      fld (0 : Word) 1 0 = 0 ∧ fld (2 : Word) 1 0 ≠ 0 ∧ fld (2 : Word) 1 0 ≤ fld (getTile on 23).dispCtrl 1 0 ∧ (∀ p ∈ accepted on, 2 ≤ p.2.cls)) ∧
    (mainOn (admFull 64) = true ∧ Requester.servicePort ≠ .firmware ∧ 64 ≤ (admFull 64).adm.queue.length) ∧
    ((admFull 63).adm.queue.length < 64 ∧ expertOk .servicePort 3 (admFull 63) = false) ∧
    (on.adm.queue = [] ∧ (∀ l ∈ on.keeper.loads, l.id ≠ on.nextId) ∧ (∀ op, 4 ≤ op → op ≤ 7 → expertOk .keeper 3 on = true) ∧
      aTin ({ ad 1 0 0 0 0 with w4 := 1 }) ≠ 0 ∧ (∀ op ∈ [1, 2, 3, 4, 5, 6, 7, 8, 9], admReserved (admDesc op { ad 1 0 0 0 0 with w4 := 1 }) = true) ∧
      (∀ op ∈ [1, 2, 3, 4, 5, 6, 7, 8], admEarlier (admDesc op { ad 1 0 0 0 0 with w4 := 1 }) on = none) ∧
      admEarlier (admDesc 9 { ad 1 0 0 0 0 with w4 := 1 }) on = some .keyFault) :=
  ⟨⟨expert 3 rfl, by decide, by decide, by decide, by decide, by decide, by decide, by decide⟩, by decide +kernel, by decide +kernel,
    rfl, (fun l hl => by cases hl), (fun _ _ _ => rfl), by decide, by decide, by decide +kernel, by decide +kernel⟩

/-! ### Witnesses: the fabric -/

/-- The module whose last strand is `x`. -/
def withStrand (x : Strand) : State := { on with strands := [(159, x)] }
/-- A strand in UP. -/
def upStrand : Strand := { strandInit with state := .up, trained := true, waves := 0xFFFF }
/-- A strand that has lost 1,001 codewords in the last second. -/
def noisy (at_ : Option Nat) : State := { withStrand { upStrand with uncorr := List.replicate 1001 5000000000, retrainedAt := at_ } with now := 60000000000 + 5500000000 - 60000000000 }

theorem witness_StrandTraffic :
    mainOn (withStrand upStrand) = true ∧ strandLive (withStrand upStrand) 159 = true ∧ (15 : Nat) ≤ 15 ∧ (15 : Nat) < 16 ∧ (some 3 : Option Nat) ≠ none ∧
    ((getStrand (withStrand { upStrand with sending := some heldPkt }) 159).sending = some heldPkt ∧
      (getStrand (withStrand { upStrand with sending := some heldPkt }) 159).tokens = [] ∧ strandLive (withStrand { upStrand with sending := some heldPkt }) 159 = true) ∧
    (getStrand (withStrand upStrand) 159).sending = none ∧ 15 < 16 ∧
    (mainOn (noisy none) = true ∧ strandLive (noisy none) 159 = true ∧ 1000 < uncorrLast (noisy none) 159 ∧ (getStrand (noisy none) 159).retrainedAt = none ∧
      (noisy none).topo.leaseRetries = [] ∧ Grants (noisy none) 6 (servingTile (159 / 8)) 159) ∧
    (strandLive (noisy (some 0)) 159 = true ∧ 1000 < uncorrLast (noisy (some 0)) 159 ∧ (getStrand (noisy (some 0)) 159).retrainedAt = some 0 ∧
      (noisy (some 0)).topo.leaseRetries = [] ∧ (noisy (some 0)).now < 0 + 60000000000) := by
  unfold Grants; decide +kernel

/-- A codeword whose decoder gives up counts and its packets with it (R260). -/
theorem test_fec : (match exec (.fecCodeword 159 16 [] (some 3)) (withStrand upStrand) with
    | .next t => (getStrand t 159).uncorr.length | _ => 0) = 1 := by decide +kernel

/-- A strand that fails a second time within the minute (STRAND_STATUS, cause 3). -/
theorem test_strand_fails : (match exec (.strandErrorRetrain 159) (noisy (some 0)) with
    | .next t => ((getStrand t 159).state, (getStrand t 159).cause) | _ => (.dark, 0)) = (.failed, 3) := by decide +kernel

/-- The module with a strand whose engine is lit or dark. -/
def litStrand (lit : Bool) (x : Strand) : State := { withStrand x with engines := [(19, { engineInit with state := if lit then 1 else 0 })] }

theorem witness_StrandControl :
    (∀ lit en, ∀ s, s = litStrand lit { upStrand with enable := en } → Expert .keeper 4 s ∧ Grants s 6 (servingTile (159 / 8)) 159 ∧
      (getStrand s 159).enable = en ∧ engineLit s (159 / 8) = lit) ∧
    (mainOn (withStrand upStrand) = true ∧ expertOk .servicePort 4 (withStrand upStrand) = false) ∧
    (getStrand (withStrand { upStrand with drainAt := some 50000 }) 159).drainAt = some 50000 ∧
    (∀ s, s = { withStrand { strandInit with state := .training } with engines := [(19, { engineInit with state := 1 })] } →
      (getStrand s 159).state = .training ∧ (getStrand s 159).trained = false ∧ engineLit s (159 / 8) = true ∧ engineWaves (getEngine s (159 / 8)) ≠ 0) ∧ (2400 < 2401 ∧ 2400 ≤ 2400) ∧
    (∀ s, s = { withStrand { strandInit with state := .training } with engines := [(19, { engineInit with state := 1, failed := 0xFFFF })] } →
      (getStrand s 159).state = .training ∧ (getStrand s 159).trained = false ∧ engineLit s (159 / 8) = true ∧ engineWaves (getEngine s (159 / 8)) = 0) := by
  refine ⟨fun lit en s hs => ?_, ⟨rfl, rfl⟩, rfl, fun s hs => ?_, by decide, fun s hs => ?_⟩
  · subst hs
    refine ⟨expert 4 rfl, ?_⟩
    unfold Grants
    revert lit en
    decide +kernel
  · subst hs; decide +kernel
  · subst hs; decide +kernel

/-- A withdrawal drains for 50 µs (R381). -/
theorem test_strand_withdraw : (match exec (.strandWithdraw .keeper 159) (withStrand upStrand) with
    | .next t => ((getStrand t 159).state, (getStrand t 159).drainAt, t.topo.leases.length) | _ => (.dark, none, 0)) = (.withdrawn, some 50000, 1) := by
  decide +kernel

/-- The module whose last engine is `x`. -/
def withEngine (x : Engine) : State := { on with engines := [(19, x)], strands := [(159, upStrand)] }

theorem witness_EngineControl :
    (mainOn (withEngine { engineInit with state := 1 }) = true ∧ (getEngine (withEngine { engineInit with state := 1 }) 19).state = 1 ∧
      (getEngine (withEngine { engineInit with state := 1 }) 19).failed = 0 ∧ (getEngine (withEngine { engineInit with state := 1 }) 19).spareUsed = false ∧
      (getEngine (withEngine { engineInit with state := 1 }) 19).spareDead = false ∧
      (getEngine (withEngine { engineInit with state := 1 }) 19).takeover = false ∧ EngineGrants (withEngine { engineInit with state := 1 }) 19) ∧
    (getEngine (withEngine { engineInit with state := 1, takeover := true }) 19).takeover = true ∧
    (Expert .keeper 6 (withEngine { engineInit with state := 1 }) ∧ (getEngine (withEngine { engineInit with state := 1 }) 19).enable = true ∧
      (getEngine (withEngine { engineInit with state := 1 }) 19).state ≠ 0) ∧
    (EngineGrants (withEngine { engineInit with state := 3, enable := false }) 19 ∧ (getEngine (withEngine { engineInit with state := 3, enable := false }) 19).enable = false) ∧
    (∀ gts ∈ [0, 16], ∀ en ∈ [true, false], ∀ s, s = { withEngine { engineInit with state := 1, gts := gts, enable := en } with
        topo := { State.reset.topo with profile := List.replicate 20 0x8000 } } → engineServes s 19 = decide (gts = 16) ∧ (getEngine s 19).enable = en) ∧
    ((getStrand (withEngine engineInit) (8 * 19 + 7)).enable = true ∧ (getStrand (withEngine engineInit) (8 * 19 + 7)).state ≠ .dark) ∧
    (linkOwner 5 0 = some (0, 2) ∧ linkDown on 5 0 = false ∧ linkOwner 0 0 = none) := by
  refine ⟨⟨rfl, rfl, rfl, rfl, rfl, rfl, ?_⟩, rfl, ⟨expert 6 rfl, rfl, by decide⟩, ⟨?_, rfl⟩, fun g hg en he s hs => ?_, by decide, by decide⟩
  · unfold EngineGrants; decide +kernel
  · unfold EngineGrants; decide +kernel
  · subst hs; revert g en; decide +kernel

/-- The transmit spare takes over laser 15 (R257). -/
theorem test_laser : (match exec (.laserFailure 19 15) (withEngine { engineInit with state := 1 }) with
    | .next t => ((getEngine t 19).spareWave, (getEngine t 19).takeover, t.topo.leases.length) | _ => (0, false, 0)) = (15, true, 8) := by decide +kernel

/-- A flow of tile 24's port, the hearth, to tile 2 of module 1 with packets outstanding. -/
def txFlow (l : List SentPkt) : FlowTx := ⟨⟨1, 2, 1, none⟩, 9, true, 64, l, 0⟩
def sentPkt (sends : Nat) : SentPkt := ⟨8, pkt 0x02 3 8 false 0 0 0 0 [], 0, 0, sends, [1]⟩
/-- The module whose endpoint of port 24 holds these flows. -/
def flowing (tx : List FlowTx) (rx : List FlowRx) : State := { on with ports := [(30, { portInit with tx := tx, rx := rx })] }
/-- An ACK of class 1 whose ACK_NEXT is 9. -/
def ackPkt : Packet := pkt 0x7E 30 0 false (pack [(40, 9), (38, 1)]) 0 0 0 []

theorem witness_FlowTimers :
    (mainOn (flowing [txFlow [sentPkt 1]] []) = true ∧ soundB 0x7E ackPkt (portTile 24) (flowing [txFlow [sentPkt 1]] []) = true ∧ pGroupFlow ackPkt = false ∧ bit ackPkt.w3 37 = false ∧
      findTx (getPort (flowing [txFlow [sentPkt 1]] []) (portTile 24)) ⟨BitVec.ofNat 14 (pSrcModule ackPkt), BitVec.ofNat 5 (pSrcTile ackPkt),
        BitVec.ofNat 2 (fld ackPkt.w3 39 38), none⟩ = some (txFlow [sentPkt 1]) ∧ (∀ x ∈ (txFlow [sentPkt 1]).unacked, x.members = [pSrcModule ackPkt])) ∧
    (findRx (getPort (flowing [] [{ flowRx 1 with ackDue := some 500 }]) (portTile 24)) ⟨1, 2, 1, none⟩ = some { flowRx 1 with ackDue := some 500 }) ∧
    (∀ n ∈ [3, 4], findTx (getPort (flowing [txFlow [sentPkt n]] []) (portTile 24)) ⟨1, 2, 1, none⟩ = some (txFlow [sentPkt n]) ∧
      (txFlow [sentPkt n]).unacked = [sentPkt n]) ∧ ((sentPkt 3).sends < 4 ∧ 4 ≤ (sentPkt 4).sends ∧ (sentPkt 4).members ≠ []) ∧
    (findTx (getPort (flowing [txFlow []] []) (portTile 24)) ⟨1, 2, 1, none⟩ = some (txFlow []) ∧ (txFlow []).unacked = []) ∧
    (findRx (getPort (flowing [] [flowRx 1]) (portTile 24)) ⟨1, 2, 1, none⟩ = some (flowRx 1) ∧ (flowRx 1).held = []) := by decide +kernel

/-- ACK_NEXT 9 covers SEQ 8 and not SEQ 9 (R278). -/
theorem test_ack : ackCovers ackPkt.w3 ackPkt.w4 8 = true ∧ ackCovers ackPkt.w3 ackPkt.w4 9 = false ∧ ackCovers ackPkt.w3 1 10 = true := by decide +kernel

/-- A lease of an activity on tile 0, unit 0. -/
def lease (act : LeaseAct) (activity : Nat) : Lease := ⟨0, activity, leaseKind activity, 0, 0, act, 500⟩

/-- The module with an inactive bank of the next EPOCH, VALID, and a strand of role 1 in the active one. -/
def banks (busy : Bool) : State :=
  { on with routing := { State.reset.routing with b := ⟨[(0, 0x100000001)]⟩, a := ⟨[(0x100, 0x4000), (0x5F8, 0x4000)]⟩, busy := busy } }

theorem next_epoch {a b : Nat} (h : a = 1) (k : b = 0) : a = (b + 1) % 2 ^ 32 := by subst h; subst k; rfl

theorem same_epoch {a b : Nat} (h : a = 0) (k : b = 0) : a ≠ (b + 1) % 2 ^ 32 := by subst h; subst k; simp

theorem banks_next : bankEpoch (bankSel (banks false) false) = (bankEpoch (bankSel (banks false) true) + 1) % 2 ^ 32 :=
  next_epoch (by decide +kernel) (by decide +kernel)

theorem banks_blank : bankEpoch (bankSel on false) ≠ (bankEpoch (bankSel on true) + 1) % 2 ^ 32 :=
  same_epoch (by decide +kernel) (by decide +kernel)

/-- The module while group 4095 is withdrawn. -/
def gwS : State := { on with routing := { State.reset.routing with gwGroup := some 4095, gwAt := 128000 } }

theorem banks_grant : Grants (banks false) 8 0 0 := by unfold Grants; decide +kernel

theorem banks_drained : mainOn (banks true) = true ∧ (banks true).routing.busy = true ∧ (∀ t ∈ endpoints, undrained (banks true) t = false) := by
  decide +kernel

theorem controls_ok : ∀ v ∈ [(0x9000000000001000 : BitVec 64), 0x127C000000010000],
      fld v 61 60 ≠ 0 ∧ fld v 59 58 ≠ 3 ∧ fld v 57 50 < 160 ∧ 1 ≤ fld v 16 12 ∧ fld v 16 12 ≤ 16 ∧
      (strandRole (bankSel (banks false) true) (fld v 57 50)).1 = fld v 59 58 + 1 ∧
      (bit v 63 = false ∨ ∀ u : Fin 24, (getPort (banks false) u.val).circuits = []) := by
  intro v hv
  simp only [List.mem_cons, List.not_mem_nil, or_false] at hv
  obtain rfl | rfl := hv <;> decide +kernel

theorem witness_Routing :
    (Expert .keeper 4 (banks false) ∧ (banks false).routing.busy = false ∧ bankEpoch (bankSel (banks false) false) = (bankEpoch (bankSel (banks false) true) + 1) % 2 ^ 32 ∧
      bit (bankWord (bankSel (banks false) false) 0) 0 = true ∧ Grants (banks false) 8 0 0) ∧
    (Expert .keeper 4 (banks true) ∧ (banks true).routing.busy = true) ∧
    leaseDecide { banks false with topo := { on.topo with leases := [lease (.explicit .servicePort [] 5) 8] } } 8 0 0 = .retry ∧
    (bankEpoch (bankSel on false) ≠ (bankEpoch (bankSel on true) + 1) % 2 ^ 32 ∧ on.routing.busy = false) ∧
    (mainOn (banks true) = true ∧ (banks true).routing.busy = true ∧ (∀ t ∈ endpoints, undrained (banks true) t = false)) ∧
    on.routing.gwGroup = none ∧
    (mainOn gwS = true ∧ gwS.routing.gwGroup = some 4095) ∧
    (strandLive (withStrand upStrand) 159 = true ∧ pMcast heldPkt = false ∧ pDstModule heldPkt = (withStrand upStrand).myModule ∧
      pDstTile heldPkt = servingTile (159 / 8) ∧ pMcast (pkt 2 3 7 false 0 0 0 0 []) = false ∧
      pDstModule (pkt 2 3 7 false 0 0 0 0 []) = (withStrand upStrand).myModule ∧ pDstTile (pkt 2 3 7 false 0 0 0 0 []) ≠ servingTile (159 / 8)) :=
  ⟨⟨expert 4 rfl, rfl, banks_next, by decide +kernel, banks_grant⟩, ⟨expert 4 rfl, rfl⟩, by decide +kernel, ⟨banks_blank, rfl⟩, banks_drained, rfl, ⟨by decide +kernel, rfl⟩, by decide +kernel⟩

/-- The swap makes bank B active (R296). -/
theorem test_swap : (match exec .swapDrained (banks true) with
    | .next t => (t.routing.activeB, t.routing.busy, t.routing.result) | _ => (false, true, .rejected)) = (true, false, .ok) := by decide +kernel

/-! ### Witnesses: remote operations -/

/-- Region 5 of tile 3: the bench of core 0 from byte 0x100 for 512 bytes, KEY 0x1234, every permission. -/
def region5 : Word × Word := (0xBE00000000001234, 0x0000020000020000)

/-- Tile 3 with region 5 and the four flows from tile 2 of module 1, its first core awake. -/
def homeS : State :=
  { on with
    groups := [(12, runGroup)]
    ports := [(3, { portInit with rx := [flowRx 0, flowRx 1, flowRx 2, flowRx 3], regions := [(5, region5)] })] }

/-- A request of a type with TXN 9 for bench byte 0x100 of core 0 of tile 3: eight bytes, operand 5, region 5 and its key. -/
def reqPkt (type key : Nat) : Packet :=
  pkt type 3 7 false (BitVec.ofNat 64 (gpaMake 0 3 0 1 0x100)) (pack [(32, key), (18, 5), (10, if type < 0x20 then 3 else 0)])
    (pack [(51, if type = 0x21 then 8 else 0), (0, 9)]) (if type = 1 ∨ 0x20 ≤ type then 0 else 5) (if type = 0x20 then [1, 2, 3] else [])

/-- The module whose endpoint of tile 3 has taken it. -/
def homeAt (type key : Nat) : State := taken (reqPkt type key) 3 (flowRx (clsOf type)) homeS

/-- Whether a request is one that its home applies at once. -/
def takesB (t : Nat) (p : Packet) (s : State) : Bool :=
  decide (t < 24) && pFormat p == 1 && ((findRx (getPort s t) (rxKey p)).map (·.applied)) == some none && homeRefusal t p s == none &&
  (getPort s t).waits == [] && (getPort s t).arc == [] && homeWaits p s == none && (pType p != 5 || gTile (reqTarget s p) == t) &&
  (homeRead p s).2.1 == false && (getTile s (gTile (reqTarget s p))).hold == false

theorem takes {t : Nat} {p : Packet} {s : State} (h : takesB t p s = true) : HomeTakes t p s := by
  simp only [takesB, Bool.and_eq_true, beq_iff_eq, decide_eq_true_eq, Option.map_eq_some_iff, Bool.or_eq_true, bne_iff_ne, ne_eq] at h
  obtain ⟨⟨⟨⟨⟨⟨⟨⟨⟨h1, h2⟩, f, hf, ha⟩, h4⟩, h5⟩, h6⟩, h7⟩, h8⟩, h9⟩, h10⟩ := h
  exact ⟨h1, h2, ⟨f, hf, fun a e => by simp [ha] at e⟩, h4, h5, h6, h7, fun e => h8.resolve_left (fun n => n e), h9, h10⟩

set_option maxRecDepth 100000 in
theorem witness_RemoteHome :
    (∀ y ∈ [1, 2, 3, 4, 5, 0x20, 0x21], Comes y (reqPkt y 0x1234) 3 (flowRx (clsOf y)) homeS ∧ HomeTakes 3 (reqPkt y 0x1234) (homeAt y 0x1234)) ∧
    (∀ y, ∀ m ∈ (flowRx y).msgs, m.id ≠ pMsgId (reqPkt 0x20 0x1234)) ∧
    (∀ y ∈ [1, 2, 3, 4, 5], Comes y (reqPkt y 0) 3 (flowRx (clsOf y)) homeS ∧ pFormat (reqPkt y 0) = 1 ∧ (flowRx (clsOf y)).applied = none ∧
      gTile (reqTarget (homeAt y 0) (reqPkt y 0)) = 3 ∧ homeRefusal 3 (reqPkt y 0) (homeAt y 0) = some .keyFault) := by
  have h1 : ∀ y ∈ [1, 2, 3, 4, 5, 0x20, 0x21], comesB y (reqPkt y 0x1234) 3 (flowRx (clsOf y)) homeS = true ∧ takesB 3 (reqPkt y 0x1234) (homeAt y 0x1234) = true := by
    decide +kernel
  have h2 : ∀ y ∈ [1, 2, 3, 4, 5], comesB y (reqPkt y 0) 3 (flowRx (clsOf y)) homeS = true ∧ pFormat (reqPkt y 0) = 1 ∧ (flowRx (clsOf y)).applied = none ∧
      gTile (reqTarget (homeAt y 0) (reqPkt y 0)) = 3 ∧ homeRefusal 3 (reqPkt y 0) (homeAt y 0) = some .keyFault := by decide +kernel
  exact ⟨fun y hy => ⟨comes (h1 y hy).1, takes (h1 y hy).2⟩, fun y m hm => absurd hm (by simp [flowRx]), fun y hy => ⟨comes (h2 y hy).1, (h2 y hy).2⟩⟩

/-- A remote add of 5 to 0xFFFFFFFFFFFFFFFE wraps to 3 (Table 9.2). -/
theorem test_remote_add : (let s := { homeS with cores := [(192, { coreInit with bench := memWrite [] 0x100 (leBytes 8 0xFFFFFFFFFFFFFFFE) })] }
    benchRead (getCore (deliver 3 (reqPkt 3 0x1234) s) 192) 0x100 8) = [3, 0, 0, 0, 0, 0, 0, 0] := by decide +kernel

theorem witness_AtomicOperations : ((8 : Nat) = 4 ∨ (8 : Nat) = 8) ∧ (7 : Nat) < 2 ^ (8 * 8) ∧ (9 : Nat) < 2 ^ (8 * 8) ∧ (7 : Nat) = 7 ∧ (7 : Nat) ≠ 9 := by decide

/-- A signed minimum and an unsigned one differ on a negative number (Table 9.2). -/
theorem test_minimum : atomicNew 4 4 0xFFFFFFFF 1 0 = 0xFFFFFFFF ∧ atomicNew 6 4 0xFFFFFFFF 1 0 = 1 := by decide +kernel

/-- A transaction 9 of core 0 of a tile at tile 2 of module 1, for register 4, sent at 0. -/
def rop (k : RemKind) : RemOp := { remBlank 9 0 k with reg := 4, size := 3, module := 1, tile := 2, sentNs := some 0 }

/-- A move of ticket 7 that awaits transaction 9, the second work of its core. -/
def mv7 : MoveOp := ⟨7, 1, 0, 0, 0, 0, true, [], [9], .ok, true, [], false⟩

/-- Tile 3 while a transaction of its core 0 is outstanding; the core's first work is the pass `pd`. -/
def asking (k : RemKind) : State :=
  { on with
    cores := [(192, { putArray { coreInit with kernel := some kern } 0 { arrayInit with queue := [entry pd .queued] } with moves := [mv7] })]
    ports := [(3, { portInit with ops := [rop k], rx := [flowRx 0, flowRx 1, flowRx 2, flowRx 3] })] }

/-- An answer of a type from tile 2 of module 1 for TXN 9, and the module whose endpoint has taken it. -/
def ansPkt (type : Nat) (w6 : Word) (bs : List Byte) : Packet := pkt type 3 7 false 0 0 9 w6 bs
def answeredAt (type : Nat) (w6 : Word) (bs : List Byte) (s : State) : State := taken (ansPkt type w6 bs) 3 (flowRx (clsOf type)) s

set_option maxRecDepth 100000 in
theorem witness_RemoteSource :
    (∀ y ∈ [0x10, 0x11, 0x12], Comes y (ansPkt y 1 []) 3 (flowRx (clsOf y)) (withFlows on 3) ∧
      findOp (answeredAt y 1 [] (withFlows on 3)) 3 (pTxn (ansPkt y 1 [])) = none) ∧
    (∀ x ∈ [(0x10, RemKind.load true), (0x10, .const), (0x12, .atomic 3), (0x11, .store), (0x11, .reduce 2)],
      Comes x.1 (ansPkt x.1 1 []) 3 (flowRx (clsOf x.1)) (asking x.2) ∧
      findOp (answeredAt x.1 1 [] (asking x.2)) 3 (pTxn (ansPkt x.1 1 [])) = some (rop x.2) ∧ (rop x.2).waitPage = none ∧
      pSrcModule (ansPkt x.1 1 []) = (rop x.2).module ∧ pSrcTile (ansPkt x.1 1 []) = (rop x.2).tile ∧ (rop x.2).kind = x.2 ∧
      (getCore (answeredAt x.1 1 [] (asking x.2)) (ck 3 (rop x.2).core)).kernel = some kern) ∧
    ((rop (.load false)).reg < 32 ∧ (rop (.load false)).kind = .load false ∧ ({ rop (.load true) with size := 0 } : RemOp).kind = .load true ∧
      ({ rop (.load true) with size := 0 } : RemOp).size = 0 ∧ Code.poisoned ≠ .ok ∧ (rop (.atomic 3)).kind = .atomic 3 ∧
      (rop .const).kind = .const) ∧
    (∀ x ∈ [(0x22, RemKind.moveRead 7 0x200), (0x22, .moveRead 7 0x4000), (0x23, .moveWrite 7 0x200)],
      Comes x.1 (ansPkt x.1 0 [1]) 3 (flowRx (clsOf x.1)) (asking x.2) ∧
      findOp (answeredAt x.1 0 [1] (asking x.2)) 3 (pTxn (ansPkt x.1 0 [1])) = some (rop x.2) ∧ (rop x.2).kind = x.2 ∧
      pSrcModule (ansPkt x.1 0 [1]) = (rop x.2).module ∧ pSrcTile (ansPkt x.1 0 [1]) = (rop x.2).tile ∧ fld (ansPkt x.1 0 [1]).w6 7 0 = 0 ∧
      (getCore (answeredAt x.1 0 [1] (asking x.2)) (ck 3 (rop x.2).core)).moves.find? (fun m => m.ticket == 7) = some mv7 ∧ mv7.todo = []) ∧
    (∀ k ∈ [RemKind.store, .atomic 3, .reduce 2, .load false, .const], mainOn (asking k) = true ∧ findOp (asking k) 3 9 = some (rop k) ∧ (rop k).sentNs = some 0 ∧
      (rop k).waitPage = none ∧ opAcked (asking k) 3 9 = true ∧ (rop k).kind = k) := by
  refine ⟨fun y hy => ⟨comes ?_, ?_⟩, fun x hx => ⟨comes ?_, ?_⟩, by decide, fun x hx => ⟨comes ?_, ?_⟩, by decide +kernel⟩
  · revert y; decide +kernel
  · revert y; decide +kernel
  · revert x; decide +kernel
  · revert x; decide +kernel
  · revert x; decide +kernel
  · revert x; decide +kernel

/-- A LOAD_REPLY of a signed eight-byte load writes its register and ends its transaction. -/
theorem test_load_reply : (let s := deliver 3 (ansPkt 0x10 0x8877 []) (asking (.load true))
    (((getCore s 192).kernel.map (fun k => (gReg k 4, gTag k 4))), (getPort s 3).ops.length)) = (some (0x8877, false), 0) := by decide +kernel

/-- A request for the bench of core 4 of tile 3. -/
def lockedPkt : Packet := { heldPkt with w3 := BitVec.ofNat 64 (gpaMake 0 3 4 1 0) }

/-- Tile 3 where it waits since 100 ns, for a lock since 150 ns, with one held result and one buffered line. -/
def targetS : State :=
  { on with ports := [(3, { portInit with waits := [⟨lockedPkt, 100, 2, 150⟩], arc := [⟨1, 2, 9, some (.ok, 5, 200)⟩], lineBuffers := [(4, 5, 100)] })] }

theorem witness_TargetTimers :
    mainOn targetS = true ∧ (getPort targetS 3).waits = [⟨lockedPkt, 100, 2, 150⟩] ∧
    (getPort targetS 3).waits.find? (fun w => w.why == 2 && gCore (fld w.pkt.w3 49 0) == 4) = some ⟨lockedPkt, 100, 2, 150⟩ ∧
    (getPort targetS 3).arc = [⟨1, 2, 9, some (.ok, 5, 200)⟩] ∧
    (getPort targetS 3).lineBuffers.find? (fun b => b.1 == 4 && b.2.1 == 5) = some (4, 5, 100) := by decide +kernel

/-- A waiting request ends 100 µs after it began to wait. -/
theorem test_target_wait : (match exec (.targetWaitTimeout 3) targetS with
    | .next t => (t.now, (getPort t 3).waits.length) | _ => (0, 9)) = (100100, 0) := by decide +kernel

/-- A region command with INDEX and CMD_TAG 7. -/
def rg (op index : Nat) (w1 w2 w3 : Word) : CmdDesc := ⟨BitVec.ofNat 64 (op * 2 ^ 56 + index * 2 ^ 42 + 7), w1, w2, w3, 0, 0, 0, 0⟩

/-- Tile 3 with an open region 5 and one of the residency manager's as region 6, an import 5, and what is open in its queue. -/
def regionS (q : List RegionCmd) : State :=
  { on with ports := [(3, { portInit with regions := [(5, region5), (6, (0xBF00000000001234, region5.2))], imports := [(5, (0x8200000000001234, 0x0000020000020000, 0x0004000000000000))]
                                          regionQueue := q })] }

/-- Tile 0 with page 2 MOVING in frame 8 of slice 0, and a region command over that frame. -/
def movingS : State := { resS with pages := [(pkey 1 2 false, { pteInit with ty := .moving, frame := 8, rd := true })] }
def rgMoving : CmdDesc := rg 1 0 0x3C00000000001234 (pack [(40, 8 * 512), (15, 512)]) 0

theorem witness_RegionCommands :
    (Expert .keeper 4 movingS ∧ (getPort movingS 0).regionQueue.length < 16 ∧ openWaits movingS 0 { rgMoving with w0 := setFld rgMoving.w0 63 56 1 } = true) ∧
    (regionNext (regionS []) 3 = none ∧
      openWaits (regionS []) 3 { rg 1 0 region5.1 region5.2 0 with w0 := setFld (rg 1 0 region5.1 region5.2 0).w0 63 56 1 } = false) ∧
    (mainOn on = true ∧ expertOk .servicePort 4 on = false) ∧ Expert .keeper 4 (regionS []) ∧ (getPort (regionS []) 3).regionQueue.length < 16 ∧
    (bit (rg 1 0 region5.1 region5.2 0).w1 56 = false ∧ openBad (regionS []) 3 (rg 1 0 region5.1 region5.2 0) = false) ∧
    (tget ((0 : Word), (0 : Word)) (getPort (regionS []) 3).regions (rgIndex (rg 2 5 0 0 0)) = region5 ∧ bit region5.1 63 = true ∧ bit region5.1 56 = false) ∧
    (tget ((0 : Word), (0 : Word)) (getPort (regionS []) 3).regions (rgIndex (rg 2 6 0 0 0)) = (0xBF00000000001234, region5.2) ∧
      bit (0xBF00000000001234 : Word) 63 = true ∧ bit (0xBF00000000001234 : Word) 56 = true) ∧
    (rgIndex (rg 3 1023 0x0200000000001234 0x0000020000020000 0x0004000000000000) < 1024 ∧
      bit (rg 3 1023 0x0200000000001234 0x0000020000020000 0x0004000000000000).w1 56 = false ∧
      rgReserved (rg 3 1023 0x0200000000001234 0x0000020000020000 0x0004000000000000) true = false ∧
      bit (tget ((0 : Word), (0 : Word), (0 : Word)) (getPort (regionS []) 3).imports 1023).1 63 = false) ∧
    (rgIndex (rg 4 5 0 0 0) < 1024 ∧ bit (tget ((0 : Word), (0 : Word), (0 : Word)) (getPort (regionS []) 3).imports 5).1 56 = false) ∧
    ((getPort (regionS [⟨7, rg 2 5 0 0 0, 100000⟩]) 3).regionQueue = [⟨7, rg 2 5 0 0 0, 100000⟩] ∧ rgIndex (rg 2 5 0 0 0) = (5 : BitVec 14).toNat) :=
  ⟨⟨expert 4 rfl, by decide +kernel, by decide +kernel⟩, by decide +kernel, ⟨rfl, rfl⟩, expert 4 rfl, by decide +kernel, by decide +kernel, by decide +kernel, by decide +kernel, by decide +kernel, by decide +kernel, by decide +kernel⟩

/-- A CLOSE marks region 5 CLOSING, and its end removes it with the command's tag (R310). -/
theorem test_region_close : (match exec (.regionClose .keeper 3 (rg 2 5 0 0 0)) (regionS []), exec (.regionCloseComplete 3 5) (regionS [⟨7, rg 2 5 0 0 0, 100000⟩]) with
    | .next t, .next u => (bit (tget ((0 : Word), (0 : Word)) (getPort t 3).regions 5).1 62, tget ((0 : Word), (0 : Word)) (getPort u 3).regions 5, (getPort u 3).regTag)
    | _, _ => (false, (1, 1), 0)) = (true, (0, 0), 7) := by decide +kernel

/-! ### Witnesses: collectives -/

/-- Word 0 of a group of three modules of one tray, on VC 8, LATE_US 5, tile 0; one served. -/
def g3 (valid : Bool) : CollGroup :=
  { groupEmpty with w0 := pack [(63, b2n valid), (56, 8), (38, 5), (36, 2), (0, 1)], w1 := 1, w2 := 0x80000, w3 := pack [(48, 100), (32, 0x1234)], valid := valid
                    hash := 0x1234, members := if valid then [0, 1, 2] else [] }

/-- A group of 1,280 slots, and one of 1,020. -/
def bigGroup (v : Nat) : CollGroup := { groupEmpty with w0 := pack [(36, 3), (32, 15), (24, v)], valid := true }

/-- The module whose group 5 is `x`, with the members 0, 1 and 2 in a list at frame 8, and other groups. -/
def collS (x : CollGroup) (others : Tab CollGroup) : State :=
  { withSlice { trained with data := atFrame8 [0, 0, 1, 0, 2, 0] } with coll := { State.reset.coll with groups := (5, x) :: others }, tiles := [(0, { tileInit with inService := true })] }

/-- Groups that leave four slots free. -/
def crowdedColl : State := collS (g3 false) ((List.range 205).map (fun i => (i + 10, bigGroup (if i = 204 then 190 else 255))))

/-- The entry that the write makes. -/
def g3written : CollGroup := entryWritten (g3 false) 0x64000000000000 [0, 1, 2]

theorem fits {s : State} (h : (getTile s 0).inService = true) (k : s.myModule = 0) : EntryFits s g3written where
  vc := by decide +kernel
  tiles := by decide +kernel
  served := by
    have e : cgTiles g3written = [0] := by decide +kernel
    intro t ht
    rw [e] at ht
    simp at ht
    subst ht
    exact h
  late := by decide +kernel
  wait := by decide +kernel
  ascends := by decide +kernel
  range := by decide +kernel
  here := by rw [k]; decide +kernel
  regular := by decide +kernel

/-- The module once the hearth has read that list. -/
def listed (s : State) : State := (memberList (g3 false).w2.toNat (2 * (cgT (g3 false) * cgU (g3 false) * cgV (g3 false))) s).2

theorem crowdedColl_slots : ((listed crowdedColl).coll.groups.map (fun p => cgSlots p.2)).sum = 262140 := by decide +kernel

theorem member_list {s : State} (h : (memberList (g3 false).w2.toNat (2 * (cgT (g3 false) * cgU (g3 false) * cgV (g3 false))) s).1 = [0, 0, 1, 0, 2, 0]) :
    memberList (g3 false).w2.toNat (2 * (cgT (g3 false) * cgU (g3 false) * cgV (g3 false))) s = ([0, 0, 1, 0, 2, 0], listed s) := Prod.ext h rfl

theorem crowdedColl_free : slotsFree (listed crowdedColl) = 4 := by unfold slotsFree; rw [crowdedColl_slots]

theorem collS_slots : ((listed (collS (g3 false) [])).coll.groups.map (fun p => cgSlots p.2)).sum = 0 := by decide +kernel

theorem collS_free : slotsFree (listed (collS (g3 false) [])) = 262144 := by unfold slotsFree; rw [collS_slots]

theorem g3_slots : 4 * (cgT g3written * cgU g3written + cgV g3written) = 16 := by decide +kernel

theorem witness_CollectiveGroups :
    (Expert .keeper 5 (collS (g3 true) []) ∧ cgServed (getColl (collS (g3 true) []) 5) = true ∧ (getColl (collS (g3 true) []) 5).valid = true) ∧
    (∀ s ∈ [collS (g3 false) [], crowdedColl], Expert .keeper 5 s ∧ cgServed (getColl s 5) = false ∧ getColl s 5 = g3 false ∧
      listTrains s .keeper (0x301000 + 32 * 5 + 24) = false ∧
      memberList (g3 false).w2.toNat (2 * (cgT (g3 false) * cgU (g3 false) * cgV (g3 false))) s = ([0, 0, 1, 0, 2, 0], listed s) ∧
      (upto (cgT (g3 false) * cgU (g3 false) * cgV (g3 false))).map (fun i => leNat ((([0, 0, 1, 0, 2, 0] : List Byte).drop (2 * i)).take 2)) = [0, 1, 2] ∧
      EntryFits (listed s) g3written) ∧
    (∀ s, s = { collS (g3 false) [] with slices := [(0, { trained with trainBusy := some 1, state := 2 })] } →
      Expert .keeper 5 s ∧ listTrains s .keeper (0x301000 + 32 * 5 + 24) = true) ∧
    (4 * (cgT g3written * cgU g3written + cgV g3written) ≤ slotsFree (listed (collS (g3 false) [])) ∧
      slotsFree (listed crowdedColl) < 4 * (cgT g3written * cgU g3written + cgV g3written)) ∧
    (mainOn (collS { g3 true with closing := some 100 } []) = true ∧ (getColl (collS { g3 true with closing := some 100 } []) 5).closing = some 100) ∧
    (mainOn on = true ∧ Requester.keeper ≠ .firmware) := by
  refine ⟨⟨expert 5 rfl, by decide +kernel, by decide +kernel⟩, ?_, fun s hs => by subst hs; exact ⟨expert 5 rfl, by decide +kernel⟩, by rw [collS_free, crowdedColl_free, g3_slots]; omega, by decide +kernel, by decide +kernel⟩
  intro s hs
  simp only [List.mem_cons, List.not_mem_nil, or_false] at hs
  obtain rfl | rfl := hs
  · exact ⟨expert 5 rfl, by decide +kernel, by decide +kernel, by decide +kernel, member_list (by decide +kernel), by decide +kernel, fits (by decide +kernel) rfl⟩
  · exact ⟨expert 5 rfl, by decide +kernel, by decide +kernel, by decide +kernel, member_list (by decide +kernel), by decide +kernel, fits (by decide +kernel) rfl⟩

/-- The write of word 3 makes group 5 VALID with its members (R328). -/
theorem test_group_write : (match exec (.groupEntryWrite .keeper 5 0x64000000000000) (collS (g3 false) []) with
    | .next t => ((getColl t 5).valid, (getColl t 5).members, t.lastCode) | _ => (false, [], .rejected)) = (true, [0, 1, 2], .ok) := by decide +kernel

/-- This module's own input. -/
def own7 : CrumbVal := ⟨0, 1, 1, 7, 0⟩

/-- The input of module 1, or of rack 1, as a round holds it. -/
def in9 : CrumbVal := ⟨1, 1, 1, 9, 0⟩

/-- Round 0 of kind 0: core 0's 7 is this module's value; the inputs of its folds are given. -/
def round0 (rack : List CrumbVal) : CrumbRound := ⟨0, 0, [⟨0, 0, 4, 0x400, 7, 1, 1, 7⟩], some 7, 50, rack, none, [], some 4000, none, none⟩

/-- Round 0 of a group of one module a rack, in its hall fold. -/
def roundV (hall : List CrumbVal) : CrumbRound := ⟨0, 0, [⟨0, 0, 4, 0x400, 7, 1, 1, 7⟩], some 7, 50, [own7], some 7, hall, none, some 5000, none⟩

/-- A group of four modules, one in each of racks 0 to 3, on VC 8. -/
def g4 : CollGroup :=
  { groupEmpty with w0 := pack [(63, 1), (56, 8), (38, 5), (24, 3), (0, 1)], w1 := 1, w3 := pack [(48, 100), (32, 0x1234)], valid := true, hash := 0x1234
                    members := [0, 64, 128, 192] }

/-- The module while round 0 of group 5 is in progress: of the tray's three modules, or of the four racks. -/
def rounding (rack : List CrumbVal) : State := collS { g3 true with rounds := [round0 rack] } []
def hallRounding (hall : List CrumbVal) : State := collS { g4 with rounds := [roundV hall] } []

/-- A crumb packet of a type from a module for that round, with an origin and HASH. -/
def crumbOf (src type origin hash : Nat) : Packet :=
  pktFrom src 30 type 30 0 false (pack [(54, 5), (46, 1), (44, 0), (43, 0), (35, 0), (21, origin), (5, hash)]) (pack [(42, 3)]) (if type = 0x50 ∨ type = 0x51 then 9 else 0) 0 []

/-- Module 1's value for that round, with HASH. -/
def crumbIn (hash : Nat) : Packet := crumbOf 1 0x50 1 hash

/-- The module once a packet has left the wires. -/
def landed (p : Packet) (s : State) : State := { s with flight := s.flight.erase p }

/-- Whether a packet's round is in progress. -/
def openB (p : Packet) (s : State) (num : Nat) (r : CrumbRound) : Bool :=
  cgServed (getColl s (pcGroup p)) && pDstTile p == 30 && pktRound (getColl s (pcGroup p)) p == some num && decide (cgNum (getColl s (pcGroup p)) (pcKind p) ≤ num) &&
  !cgFailed (getColl s (pcGroup p)) (pcKind p) num && findRound (getColl s (pcGroup p)) (pcKind p) num == some r && r.ended == none

theorem roundOpen {p : Packet} {s : State} {num : Nat} {r : CrumbRound} (h : openB p s num r = true) : RoundOpen p s num r := by
  simp only [openB, Bool.and_eq_true, beq_iff_eq, decide_eq_true_eq, Bool.not_eq_true'] at h
  obtain ⟨⟨⟨⟨⟨⟨h1, h2⟩, h3⟩, h4⟩, h5⟩, h6⟩, h7⟩ := h
  exact ⟨h1, h2, h3, h4, h5, h6, h7⟩

/-- Whether a sound crumb packet of a type names an open round. -/
def crumbB (type : Nat) (p : Packet) (s : State) (r : CrumbRound) : Bool := soundB type p 30 s && openB p (landed p s) 0 r

theorem crumbs {type : Nat} {p : Packet} {s : State} {r : CrumbRound} (h : crumbB type p s r = true) :
    Sound type p 30 s ∧ RoundOpen p (landed p s) 0 r := by
  simp only [crumbB, Bool.and_eq_true] at h
  exact ⟨sound h.1, roundOpen h.2⟩

theorem witness_CrumbRounds :
    (∀ p, p = crumbIn 0x1234 → (Sound 0x50 p 30 (rounding [own7, in9]) ∧ RoundOpen p (landed p (rounding [own7, in9])) 0 (round0 [own7, in9])) ∧
      (round0 [own7, in9]).rack.any (fun y => y.origin == (pcInput p).origin) = true) ∧
    (∀ p, p = crumbOf 64 0x51 1 0x1234 → (Sound 0x51 p 30 (hallRounding [own7, in9]) ∧ RoundOpen p (landed p (hallRounding [own7, in9])) 0 (roundV [own7, in9])) ∧
      (roundV [own7, in9]).hall.any (fun y => y.origin == (pcInput p).origin) = true) ∧
    (∀ p, p = crumbIn 0x1234 → ∀ s, s = landed p (rounding [own7]) → (Sound 0x50 p 30 (rounding [own7]) ∧ RoundOpen p (landed p (rounding [own7])) 0 (round0 [own7])) ∧
      (round0 [own7]).rack.any (fun y => y.origin == (pcInput p).origin) = false ∧ fld p.w3 20 5 = (getColl s (pcGroup p)).hash ∧
      (pcInput p).origin ∈ rackMembers (getColl s (pcGroup p)) (s.myModule / 64) ∧ (round0 [own7]).moduleVal.isSome = true ∧ (round0 [own7]).rackVal = none ∧
      (round0 [own7]).rack.length + 1 < cgT (getColl s (pcGroup p)) * cgU (getColl s (pcGroup p)) ∧
      (∀ i ∈ (round0 [own7]).ins, (i.op, i.lanes) = ((pcInput p).op, (pcInput p).lanes)) ∧
      (∀ y ∈ (round0 [own7]).rack ++ (round0 [own7]).hall, (y.op, y.lanes) = ((pcInput p).op, (pcInput p).lanes))) ∧
    (∀ p, p = crumbOf 64 0x51 1 0x1234 → ∀ s, s = landed p (hallRounding [own7]) →
      (Sound 0x51 p 30 (hallRounding [own7]) ∧ RoundOpen p (landed p (hallRounding [own7])) 0 (roundV [own7])) ∧
      (roundV [own7]).hall.any (fun y => y.origin == (pcInput p).origin) = false ∧ fld p.w3 20 5 = (getColl s (pcGroup p)).hash ∧
      (pcInput p).origin ∈ memberRacks (getColl s (pcGroup p)) ∧ (roundV [own7]).moduleVal.isSome = true ∧ (roundV [own7]).rackVal.isSome = true ∧
      (roundV [own7]).hall.length + 1 < cgV (getColl s (pcGroup p)) ∧
      (∀ i ∈ (roundV [own7]).ins, (i.op, i.lanes) = ((pcInput p).op, (pcInput p).lanes)) ∧
      (∀ y ∈ (roundV [own7]).rack ++ (roundV [own7]).hall, (y.op, y.lanes) = ((pcInput p).op, (pcInput p).lanes))) ∧
    (∀ p, p = crumbIn 0x1235 → (Sound 0x50 p 30 (rounding [own7]) ∧ RoundOpen p (landed p (rounding [own7])) 0 (round0 [own7])) ∧
      (round0 [own7]).rack.any (fun y => y.origin == (pcInput p).origin) = false ∧ fld p.w3 20 5 ≠ (getColl (landed p (rounding [own7])) (pcGroup p)).hash) := by
  refine ⟨fun p hp => ⟨crumbs ?_, ?_⟩, fun p hp => ⟨crumbs ?_, ?_⟩, fun p hp s hs => ⟨crumbs ?_, ?_⟩, fun p hp s hs => ⟨crumbs ?_, ?_⟩, fun p hp => ⟨crumbs ?_, ?_⟩⟩
  all_goals (try subst hs); (try subst hp); decide +kernel

theorem witness_CrumbAnswers :
    (∀ p, p = crumbOf 1 0x52 0 0x1234 → (Sound 0x52 p 30 (rounding [own7]) ∧ RoundOpen p (landed p (rounding [own7])) 0 (round0 [own7])) ∧
      crumbDiffers (getColl (landed p (rounding [own7])) (pcGroup p)) (round0 [own7]) p = false ∧
      pSrcModule p / 64 = (landed p (rounding [own7])).myModule / 64 ∧ (pcInput p).origin = (landed p (rounding [own7])).myModule) ∧
    (∀ p, p = crumbOf 64 0x52 0 0x1234 → (Sound 0x52 p 30 (hallRounding [own7]) ∧ RoundOpen p (landed p (hallRounding [own7])) 0 (roundV [own7])) ∧
      crumbDiffers (getColl (landed p (hallRounding [own7])) (pcGroup p)) (roundV [own7]) p = false ∧
      pSrcModule p / 64 ≠ (landed p (hallRounding [own7])).myModule / 64 ∧ (pcInput p).origin = (landed p (hallRounding [own7])).myModule / 64) ∧
    (∀ h ∈ [0x1234, 0x1235], ∀ p, p = crumbOf 1 0x53 1 h → (Sound 0x53 p 30 (rounding [own7]) ∧ RoundOpen p (landed p (rounding [own7])) 0 (round0 [own7])) ∧
      crumbDiffers (getColl (landed p (rounding [own7])) (pcGroup p)) (round0 [own7]) p = (h == 0x1235)) ∧
    (mainOn (rounding [own7, in9]) = true ∧ nacksDue (rounding [own7, in9]) (getColl (rounding [own7, in9]) 5) 0 = [(4000, round0 [own7, in9], false)] ∧
      foldMissing (rounding [own7, in9]) (getColl (rounding [own7, in9]) 5) (round0 [own7, in9]) false = [(2, 2)]) ∧
    (∀ l, l = [own7, in9, { in9 with origin := 2 }] → mainOn (hallRounding l) = true ∧
      nacksDue (hallRounding l) (getColl (hallRounding l) 5) 0 = [(5000, roundV l, true)] ∧ foldMissing (hallRounding l) (getColl (hallRounding l) 5) (roundV l) true = [(192, 3)]) ∧
    (findRound (getColl (rounding [own7]) 5) 0 (cgNum (getColl (rounding [own7]) 5) 0) = some (round0 [own7]) ∧ (round0 [own7]).moduleVal.isSome = true ∧
      (round0 [own7]).ended = none) := by
  refine ⟨fun p hp => ⟨crumbs ?_, ?_⟩, fun p hp => ⟨crumbs ?_, ?_⟩, fun h hh p hp => ⟨crumbs ?_, ?_⟩, by decide +kernel, fun l hl => ?_, by decide +kernel⟩
  · subst hp; decide +kernel
  · subst hp; decide +kernel
  · subst hp; decide +kernel
  · subst hp; decide +kernel
  · subst hp; revert h; decide +kernel
  · subst hp; revert h; decide +kernel
  · subst hl; decide +kernel

/-- The input of module 1 joins the fold behind this module's own (R335). -/
theorem test_crumb_input : (getColl (crumbTake false (crumbIn 0x1234) (rounding [own7])) 5).rounds.map (fun r => r.rack.map (·.value)) = [[7, 9]] := by
  decide +kernel

/-- A sum of 256 elements over group 5. -/
def sumD : CmdDesc := ⟨0x0100005000000003, 256, 0x2000 * 2 ^ 18 + 0x1000 * 2 ^ 41, 0x8000 * 2 ^ 41, 0, 0, 0, 0⟩

/-- A link-adder operation in a phase. -/
def lop (phase : Nat) (code : Code) : LinkOp := ⟨0, 5, 0, 4, sumD, phase, 0, 0, 0, 0x7F, 0, 60, [], [], [], [], [], 0, code, [], false⟩

/-- The module while that operation is in progress. -/
def adding (o : LinkOp) : State := { collS (g3 true) [] with coll := { State.reset.coll with groups := [(5, g3 true)], ops := [o] } }

/-- Tile 0 whose link adder 6 last disagreed at 0, at a later time. -/
def adderS (now : Nat) : State := { on with now := now, tiles := [(0, { tileInit with adderMiss := [(6, 0)] })] }

theorem witness_LinkAdderSteps :
    (mainOn (adding (lop 1 .ok)) = true ∧ findLink (adding (lop 1 .ok)) 0 5 = some (lop 1 .ok) ∧ linkLacks (adding (lop 1 .ok)) (lop 1 .ok) (lop 1 .ok).xch ≠ [] ∧
      lDeadline (lop 1 .ok).desc = false ∧ cgServed (getColl (adding (lop 1 .ok)) 5) = true ∧ bit (getColl (adding (lop 1 .ok)) 5).failed 1 = false) ∧
    (∀ c ∈ [Code.ok, .timeout], findLink (adding (lop 4 c)) 0 5 = some (lop 4 c) ∧ (lop 4 c).ended = false ∧ codeFailed c = (c == .timeout)) ∧
    (Expert .keeper 5 (adding (lop 1 .ok)) ∧ (lop 1 .ok) ∈ (adding (lop 1 .ok)).coll.ops ∧ (lop 1 .ok).tile = (0 : Fin 24).val ∧ (lop 1 .ok).ended = false ∧ (lop 1 .ok).phase ≠ 5) ∧
    (Expert .keeper 5 (adding (lop 1 .ok)) ∧ ∀ o ∈ (adding (lop 1 .ok)).coll.ops, o.tile ≠ (1 : Fin 24).val) ∧
    (∀ n ∈ [3600000000000, 3600000000001], bit (getTile (adderS n) 0).addersDown 6 = false ∧ bit (tget 3 (adderS n).coll.linkCtrl 0) 1 = true) ∧
    ((6, 0) ∈ (getTile (adderS 3600000000000) 0).adderMiss ∧ (adderS 3600000000000).now ≤ 0 + 3600000000000) ∧
    (∀ x ∈ (getTile (adderS 3600000000001) 0).adderMiss, x.1 = 6 → x.2 + 3600000000000 < (adderS 3600000000001).now) :=
  ⟨by decide +kernel, by decide +kernel, ⟨expert 5 rfl, by decide +kernel⟩, ⟨expert 5 rfl, by decide +kernel⟩, by decide +kernel, by decide +kernel, by decide +kernel⟩

/-- An ALL_GATHER of group 5 in its up phase, and the sum in its down phase. -/
def gop : LinkOp := { lop 1 .ok with desc := ld }

/-- A collective packet of module 1 for an operation of group 5 at tile 0: exchange 0 of stage 1, block or word 0. -/
def collPkt (type : Nat) (o : LinkOp) (bs : List Byte) : Packet :=
  pktFrom 1 0 type 0 0 false (pack [(54, 5), (46, lOp o.desc), (44, 1), (0, lStep o.desc)]) (pack [(32, descHash (adding o) o)]) 0 0 bs

/-- A block of zeros with residue 0 and COUNT 1. -/
def blockBytes : List Byte := List.replicate 528 0 ++ 1 :: List.replicate 47 0

set_option maxRecDepth 100000 in
theorem witness_LinkAdderData :
    (∀ o p, o = lop 1 .ok → p = collPkt 0x60 o blockBytes → ∀ s, s = landed p (adding o) → soundB 0x60 p 0 (adding o) = true ∧
      collMatch 0 p s = some (o, 0, 1) ∧ hashDiffers s o p = false ∧ collMember s o p = true ∧ o.phase = 1 ∧ lReduces o.desc = true ∧ bit p.w3 43 = false ∧ fld p.w4 7 5 = 0 ∧ fld p.w4 31 8 = 0 ∧
      leNat ((p.payload.drop 512).take 2) = blockResidue (blockLanes (p.payload.take 512)) ∧
      (∃ q ∈ redIn (lOp o.desc == 2) (getColl s o.group) (linkMe s o) (lBlocks o.desc) false (fld p.w3 45 44, fld p.w3 42 35), q.1 = 1 ∧ q.2.1 ≤ 0 ∧ 0 < q.2.2) ∧ o.got = []) ∧
    (∀ o p, o = gop → p = collPkt 0x61 o [7, 0, 0, 0, 0, 0, 0, 0] → ∀ s, s = landed p (adding o) → soundB 0x61 p 0 (adding o) = true ∧
      collMatch 0 p s = some (o, 0, 1) ∧ hashDiffers s o p = false ∧ collMember s o p = true ∧ o.phase = 1 ∧ lReduces o.desc = false ∧ inCounts o = false ∧
      0 < (linkXchs (getColl s o.group) { o with phase := 1 }).length ∧ o.got = []) ∧
    (∀ o p, o = lop 3 .ok → p = collPkt 0x62 o [] → ∀ s, s = landed p (adding o) → soundB 0x62 p 0 (adding o) = true ∧
      collMatch 0 p s = some (o, 0, 1) ∧ hashDiffers s o p = false ∧ collMember s o p = true ∧ o.phase = 3) := by
  refine ⟨fun o p ho hp s hs => ?_, fun o p ho hp s hs => ?_, fun o p ho hp s hs => ?_⟩
  all_goals subst hs; subst hp; subst ho; decide +kernel

/-- A late input clears bit 1 of the status and the operation waits for the commit (R351). -/
theorem test_late_input : (match exec (.lateInputTimeout 0 5) (adding (lop 1 .ok)) with
    | .next t => t.coll.ops.map (fun o => (o.phase, o.status)) | _ => []) = [(2, 0x7D)] := by decide +kernel

/-! ### Witnesses: topology, sparing and leases -/

/-- A module whose engines all serve rack plane 0–7, with one strand. -/
def planes (x : Strand) : State := { withStrand x with topo := { State.reset.topo with profile := List.replicate 20 0x8000 } }

/-- A HELLO to a strand, a reply of KIND and PLANE, or a request, with SEQ 5. -/
def hello (reply : Bool) (kind plane : Nat) : Packet :=
  pktSeal (mkPkt 1 2 0 0 0x70 0 1 0 (pack [(62, kind), (61, b2n reply), (60, 1), (58, 2), (52, plane)]) (pack [(32, 5)]) 0 0 [])

/-- A strand in UP that waits for the answer to HELLO 5. -/
def asks : Strand := { upStrand with helloSeq := 5, helloValid := true, helloMisses := 3, helloDue := some 700 }

theorem pair_of {p : Packet} {t : Nat} {s : State} (h : (rxCheck t p s).1 = true) : rxCheck t p s = (true, (rxCheck t p s).2) := by rw [← h]

/-- A reply with the coordinates (1, 2, tray slot). -/
def place (slot : Nat) : HelloRec := ⟨1, true, 2, 0, 1, 2, slot, 0, []⟩

/-- The module in step 13 of its start-up with replies on strands 8 and 16. -/
def finding (l : Tab HelloRec) : State :=
  { on with keeper := { Keeper.initial with phase := 5 }
            strands := [(8, upStrand), (16, upStrand)]
            topo := { State.reset.topo with profile := List.replicate 20 0x8000, discovering := true, replies := l } }

theorem witness_HelloAndDiscovery :
    (∀ x ∈ [(false, 1, 7), (true, 0, 7), (true, 1, 7)], mainOn (planes asks) = true ∧ Speaks (planes asks) 159 ∧ pType (hello x.1 x.2.1 x.2.2) = 0x70 ∧
      rxCheck (servingTile (159 / 8)) (hello x.1 x.2.1 x.2.2) (planes asks) = (true, (rxCheck (servingTile (159 / 8)) (hello x.1 x.2.1 x.2.2) (planes asks)).2) ∧
      bit (hello x.1 x.2.1 x.2.2).w3 61 = x.1) ∧
    ((planes asks).topo.discovering = false ∧ strandLive (planes asks) 159 = true ∧ laterWrong (planes asks) 159 (helloRec (hello true 0 7)) = true ∧
      (getStrand (planes asks) 159).helloValid = true ∧ laterWrong (planes asks) 159 (helloRec (hello true 1 7)) = false ∧
      fld (hello true 1 7).w4 63 32 = (getStrand (planes asks) 159).helloSeq.toNat) ∧
    ((getStrand (planes asks) 159).helloDue = some 700 ∧ 3 ≤ (getStrand (planes asks) 159).helloMisses ∧ (planes asks).topo.leaseRetries = [] ∧
      Grants (planes asks) 6 (servingTile (159 / 8)) 159) ∧
    (∀ l ∈ [[], [(8, place 1), (16, place 1)], [(8, place 1), (16, place 2)]], mainOn (finding l) = true ∧ (finding l).keeper.phase = 5 ∧
      (finding l).topo.discovering = true ∧ (finding l).keeper.presets = []) ∧
    (rackReplies (finding []) = [] ∧ rackReplies (finding [(8, place 1), (16, place 1)]) ≠ [] ∧
      majority (rackReplies (finding [(8, place 1), (16, place 1)])) = some (1, 2, 1) ∧ (1 : Nat) ≤ 255 ∧
      rackReplies (finding [(8, place 1), (16, place 2)]) ≠ [] ∧ majority (rackReplies (finding [(8, place 1), (16, place 2)])) = none) := by
  refine ⟨fun x hx => ⟨by decide +kernel, ?_, ?_, pair_of ?_, ?_⟩, by decide +kernel, by unfold Grants; decide +kernel, by decide +kernel, by decide +kernel⟩
  · unfold Speaks; decide +kernel
  · revert x; decide +kernel
  · revert x; decide +kernel
  · revert x; decide +kernel

/-- A later reply of another KIND withdraws the strand (Table 11.4). -/
theorem test_hello_wrong : (match exec (.hello 159 (hello true 0 7)) (planes asks) with
    | .next t => ((getStrand t 159).state, (getStrand t 159).drainAt) | _ => (.dark, none)) = (.withdrawn, some 50000) := by decide +kernel

/-- Discovery ends with the module number 64·1 + 4·2 + 1 (R367). -/
theorem test_discovery : (match exec .discoveryEnd (finding [(8, place 1), (16, place 1)]) with
    | .next t => (t.myModule, t.keeper.phase) | _ => (0, 0)) = (73, 7) := by decide +kernel

/-- The module with group 1 of tile 3 and a core of it. -/
def spared (x : Group) (c : Core) : State := { on with groups := [(13, x)], cores := [(208, c)] }

theorem spareRuns (act : Nat) (x : Group) (c : Core) (h : act = 4 ∨ act = 5) : SpareRuns .keeper act 3 1 (spared x c) := by
  refine ⟨expert 6 rfl, rfl, ?_⟩
  unfold Grants
  obtain rfl | rfl := h <;> exact ⟨Nat.zero_lt_succ 255, rfl⟩

theorem witness_SparingCommands :
    (∀ x ∈ [runGroup, { runGroup with retiredPos := 15 }, { runGroup with off := 0x10000 }], ∀ act ∈ [4, 5], SpareRuns .keeper act 3 1 (spared x coreInit)) ∧
    ((15 : BitVec 6).toNat < 16 ∧ spareFree (spared runGroup coreInit) 3 1 = true ∧ spareFree (spared { runGroup with retiredPos := 15 } coreInit) 3 1 = false ∧
      (16 : BitVec 6).toNat = 16 ∧ (getGroup (spared runGroup coreInit) 3 1).retiredPos = 16 ∧
      (getGroup (spared { runGroup with retiredPos := 15 } coreInit) 3 1).retiredPos = (15 : BitVec 6).toNat ∧ 16 < (17 : BitVec 6).toNat) ∧
    (Expert .keeper 6 on ∧ mainOn on = true ∧ expertOk .servicePort 6 on = false) ∧
    (∀ h ∈ [(⟨3, 15, false, true⟩ : Shift), ⟨4, 15, true, true⟩, ⟨2, 0, false, false⟩],
      mainOn (spared { runGroup with shift := some h } coreInit) = true ∧ (getGroup (spared { runGroup with shift := some h } coreInit) 3 1).waking = none ∧
      (getGroup (spared { runGroup with shift := some h } coreInit) 3 1).changing = false ∧ (getGroup (spared { runGroup with shift := some h } coreInit) 3 1).shift = some h) ∧
    (groupOf (coreKey ⟨3, 16⟩) = 1 ∧ (getCore (spared runGroup coreInit) (coreKey ⟨3, 16⟩)).withdrawn = false ∧
      (getCore (spared runGroup { coreInit with withdrawn := true }) (coreKey ⟨3, 16⟩)).withdrawn = true) ∧
    (mainOn (spared runGroup { coreInit with withdrawBy := some 900, kernel := some kern }) = true ∧
      (getCore (spared runGroup { coreInit with withdrawBy := some 900, kernel := some kern }) (coreKey ⟨3, 16⟩)).withdrawBy = some 900) := by
  refine ⟨?_, by decide +kernel, ⟨expert 6 rfl, rfl, rfl⟩, by decide +kernel, by decide +kernel, by decide +kernel⟩
  intro x _ act ha
  exact spareRuns act x coreInit (by simpa using ha)

/-- A RETIRE of position 15 starts a shift, and the end of the copy retires it (Table 11.6). -/
theorem test_retire : (match exec (.retire .keeper 3 1 15) (spared runGroup coreInit) with
    | .next t => (match exec (.shiftCopyComplete 3 1) t with | .next u => ((getTile t 3).spareBusy, (getGroup u 3 1).retiredPos, (getTile u 3).spareBusy) | _ => (false, 0, true))
    | _ => (false, 0, true)) = (true, 15, false) := by decide +kernel

/-- The module with a test bake of core 16 on its spare. -/
def baking : State := spared { runGroup with bake := some ⟨16, 1, 0x77, 3, 2⟩ } coreInit

theorem witness_BakesTilesRecord :
    (mainOn baking = true ∧ (getGroup baking 3 1).bake = some ⟨16, 1, 0x77, 3, 2⟩) ∧
    (mainOn { serve [(1, stream1 .open_ 0)] with tiles := [(0, { tileInit with inService := true })] } = true ∧
      (getTile { serve [(1, stream1 .open_ 0)] with tiles := [(0, { tileInit with inService := true })] } 0).inService = true ∧
      ((serve [(1, stream1 .open_ 0)]).streams.map (·.1)).Nodup ∧ (getModel (serve [(1, stream1 .open_ 0)]) 0).state = 1 ∧
      Grants { serve [(1, stream1 .open_ 0)] with tiles := [(0, { tileInit with inService := true })] } 7 0 0 ∧ (serve [(1, stream1 .open_ 0)]).topo.leaseRetries = [] ∧
      maskHas (getModel (serve [(1, stream1 .open_ 0)]) 0) 0 = true) ∧
    (∀ w ∈ [true, false], mainOn { on with topo := { State.reset.topo with sparingDirty := true }, power := { Power.initial with flashWindow := w } } = true) := by
  unfold Grants; decide +kernel

/-- A mismatch of a test bake is logged (BAKE_LOG). -/
theorem test_bake : (match exec (.testBakeCompare 3 1 .differs) baking with
    | .next t => (getGroup t 3 1).bakeLog | _ => 0) = pack [(48, 0x77), (31, 1), (26, 0), (21, 3), (19, 2), (18, 1)] := by decide +kernel

/-- The loss of a tile ends the streams of its slot (R388). -/
theorem test_tile_out : (match exec (.tileOut 0) { serve [(1, stream1 .open_ 0)] with tiles := [(0, { tileInit with inService := true })] } with
    | .next t => ((getTile t 0).inService, (getStream t 1).state) | _ => (true, .open_)) = (false, .free) := by decide +kernel

/-- The module with leases held, waiting and to be asked again. -/
def leased (held waits retries : List Lease) : State :=
  { on with topo := { State.reset.topo with leases := held, leaseWaits := waits, leaseRetries := retries } }

theorem witness_LeaseEvents :
    (let l := lease (.sliceRetrain 0) 1;
      mainOn (leased [] [l] []) = true ∧ (leased [] [l] []).topo.leases.length < 256 ∧
      (leased [] [l] []).topo.leaseWaits.find? (fun l => leaseDecide (leased [] [l] []) l.activity l.tile l.unit_ == .grant) = some l ∧ leaseExplicit l = false) ∧
    (∀ x ∈ [(LeaseAct.coreState 0 true, 5), (.evacuate 0 0 1, 3)], let l := lease x.1 x.2;
      (leased [] [l] []).topo.leaseWaits = [l] ∧ leaseExplicit l = false ∧ actAuto l.act = (x.2 == 3)) ∧
    (∀ held ∈ [[], [lease (.sliceRetrain 0) 3]], let l := lease (.evacuate 0 0 1) 3;
      (leased held [] [l]).topo.leaseRetries = [l] ∧ (leased held [] [l]).topo.leases.length < 256 ∧
      leaseDecide (leased held [] [l]) l.activity l.tile l.unit_ = (if held = [] then .grant else .conflict)) ∧
    (leased [lease (.explicit .servicePort [] 5) 7] [] []).topo.leases.find? (fun l => l.id == (0 : BitVec 16).toNat && leaseExplicit l) =
      some (lease (.explicit .servicePort [] 5) 7) := by decide +kernel

/-- A wait of 100 ms ends with CONFLICT (R387). -/
theorem test_lease_wait : (match exec .leaseWaitTimeout (leased [] [lease (.coreState 0 true) 5] []) with
    | .next t => (t.now, (getTile t 0).spareResult, t.topo.leaseWaits.length) | _ => (0, .ok, 9)) = (100000500, .conflict, 0) := by decide +kernel

/-! ### Witnesses: power, clocks and temperature -/

/-- A sample of a round: every diode at a temperature in 1/16 °C, 48 V, 100 W, the reference at 100 MHz. -/
def hk (d : BitVec 16) : HkSample :=
  ⟨List.replicate 25 d ++ List.replicate 20 0 ++ List.replicate 12 500 ++ [4800, 1000] ++ List.replicate 4 0 ++ [10000], BitVec.allOnes 64⟩

/-- A sample at 25 °C with the reference counted at f × 10 kHz. -/
def hkRef (f : BitVec 16) : HkSample := { hk 400 with value := (hk 400).value.take 63 ++ [f] }

/-- The module in hearth-only recovery. -/
def recovering : State := { on with keeper := { Keeper.initial with phase := 8 } }

theorem refs_read : hkVal (hkRef 9899) 63 = 9899 ∧ hkVal (hkRef 10101) 63 = 10101 := ⟨rfl, rfl⟩

theorem witness_Reference : ∀ f ∈ [(9899 : BitVec 16), 10101], bit (hkRef f).valid 63 = true ∧ (hkVal (hkRef f) 63 < 9900 ∨ 10100 < hkVal (hkRef f) 63) ∧
    on.power.refLost = false := by
  simp only [List.mem_cons, List.not_mem_nil, or_false, forall_eq_or_imp, forall_eq, refs_read]
  exact ⟨⟨by decide +kernel, by decide, rfl⟩, by decide +kernel, by decide, rfl⟩

theorem witness_HousekeepingRound :
    (∀ s ∈ [on, recovering], s.pins.powered = true ∧ s.power.shutdown = false ∧ s.keeper.counterDirty = false ∧ s.keeper.phase ≠ 0) ∧
    mainOn recovering = false ∧ mainOn on = true ∧
    (diodeOk (hk 1840) 23 = true ∧ degC 115 ≤ hkSigned (hk 1840) 23) ∧
    (∀ g, g < 4 → (getGroup on 23 g).target = (getGroup on 23 0).target) := by
  refine ⟨by decide +kernel, by decide +kernel, by decide +kernel, by decide +kernel, fun g _ => rfl⟩

/-- The hearth at 115 °C is a shutdown condition; at 25 °C it is none (R410). -/
theorem test_trip : tripCond (hk 1840) on = some (1840, 30, none) ∧ tripCond (hk 400) on = none ∧ (takeChannels (hk 400) 1 on).power.inputMw100 = 1000 := by
  decide +kernel

/-- A reference counted at 98.99 MHz is lost, and its condition raised (R395). -/
theorem test_reference : (let t := referenceRound (hkRef 9899) (takeChannels (hkRef 9899) 1 on); (t.power.refLost, bit t.power.emerg 4)) = (true, true) := by decide +kernel

/-- The module with group 1 of tile 3 and its tile's DEEPEST_STATE. -/
def resting (x : Group) (deepest : Word) : State := { on with groups := [(13, x)], tiles := [(3, { tileInit with dispCtrl := deepest })] }

theorem witness_LowPower :
    (∀ st ∈ [PState.run, .idle], MayNap (resting { runGroup with pstate := st, idleFrom := some 7 } 2) 3 1 ∧
      (getGroup (resting { runGroup with pstate := st, idleFrom := some 7 } 2) 3 1).idleFrom = some 7) ∧
    (let s := resting { runGroup with pstate := .nap, idleFrom := some 7 } 3;
      mainOn s = true ∧ (getGroup s 3 1).idleFrom = some 7 ∧ (getGroup s 3 1).pstate = .nap ∧ (getGroup s 3 1).waking = none ∧ (getGroup s 3 1).shift = none ∧ fld (getTile s 3).dispCtrl 1 0 = 3) ∧
    ((getGroup (resting { runGroup with pstate := .sleep } 3) 3 1).waking = none ∧ (getGroup (resting { runGroup with pstate := .sleep } 3) 3 1).pstate = .sleep) ∧
    (getGroup (resting { runGroup with waking := some 12000 } 3) 3 1).waking = some 12000 := by
  refine ⟨fun st hs => ⟨⟨?_, ?_, ?_, ?_, ?_, ?_⟩, ?_⟩, by decide +kernel, by decide +kernel, by decide +kernel⟩ <;> revert st <;> decide +kernel

/-- A wake from Sleep takes 12 µs (R398). -/
theorem test_wake : (match exec (.groupWake 3 1) (resting { runGroup with pstate := .sleep } 3) with
    | .next t => (getGroup t 3 1).waking | _ => none) = some 12000 := by decide +kernel

/-- A GOV_CTRL value: POWER_LIMIT, MAX_MHZ, FLOOR_MHZ and EMERG_MHZ. -/
def gov (limit mx fl em : Nat) : Word := pack [(48, limit), (22, mx), (12, fl), (2, em)]

/-- A serving module whose bake rows were measured at 700 MHz. -/
def promising : State := { serve [(1, { stream1 .open_ 0 with model := 0 })] with models := [(0, { model1 with rows := [(0, { bakeInit with measStepNs := 1000, measMhz := 700, loaded := true })] })] }

theorem witness_ThrottleAndGovernor :
    (on.pins.powered = true ∧ on.power.shutdown = false ∧ mainOn on = true ∧ on.power.refLost = false ∧ on.keeper.waiting = none) ∧
    (∀ s, s = { on with power := { Power.initial with refLost := true } } → s.pins.powered = true ∧ s.power.shutdown = false ∧ s.keeper.waiting = none ∧
      s.power.refLost = true) ∧
    (({ on with pins := { on.pins with powered := false } } : State).pins.powered = false ∧
      ({ on with power := { Power.initial with shutdown := true } } : State).power.shutdown = true) ∧
    expertOk .servicePort 7 on = false ∧ Expert .keeper 7 on ∧ Expert .keeper 7 promising ∧
    (∀ l ∈ [600, 2400], ∀ f ∈ [800, 1000], mhzOk (fld (gov l 1000 f 500) 31 22) = true ∧ mhzOk (fld (gov l 1000 f 500) 21 12) = true ∧
      mhzOk (fld (gov l 1000 f 500) 11 2) = true ∧ fld (gov l 1000 f 500) 11 2 ≤ fld (gov l 1000 f 500) 21 12 ∧
      fld (gov l 1000 f 500) 21 12 ≤ fld (gov l 1000 f 500) 31 22 ∧ 600 ≤ fld (gov l 1000 f 500) 63 48 ∧ fld (gov l 1000 f 500) 63 48 ≤ 2400 ∧
      fld on.power.govCtrl 21 12 ≤ fld (gov l 1000 f 500) 21 12) ∧
    (fld (gov 599 1050 500 501) 21 12 < fld promising.power.govCtrl 21 12 ∧ floorConflict promising (fld (gov 599 1050 500 501) 21 12) = true ∧
      fld (gov 600 1000 500 500) 21 12 < fld promising.power.govCtrl 21 12 ∧ floorConflict promising (fld (gov 600 1000 500 500) 21 12) = true) ∧
    (mhzOk (fld (gov 600 1050 500 500) 31 22) = false ∧ mhzOk (fld (gov 600 1000 450 500) 21 12) = false ∧ mhzOk (fld (gov 600 1000 500 501) 11 2) = false ∧
      fld (gov 600 1000 500 550) 21 12 < fld (gov 600 1000 500 550) 11 2 ∧ fld (gov 600 500 1000 500) 31 22 < fld (gov 600 500 1000 500) 21 12 ∧
      fld (gov 599 1000 500 500) 63 48 < 600 ∧ 2400 < fld (gov 2401 1000 500 500) 63 48) ∧
    (∀ f, floorConflict on f = false) :=
  ⟨by decide +kernel, fun s hs => by subst hs; decide +kernel, ⟨rfl, rfl⟩, rfl, expert 7 rfl, expert 7 rfl, by decide +kernel, by decide +kernel, by decide +kernel,
    fun f => by rw [floorConflict, show accepted on = [] from rfl]; rfl⟩

/-- GOV_CTRL takes a value in range and refuses a limit of 599 W (R409). -/
theorem test_gov : (match exec (.govCtrlWrite .keeper (gov 600 1000 800 500)) on, exec (.govCtrlWrite .keeper (gov 599 1000 800 500)) on with
    | .next t, .next u => (fld t.power.govCtrl 63 48, t.lastCode, u.lastCode) | _, _ => (0, .ok, .ok)) = (600, .ok, .rejected) := by decide +kernel

/-- The pin puts every clock at EMERG_MHZ (Table 12.7). -/
theorem test_pin : (match exec .emergThrottleAssert { on with groups := [(13, { runGroup with mhz := 1000, target := 1000 })] } with
    | .next t => ((getGroup t 3 1).target, (getGroup t 3 1).emergency) | _ => (0, false)) = (500, true) := by decide +kernel

/-! ### Witnesses: power and reset signals -/

/-- The public key that signs the test images. -/
def signer : List Byte := beBytes 48 0x77a41d4606ffa1464793c7e5fdc7d98cb9d3910202dcd06bea4f240d3566da6b408bbae5026580d02d7e5c70500c831 ++
  beBytes 48 0xc995f7ca0b0c42837d0bbe9602a9fc998520b41c85115aa5f7684c0edc111eacc24abd6be4b5d298b65f28600a2f1df1

/-- A starter copy with the profile word of engine 0, its SEQUENCE, its CRC32C and its signature. -/
def starter (prof seq crc r s : Nat) : List Byte :=
  let head := leBytes 4 0x54525453 ++ leBytes 2 1 ++ [1, 0] ++ leBytes 4 seq ++ leBytes 4 736 ++ leBytes 4 crc ++ List.replicate 12 0 ++ signer ++
    leBytes 4 1 ++ leBytes 4 512 ++ leBytes 4 128 ++ List.replicate 372 0
  let par : List Byte := leBytes 2 1 ++ leBytes 2 5 ++ [8, 0, 0, 0] ++ leBytes 2 prof ++ List.replicate 118 0
  head ++ par ++ beBytes 48 r ++ beBytes 48 s

/-- A copy that start-up accepts, and one whose profile has no rack plane engine. -/
def good : List Byte := starter 0x8000 1 0x4bc2319a 0x8d999057ba3d2d969260045c55b97f089025959a6f434d651d207d19fb96e9e4fe0e86ebe0e64f85b96a9c75295df61
  0xc1c5e216b89d05cbb4b0e8f4d917dac1e9b16b1fd8aa0cb2383949842d428e8339724e7cedaeb66ca98d742d4b80cc80
def oddCopy : List Byte := starter 0 2 0x680768ee 0x8d999057ba3d2d969260045c55b97f089025959a6f434d651d207d19fb96e9e4fe0e86ebe0e64f85b96a9c75295df61
  0x502b4b16bedea93f3c59ca7ebef4820b066995d9fe0ebab05909b2bba3ea9e55fcc48bc49227607c04505814350de47

/-- A state whose second VERIFY_HASH is that of the key. -/
def knows (s : State) : State := { s with keeper := { s.keeper with verify1 := some (sha384 signer) } }

/-- A flash with one written copy. -/
def flashOf (l : List Byte) : FlashImage := { FlashImage.blank with copyA := l }

theorem valid_of {s : State} (l : List Byte) (h : s.keeper.verify1 = some (sha384 signer)) : copyValid s l = copyValid (knows State.reset) l := by
  simp only [copyValid, verifyHash, h, knows]

set_option maxRecDepth 1000000 in
theorem copies_valid : (copyValid (knows State.reset) good && copyValid (knows State.reset) oddCopy) = true := by decide +kernel

theorem copies_blank : copyValid (knows State.reset) [] = false := by decide +kernel

theorem chooses {s : State} {l : List Byte} (h : s.keeper.verify1 = some (sha384 signer)) (hf : s.keeper.flash = flashOf l) (hl : l = good ∨ l = oddCopy) :
    copyChoose s = some false := by
  have hb : s.keeper.flash.copyB = [] := by rw [hf]; rfl
  have ha : s.keeper.flash.copyA = l := by rw [hf]; rfl
  have hv := copies_valid
  simp only [Bool.and_eq_true] at hv
  have hc : copyValid (knows State.reset) l = true := by
    obtain rfl | rfl := hl
    · exact hv.1
    · exact hv.2
  simp only [copyChoose, ha, hb, valid_of l h, valid_of [] h, hc, copies_blank]

/-- What a start-up meets, with the flash of a carrier. -/
def env (otp sfdp ref : Bool) (l : List Byte) : StartEnv :=
  ⟨otp, some ⟨if sfdp then 128 else 127, true, true, 104⟩, some (flashOf l), ref, true, false, [], [], [], [], []⟩

/-- The module before its start-up, and one that has lost its reference. -/
def rest (lost : Bool) : State := knows { State.reset with power := { Power.initial with refLost := lost } }

theorem atRest (b : Bool) : AtRest (rest b) := ⟨rfl, rfl, rfl⟩

theorem env_chooses (b : Bool) (o d r : Bool) (l : List Byte) (hl : l = good ∨ l = oddCopy) :
    copyChoose { rest b with keeper := { (rest b).keeper with flash := (env o d r l).flash.getD (rest b).keeper.flash } } = some false :=
  chooses rfl rfl hl

theorem witness_PowerAndReset :
    ((65000 < 65001 ∧ 65000 ≤ 65000 ∧ 38000 ≤ 65000 ∧ 37999 < 38000) ∧ ∀ low s, s = ({ State.reset with
        pins := { State.reset.pins with powered := false }, power := { Power.initial with pinThrottle := low } } : State) →
      s.pins.powered = false ∧ s.power.pinThrottle = low) ∧
    (on.pins.powered = true ∧ on.power.shutdown = false ∧ on.keeper.phase ≠ 0) ∧
    (∀ b, AtRest (rest b)) ∧ ((env false true true good).otpOk = false ∧ (env true false true good).otpOk = true ∧ flashMeets (env true false true good).sfdp = false) ∧
    ((env true true true []).otpOk = true ∧ flashMeets (env true true true []).sfdp = true ∧
      copyChoose { rest false with keeper := { (rest false).keeper with flash := (env true true true []).flash.getD (rest false).keeper.flash } } = none) ∧
    (∀ b r, ∀ l ∈ [good, oddCopy], copyChoose { rest b with keeper := { (rest b).keeper with flash := (env true true r l).flash.getD (rest b).keeper.flash } } = some false) ∧
    (profileValid (profileOf (chosenParameters (flashOf oddCopy) false)) = false ∧ profileValid (profileOf (chosenParameters (flashOf good) false)) = true ∧
      (env true true true good).flash.getD (rest false).keeper.flash = flashOf good ∧ (env true true true oddCopy).flash.getD (rest false).keeper.flash = flashOf oddCopy) ∧
    ((env true true false good).refGood = false ∧ (rest true).power.refLost = true ∧ (env true true true good).refGood = true ∧ (rest false).power.refLost = false ∧
      (env true true true good).tileFail = [] ∧ (env true true true good).failedLanes = [] ∧ (env true true true good).stackTemp = [] ∧
      (∀ t, t < 24 → (getTile (rest false) t).hold = false ∧ (getTile (rest false) t).d2dDown = 0)) ∧
    (({ env true true true good with stackTemp := [(23, 0xFFFF)] } : StartEnv).stackTemp = [(23, 0xFFFF)] ∧ (0xFFFF : BitVec 16).toInt < 0) := by
  refine ⟨⟨by decide, fun low s hs => by subst hs; exact ⟨rfl, rfl⟩⟩, ⟨rfl, rfl, by decide⟩, atRest, ⟨rfl, rfl, rfl⟩, ⟨rfl, rfl, ?_⟩, ?_, by decide +kernel,
    ⟨rfl, rfl, rfl, rfl, rfl, rfl, rfl, fun _ _ => ⟨rfl, rfl⟩⟩, rfl, by decide⟩
  · unfold copyChoose
    have e : ∀ s : State, s.keeper.verify1 = some (sha384 signer) → copyValid s [] = false := fun s h => by rw [valid_of [] h, copies_blank]
    simp only [env, flashOf, FlashImage.blank, Option.getD_some]
    rw [e _ rfl]
  · intro b r l hl
    exact env_chooses b true true r l (by simpa using hl)

/-- Without a valid copy the module enters hearth-only recovery, and above 65 V the model stops (Table 13.6, R484). -/
theorem test_release : (match exec (.resetRelease (env true true true [])) (rest false), exec (.inputPowerRise 65001) State.reset with
    | .next t, .fault .beyondRatings => t.keeper.phase | _, _ => 0) = 8 := by decide +kernel

/-- A loss of power clears the phase and keeps the flash. -/
theorem test_power_loss : (match exec .inputLossStop { on with keeper := { on.keeper with flash := flashOf [7] } } with
    | .next t => (t.keeper.phase, t.keeper.flash.copyA, t.pins.powered) | _ => (0, [], true)) = (0, [7], false) := by decide +kernel

/-! ### Witnesses: the keeper's commands -/

theorem leBytes_len (n : Nat) : ∀ v, (leBytes n v).length = n := by
  induction n with
  | zero => intro v; rfl
  | succ n ih => intro v; simp [leBytes, ih]

theorem shaRound_len {w : Nat} (k : ShaKind w) (v : List (BitVec w)) (x : BitVec w × Nat) (h : v.length = 8) : (shaRound k v x).length = 8 := by
  unfold shaRound
  split
  · rfl
  · exact h

theorem shaRounds_len {w : Nat} (k : ShaKind w) (l : List (BitVec w × Nat)) : ∀ v : List (BitVec w), v.length = 8 → (l.foldl (shaRound k) v).length = 8 := by
  induction l with
  | nil => intro v h; exact h
  | cons x l ih => intro v h; exact ih _ (shaRound_len k v x h)

theorem shaBlock_len {w : Nat} (k : ShaKind w) (v b : List (BitVec w)) (h : v.length = 8) : (shaBlock k v b).length = 8 := by
  simp only [shaBlock, List.length_map, List.length_zip, shaRounds_len k _ v h, h, Nat.min_self]

theorem sha256_len (m : List Byte) : (sha256 m).length = 32 := by
  have h : (shaRun sha256Kind m).length = 8 := by
    have fold : ∀ (l : List (List Byte)) (v : List (BitVec 32)), v.length = 8 →
        (l.foldl (fun v b => shaBlock sha256Kind v ((chunks (32 / 8) 16 b).map (fun x => BitVec.ofNat 32 (beNat x)))) v).length = 8 := by
      intro l
      induction l with
      | nil => intro v h; exact h
      | cons x l ih => intro v h; exact ih _ (shaBlock_len _ v _ h)
    exact fold _ sha256Kind.start rfl
  simp [sha256, List.length_flatMap, beBytes, leBytes_len, h]

theorem igTag_len (key m : List Byte) : (igTag key m).length = 16 := by
  simp [igTag, hmac256, sha256_len]

/-- The first 32 bytes of a message. -/
def igHead (code crit slot n len : Nat) : List Byte :=
  leBytes 2 code ++ (BitVec.ofNat 8 crit :: BitVec.ofNat 8 slot :: leBytes 2 len) ++ leBytes 10 0 ++ leBytes 8 n ++ leBytes 8 0

/-- A message without a TAG, and one with a TAG. -/
def plain (code crit slot n : Nat) (body : List Byte) : List Byte := igHead code crit slot n body.length ++ List.replicate 16 0 ++ body
def tagged (code crit slot n : Nat) (tag body : List Byte) : List Byte := igHead code crit slot n body.length ++ tag ++ body

/-- The TAG that a message of slot k should carry. -/
def tagOf (code slot n : Nat) (key body : List Byte) : List Byte := igTag key (plain code 1 slot n body)

/-- A message with its TAG. -/
def signed (code slot n : Nat) (key body : List Byte) : List Byte := tagged code 1 slot n (tagOf code slot n key body) body

/-- Two messages that differ in nothing but their TAG. -/
structure Same (m z : List Byte) : Prop where
  front : m.take 32 = z.take 32
  back : m.drop 48 = z.drop 48
  size : m.length = z.length

theorem same_field {m z : List Byte} (h : Same m z) (off n : Nat) (ho : off + n ≤ 32 ∨ 48 ≤ off) : plField m off n = plField z off n := by
  unfold plField
  congr 1
  obtain ho | ho := ho
  · have e : ∀ l : List Byte, (l.drop off).take n = ((l.take 32).drop off).take n := fun l => by
      rw [List.drop_take, List.take_take, Nat.min_eq_left (by omega)]
    rw [e m, e z, h.front]
  · have e : ∀ l : List Byte, l.drop off = (l.drop 48).drop (off - 48) := fun l => by
      rw [List.drop_drop]
      congr 1
      omega
    rw [e m, e z, h.back]

theorem igHead_len (code crit slot n len : Nat) : (igHead code crit slot n len).length = 32 := by simp [igHead, leBytes_len]

theorem tagged_same (code crit slot n : Nat) {tag : List Byte} (body : List Byte) (ht : tag.length = 16) :
    Same (tagged code crit slot n tag body) (plain code crit slot n body) := by
  have hl := igHead_len code crit slot n body.length
  refine ⟨?_, ?_, ?_⟩
  · simp [tagged, plain, hl]
  · simp [tagged, plain, hl, List.drop_append, ht]
  · simp [tagged, plain, ht]
    omega

theorem tagged_tag (code crit slot n : Nat) {tag : List Byte} (body : List Byte) (ht : tag.length = 16) :
    ((tagged code crit slot n tag body).drop 0x20).take 16 = tag := by
  have hl := igHead_len code crit slot n body.length
  simp [tagged, hl, ht]

theorem portMsg_tagged (code crit slot n : Nat) (tag body : List Byte) : portMsg code (tagged code crit slot n tag body) = tagged code crit slot n tag body := by
  simp [portMsg, tagged, igHead, leBytes]

theorem portMsg_plain (code crit slot n : Nat) (body : List Byte) : portMsg code (plain code crit slot n body) = plain code crit slot n body := by
  simp [portMsg, plain, igHead, leBytes]

theorem same_tag {m z : List Byte} (h : Same m z) (key : List Byte) : igTag key m = igTag key z := by
  unfold igTag
  rw [h.front, h.back]

theorem same_heard {m z : List Byte} (h : Same m z) (s : State) : heard m s = heard z s := by
  unfold heard
  rw [same_field h 0x18 6 (by omega)]

theorem same_critical {m z : List Byte} (h : Same m z) : igCritical m = igCritical z := by
  unfold igCritical
  rw [same_field h 2 1 (by omega)]

theorem same_body {m z : List Byte} (h : Same m z) : igBodyBytes m = igBodyBytes z := by
  simp only [igBodyBytes, igCode, same_field h 0 2 (by omega), same_field h 0x30 2 (by omega), same_field h 0x34 2 (by omega)]

theorem same_malformed {m z : List Byte} (h : Same m z) : igMalformed m m.length = igMalformed z z.length := by
  simp only [igMalformed, same_body h, igBodyReserved, igCountBad, igCritical, igCode, h.size, same_field h 0 2 (by omega), same_field h 2 1 (by omega),
    same_field h 3 1 (by omega), same_field h 4 2 (by omega), same_field h 6 2 (by omega), same_field h 0x1E 2 (by omega), same_field h 0x10 8 (by omega),
    same_field h 0x30 2 (by omega), same_field h 0x31 1 (by omega), same_field h 0x31 7 (by omega), same_field h 0x32 6 (by omega), same_field h 0x34 2 (by omega),
    same_field h 0x34 4 (by omega), same_field h 0x36 2 (by omega), same_field h 0x38 8 (by omega)]

theorem same_may {m z : List Byte} (h : Same m z) (s : State) (k : Nat) : slotMay s k m = slotMay s k z := by
  simp only [slotMay, same_field h 0 2 (by omega), same_field h 0x30 1 (by omega), same_field h 0x30 2 (by omega)]

/-- Everything but the TAG that Table 13.13 asks of a message. -/
def passesB (z key : List Byte) (s : State) : Bool :=
  let x := getSlot (heard z s) (plField z 3 1)
  portAnswers s && !igMalformed z z.length && igCritical z && !x.keys.isEmpty && !x.locked && x.limited.isNone && slotMay (heard z s) (plField z 3 1) z &&
  currentKey (heard z s) (plField z 3 1) == key && decide (x.last < plField z 0x10 8) && igPhaseOk (heard z s) (igCode z) &&
  decide (plField z 0x10 8 ≤ counterEnd) && decide (plField z 0x10 8 ≤ x.reserved)

theorem critical_runs {code slot n : Nat} {key body : List Byte} {s : State} (h : passesB (plain code 1 slot n body) key s = true) :
    CriticalRuns code (signed code slot n key body) s := by
  have hs : Same (signed code slot n key body) (plain code 1 slot n body) := tagged_same code 1 slot n body (igTag_len _ _)
  have ht : ((signed code slot n key body).drop 0x20).take 16 = igTag key (plain code 1 slot n body) := tagged_tag code 1 slot n body (igTag_len _ _)
  have hm : portMsg code (signed code slot n key body) = signed code slot n key body := portMsg_tagged code 1 slot n _ body
  simp only [passesB, Bool.and_eq_true, Bool.not_eq_true', beq_iff_eq, decide_eq_true_eq, Option.isNone_iff_eq_none] at h
  obtain ⟨⟨⟨⟨⟨⟨⟨⟨⟨⟨⟨h1, h2⟩, h3⟩, h4⟩, h5⟩, h6⟩, h7⟩, h8⟩, h9⟩, h10⟩, h11⟩, h12⟩ := h
  refine ⟨h1, ?_, ?_, ?_, ?_⟩
  · rw [hm, same_malformed hs, h2]
  · rw [hm, same_critical hs, h3]
  · rw [hm, same_heard hs]
    simp only [criticalRefusal, same_field hs 3 1 (by omega), same_field hs 0x10 8 (by omega), same_may hs, igCode, same_field hs 0 2 (by omega), same_tag hs, ht]
    simp only [igCode] at h10
    simp [h4, h5, h6, h7, h8, h10, Nat.not_le.2 h9, Nat.not_lt.2 h11, Nat.not_lt.2 h12]
  · rw [hm, same_heard hs]
    simp only [thermometerFault, same_field hs 3 1 (by omega), same_field hs 0x10 8 (by omega), h12, if_true]

/-- A key, and a module whose slot 0 holds it, with LAST 5 and RESERVED 4096, in a phase. -/
def key7 : List Byte := List.replicate 32 7
def keyed (phase : Nat) : State :=
  { on with keeper := { Keeper.initial with phase := phase, slots := [(0, { slotInit with keys := [key7], bits := [0], last := 5, reserved := 4096 })] } }

/-- A body of the size that a command calls for. -/
def bodyOf (code : Nat) : List Byte :=
  match code with
  | 0x01 | 0x32 => []
  | 0x02 => leBytes 8 1 ++ leBytes 8 0
  | 0x03 => leBytes 8 1 ++ leBytes 16 0
  | 0x30 => leBytes 4 736 ++ leBytes 4 2 ++ leBytes 8 0
  | 0x31 => leBytes 4 0 ++ leBytes 4 1 ++ [9]
  | 0x50 => leBytes 8 1 ++ List.replicate 32 3
  | 0x51 => List.replicate 112 0
  | 0x20 => leBytes 2 0x3FF ++ leBytes 6 3600
  | _ => leBytes 8 0

theorem not_self : ∀ a : BitVec 8, a ≠ ~~~a := by decide +kernel

theorem wrong_tag {code slot n : Nat} {key body : List Byte} :
    igTag key (tagged code 1 slot n ((tagOf code slot n key body).map (~~~ ·)) body) ≠
      ((tagged code 1 slot n ((tagOf code slot n key body).map (~~~ ·)) body).drop 0x20).take 16 := by
  have hl : ((tagOf code slot n key body).map (~~~ ·)).length = 16 := by simp [tagOf, igTag_len]
  rw [tagged_tag code 1 slot n body hl, same_tag (tagged_same code 1 slot n body hl)]
  intro h
  have h16 : (tagOf code slot n key body).length = 16 := igTag_len _ _
  change tagOf code slot n key body = _ at h
  generalize tagOf code slot n key body = l at h h16
  cases l with
  | nil => simp at h16
  | cons a l =>
    simp only [List.map_cons, List.cons.injEq] at h
    exact not_self a h.1

/-- The commands that are not critical. -/
def basics : List Nat := [0x01, 0x02, 0x03, 0x10, 0x11, 0x21, 0x31, 0x32, 0x51]
/-- The critical ones. -/
def criticals : List Nat := [0x20, 0x30, 0x40, 0x50, 0x60]

/-- A well-formed critical message of slot 0 with a wrong TAG. -/
def wrong (code : Nat) : List Byte := tagged code 1 0 6 ((tagOf code 0 6 key7 (bodyOf code)).map (~~~ ·)) (bodyOf code)

theorem wrong_comes (code : Nat) (s : State) (hs : portAnswers s = true)
    (h : igMalformed (plain code 1 0 6 (bodyOf code)) (plain code 1 0 6 (bodyOf code)).length = false ∧ igCritical (plain code 1 0 6 (bodyOf code)) = true) :
    CriticalComes code (wrong code) s := by
  have hl : ((tagOf code 0 6 key7 (bodyOf code)).map (~~~ ·)).length = 16 := by simp [tagOf, igTag_len]
  have e := tagged_same code 1 0 6 (bodyOf code) hl
  have hm : portMsg code (wrong code) = wrong code := portMsg_tagged code 1 0 6 _ _
  refine ⟨hs, ?_, ?_⟩
  · rw [hm, wrong, same_malformed e, h.1]
  · rw [hm, wrong, same_critical e, h.2]

theorem wrong_may (code : Nat) (h : slotMay (keyed 7) 0 (plain code 1 0 6 (bodyOf code)) = true) : slotMay (keyed 7) 0 (portMsg code (wrong code)) = true := by
  have hl : ((tagOf code 0 6 key7 (bodyOf code)).map (~~~ ·)).length = 16 := by simp [tagOf, igTag_len]
  rw [wrong, portMsg_tagged, same_may (tagged_same code 1 0 6 (bodyOf code) hl), h]

/-- The packet that carries a message to tile 30. -/
def igPkt (code : Nat) : Packet := pkt 0x40 30 7 false 0 0 0 0 (plain code 0 0 0 (bodyOf code))

set_option maxRecDepth 100000 in
theorem witness_CommandsTurnedAway :
    (Instr.igIdentify, 0x01) ∈ [(Instr.igIdentify, 0x01)] ∧ portAnswers on = true ∧
    (∀ c ∈ basics, igMalformed (portMsg c []) (portMsg c []).length = true ∧ igIsCritical c = false) ∧
    (∀ c ∈ criticals, ∀ m, m = portMsg c [0, 0, 1] → igMalformed m m.length = true ∧ igCritical m = true) ∧
    (∀ c ∈ criticals, igMalformed (portMsg c []) (portMsg c []).length = true ∧ igCritical (portMsg c []) = false ∧ igIsCritical c = true) ∧
    (∀ c ∈ basics ++ criticals, igMalformed (portMsg c (plain c 0 0 0 (bodyOf c))) (portMsg c (plain c 0 0 0 (bodyOf c))).length = false ∧
      igCritical (portMsg c (plain c 0 0 0 (bodyOf c))) = false ∧ igIsCritical c = criticals.contains c) ∧
    (∀ c ∈ basics, portAnswers (keyed 1) = true ∧ igPhaseOk (keyed 1) c = false) ∧
    (∀ c ∈ criticals, CriticalComes c (wrong c) on ∧ CriticalComes c (wrong c) (keyed 7) ∧ (getSlot on 0).keys = [] ∧
      (getSlot (keyed 7) 0).keys ≠ [] ∧ (getSlot (keyed 7) 0).locked = false ∧ (getSlot (keyed 7) 0).limited = none ∧
      slotMay (keyed 7) 0 (portMsg c (wrong c)) = true ∧ currentKey (keyed 7) 0 = key7 ∧ igTag key7 (wrong c) ≠ ((wrong c).drop 0x20).take 16) ∧
    (let s := { keyed 7 with keeper := { (keyed 7).keeper with slots := [(0, { slotInit with keys := [key7], locked := true })] } };
      (getSlot s 0).keys ≠ [] ∧ (getSlot s 0).locked = true ∧ portAnswers s = true) ∧
    (∀ c ∈ [0x01, 0x60], Comes 0x40 (igPkt c) 30 (flowRx 0) (withFlows on 30) ∧ igCode (igPkt c).payload = c ∧ (withFlows on 30).keeper.phase ≠ 9) := by
  refine ⟨by simp, by decide +kernel, by decide +kernel, fun c hc m hm => by subst hm; revert c; decide +kernel, by decide +kernel, by decide +kernel,
    by decide +kernel, fun c hc => ?_, by decide +kernel, fun c hc => ⟨comes ?_, ?_, by decide +kernel⟩⟩
  · have h : ∀ c ∈ criticals, (igMalformed (plain c 1 0 6 (bodyOf c)) (plain c 1 0 6 (bodyOf c)).length = false ∧ igCritical (plain c 1 0 6 (bodyOf c)) = true) ∧
        slotMay (keyed 7) 0 (plain c 1 0 6 (bodyOf c)) = true := by decide +kernel
    exact ⟨wrong_comes c on (by decide +kernel) (h c hc).1, wrong_comes c (keyed 7) (by decide +kernel) (h c hc).1, by decide +kernel, by decide +kernel, by decide +kernel,
      by decide +kernel, wrong_may c (h c hc).2, by decide +kernel, wrong_tag⟩
  · revert c; decide +kernel
  · revert c; decide +kernel

/-- The bodies of the basic commands' witnesses. -/
def leaseBody : List Byte := [7, 0] ++ leBytes 2 (3 * 8192 + 2 * 256) ++ leBytes 2 600 ++ [0, 0]
def govBody : List Byte := leBytes 8 1 ++ leBytes 8 (gpaMake 0 30 0 3 0x600000) ++ leBytes 8 (gov 600 1000 800 500).toNat
def readBody : List Byte := leBytes 8 1 ++ leBytes 8 (gpaMake 0 30 0 3 0x600000)
def benchBody : List Byte := leBytes 8 1 ++ leBytes 8 (gpaMake 0 3 0 1 0x100)
def provisionBody : List Byte := List.replicate 32 1 ++ List.replicate 32 2 ++ List.replicate 48 3

/-- Whether a basic command runs. -/
def basicB (code : Nat) (body : List Byte) (s : State) : Bool :=
  portAnswers s && !igMalformed (plain code 0 0 0 body) (plain code 0 0 0 body).length && !igCritical (plain code 0 0 0 body) && igPhaseOk s code

theorem basic_runs {code : Nat} {body : List Byte} {s : State} (h : basicB code body s = true) : BasicRuns code (plain code 0 0 0 body) s := by
  simp only [basicB, Bool.and_eq_true, Bool.not_eq_true'] at h
  refine ⟨h.1.1.1, ?_, ?_, h.2⟩
  · rw [portMsg_plain, h.1.1.2]
  · rw [portMsg_plain, h.1.2]

/-- The module with an expert enable of the service port, an explicit lease, and a session. -/
def enabledS : State := { on with keeper := { on.keeper with enables := [(0, ⟨.servicePort, 0x3FF, 3600000000000, 0⟩)] } }
/-- The module with tile 3 in service and the first group of its cores in nap. -/
def napS : State := { enabledS with tiles := [(3, { tileInit with inService := true })], groups := [(12, { groupInit with pstate := .nap })] }
def leasedS : State := leased [lease (.explicit .servicePort [] 5) 7] [] []
def session (x : StarterSession) (copyB window : Bool) (a : List Byte) : State :=
  { on with keeper := { on.keeper with session := some x, copyB := copyB, flash := flashOf a, verify1 := some (sha384 signer) }
            power := { Power.initial with flashWindow := window } }

/-- A LEASE_TAKE of tile 0 for a time out of range, without and with a lease that conflicts. -/
theorem witness_LeaseTimes : ∀ n ∈ [0, 601], ∀ s ∈ [on, leasedS], ∀ b, b = plain 0x10 0 0 0 ([7, 0] ++ leBytes 2 (3 * 8192) ++ leBytes 2 n ++ [0, 0]) →
    BasicRuns 0x10 b s ∧ plField (portMsg 0x10 b) 0x30 1 = 7 ∧ scopeOk 7 (plField (portMsg 0x10 b) 0x32 2) = true ∧ plField (portMsg 0x10 b) 0x34 2 = n ∧
    (leaseDecide s 7 (nbits (plField (portMsg 0x10 b) 0x32 2) 12 8) (nbits (plField (portMsg 0x10 b) 0x32 2) 7 0) = .conflict ↔ s = leasedS) := by
  intro n hn s hs b hb
  subst hb
  refine ⟨basic_runs ?_, ?_, ?_, ?_, ?_⟩
  all_goals revert n s; decide +kernel

theorem witness_BasicCommands :
    BasicRuns 0x01 (plain 1 0 0 0 []) on ∧
    (BasicRuns 0x02 (plain 2 0 0 0 readBody) on ∧ plField (portMsg 2 (plain 2 0 0 0 readBody)) 0x30 2 = 1 ∧
      igAddrOk on (plField (portMsg 2 (plain 2 0 0 0 readBody)) 0x38 8) = true ∧
      ∃ v t, pathRead (heard (portMsg 2 (plain 2 0 0 0 readBody)) on) .servicePort (plField (portMsg 2 (plain 2 0 0 0 readBody)) 0x38 8) = some (v, t)) ∧
    (BasicRuns 0x02 (plain 2 0 0 0 benchBody) napS ∧ plField (portMsg 2 (plain 2 0 0 0 benchBody)) 0x30 2 = 1 ∧
      igAddrOk napS (plField (portMsg 2 (plain 2 0 0 0 benchBody)) 0x38 8) = true ∧
      pathRead (heard (portMsg 2 (plain 2 0 0 0 benchBody)) napS) .servicePort (plField (portMsg 2 (plain 2 0 0 0 benchBody)) 0x38 8) = none) ∧
    (BasicRuns 0x03 (plain 3 0 0 0 govBody) enabledS ∧ plField (portMsg 3 (plain 3 0 0 0 govBody)) 0x30 2 = 1 ∧
      igAddrOk enabledS (plField (portMsg 3 (plain 3 0 0 0 govBody)) 0x38 8) = true ∧
      ∃ t, pathWrite (heard (portMsg 3 (plain 3 0 0 0 govBody)) enabledS) .servicePort (plField (portMsg 3 (plain 3 0 0 0 govBody)) 0x38 8)
        (BitVec.ofNat 64 (plField (portMsg 3 (plain 3 0 0 0 govBody)) 0x40 8)) = some t ∧ codeFailed t.lastCode = false) ∧
    (BasicRuns 0x10 (plain 0x10 0 0 0 leaseBody) on ∧ scopeOk 7 (plField (portMsg 0x10 (plain 0x10 0 0 0 leaseBody)) 0x32 2) = true ∧
      plField (portMsg 0x10 (plain 0x10 0 0 0 leaseBody)) 0x30 1 = 7 ∧ plField (portMsg 0x10 (plain 0x10 0 0 0 leaseBody)) 0x34 2 = 600 ∧
      Grants on 7 (nbits (plField (portMsg 0x10 (plain 0x10 0 0 0 leaseBody)) 0x32 2) 12 8) (nbits (plField (portMsg 0x10 (plain 0x10 0 0 0 leaseBody)) 0x32 2) 7 0)) ∧
    (BasicRuns 0x11 (plain 0x11 0 0 0 (leBytes 8 0)) leasedS ∧ lease (.explicit .servicePort [] 5) 7 ∈ leasedS.topo.leases ∧
      leaseExplicit (lease (.explicit .servicePort [] 5) 7) = true ∧ (lease (.explicit .servicePort [] 5) 7).id = plField (portMsg 0x11 (plain 0x11 0 0 0 (leBytes 8 0))) 0x30 2) ∧
    (BasicRuns 0x21 (plain 0x21 0 0 0 (leBytes 8 0xFF)) on ∧ plField (portMsg 0x21 (plain 0x21 0 0 0 (leBytes 8 0xFF))) 0x30 1 = 0xFF) ∧
    (∀ b w, let s := session ⟨.servicePort, 736, 1, 735, 0⟩ b w []; let m := plain 0x31 0 0 0 (leBytes 4 735 ++ leBytes 4 1 ++ [9]);
      BasicRuns 0x31 m s ∧ plField (portMsg 0x31 m) 0x30 4 = 735 ∧ 735 + plField (portMsg 0x31 m) 0x34 2 ≤ 736 ∧ s.power.flashWindow = w ∧ s.keeper.copyB = b) ∧
    (let s := session ⟨.servicePort, 736, 1, 736, 0⟩ true true good; BasicRuns 0x32 (plain 0x32 0 0 0 []) s ∧ s.keeper.copyB = true ∧ s.keeper.flash.copyA = good ∧
      copyValid s good = true ∧ copySeq good = 1 ∧ s.keeper.phase = 7) ∧
    (∀ x ∈ [(⟨.servicePort, 736, 1, 735, 0⟩ : StarterSession), ⟨.servicePort, 736, 2, 736, 0⟩], let s := session x true true good;
      BasicRuns 0x32 (plain 0x32 0 0 0 []) s ∧ s.keeper.session = some x ∧ x.who = .servicePort ∧ (x.written ≠ x.bytes ∨ copySeq good ≠ x.sequence)) ∧
    copyValid (session ⟨.servicePort, 736, 1, 736, 0⟩ true true []) [] = false ∧
    (let m := portMsg 0x51 (plain 0x51 0 0 0 provisionBody); BasicRuns 0x51 (plain 0x51 0 0 0 provisionBody) on ∧ (getSlot on 0).keys = [] ∧
      ((m.drop 0x30).take 32).all (· == 0) = false ∧ ((m.drop 0x50).take 32).all (· == 0) = false ∧ (m.drop 0x30).take 32 ≠ (m.drop 0x50).take 32 ∧
      ((m.drop 0x70).take 48).all (· == 0) = false ∧ on.keeper.verify1 = none) := by
  have hv := copies_valid
  simp only [Bool.and_eq_true] at hv
  refine ⟨basic_runs (by decide +kernel), ⟨basic_runs (by decide +kernel), by decide +kernel, by decide +kernel, _, _, rfl⟩,
    ⟨basic_runs (by decide +kernel), by decide +kernel⟩, ⟨basic_runs (by decide +kernel), by decide +kernel, by decide +kernel, ?_⟩,
    ⟨basic_runs (by decide +kernel), by decide +kernel, by decide +kernel, by decide +kernel, by unfold Grants; decide +kernel⟩,
    ⟨basic_runs (by decide +kernel), by decide +kernel⟩, ⟨basic_runs (by decide +kernel), by decide +kernel⟩,
    fun b w => ⟨basic_runs ?_, by decide +kernel, by decide +kernel, rfl, rfl⟩,
    ⟨basic_runs (by decide +kernel), rfl, rfl, (valid_of good rfl).trans hv.1, by decide +kernel, rfl⟩,
    fun x hx => ⟨basic_runs ?_, rfl, ?_, ?_⟩, (valid_of [] rfl).trans copies_blank, ⟨basic_runs (by decide +kernel), by decide +kernel⟩⟩
  · refine ⟨_, Option.eq_some_of_isSome (?_ : Option.isSome _ = true), ?_⟩ <;> decide +kernel
  · revert b w; decide +kernel
  · revert x; decide +kernel
  · revert x; decide +kernel
  · revert x; decide +kernel

/-- A critical message of slot 0 with the counter 6. -/
def crit (code : Nat) (body : List Byte) (counter : Nat := 6) : List Byte := signed code 0 counter key7 body

theorem crit_port (code : Nat) (body : List Byte) (counter : Nat) : portMsg code (crit code body counter) = crit code body counter :=
  portMsg_tagged code 1 0 counter _ _

theorem crit_field {code counter : Nat} {body : List Byte} (off n : Nat) (ho : off + n ≤ 32 ∨ 48 ≤ off) :
    plField (portMsg code (crit code body counter)) off n = plField (plain code 1 0 counter body) off n := by
  rw [crit_port]
  exact same_field (tagged_same code 1 0 counter body (igTag_len _ _)) off n ho

theorem crit_rolled {body : List Byte} {counter : Nat} (s : State) :
    rolledKey 0 (portMsg 0x50 (crit 0x50 body counter)) s = rolledKey 0 (plain 0x50 1 0 counter body) s := by
  have e := tagged_same 0x50 1 0 counter body (igTag_len key7 (plain 0x50 1 0 counter body))
  have d : ∀ l : List Byte, l.drop 0x38 = (l.drop 48).drop 8 := fun l => by rw [List.drop_drop]
  have t : ∀ l : List Byte, (l.drop 0x10).take 8 = ((l.take 32).drop 0x10).take 8 := fun l => by simp [List.drop_take, List.take_take]
  unfold rolledKey
  rw [crit_field 0x30 1 (by omega), crit_port, d, d (plain _ _ _ _ _), t, t (plain _ _ _ _ _)]
  change Same (crit 0x50 body counter) _ at e
  rw [e.front, e.back]

/-- The module with one enable in force, and the same with a rate limit and a session. -/
def keyedOn : State := { keyed 7 with keeper := { (keyed 7).keeper with enables := [(0, ⟨.servicePort, 1, 900, 0⟩)] } }

/-- A ROLLOVER of slot 0 or 1 by slot 0 with COUNTER at END, all of whose counters are reserved. -/
theorem witness_RolloverEnd : ∀ t ∈ [0, 1], ∀ s, s = { keyed 7 with keeper := { (keyed 7).keeper with
      slots := [(0, { slotInit with keys := [key7], bits := [0], last := 5, reserved := counterEnd })] } } →
    ∀ b, b = leBytes 8 t ++ List.replicate 32 3 → CriticalRuns 0x50 (crit 0x50 b counterEnd) s ∧
    plField (portMsg 0x50 (crit 0x50 b counterEnd)) 0x30 1 = t ∧ (getSlot s t).keys.length < 8 ∧ plField (portMsg 0x50 (crit 0x50 b counterEnd)) 3 1 = 0 ∧
    plField (portMsg 0x50 (crit 0x50 b counterEnd)) 0x10 8 = counterEnd ∧ (rolledKey 0 (portMsg 0x50 (crit 0x50 b counterEnd)) s).all (· == 0) = false := by
  intro t ht s hs b hb
  subst hs hb
  refine ⟨critical_runs ?_, ?_, ?_, ?_, ?_, ?_⟩
  · revert t; decide +kernel
  · rw [crit_field _ _ (by omega)]; revert t; decide +kernel
  · revert t; decide +kernel
  · rw [crit_field _ _ (by omega)]; revert t; decide +kernel
  · rw [crit_field _ _ (by omega)]; revert t; decide +kernel
  · rw [crit_rolled]; revert t; decide +kernel

theorem witness_CriticalCommands :
    (CriticalRuns 0x20 (crit 0x20 (bodyOf 0x20)) keyedOn ∧ plField (portMsg 0x20 (crit 0x20 (bodyOf 0x20))) 0x30 2 < 1024 ∧
      1 ≤ plField (portMsg 0x20 (crit 0x20 (bodyOf 0x20))) 0x32 2 ∧ plField (portMsg 0x20 (crit 0x20 (bodyOf 0x20))) 0x32 2 ≤ 3600 ∧ (1 : Nat) < 4 ∧
      (∀ e ∈ keyedOn.keeper.enables, e.1 ≠ 1) ∧ (∀ j, j < 1 → ∃ e ∈ keyedOn.keeper.enables, e.1 = j)) ∧
    (CriticalRuns 0x30 (crit 0x30 (bodyOf 0x30)) (keyed 7) ∧ (keyed 7).keeper.session = none ∧ 736 ≤ plField (portMsg 0x30 (crit 0x30 (bodyOf 0x30))) 0x30 4 ∧
      plField (portMsg 0x30 (crit 0x30 (bodyOf 0x30))) 0x30 4 ≤ 33554432 ∧
      seqLater (plField (portMsg 0x30 (crit 0x30 (bodyOf 0x30))) 0x34 4) (keyed 7).keeper.starterSeq = true ∧ Grants (keyed 7) 9 0 0) ∧
    (CriticalRuns 0x40 (crit 0x40 (bodyOf 0x40)) (keyed 7) ∧ plField (portMsg 0x40 (crit 0x40 (bodyOf 0x40))) 0x30 8 < 2 ^ 47 ∧ (keyed 7).adm.queue.length < 64) ∧
    (CriticalRuns 0x50 (crit 0x50 (bodyOf 0x50)) (keyed 7) ∧ plField (portMsg 0x50 (crit 0x50 (bodyOf 0x50))) 0x30 1 = 1 ∧ (getSlot (keyed 7) 1).keys.length < 8 ∧
      plField (portMsg 0x50 (crit 0x50 (bodyOf 0x50))) 3 1 = 0 ∧ (rolledKey 0 (portMsg 0x50 (crit 0x50 (bodyOf 0x50))) (keyed 7)).all (· == 0) = false) ∧
    (∀ n ∈ [0, 1], CriticalRuns 0x60 (crit 0x60 (leBytes 8 n)) (keyed 8) ∧ plField (portMsg 0x60 (crit 0x60 (leBytes 8 n))) 0x30 1 = n) ∧
    keyedOn.keeper.enables.find? (fun p => p.1 == (0 : Fin 4).val) = some (0, ⟨.servicePort, 1, 900, 0⟩) ∧
    (session ⟨.servicePort, 736, 1, 735, 0⟩ true true []).keeper.session = some ⟨.servicePort, 736, 1, 735, 0⟩ ∧
    (getSlot { on with keeper := { on.keeper with slots := [(0, { slotInit with limited := some 500 })] } } (0 : Fin 4).val).limited = some 500 := by
  refine ⟨⟨critical_runs (by decide +kernel), ?_, ?_, ?_, by decide, by decide, ?_⟩, ⟨critical_runs (by decide +kernel), rfl, ?_, ?_, ?_, ?_⟩,
    ⟨critical_runs (by decide +kernel), ?_, by decide⟩, ⟨critical_runs (by decide +kernel), ?_, by decide, ?_, ?_⟩, fun n hn => ⟨critical_runs ?_, ?_⟩, rfl, rfl, rfl⟩
  · rw [crit_field _ _ (by omega)]; decide +kernel
  · rw [crit_field _ _ (by omega)]; decide +kernel
  · rw [crit_field _ _ (by omega)]; decide +kernel
  · intro j hj
    exact ⟨(0, ⟨.servicePort, 1, 900, 0⟩), by simp [keyedOn], by simp only; omega⟩
  · rw [crit_field _ _ (by omega)]; decide +kernel
  · rw [crit_field _ _ (by omega)]; decide +kernel
  · rw [crit_field _ _ (by omega)]; decide +kernel
  · unfold Grants; decide +kernel
  · rw [crit_field _ _ (by omega)]; decide +kernel
  · rw [crit_field _ _ (by omega)]; decide +kernel
  · rw [crit_field _ _ (by omega)]; decide +kernel
  · rw [crit_rolled]; decide +kernel
  · revert n; decide +kernel
  · rw [crit_field _ _ (by omega)]; revert n; decide +kernel

/-- REG_WRITE over the service port writes GOV_CTRL under the expert level, and LEASE_TAKE grants a lease for 600 s. -/
theorem test_reg_write : (match exec (.igRegWrite (.port (plain 3 0 0 0 govBody))) enabledS, exec (.igLeaseTake (.port (plain 0x10 0 0 0 leaseBody))) on with
    | .next t, .next u => (fld t.power.govCtrl 63 48, t.lastCode, u.topo.leases.map (fun l => (l.activity, l.tile, l.time))) | _, _ => (0, .rejected, [])) =
    (600, .ok, [(7, 2, 600000000000)]) := by decide +kernel

/-- PROVISION sets the owner's key in slot 0 and the recovery key in slot 3 (R444). -/
theorem test_provision : (match exec (.igProvision (.port (plain 0x51 0 0 0 provisionBody))) on with
    | .next t => ((getSlot t 0).keys, (getSlot t 3).keys) | _ => ([], [])) = ([List.replicate 32 1], [List.replicate 32 2]) := by decide +kernel

/-- A message that is too short ends with REJECTED. -/
theorem test_malformed : (match exec (.igIdentify (.port [])) on with | .next t => t.lastCode | _ => .ok) = .rejected := by decide +kernel

/-! ### Witnesses: firmware, connector, events, registers -/

/-- A copy whose only section is four bytes of firmware. -/
def fwCopy : List Byte :=
  List.replicate 12 0 ++ leBytes 4 736 ++ List.replicate 112 0 ++ leBytes 4 2 ++ leBytes 4 512 ++ leBytes 4 4 ++ List.replicate 372 0 ++ [1, 2, 3, 4] ++ List.replicate 220 0

/-- The module whose service firmware runs. -/
def fwS (restarts refusals : List Nat) (ev : Option Nat) (seq : BitVec 32) : State :=
  { on with keeper := { on.keeper with flash := flashOf fwCopy, fw := ⟨true, false, [9], some 10, restarts, refusals, ev, .ok, []⟩ }
            log := { State.reset.log with seq := seq } }

theorem witness_FirmwareRequests :
    (∀ r ∈ [[], [1, 2]], ∀ f ∈ [[], List.replicate 15 0], ∀ e ∈ [none, some 0], ∀ q ∈ [(5 : BitVec 32), 20000], FirmwareRuns (fwS r f e q)) ∧
    (32 < (List.replicate 33 (0 : BitVec 64)).length ∧ (6 : BitVec 8) ≠ 1 ∧ (fwS [] [] none 5).keeper.reads = [] ∧
      gModule (0x4601000000000 : BitVec 64).toNat ≠ (fwS [] [] none 5).myModule ∧
      (∀ a ∈ [gpaMake 0 3 0 1 0, gpaMake 0 3 0 2 0x6000, gpaMake 0 30 0 3 0x600000], gModule (BitVec.ofNat 64 a).toNat = (fwS [] [] none 5).myModule) ∧
      gSpace (BitVec.ofNat 64 (gpaMake 0 3 0 1 0)).toNat = 1 ∧
      (∀ a ∈ [gpaMake 0 3 0 2 0x6000, gpaMake 0 30 0 3 0x600000], gSpace (BitVec.ofNat 64 a).toNat ≠ 1) ∧
      (pathRead (fwS [] [] none 5) .firmware (BitVec.ofNat 64 (gpaMake 0 30 0 3 0x600000)).toNat).isSome = true ∧
      pathRead { fwS [] [] none 5 with groups := [(12, { groupInit with pstate := .nap })] } .firmware (BitVec.ofNat 64 (gpaMake 0 3 0 2 0x6000)).toNat = none) ∧
    (∀ s, s = { fwS [] [] none 5 with keeper := { (fwS [] [] none 5).keeper with reads := [⟨.firmware, [], [0], [], .ok⟩] } } →
      FirmwareRuns s ∧ ∃ w ∈ s.keeper.reads, w.who = .firmware) ∧
    ((0 < serialDiff 32 (5 : BitVec 32).toNat (4 : BitVec 32).toNat ∧ serialDiff 32 (5 : BitVec 32).toNat (4 : BitVec 32).toNat ≤ 16384) ∧
      ¬ (0 < serialDiff 32 (5 : BitVec 32).toNat (5 : BitVec 32).toNat) ∧ ¬ (serialDiff 32 (20000 : BitVec 32).toNat (0 : BitVec 32).toNat ≤ 16384)) ∧
    ((fwS [] [] none 5).keeper.fw.due = some 10 ∧ 3 ≤ (restartsAt (fwS [1, 2] [] none 5) 10).length ∧ (restartsAt (fwS [] [] none 5) 10).length < 3 ∧
      copySection (runningCopy (fwS [] [] none 5)) 2 = some [1, 2, 3, 4]) ∧
    ((refusalsAt (fwS [] [] none 5)).length < 16 ∧ (fwS [] [] none 5).keeper.fw.guardEvent = none ∧ (fwS [] [] (some 0) 5).keeper.fw.guardEvent = some 0 ∧
      (refusalsAt (fwS [] [] (some 0) 5)).length < 16 ∧ (fwS [] [] (some 0) 5).now < 0 + 1000000 ∧ 16 ≤ (refusalsAt (fwS [] (List.replicate 15 0) none 5)).length) := by
  refine ⟨?_, by decide +kernel, fun s hs => by subst hs; exact ⟨⟨rfl, rfl⟩, by decide +kernel⟩, by decide +kernel, by decide +kernel, by decide +kernel⟩
  intro r _ f _ e _ q _
  exact ⟨rfl, rfl⟩

/-- The third restart within 600 s leaves the firmware halted, and the 16th refusal restarts it (R418). -/
theorem test_firmware : (match exec .heartbeatTimeout (fwS [1, 2] [] none 5), exec (.guardViolation 1 true 0x44) (fwS [] (List.replicate 15 0) none 5) with
    | .next t, .next u => (t.keeper.fw.halted, t.keeper.fw.running, u.keeper.fw.restarts, u.keeper.fw.memory) | _, _ => (false, true, [], [])) =
    (true, false, [0], [1, 2, 3, 4]) := by decide +kernel

/-- The module with a reply of 300 bytes waiting, an alert, and a message half received. -/
def portS : State :=
  { on with keeper := { on.keeper with port := ⟨[1, 0], 2, some (List.replicate 300 7), 1, false, []⟩ }, log := { State.reset.log with alert := 1 } }

theorem witness_ServiceConnector :
    (portAnswers on = true ∧ portAnswers portS = true ∧ portS.keeper.port.reply = some (List.replicate 300 7) ∧ on.keeper.port.reply = none ∧
      portS.log.alert ≠ 0 ∧ on.log.alert = 0) ∧
    ((List.replicate 240 (0 : BitVec 8)).length ≤ 240 ∧ (fld (1 : BitVec 8) 6 0 ≠ 0 ∧ fld (1 : BitVec 8) 6 0 ≠ portS.keeper.port.next) ∧
      (fld (2 : BitVec 8) 6 0 = portS.keeper.port.next ∧ fld (2 : BitVec 8) 6 0 ≠ 0 ∧ bit (2 : BitVec 8) 7 = false) ∧
      (fld (0 : BitVec 8) 6 0 = 0 ∧ bit (0 : BitVec 8) 7 = false) ∧ (fld (0x80 : BitVec 8) 6 0 = 0 ∧ bit (0x80 : BitVec 8) 7 = true)) ∧
    portAnswers State.reset = false ∧
    (on.pins.powered = true ∧ debugPort on = false ∧ (debugOn on).pins.powered = true ∧ debugPort (debugOn on) = true ∧
      (∃ code, JtagIns.other code ∈ List.replicate 24 .idcode ++ [JtagIns.other 5])) ∧
    (jtagLoaded (List.replicate 25 .idcode) = List.replicate 25 .idcode ∧ jtagLoaded (List.replicate 25 (.other 5)) = List.replicate 25 .bypass ∧
      jtagLoaded (.samplePreload :: List.replicate 24 .bypass) = .samplePreload :: List.replicate 24 .bypass ∧
      (jtagLoaded (.extest :: List.replicate 24 .bypass)).headD .bypass = .extest ∧ on.pins.resetN = false) :=
  ⟨by decide +kernel, by decide +kernel, by decide +kernel, ⟨by decide +kernel, by decide +kernel, by decide +kernel, by decide +kernel, 5, by decide⟩,
    by decide +kernel⟩

/-- The second fragment of a reply of 300 bytes is its last, of 60 bytes (R429). -/
theorem test_reply_read : (match exec .smbusReplyRead portS with
    | .next t => (t.keeper.port.out.take 2, t.keeper.port.out.length, t.keeper.port.reply) | _ => ([], 0, none)) = ([0x81, 7], 61, none) := by decide +kernel

/-- A private JTAG instruction acts as BYPASS without the DEBUG enable, and is refused with it (R480). -/
theorem test_jtag : (match exec (.jtagInstruction ⟨.other 5 :: List.replicate 24 .idcode, 0, 0⟩) on,
      exec (.jtagInstruction ⟨List.replicate 24 .idcode ++ [.other 5], 0, 0⟩) (debugOn on) with
    | .next t, .refused .jtagPrivate => t.pins.jtag.take 2 | _, _ => []) = [.bypass, .idcode] := by decide +kernel

/-- The module with one staged record of the hearth. -/
def stagedEv : State := { on with stages := [(30, ⟨[mkEv 0x0A08 clsNotice 0 7 30 0 1 2], 0⟩)] }

theorem witness_EventsAndCounters :
    (((upto 25).map (fun j => (stagedEv.log.turn + j) % 25)).find? (fun j => !(getStage stagedEv (logSource j)).queue.isEmpty) = some 24 ∧
      (getStage stagedEv (logSource 24)).queue = [mkEv 0x0A08 clsNotice 0 7 30 0 1 2] ∧ stagedEv.log.subs = []) ∧
    (mainOn on = true ∧ expertOk .servicePort 9 on = false ∧ Requester.keeper ≠ .firmware) ∧ Expert .keeper 9 on :=
  ⟨by decide +kernel, ⟨rfl, rfl, by decide⟩, expert 9 rfl⟩

/-- The hearth logs the record with sequence number 0 and stamp 1 (R448, R450). -/
theorem test_log : (match exec .eventLogTake stagedEv with
    | .next t => (t.log.seq, t.log.stamp, (tget (⟨0, 0, 0, 0⟩ : LogRec) t.log.ring 0).w3) | _ => (0, 0, 0)) = (1, 1, 2) := by decide +kernel

/-- Tile 3 in service with its first core. -/
def benchS (locks : List (Nat × Nat × Nat)) : State :=
  { on with cores := [(192, { coreInit with linkLocks := locks })], tiles := [(3, { tileInit with inService := true })], groups := [(12, runGroup)] }

/-- A write of the service port that waits for a lock of that core. -/
def work3 : RegWork := ⟨.servicePort, [], [(0x6010005FFFF8, 1)], 0, .ok, 100⟩

theorem benchOpen {l : List (Nat × Nat × Nat)} (h : l = [] ∨ l = [(0, 0x5FFFF8, 8)]) : BenchOpen .keeper (benchS l) ⟨3, 0⟩ 0x5FFFF8 := by
  obtain rfl | rfl := h
  · exact ⟨expert 0 rfl, by decide, by decide, by decide, by decide +kernel, by decide +kernel, by decide +kernel, by decide +kernel⟩
  · exact ⟨expert 0 rfl, by decide, by decide, by decide, by decide +kernel, by decide +kernel, by decide +kernel, by decide +kernel⟩

theorem witness_RegisterWrites :
    mainOn on = true ∧ gSpace (0x600000000000 : BitVec 64).toNat = 0 ∧ 3 < gSpace (0x604000000000 : BitVec 64).toNat ∧
    gModule (0x4601000000000 : BitVec 64).toNat ≠ on.myModule ∧
    (∀ l ∈ [[], [(0, 0x5FFFF8, 8)]], BenchOpen .keeper (benchS l) ⟨3, 0⟩ 0x5FFFF8 ∧
      benchLocked (getCore (benchS l) (coreKey ⟨3, 0⟩)) 0x5FFFF8 8 = !l.isEmpty) ∧
    (Expert .keeper 9 on ∧ Requester.keeper ≠ .firmware) ∧
    (let s := { benchS [] with keeper := { on.keeper with works := [work3] } };
      mainOn s = true ∧ (getPort s 3).waits = [] ∧ groupAsleep s 3 0 = false ∧ s.keeper.works.find? (fun w => workKey w == coreKey ⟨3, 0⟩) = some work3 ∧ work3.header = []) :=
  ⟨rfl, by decide +kernel, by decide +kernel, by decide +kernel, fun l hl => ⟨benchOpen (by simpa using hl), by revert l; decide +kernel⟩, ⟨expert 9 rfl, by decide⟩, by decide +kernel⟩

/-- A register-path write stores eight bytes of the bench; under a lock it waits (R68). -/
theorem test_bench_write :
    (match exec (.registerWrite .keeper (0x6010005FFFF8) 0x0102030405060708) (benchS []),
      exec (.registerWrite .keeper (0x6010005FFFF8) 1) (benchS [(0, 0x5FFFF8, 8)]) with
    | .next t, .next u => (benchByte (getCore t 192) 0x5FFFFF, t.lastCode, u.keeper.works.length) | _, _ => (0, .rejected, 0)) = (1, .ok, 1) := by decide +kernel

/-! ### Witnesses: the whole module -/

theorem witness_QueueAndTime : ({ on with pending := [.heartbeat, .smbusStatusRead] } : State).pending = [.heartbeat, .smbusStatusRead] ∧
    (match step { on with pending := [.heartbeat, .smbusStatusRead] } with | .next t => t.pending == [.smbusStatusRead] | _ => false) = true := by decide +kernel

theorem witness_ComputeFrame :
    ∀ x ∈ computeForms, (match exec (x c0 0) (runs kern) with | .next _ => true | _ => false) = true := by decide +kernel

theorem witness_ExpertLevel : mainOn on = true ∧ (∀ fn ∈ [0, 1, 3, 4, 5, 6, 7, 9], expertOk .servicePort fn on = false) ∧
    (expertOk .firmware 0 on = false ∧ Requester.servicePort ≠ .firmware ∧ groupAsleep on 3 0 = false) ∧
    (Instr.routeSwap .servicePort, 4) ∈ [(Instr.routeSwap .servicePort, 4)] := ⟨by decide +kernel, by decide +kernel, by decide +kernel, by simp⟩

theorem witness_UnmappedOffsets :
    (∀ off ∈ [0x5000, 0x5FFF, 0xC000, 0xFFFFFFFFF], off < 2 ^ 36 ∧ (0x5000 ≤ off ∧ off < 0x6000 ∨ 0xC000 ≤ off)) ∧
    (∀ off ∈ [0x140000, 0xFFFFFFFFF], off < 2 ^ 36 ∧ 0x140000 ≤ off) ∧ (∀ off ∈ [0xA00000, 0xFFFFFFFFF], off < 2 ^ 36 ∧ 0xA00000 ≤ off) ∧
    mainOn on = true ∧ Requester.keeper ≠ .firmware ∧ groupAsleep on 3 0 = false := by decide +kernel

/-- A read of an unmapped offset returns zero with REJECTED (R18). -/
theorem test_unmapped : (let r := regRead on .keeper (gpaMake 0 3 0 3 0x140000); (r.1, r.2.lastCode)) = (0, .rejected) := by decide +kernel

/-- An admission request of a type, a tin and a key. -/
def rqPkt (type tin key : Nat) : Packet := pkt 0x30 30 7 false 0 0 0 0 (ask type 0 tin key 1 0 1000)

set_option maxRecDepth 100000 in
theorem witness_RequestKeyFault :
    (∀ n ∈ [1, 2, 3], Comes 0x30 (rqPkt n 0 1) 30 (flowRx 1) (withFlows (serve []) 30) ∧ rqTin (rqPkt n 0 1) = 0 ∧ plField (pBytes (rqPkt n 0 1)) 0 1 = n) ∧
    (Comes 0x30 (rqPkt 1 6 1) 30 (flowRx 1) (withFlows (serve []) 30) ∧ (getTin (withFlows (serve []) 30) (rqTin (rqPkt 1 6 1))).state = .free) ∧
    (Comes 0x30 (rqPkt 1 5 0x80000001) 30 (flowRx 1) (withFlows (serve []) 30) ∧ rqTin (rqPkt 1 5 0x80000001) ≠ 0 ∧
      (getTin (withFlows (serve []) 30) (rqTin (rqPkt 1 5 0x80000001))).state = .active ∧
      plField (pBytes (rqPkt 1 5 0x80000001)) 4 4 ≠ (getTin (withFlows (serve []) 30) (rqTin (rqPkt 1 5 0x80000001))).key.toNat) := by
  refine ⟨fun n hn => ⟨comes ?_, ?_⟩, ⟨comes ?_, ?_⟩, ⟨comes ?_, ?_⟩⟩
  · revert n; decide +kernel
  · revert n; decide +kernel
  all_goals decide +kernel

theorem witness_TrainingBusy :
    Expert .keeper 1 (withSlice trained) ∧ (79 : BitVec 7).toNat < 80 ∧
    (Expert .keeper 1 (withSlice { trained with trainBusy := some 2 }) ∧ trainRuns (withSlice { trained with trainBusy := some 2 }) (ck 0 0) = true) ∧
    (Expert .keeper 1 (withSlice { trained with laneMap := [(15, 0x8180)] }) ∧ trainRuns (withSlice { trained with laneMap := [(15, 0x8180)] }) (ck 0 0) = false ∧
      2 ≤ sparesUsed (tget 0 (getSlice (withSlice { trained with laneMap := [(15, 0x8180)] }) (ck 0 0)).laneMap 15)) :=
  ⟨expert 1 rfl, by decide, ⟨expert 1 rfl, by decide +kernel⟩, ⟨expert 1 rfl, by decide +kernel⟩⟩

/-- A third spare of a layer is REJECTED (R182). -/
theorem test_no_spare : (match exec (.spareSwitchIn .keeper 0 0 15 3) (withSlice { trained with laneMap := [(15, 0x8180)] }) with
    | .next t => t.lastCode | _ => .ok) = .rejected := by decide +kernel

/-- The reset values of two registers, GOV_CTRL and AMAX_CFG. -/
theorem test_reset_values : (regRead State.reset .keeper (gpaMake 0 30 0 3 0x600000)).1 = 0x09600000FA3207D0 ∧
    (regRead State.reset .keeper (gpaMake 0 5 2 2 0x6000)).1 = 0x380380 := by decide +kernel

theorem witness_PinsStayLegal : PinsLegal State.reset ∧
    (match step { on with pending := [.jtagInstruction ⟨List.replicate 25 (.other 9), 0, 0⟩] } with
      | .next t => t.pins.jtag == List.replicate 25 .bypass | _ => false) = true := by
  refine ⟨⟨by decide +kernel, by decide +kernel, fun code h => ?_⟩, by decide +kernel⟩
  have h' : JtagIns.other code ∈ List.replicate 25 JtagIns.idcode := h
  simp at h'

/-- A free value does not stop a command: a kernel's instruction issues whatever its stall cycles. -/
theorem test_completes : (match exec (.kAdd c0 (word 1 2 3 0 0)) (runs kern) with | .next t => t.free | _ => 0) = 1 := by decide +kernel

/-! ### Ill-formed commands that WellFormed refuses, one for each check -/

/-- A payload that PAYLOAD_FLITS does not name, and one of more than 64 flits. -/
theorem wf_packet : (Instr.remLoad { heldPkt with payload := [0] }).wf = false ∧ (Instr.remLoad heldPkt).wf = true ∧
    ({ heldPkt with w0 := 65 <<< 49, payload := List.replicate 4160 0 } : Packet).wf = false := by decide +kernel

/-- A line of 127 bytes, an empty part, and a part that leaves its line (R157). -/
theorem wf_slice : (Instr.sliceAccess 0 0 0 (.writeLine (List.replicate 127 0)) [] []).wf = false ∧ (Instr.sliceAccess 0 0 0 (.writePart 0 []) [] []).wf = false ∧
    (Instr.sliceAccess 0 0 0 (.writePart 127 [1, 2]) [] []).wf = false ∧ (Instr.sliceAccess 0 0 0 (.writePart 127 [1]) [] []).wf = true := by decide +kernel

/-- A symbol in error twice, and a command lane twice. -/
theorem wf_errors : (Instr.scrubRead 0 0 [(0, 1), (0, 2)]).wf = false ∧ (Instr.sliceAccess 0 0 0 .read [] [1, 1]).wf = false := by decide +kernel

/-- A control flit with 13 counts (Table 8.2), and a round with 63 channels (Table 12.3). -/
theorem wf_flit (f : LinkControl) (h : f.ret.length = 13) : (Instr.linkControlFlit 0 f).wf = false := by simp [Instr.wf, LinkControl.wf, h]

theorem wf_round : (Instr.housekeepingRound ⟨List.replicate 63 0, 0⟩).wf = false ∧
    (Instr.housekeepingRound (hk 0)).wf = true := by decide +kernel

/-- A message of 47 bytes or 1,025 bytes (Table 13.9), a block of 241 bytes, 33 registers, a request of another row (R417), and a chain of 24 ports (R479). -/
theorem wf_bytes : (Instr.igIdentify (.port (List.replicate 47 0))).wf = false ∧ (Instr.igIdentify (.port (List.replicate 1025 0))).wf = false ∧
    (Instr.igIdentify (.packet { heldPkt with payload := [0] })).wf = false ∧ (Instr.smbusBlockWrite 0 (List.replicate 241 0) true).wf = false ∧
    (Instr.readRegisters ⟨1, List.replicate 33 0⟩).wf = false ∧ (Instr.readRegisters ⟨2, []⟩).wf = false ∧ (Instr.readRegisters ⟨6, []⟩).wf = true ∧
    (Instr.jtagInstruction ⟨List.replicate 24 .bypass, 0, 0⟩).wf = false ∧ (Instr.jtagInstruction ⟨List.replicate 25 .bypass, 0, 0⟩).wf = true := by decide +kernel

/-- A tile that fails twice, an engine described twice, and a record area of 65,537 bytes. -/
theorem wf_start : (Instr.resetRelease { env true true true [] with tileFail := [(0, 1), (0, 2)] }).wf = false ∧ (Instr.resetRelease (env true true true [])).wf = true ∧
    (∀ d, (Instr.resetRelease { env true true true [] with engines := [(3, d), (3, d)] }).wf = false) := by
  refine ⟨by decide +kernel, by decide +kernel, fun d => ?_⟩
  simp [Instr.wf, StartEnv.wf, env]

theorem wf_flash (l : List Byte) (h : l.length = 65537) : ({ FlashImage.blank with trip1 := l } : FlashImage).wf = false := by
  simp [FlashImage.wf, FlashImage.blank, h]

/-- A hint of no page (R211). -/
theorem wf_hint : (Instr.submitHint 0 ⟨0, 0, 0, .prefer 0 0⟩).wf = false := by decide +kernel

/-- The table gives no row bits, so no word spells a command. -/
theorem test_no_words : decodeTableWord 16 0xFFFF = none ∧ (State.withFetchWord State.reset 16 0xFFFF).pending = [] := by decide +kernel

end Sys2Proof.Tests
end

namespace Sys2Proof.Proofs

open Sys2Proof Sys2Proof.Machine Sys2Proof.Spec

/-! ## What a command of the main domains answers -/

/-- A command that acts on the main domains answers the state that its operation makes, and what follows from it. -/
theorem does_onMain {c : Instr} {f : State → State} {s u : State} (hc : exec c s = onMain f s) (hm : mainOn s = true) (hu : f s = u) :
    Does c s u := by
  rw [Does, hc, onMain, if_pos hm, hu]
  rfl

theorem withExpert_ok {rq : Requester} {fn : Nat} {s : State} (f : State → State) (h : expertOk rq fn s = true) : withExpert rq fn s f = f s :=
  if_pos h

theorem ck_tile (t : Nat) (n : Fin 64) : ck t n.val / 64 = t := by
  have := n.isLt; unfold ck; omega

theorem ck_core (t : Nat) (n : Fin 64) : ck t n.val % 64 = n.val := by
  have := n.isLt; unfold ck; omega

/-! ## Offsets of no block (O29) -/

/-- A group that runs and whose cores have been idle since time 0. -/
def idleGroup : Group := { groupInit with pstate := .run, idleFrom := some 0 }

/-- A module in service at 100 ns whose first group runs and has been idle from the start. -/
def idleModule : State :=
  { State.reset with now := 100, keeper := { Keeper.initial with phase := 7 }, groups := [(0, idleGroup)] }

/-- Since when the first group of tile 0 is idle in the state that a command answers. -/
def idleSince : Out → Option Nat
  | .next t => (getGroup t 0 0).idleFrom
  | _ => none

theorem idleSince_after_write :
    idleSince (exec (.registerWrite .keeper (ownAddr idleModule 0 0 2 0x5000) 0) idleModule) = some 100 := by decide +kernel

theorem idleSince_after_reject : idleSince (.next (kept idleModule (settle (ends .rejected idleModule)))) = some 0 := by decide +kernel

/-- Refutes O29: a refused write to an unmapped offset of core control space is an access to that space, so it starts the time
towards Nap of the core's group again (R396, R397), also when the group is awake. The module is idle for 100 ns; after the write
its group counts from 100, and a write that changes nothing leaves it counting from 0. -/
theorem not_unmappedOffsets : ¬ Obligations.UnmappedOffsets := by
  intro h
  have hcore := (h .keeper 0 0 0x5000 0 idleModule (by decide)).1 (.inl (by decide))
  have hwrite := hcore.2 (by decide +kernel) (by decide) (by decide +kernel)
  have hsame := congrArg idleSince hwrite
  rw [idleSince_after_reject] at hsame
  exact absurd (idleSince_after_write.symm.trans hsame) (by decide)

/-! ## A write to START (O31) -/

section Training

variable {rq : Requester} {key layer lane : Nat} {s : State}

theorem fullRetrainingOp_busy (he : expertOk rq 1 s = true) (hb : trainRuns s key = true) :
    fullRetrainingOp rq key s = ends (if coreWithdrawnOrOff s key = true then .retryLater else .rejected) s := by
  rw [fullRetrainingOp, withExpert_ok _ he, if_pos hb]

theorem spareSwitchInOp_busy (he : expertOk rq 1 s = true) (hl : lane < 80) (hb : trainRuns s key = true) :
    spareSwitchInOp rq key layer lane s =
      ends (if sparesUsed (tget 0 (getSlice s key).laneMap layer) < 2 then .retryLater else .rejected) s := by
  rw [spareSwitchInOp, withExpert_ok _ he]
  generalize sparesUsed (tget 0 (getSlice s key).laneMap layer) = spares
  by_cases hs : spares < 2
  · simp [hb, Nat.not_le.2 hl, Nat.not_le.2 hs, hs]
  · simp [hb, Nat.not_le.2 hl, Nat.not_lt.1 hs, hs]

theorem spareSwitchInOp_spent (he : expertOk rq 1 s = true) (hl : lane < 80) (hb : trainRuns s key = false)
    (hs : 2 ≤ sparesUsed (tget 0 (getSlice s key).laneMap layer)) (hd : leaseDecide s 2 (key / 64) (key % 64) ≠ .conflict) :
    spareSwitchInOp rq key layer lane s = trainRefuse key .rejected s := by
  rw [spareSwitchInOp, withExpert_ok _ he]
  generalize sparesUsed (tget 0 (getSlice s key).laneMap layer) = spares at hs
  simp [hb, Nat.not_le.2 hl, hs, hd]

end Training

/-- Settles O31, from the three outcomes of a request to a slice that trains or has no spare left. -/
theorem trainingBusy : Obligations.TrainingBusy := by
  intro rq t n layer lane s hx
  refine ⟨fun hb => ⟨?_, fun hl => ?_⟩, fun hb hl hs hd => ?_⟩
  · exact does_onMain rfl hx.on (fullRetrainingOp_busy hx.level hb)
  · exact does_onMain rfl hx.on (spareSwitchInOp_busy hx.level hl hb)
  · have hd' : leaseDecide s 2 (ck t.val n.val / 64) (ck t.val n.val % 64) ≠ .conflict := by rwa [ck_tile, ck_core]
    exact ⟨_, does_onMain rfl hx.on (spareSwitchInOp_spent hx.level hl hb hs hd')⟩

end Sys2Proof.Proofs

namespace Sys2Proof.Proofs

open Sys2Proof Sys2Proof.Machine Sys2Proof.Spec

/-! ## What counters and events leave unchanged -/

/-- From `s` to `u` at most counters, staged events and the marks of jobs differ. -/
def Logged (s u : State) : Prop := u = { s with counters := u.counters, stages := u.stages, jobs := u.jobs }

section
variable {s u v : State}

theorem Logged.refl (s : State) : Logged s s := rfl

theorem Logged.trans (h : Logged s u) (g : Logged u v) : Logged s v := by
  rw [Logged, g, h]

theorem Logged.free (h : Logged s u) : u.free = s.free := by rw [h]
theorem Logged.now (h : Logged s u) : u.now = s.now := by rw [h]
theorem Logged.pending (h : Logged s u) : u.pending = s.pending := by rw [h]
theorem Logged.pins (h : Logged s u) : u.pins = s.pins := by rw [h]
theorem Logged.cores (h : Logged s u) : u.cores = s.cores := by rw [h]
theorem Logged.tiles (h : Logged s u) : u.tiles = s.tiles := by rw [h]
theorem Logged.ports (h : Logged s u) : u.ports = s.ports := by rw [h]
theorem Logged.coll (h : Logged s u) : u.coll = s.coll := by rw [h]

end

theorem logged_stageAdd (s : State) (e : EvRec) : Logged s (stageAdd s e) := rfl

theorem logged_counterBump (s : State) (k n : Nat) : Logged s (counterBump s k n).1 := by
  unfold counterBump
  dsimp only
  split <;> rfl

theorem logged_stageRaw (s : State) (e : EvRec) : Logged s (stageRaw s e) := by
  have hb := (logged_stageAdd s e).trans (logged_counterBump (stageAdd s e) (droppedKey e.srcTile) 1)
  unfold stageRaw
  split
  · exact logged_stageAdd s e
  · split <;> rename_i heq <;> rw [heq] at hb
    · exact hb
    · exact hb.trans (logged_stageAdd _ _)

theorem logged_count (k n : Nat) (s : State) : Logged s (count k n s) := by
  have hb := logged_counterBump s k n
  unfold count
  split
  · exact .refl s
  · split <;> rename_i heq <;> rw [heq] at hb
    · exact hb
    · exact hb.trans (logged_stageRaw _ _)

theorem logged_raise (e : EvRec) (s : State) : Logged s (raise e s) := by
  have hm (u : State) : Logged u (markFault e.srcTile u) := rfl
  unfold raise
  dsimp only
  split
  · exact (logged_stageRaw s e).trans (hm _)
  · exact logged_stageRaw s e

section
variable (k n : Nat) (e : EvRec) (s : State)

@[simp] theorem count_now : (count k n s).now = s.now := (logged_count k n s).now
@[simp] theorem count_pending : (count k n s).pending = s.pending := (logged_count k n s).pending
@[simp] theorem count_pins : (count k n s).pins = s.pins := (logged_count k n s).pins
@[simp] theorem count_cores : (count k n s).cores = s.cores := (logged_count k n s).cores
@[simp] theorem count_tiles : (count k n s).tiles = s.tiles := (logged_count k n s).tiles
@[simp] theorem count_ports : (count k n s).ports = s.ports := (logged_count k n s).ports
@[simp] theorem count_coll : (count k n s).coll = s.coll := (logged_count k n s).coll

@[simp] theorem raise_now : (raise e s).now = s.now := (logged_raise e s).now
@[simp] theorem raise_cores : (raise e s).cores = s.cores := (logged_raise e s).cores
@[simp] theorem raise_tiles : (raise e s).tiles = s.tiles := (logged_raise e s).tiles
@[simp] theorem raise_coll : (raise e s).coll = s.coll := (logged_raise e s).coll

end

end Sys2Proof.Proofs

namespace Sys2Proof.Proofs

open Sys2Proof Sys2Proof.Machine Sys2Proof.Spec

/-! ## What a write of bytes leaves in a bench -/

section
variable (c : Core) (o : Nat) (bs : List Byte)

theorem benchByte_benchWrite (a : Nat) : benchByte (benchWrite c o bs) a = tget 0 (memWrite c.bench o bs) a := by
  rw [benchByte, Laws.benchWrite_bench]

theorem benchByte_benchWrite_at {i : Nat} (h : i < bs.length) : benchByte (benchWrite c o bs) (o + i) = bs[i] := by
  rw [benchByte_benchWrite, Laws.memWrite_at]

theorem benchByte_benchWrite_outside {a : Nat} (h : a < o ∨ o + bs.length ≤ a) :
    benchByte (benchWrite c o bs) a = benchByte c a := by
  rw [benchByte_benchWrite]
  exact h.elim (Laws.memWrite_before bs c.bench) (Laws.memWrite_after bs c.bench)

theorem benchRead_benchWrite_append (as : List Byte) : benchRead (benchWrite c o (as ++ bs)) o as.length = as := by
  refine List.ext_getElem (by simp [benchRead, upto]) fun i hi hj => ?_
  have hl : i < (as ++ bs).length := by rw [List.length_append]; omega
  simp only [benchRead, upto, List.getElem_map, List.getElem_range]
  rw [benchByte_benchWrite_at c o _ hl, List.getElem_append_left hj]

@[simp] theorem benchWrite_gen : (benchWrite c o bs).gen = c.gen := by
  unfold benchWrite
  cases c.kernel with
  | none => rfl
  | some k => dsimp only; split <;> rfl

/-- A write of bench bytes sets wake-pending bit 3 of the kernel exactly when a byte of its watched line changes (R98). -/
theorem benchWrite_kernel {k : Kernel} (h : c.kernel = some k) :
    (benchWrite c o bs).kernel =
      if (upto 128).any (fun i => benchByte c (k.watchLine.toNat / 128 * 128 + i) !=
          benchByte (benchWrite c o bs) (k.watchLine.toNat / 128 * 128 + i))
      then some { k with wake := k.wake ||| 8 } else some k := by
  simp only [benchByte_benchWrite]
  unfold benchWrite
  rw [h]
  dsimp only
  split <;> rename_i hc
  · exact (if_pos hc).symm
  · exact (if_neg hc).symm

theorem benchWrite_kernel_wake {k : Kernel} (h : c.kernel = some k) :
    ∃ wake, (benchWrite c o bs).kernel = some { k with wake := wake } := by
  rw [benchWrite_kernel c o bs h]
  split
  · exact ⟨_, rfl⟩
  · exact ⟨k.wake, rfl⟩

end

theorem benchWriteBytes : Sys2Proof.Spec.BenchWriteBytes := by
  intro c o bs
  refine ⟨fun i => benchByte_benchWrite_at c o bs, fun a => benchByte_benchWrite_outside c o bs, fun k hk => ?_,
    fun h => Laws.benchWrite_wf h o bs⟩
  rw [benchWrite_kernel c o bs hk]
  refine ⟨fun ⟨i, hi, hne⟩ => if_pos ?_, fun hsame => if_neg ?_⟩
  · exact List.any_eq_true.2 ⟨i, List.mem_range.2 hi, bne_iff_ne.2 hne.symm⟩
  · intro hany
    obtain ⟨i, hi, hne⟩ := List.any_eq_true.1 hany
    exact bne_iff_ne.1 hne (hsame i (List.mem_range.1 hi)).symm

/-! ## The issue of an instruction that reads or writes the bench -/

theorem canIssue_of_issues {s : State} {r : CoreRef} {k : Kernel} {w : BitVec 56} (h : Issues s r k w) :
    canIssue s (coreKey r) (getCore s (coreKey r)) k = true := by
  simp [canIssue, h.running, h.unblocked, h.clock, h.stores]

theorem fetchBad_of_issues {s : State} {r : CoreRef} {k : Kernel} {w : BitVec 56} (h : Issues s r k w) : fetchBad k = false := by
  simp [fetchBad, h.inCode, h.aligned]

/-- A bench access whose operands are untagged, aligned and inside the window has its effect at its address (R91, R104). -/
theorem isaStep_benchOp {legal : BitVec 56 → Bool} {regs : BitVec 56 → List Nat} {tag : Kernel → BitVec 56 → Bool}
    {align n : BitVec 56 → Nat} {f : Nat → Kernel → BitVec 56 → Nat → State → IRes} {s : State} {r : CoreRef} {k : Kernel} {w : BitVec 56}
    (hi : Issues s r k w) (hl : legal w = true) (hf : Final k (regs w)) (ha : gTag k (wA w) = false) (ht : tag k w = false)
    (hal : memAddr k w % align w = 0) (hw : inWindow k (memAddr k w) (n w) = true) :
    isaStep (benchOp legal regs tag align n f) r w s = issueEnd (coreKey r) k s (f (coreKey r) k w (memAddr k w) s) := by
  have hrun : issue (benchOp legal regs tag align n f) (coreKey r) w k s = f (coreKey r) k w (memAddr k w) s := by
    rw [Laws.issue_run (op := benchOp legal regs tag align n f) hi.gap (fetchBad_of_issues hi) hi.guard rfl hl hf]
    simp [benchOp, ha, ht, hal, hw]
  rw [Laws.isaStep_issue hi.kernel (canIssue_of_issues hi), hrun]

/-- Retiring leaves the queue, the service connector and module time. -/
theorem answer_retire {s t : State} (key pc : Nat) (hp : t.pending = s.pending) (hi : t.pins = s.pins) (hn : t.now = s.now) :
    answer s (retire key pc t) = .next (retire key pc t) :=
  Laws.answer_same hp hi hn

/-! ## The three outcomes of a store (R68, R99) -/

theorem anyOverlap_eq_false {l : List (Nat × Nat)} {o n : Nat} :
    anyOverlap l o n = false ↔ ∀ x ∈ l, rangesOverlap x.1 x.2 o n = false := by
  simp [anyOverlap]

theorem storeWaits_eq_false_iff (c : Core) (o n : Nat) : storeWaits c c.enqSeq o n = false ↔ Unlocked c o n := by
  simp only [storeWaits, Unlocked, Bool.or_eq_false_iff, List.any_eq_false, Bool.and_eq_true, Bool.or_eq_true, decide_eq_true_eq,
    holdsBench, bne_iff_ne, not_and, not_or, Bool.not_eq_true, anyOverlap_eq_false, and_assoc]

theorem storeWaits_of_not_unlocked {c : Core} {o n : Nat} (h : ¬ Unlocked c o n) : storeWaits c c.enqSeq o n = true := by
  rwa [← storeWaits_eq_false_iff, Bool.not_eq_false] at h

section
variable {key o : Nat} {bs : List Byte} {s : State}

theorem benchStore_applies (hs : savedLocked (getCore s key) o bs.length = false) (hu : Unlocked (getCore s key) o bs.length) :
    benchStore key o bs s = .next (putCore s key (benchWrite (getCore s key) o bs)) := by
  simp [benchStore, hs, (storeWaits_eq_false_iff _ _ _).2 hu]

theorem benchStore_waits (hs : savedLocked (getCore s key) o bs.length = false) (hu : ¬ Unlocked (getCore s key) o bs.length) :
    benchStore key o bs s = .next (putCore s key { getCore s key with
      writes := (getCore s key).writes ++ [⟨(getCore s key).enqSeq, false, o, bs⟩] }) := by
  simp [benchStore, hs, storeWaits_of_not_unlocked hu]

theorem benchStore_traps (hs : savedLocked (getCore s key) o bs.length = true) : benchStore key o bs s = .trap .lockViolation 0 := by
  simp [benchStore, hs]

end

@[simp] theorem leBytes_length (n v : Nat) : (leBytes n v).length = n := by
  induction n generalizing v with
  | zero => rfl
  | succ n ih => simp [leBytes, ih]

/-! ## ST and VST -/

theorem exec_kSt {s : State} {r : CoreRef} {k : Kernel} {w : BitVec 56} (hi : Issues s r k w) (ha : gTag k (wA w) = false)
    (hop : fld w 38 32 = 0) (hsz : wSize w < 4) (hf : Final k [wD w, wA w]) (hd : gTag k (wD w) = false)
    (hal : memAddr k w % 2 ^ wSize w = 0) (hw : inWindow k (memAddr k w) (2 ^ wSize w) = true) :
    exec (.kSt r w) s = answer s (issueEnd (coreKey r) k s
      (benchStore (coreKey r) (memAddr k w) (leBytes (2 ^ wSize w) (gReg k (wD w)).toNat) s)) := by
  have hl : sizeLegal w = true := by simp [sizeLegal, wZero, hop, hsz]
  exact congrArg (answer s) (isaStep_benchOp hi hl hf ha hd hal hw)

theorem exec_kVst {s : State} {r : CoreRef} {k : Kernel} {w : BitVec 56} (hi : Issues s r k w) (ha : gTag k (wA w) = false)
    (hop : fld w 41 32 = 0) (hf : Final k [wA w]) (hd : vTag k (wD w) = false)
    (hal : memAddr k w % 4 = 0) (hw : inWindow k (memAddr k w) 256 = true) :
    exec (.kVst r w) s = answer s (issueEnd (coreKey r) k s
      (benchStore (coreKey r) (memAddr k w) (leBytes 256 (vReg k (wD w)).toNat) s)) := by
  have hl : vmemLegal w = true := by simp [vmemLegal, wZero, hop]
  exact congrArg (answer s) (isaStep_benchOp hi hl hf ha hd hal hw)

/-! ## VSTQ -/

/-- The lanes of a vector, numbered. -/
theorem zipIdx_map_upto {α : Type} (f : Nat → α) (n : Nat) : ((upto n).map f).zipIdx = (upto n).map (fun i => (f i, i)) := by
  refine List.ext_getElem (by simp) fun i hi hj => ?_
  simp [upto]

theorem getD_map_upto {α : Type} (f : Nat → α) {n i : Nat} (h : i < n) (d : α) : ((upto n).map f).getD i d = f i := by
  simp [upto, h]

theorem foldl_add_eq_sum {α : Type} (f : α → Nat) (l : List α) : l.foldl (fun n x => n + f x) 0 = (l.map f).sum := by
  rw [List.sum_eq_foldl, List.foldl_map]

section
variable (w : BitVec 56) (gen : Word) (v : BitVec 2048)

/-- The shared exponent datum of each block of 16 lanes (R127, R131). -/
def vstqShifts : List Nat :=
  (upto 4).map (fun b => if outQuaric (qFmt w) then
    blockShift (qFmt w) (magMax (((((upto 64).map (lane v)).drop (16 * b)).take 16).filter (fun x => !isNan x))) else 0)

/-- What VSTQ makes of each lane, with its saturation, NaN, underflow and inexact marks (R131, R132). -/
def vstqOut : List (Nat × Bool × Bool × Bool × Bool) :=
  ((upto 64).map (lane v)).zipIdx.map (fun p =>
    vstqLane (qFmt w) (fld w 34 33) ((vstqShifts w v).getD (p.2 / 16) 0) (((genStates 64 gen).map genValue).getD p.2 0) p.1)

/-- The bytes of VSTQ's 64 elements, packed from bit 0 upward. -/
def vstqElems : List Byte :=
  leBytes (8 * outWidth (qFmt w)) (((upto 64).map (fun i => storedLane w gen v i <<< (outWidth (qFmt w) * i))).sum)

/-- The side bytes of a Quaric format. -/
def vstqSide : List Byte :=
  if outQuaric (qFmt w) then leBytes 2 ((vstqShifts w v).zipIdx.foldl (fun n p => n + p.1 <<< (4 * p.2)) 0) else []

/-- The floating-point flags that VSTQ raises. -/
def vstqFlags : FpFlags :=
  BitVec.ofNat 5 (b2n ((vstqOut w gen v).any (fun x => x.2.2.1)) +
    4 * b2n (decide (0 < ((vstqOut w gen v).filter (fun x => x.2.1)).length)) +
    8 * b2n (decide (0 < ((vstqOut w gen v).filter (fun x => x.2.2.2.1)).length)) +
    16 * b2n ((vstqOut w gen v).any (fun x => x.2.2.2.2)))

theorem foldl_vstqOut :
    (vstqOut w gen v).zipIdx.foldl (fun n p => n + p.1.1 <<< (outWidth (qFmt w) * p.2)) 0 =
      ((upto 64).map (fun i => storedLane w gen v i <<< (outWidth (qFmt w) * i))).sum := by
  rw [foldl_add_eq_sum, vstqOut, zipIdx_map_upto, List.map_map, zipIdx_map_upto, List.map_map]
  congr 1
  refine List.map_congr_left fun i hi => ?_
  have hb : i / 16 < 4 := by have := List.mem_range.1 hi; omega
  simp only [Function.comp_apply, storedLane, vstqShifts, getD_map_upto _ hb]

theorem vstq_length : (vstqElems w gen v ++ vstqSide w v).length = qOutBytes (qFmt w) := by
  simp only [vstqElems, vstqSide, qOutBytes, List.length_append, leBytes_length, Nat.add_left_cancel_iff]
  split
  · exact leBytes_length _ _
  · rfl

end

/-- What follows VSTQ's store: the generator has advanced, the flags are raised, and saturated and underflowed lanes count. -/
def vstqDone (key : Nat) (w : BitVec 56) (gen : Word) (v : BitVec 2048) (t : State) : State :=
  countCore key 6 ((vstqOut w gen v).filter (fun x => x.2.1)).length
    (countCore key 5 ((vstqOut w gen v).filter (fun x => x.2.2.2.1)).length
      (modCore t key (fun c => modKernel { c with gen := genAdvance 64 c.gen } (fun k => putFlags k (vstqFlags w gen v)))))

/-- VSTQ's effect at its address: its store, and what follows from one that does not trap. -/
def vstqRun (key : Nat) (k : Kernel) (w : BitVec 56) (a : Nat) (s : State) : IRes :=
  match benchStore key a (vstqElems w (getCore s key).gen (vReg k (wD w)) ++ vstqSide w (vReg k (wD w))) s with
  | .next t => .next (vstqDone key w (getCore s key).gen (vReg k (wD w)) t)
  | r => r

theorem opVstq_eq : opVstq = benchOp
    (fun w => wZero w 41 39 && decide (qFmt w ≤ 5) && decide (fld w 34 33 ≠ 3) && wZero w 32 32) (fun w => [wA w])
    (fun k w => vTag k (wD w)) (fun _ => 8) (fun w => qOutBytes (qFmt w)) vstqRun := by
  have helems (w : BitVec 56) (gen : Word) (v : BitVec 2048) : vstqElems w gen v = leBytes (8 * outWidth (qFmt w))
      ((vstqOut w gen v).zipIdx.foldl (fun n p => n + p.1.1 <<< (outWidth (qFmt w) * p.2)) 0) := by
    rw [vstqElems, foldl_vstqOut]
  unfold vstqRun
  simp only [helems]
  rfl

section
variable (key a : Nat) (w : BitVec 56) (gen : Word) (v : BitVec 2048) (s : State) (c : Core)

theorem getCore_vstqDone : getCore (vstqDone key w gen v (putCore s key c)) key =
    modKernel { c with gen := genAdvance 64 c.gen } (fun k => putFlags k (vstqFlags w gen v)) := by
  simp [vstqDone, countCore, getCore, modCore, putCore]

theorem answer_retire_vstqDone (pc : Nat) : answer s (retire key pc (vstqDone key w gen v (putCore s key c))) =
    .next (retire key pc (vstqDone key w gen v (putCore s key c))) :=
  answer_retire key pc (by simp [vstqDone, countCore, modCore, putCore]) (by simp [vstqDone, countCore, modCore, putCore])
    (by simp [vstqDone, countCore, modCore, putCore])

end

theorem exec_kVstq {s : State} {r : CoreRef} {k : Kernel} {w : BitVec 56} (hi : Issues s r k w) (ha : gTag k (wA w) = false)
    (hz : wZero w 41 39 = true) (hq : qFmt w ≤ 5) (hr : fld w 34 33 ≠ 3) (hz' : wZero w 32 32 = true) (hf : Final k [wA w])
    (hd : vTag k (wD w) = false) (hal : memAddr k w % 8 = 0) (hw : inWindow k (memAddr k w) (qOutBytes (qFmt w)) = true) :
    exec (.kVstq r w) s = answer s (issueEnd (coreKey r) k s (vstqRun (coreKey r) k w (memAddr k w) s)) := by
  have hl : (wZero w 41 39 && decide (qFmt w ≤ 5) && decide (fld w 34 33 ≠ 3) && wZero w 32 32) = true := by simp [hz, hq, hr, hz']
  have hx : exec (.kVstq r w) s = answer s (isaStep opVstq r w s) := rfl
  rw [hx, opVstq_eq, isaStep_benchOp hi hl hf ha hd hal hw]

/-! ## O38 -/

theorem storeForms : Sys2Proof.Spec.StoreForms := by
  intro r w s k hi ha
  refine ⟨fun hop hsz hf hd hal hw => ?_, fun hop hf hd hal hw hs hu => ?_, fun hz hq hr hz' hf hd hal hw hs hu => ?_⟩
  · rw [exec_kSt hi ha hop hsz hf hd hal hw]
    have hlen := leBytes_length (2 ^ wSize w) (gReg k (wD w)).toNat
    generalize leBytes (2 ^ wSize w) (gReg k (wD w)).toNat = bs at hlen ⊢
    rw [← hlen]
    refine ⟨fun hs hu => ?_, fun hs hu => ?_, fun hs => ?_⟩
    · rw [benchStore_applies hs hu]
      exact answer_retire _ _ rfl rfl rfl
    · rw [benchStore_waits hs hu, hi.stores]
      exact answer_retire _ _ rfl rfl rfl
    · rw [benchStore_traps hs]
      rfl
  · rw [exec_kVst hi ha hop hf hd hal hw, benchStore_applies (by rwa [leBytes_length]) (by rwa [leBytes_length])]
    exact answer_retire _ _ rfl rfl rfl
  · have hlen := vstq_length w (getCore s (coreKey r)).gen (vReg k (wD w))
    obtain ⟨wake, hwake⟩ := benchWrite_kernel_wake (getCore s (coreKey r)) (memAddr k w)
      (vstqElems w (getCore s (coreKey r)).gen (vReg k (wD w)) ++ vstqSide w (vReg k (wD w))) hi.kernel
    rw [exec_kVstq hi ha hz hq hr hz' hf hd hal hw, vstqRun, benchStore_applies (by rwa [hlen]) (by rwa [hlen])]
    refine ⟨_, vstqFlags w (getCore s (coreKey r)).gen (vReg k (wD w)), wake, answer_retire_vstqDone _ _ _ _ _ _ _, ?_, ?_, ?_, fun a h => ?_⟩ <;> rw [getCore_vstqDone]
    · simp [modKernel, hwake]
    · simp [modKernel]
    · have hr := benchRead_benchWrite_append (getCore s (coreKey r)) (memAddr k w) (vstqSide w (vReg k (wD w)))
        (vstqElems w (getCore s (coreKey r)).gen (vReg k (wD w)))
      rw [vstqElems, leBytes_length] at hr
      exact hr
    · rw [← hlen] at h
      exact benchByte_benchWrite_outside _ _ _ h

/-- Settles O38: the three outcomes of a store to the bench, and the bytes of a write one by one. -/
theorem benchStores : Obligations.BenchStores := ⟨storeForms, benchWriteBytes⟩

end Sys2Proof.Proofs

namespace Sys2Proof.Proofs

open Sys2Proof Sys2Proof.Machine Sys2Proof.Spec

/-- A fold whose every step stands in a reflexive and transitive relation does so as a whole. -/
theorem foldl_related {α β : Type} {R : β → β → Prop} (hr : ∀ s, R s s) (ht : ∀ {s u v}, R s u → R u v → R s v) {f : β → α → β}
    (hf : ∀ s x, R s (f s x)) (l : List α) (s : β) : R s (l.foldl f s) := by
  induction l generalizing s with
  | nil => exact hr s
  | cons x l ih => exact ht (hf s x) (ih (f s x))

/-! ## What sending a packet leaves unchanged -/

/-- From `s` to `u` a packet has entered the strands or the network inside the module. -/
def Sent (s u : State) : Prop := u = { s with free := u.free, strands := u.strands, d2d := u.d2d, flight := u.flight }

section
variable {s u v : State}

theorem Sent.refl (s : State) : Sent s s := rfl

theorem Sent.trans (h : Sent s u) (g : Sent u v) : Sent s v := by
  rw [Sent, g, h]

theorem Sent.now (h : Sent s u) : u.now = s.now := by rw [h]
theorem Sent.ports (h : Sent s u) : u.ports = s.ports := by rw [h]
theorem Sent.coll (h : Sent s u) : u.coll = s.coll := by rw [h]
theorem Sent.myModule (h : Sent s u) : u.myModule = s.myModule := by rw [h]; rfl

end

theorem sent_pickOne {α : Type} (l : List α) (s : State) : Sent s (pickOne l s).2 := by
  unfold pickOne
  split <;> rfl

theorem sent_of_pickOne {α : Type} {l : List α} {x : Option α} {s u : State} (h : pickOne l s = (x, u)) : Sent s u := by
  have hs := sent_pickOne l s
  rwa [h] at hs

theorem sent_egressStart (st : Nat) (s : State) : Sent s (egressStart st s) := by
  unfold egressStart
  split
  · rfl
  · split <;> rfl

theorem sent_dieTake (t : Nat) (q : D2dPkt) (s : State) : Sent s (dieTake t q s) := by
  have hm (st : Nat) (f : Strand → Strand) : Sent s (modStrand s st f) := rfl
  unfold dieTake egressPush
  split
  · exact (hm _ _).trans (sent_egressStart _ _)
  · rfl

theorem sent_d2dSend (t : Nat) (dests : List Nat) (exit : Option Nat) (p : Packet) (s : State) : Sent s (d2dSend t dests exit p s) := by
  have hlane (u : State) (k : Nat) (f : D2dLane → D2dLane) : Sent u (modLane u k f) := rfl
  have hturn (u : State) (e : Nat) : Sent u (if (dests.filter (fun v => v != t && nextEdge t v == e)).isEmpty then u
      else modLane u (laneKey t e) (fun x => { x with out := x.out ++ [⟨p, dests.filter (fun v => v != t && nextEdge t v == e), exit⟩] })) := by
    split
    · exact .refl u
    · exact hlane _ _ _
  unfold d2dSend
  dsimp only
  split
  · exact (sent_dieTake _ _ _).trans (foldl_related Sent.refl Sent.trans hturn _ _)
  · exact foldl_related Sent.refl Sent.trans hturn _ _

theorem sent_strandSend (t st : Nat) (p : Packet) (s : State) : Sent s (strandSend t st p s) := sent_d2dSend _ _ _ _ _

theorem sent_sendRouted (t : Nat) (p : Packet) (s : State) : Sent s (sendRouted t p s).2 := by
  unfold sendRouted
  dsimp only
  split
  · exact sent_d2dSend _ _ _ _ _
  · split
    · exact sent_strandSend _ _ _ _
    · split <;> rename_i heq
      · exact sent_of_pickOne heq
      · exact (sent_of_pickOne heq).trans (sent_strandSend _ _ _ _)

/-! ## The port of an endpoint -/

section
variable {α : Type}

/-- Writing back what a table lists changes nothing, also after a write of another key. -/
theorem tput_tget_tput {d : α} {l : Tab α} {t : Nat} (h : tput l t (tget d l t) = l) (j : Nat) (v : α) :
    tput (tput l j v) t (tget d (tput l j v) t) = tput l j v := by
  by_cases hj : t = j
  · subst hj
    rw [Laws.tget_tput_same, Laws.tput_tput]
  rw [Laws.tget_tput_other d l v hj]
  induction l with
  | nil => simp [tput] at h
  | cons q r ih =>
    obtain ⟨i, x⟩ := q
    rcases Nat.lt_trichotomy t i with hlt | rfl | hgt
    · have hl := congrArg List.length h
      simp [tput, hlt, Nat.ne_of_lt hlt] at hl
    · rcases Nat.lt_trichotomy j t with hji | rfl | hji
      · simp [tput, tget, hji, Nat.ne_of_lt hji, Nat.ne_of_gt hji, Nat.not_lt.2 hji.le]
      · exact absurd rfl hj
      · simp [tput, tget, Nat.ne_of_gt hji, Nat.not_lt.2 hji.le]
    · have hr : tput r t (tget d r t) = r := by
        simpa [tput, tget, Nat.ne_of_gt hgt, Nat.ne_of_lt hgt, Nat.not_lt.2 hgt.le] using h
      have ht : tget d ((i, x) :: r) t = tget d r t := by simp [tget, Nat.ne_of_lt hgt]
      rw [ht]
      rcases Nat.lt_trichotomy j i with hji | rfl | hji
      · have hjt := Nat.lt_trans hji hgt
        simp [tput, hji, Nat.ne_of_lt hji, Nat.ne_of_gt hgt, Nat.not_lt.2 hgt.le, Nat.ne_of_gt hjt, Nat.not_lt.2 hjt.le, hr]
      · simp [tput, hj, Nat.not_lt.2 hgt.le, hr]
      · simp [tput, Nat.ne_of_gt hji, Nat.not_lt.2 hji.le, Nat.ne_of_gt hgt, Nat.not_lt.2 hgt.le, ih hr]

end

@[simp] theorem getPort_modPort (s : State) (t : Nat) (f : Port → Port) : getPort (modPort s t f) t = f (getPort s t) := by
  simp [getPort, modPort, putPort]

theorem modPort_modPort (s : State) (t : Nat) (f g : Port → Port) : modPort (modPort s t f) t g = modPort s t (fun x => g (f x)) := by
  simp [getPort, modPort, putPort]

/-- The state lists the port of endpoint `t`, so that writing it back changes nothing. -/
def Listed (t : Nat) (s : State) : Prop := tput s.ports t (getPort s t) = s.ports

theorem listed_modPort (s : State) (t : Nat) (f : Port → Port) : Listed t (modPort s t f) := by
  simp [Listed, getPort, modPort, putPort]

theorem Listed.modPort_other {s : State} {t : Nat} (h : Listed t s) (j : Nat) (f : Port → Port) : Listed t (modPort s j f) :=
  tput_tget_tput h j _

theorem Listed.of_ports {s u : State} {t : Nat} (h : Listed t s) (hp : u.ports = s.ports) : Listed t u := by
  rw [Listed, getPort, hp]
  exact h

theorem modPort_id {s : State} {t : Nat} (h : Listed t s) {f : Port → Port} (hf : f (getPort s t) = getPort s t) : modPort s t f = s := by
  rw [modPort, putPort, hf, show tput s.ports t (getPort s t) = s.ports from h]

end Sys2Proof.Proofs

namespace Sys2Proof.Proofs

open Sys2Proof Sys2Proof.Machine Sys2Proof.Spec

/-! ## An acknowledgement leaves the flows of its endpoint -/

section
variable (t : Nat) (p : Packet) (s : State)

/-- A packet of no flow enters the network, or waits at its port for a bank swap. -/
theorem sendLoose_cases : Sent s (sendLoose t p s) ∨ ∃ l : Port → List Packet, sendLoose t p s = modPort s t (fun x => { x with loose := l x }) := by
  unfold sendLoose
  split
  · exact .inr ⟨fun x => x.loose ++ [p], rfl⟩
  · exact .inl (sent_sendRouted t p s)

theorem getPort_of_ports {u : State} (h : u.ports = s.ports) : getPort u t = getPort s t := by rw [getPort, h]; rfl

@[simp] theorem getPort_sendLoose_rx : (getPort (sendLoose t p s) t).rx = (getPort s t).rx := by
  rcases sendLoose_cases t p s with h | ⟨l, h⟩
  · rw [getPort_of_ports t s h.ports]
  · rw [h, getPort_modPort]

@[simp] theorem getPort_sendLoose_network : (getPort (sendLoose t p s) t).network = (getPort s t).network := by
  rcases sendLoose_cases t p s with h | ⟨l, h⟩
  · rw [getPort_of_ports t s h.ports]
  · rw [h, getPort_modPort]

variable {t p s}

theorem Listed.sendLoose (h : Listed t s) : Listed t (sendLoose t p s) := by
  rcases sendLoose_cases t p s with hs | ⟨l, hl⟩
  · exact h.of_ports hs.ports
  · rw [hl]
    exact listed_modPort _ _ _

end

theorem countPort_ports (t i n : Nat) (s : State) : (countPort t i n s).ports = s.ports := by
  unfold countPort
  split
  · exact count_ports _ _ _
  · rfl

@[simp] theorem getPort_countPort (t i n j : Nat) (s : State) : getPort (countPort t i n s) j = getPort s j :=
  getPort_of_ports j s (countPort_ports t i n s)

/-! ## The receive entry of a flow -/

theorem findRx_key {q : Port} {k : FlowKey} {f : FlowRx} (h : findRx q k = some f) : f.key = k := by
  simpa using List.find?_some h

@[simp] theorem findRx_setRx (q : Port) (f : FlowRx) : findRx (setRx q f) f.key = some f := by
  unfold findRx setRx
  by_cases ha : (q.rx.any (fun x => x.key == f.key)) = true
  · simp only [ha, if_true]
    generalize q.rx = l at ha
    induction l with
    | nil => simp at ha
    | cons x l ih =>
      by_cases hx : x.key = f.key
      · simp [hx]
      · have hl : l.any (fun x => x.key == f.key) = true := by simpa [hx] using ha
        simpa [hx] using ih hl
  · simp only [ha]
    have hn : q.rx.find? (fun x => x.key == f.key) = none := by simpa using ha
    simp [List.find?_append, hn]

theorem findRx_setRx_key (q : Port) {f : FlowRx} {k : FlowKey} (h : f.key = k) : findRx (setRx q f) k = some f :=
  h ▸ findRx_setRx q f

@[simp] theorem setRx_network (q : Port) (f : FlowRx) : (setRx q f).network = q.network := rfl

theorem findRx_of_rx {q r : Port} (h : q.rx = r.rx) (k : FlowKey) : findRx q k = findRx r k := by rw [findRx, h]; rfl

/-! ## The checks of an arriving packet -/

/-- The state in which an endpoint has taken the packet off the wires. -/
def offWires (p : Packet) (s : State) : State := { s with flight := s.flight.erase p }

@[simp] theorem getPort_offWires (p : Packet) (s : State) (t : Nat) : getPort (offWires p s) t = getPort s t := rfl

theorem rowTakes_type {s : State} {type : Nat} {p : Packet} (ht : pType p = type) (hh : forUs s p = true) : rowTakes s type p = true := by
  simp [rowTakes, ht, hh]

theorem rxCheck_badField {t : Nat} {p : Packet} {s : State} (hb : badType p = true) :
    rxCheck t p s = (false, countPort t 18 1 (offWires p s)) := by
  simp [rxCheck, hb, offWires]

theorem rxCheck_badCrc {t : Nat} {p : Packet} {s : State} (hb : badType p = false) (hc : pCrc p ≠ pktCrc p) :
    rxCheck t p s = (false, countPort t 15 1 (offWires p s)) := by
  simp [rxCheck, hb, hc, offWires]

theorem rxCheck_sound {type t : Nat} {p : Packet} {s : State} (h : Sound type p t s) : rxCheck t p s = (true, offWires p s) := by
  have he : ¬ serialDiff 8 (bankEpoch (bankSel (offWires p s) true) % 256) (pEpoch p) > 1 := Int.not_lt.2 h.epoch
  simp only [rxCheck, h.fields, h.crc, bne_self_eq_false, Bool.false_eq_true, if_false]
  exact congrArg (Prod.mk true) (if_neg he)

section
variable {c : Instr} {type t : Nat} {p : Packet} {s : State}

/-- A sound packet of a flow meets its receive entry, and the packets of the network buffer are tried again. -/
theorem does_arrive (hc : exec c s = arrive type p s) (h : Sound type p t s) :
    Does c s (rxNetwork deliver t (rxFlow deliver t p (offWires p s))) := by
  refine does_onMain hc h.on ?_
  obtain rfl := h.tile
  simp [rxArrive, rowTakes_type h.type h.here, rxCheck_sound h]

theorem does_arriveLoose {act : Packet → State → State} (hc : exec c s = arriveLoose act type p s) (h : Sound type p t s) :
    Does c s (act p (offWires p s)) := by
  refine does_onMain hc h.on ?_
  obtain rfl := h.tile
  simp [rxLoose, rowTakes_type h.type h.here, rxCheck_sound h]

/-- A packet that fails the checks of R266 and R267 is discarded. -/
theorem does_arrive_discards {u : State} (hc : exec c s = arrive type p s) (hm : mainOn s = true) (ht : pType p = type)
    (hh : forUs s p = true) (hk : rxCheck (pDstTile p) p s = (false, u)) : Does c s u := by
  refine does_onMain hc hm ?_
  simp [rxArrive, rowTakes_type ht hh, hk]

end

/-! ## A packet of a flow against its receive entry (Table 8.7) -/

section
variable {t : Nat} {p : Packet} {f : FlowRx} {s : State}

theorem rxFlow_known (hf : findRx (getPort s t) (rxKey p) = some f) (hs : pStart p = false) :
    rxFlow deliver t p s = rxTake deliver t p f (modPort s t (fun x => setRx x f)) := by
  simp [rxFlow, hf, hs]

theorem rxFlow_unknown (hf : findRx (getPort s t) (rxKey p) = none) (hs : pStart p = false) :
    rxFlow deliver t p s = sendLoose t (mkAck s t (rxKey p) (pSeq p) true []) s := by
  simp [rxFlow, hf, hs]

theorem fld_lt {w : Nat} (x : BitVec w) (hi lo : Nat) : fld x hi lo < 2 ^ (hi + 1 - lo) := Nat.mod_lt _ (by positivity)

theorem serialDiff_self {n a : Nat} (h : a < 2 ^ n) : serialDiff n a a = 0 := by
  have hp : 0 < 2 ^ (n - 1) := by positivity
  simp [serialDiff, sext, Nat.mod_eq_of_lt h]

theorem msgFull_single (h : pMsgPkts p ≤ 1) : msgFull f p = false := by
  simp [msgFull, Nat.not_lt.2 h]

/-- A packet that its endpoint has not taken yet. -/
theorem not_repeated (hd : 0 ≤ serialDiff 24 (pSeq p) f.next) (hg : f.got.contains (pSeq p) = false)
    (hh : f.held.any (fun h => h.1 == pSeq p) = false) :
    ¬ (serialDiff 24 (pSeq p) f.next < 0 ∨ f.got.contains (pSeq p) = true ∨ f.held.any (fun h => h.1 == pSeq p) = true) := by
  rw [hg, hh]
  simpa using hd

theorem rxTake_repeated (h : f.got.contains (pSeq p) = true ∨ serialDiff 24 (pSeq p) f.next < 0) :
    rxTake deliver t p f s = sendAck t f (countPort t 16 1 s) := by
  unfold rxTake
  exact if_pos (h.elim (fun h => .inr (.inl h)) .inl)

section
variable (hg : f.got.contains (pSeq p) = false) (hh : f.held.any (fun h => h.1 == pSeq p) = false)
include hg hh

theorem rxTake_tooFar (hd : 1024 ≤ serialDiff 24 (pSeq p) f.next) : rxTake deliver t p f s = countPort t 17 1 s := by
  unfold rxTake
  dsimp only
  rw [if_neg (not_repeated (by omega) hg hh), if_pos hd]

variable (hm : pMsgPkts p ≤ 1)
include hm

theorem rxTake_next (hn : f.next = pSeq p) : rxTake deliver t p f s = noteFresh t f.key (advance deliver t f.key 1024 (deliver t p
      (modPort s t (fun x => setRx x { f with next := (f.next + 1) % 2 ^ 24, lastDelivery := s.now })))) := by
  have hd : serialDiff 24 (pSeq p) f.next = 0 := by rw [hn]; exact serialDiff_self (fld_lt _ _ _)
  unfold rxTake
  dsimp only
  rw [if_neg (not_repeated (by omega) hg hh), if_neg (by omega), msgFull_single hm, if_neg Bool.false_ne_true, if_pos hd]

theorem rxTake_ahead (ho : pOrdered p = true) (h0 : 0 < serialDiff 24 (pSeq p) f.next) (h1 : serialDiff 24 (pSeq p) f.next < 1024)
    (hr : reorderFlits (getPort s t) + pktFlits p ≤ 32768) :
    rxTake deliver t p f s = noteFresh t f.key (modPort s t (fun x => setRx x { f with held := f.held ++ [(pSeq p, p)] })) := by
  unfold rxTake
  dsimp only
  rw [if_neg (not_repeated (by omega) hg hh), if_neg (by omega), msgFull_single hm, if_neg Bool.false_ne_true, if_neg (by omega), if_pos ho,
    if_pos hr]

end

end

/-! ## What follows at the endpoint -/

/-- With no packet in the network buffer nothing is tried again. -/
theorem rxNetwork_empty {t : Nat} {s : State} (h : (getPort s t).network = []) :
    rxNetwork deliver t s = modPort s t (fun x => { x with network := [] }) := by
  rw [rxNetwork, h]
  rfl

theorem rxNetwork_listed {t : Nat} {s : State} (h : (getPort s t).network = []) (hl : Listed t s) : rxNetwork deliver t s = s := by
  rw [rxNetwork_empty h, modPort_id hl]
  rw [← h]

theorem Listed.countPort {t : Nat} {s : State} (h : Listed t s) (i n : Nat) : Listed t (countPort t i n s) :=
  h.of_ports (countPort_ports t i n s)

theorem getPort_sendAck_network (t : Nat) (f : FlowRx) (s : State) : (getPort (sendAck t f s) t).network = (getPort s t).network := by
  simp [sendAck]

theorem listed_sendAck (t : Nat) (f : FlowRx) (s : State) : Listed t (sendAck t f s) := (listed_modPort _ _ _).sendLoose

/-- The acknowledgement of a flow leaves what its entry holds and where it stands. -/
theorem noteFresh_keeps {t : Nat} {f : FlowRx} {s : State} (h : findRx (getPort s t) f.key = some f) :
    (getPort (noteFresh t f.key s) t).network = (getPort s t).network ∧
    ∃ g, findRx (getPort (noteFresh t f.key s) t) f.key = some g ∧ g.held = f.held ∧ g.next = f.next := by
  unfold noteFresh
  dsimp only
  rw [h]
  dsimp only
  split
  · refine ⟨getPort_sendAck_network _ _ _, { f with fresh := 0, ackDue := none }, ?_, rfl, rfl⟩
    rw [sendAck, findRx_of_rx (getPort_sendLoose_rx _ _ _), getPort_modPort]
    exact findRx_setRx_key _ rfl
  · refine ⟨by simp, { f with fresh := f.fresh + 1, ackDue := some (f.ackDue.getD (s.now + 1000 * fld (getPort s t).ctrl 15 12)) },
      ?_, rfl, rfl⟩
    rw [getPort_modPort]
    exact findRx_setRx_key _ rfl

/-! ## Deliveries (O52) -/

/-- The commands that a packet of a flow is arrive under their MSG_TYPE. -/
theorem exec_flowRows : ∀ x ∈ flowRows, ∀ p s, exec (x.1 p) s = arrive x.2 p s := by
  simp only [flowRows, List.forall_mem_cons, List.not_mem_nil, false_imp_iff, implies_true, and_true]
  refine ⟨?_, ?_, ?_, ?_, ?_, ?_, ?_, ?_, ?_, ?_, ?_, ?_, ?_, ?_, ?_⟩ <;> exact fun _ _ => rfl

theorem does_comes {c : Instr} {type t : Nat} {p : Packet} {f : FlowRx} {s : State} (hc : exec c s = arrive type p s)
    (h : Comes type p t f s) : Does c s (followUp t (rxKey p) (deliver t p (taken p t f s))) := by
  have hd := does_arrive hc h.sound
  rw [rxFlow_known (s := offWires p s) h.flow h.start, rxTake_next h.fresh.1 h.fresh.2 h.single h.next] at hd
  rw [← findRx_key h.flow]
  exact hd

theorem deliver_admission {p : Packet} {s : State} (h : pType p = 0x30) : deliver 30 p s = admissionTake 30 p s := by
  simp [deliver, h]

theorem exec_admission {op : Nat} {c : Instr} {p : Packet} {s : State} (hc : exec c s = arriveAdmission op p s)
    (ho : plField (pBytes p) 0 1 = op) : exec c s = arrive 0x30 p s := by
  rw [hc]
  simp [arriveAdmission, ho]

theorem deliveries : Sys2Proof.Spec.Deliveries := by
  refine ⟨fun x hx p t f s h => does_comes (exec_flowRows x hx p s) h, fun p f s h => ?_, fun p t s => ?_⟩
  · have hd (s : State) : deliver 30 p s = admissionTake 30 p s := deliver_admission h.sound.type
    have hopen (s : State) (ho : plField (pBytes p) 0 1 = 1) : admissionTake 30 p s = openTake p s := by simp [admissionTake, ho]
    have hstep (s : State) (ho : plField (pBytes p) 0 1 = 2) : admissionTake 30 p s = stepTake p s := by simp [admissionTake, ho]
    have hclose (s : State) (ho : plField (pBytes p) 0 1 = 3) : admissionTake 30 p s = closeTake p s := by simp [admissionTake, ho]
    refine ⟨fun ho => ?_, fun ho => ?_, fun ho => ?_⟩
    · rw [← hopen _ ho, ← hd]
      exact does_comes (exec_admission rfl ho) h
    · rw [← hstep _ ho, ← hd]
      exact does_comes (exec_admission rfl ho) h
    · rw [← hclose _ ho, ← hd]
      exact does_comes (exec_admission rfl ho) h
  · exact ⟨does_arriveLoose rfl, does_arriveLoose rfl, does_arriveLoose rfl, does_arriveLoose rfl, does_arriveLoose rfl,
      fun _ => does_arriveLoose rfl, does_arriveLoose rfl, does_arriveLoose rfl⟩

/-! ## Packets turned away (O52) -/

theorem packetsTurnedAway : Sys2Proof.Spec.PacketsTurnedAway := by
  intro x hx p t s hm hty hh ht
  have hc := exec_flowRows x hx p s
  refine ⟨fun hb => ?_, fun hb hcrc => ?_, fun f hs hnet hf hst => ?_, fun hs hnet hf hst => ?_⟩
  · exact does_arrive_discards hc hm hty hh (ht ▸ rxCheck_badField hb)
  · exact does_arrive_discards hc hm hty hh (ht ▸ rxCheck_badCrc hb hcrc)
  · have hd := does_arrive hc hs
    rw [rxFlow_known (s := offWires p s) hf hst] at hd
    have hl : Listed t (modPort (offWires p s) t (fun x => setRx x f)) := listed_modPort _ _ _
    have hn : (getPort (modPort (offWires p s) t (fun x => setRx x f)) t).network = [] := by simpa using hnet
    refine ⟨fun hrep => ⟨_, ?_, rfl⟩, fun hg hh hfar => ?_, fun hg hh hmsg ho h0 h1 hroom => ?_⟩
    · rw [rxTake_repeated hrep, rxNetwork_listed (by rw [getPort_sendAck_network, getPort_countPort, hn]) (listed_sendAck _ _ _)] at hd
      exact hd
    · rw [rxTake_tooFar hg hh hfar, rxNetwork_listed (by rw [getPort_countPort, hn]) (hl.countPort _ _)] at hd
      exact hd
    · rw [rxTake_ahead hg hh hmsg ho h0 h1 (by simpa using hroom)] at hd
      obtain ⟨hnet', g, hg', hheld, hnext⟩ := noteFresh_keeps (t := t) (f := { f with held := f.held ++ [(pSeq p, p)] })
        (s := modPort (modPort (offWires p s) t (fun x => setRx x f)) t (fun x => setRx x { f with held := f.held ++ [(pSeq p, p)] }))
        (by rw [getPort_modPort]; exact findRx_setRx _ _)
      rw [rxNetwork_empty (by rw [hnet', getPort_modPort]; exact hn)] at hd
      refine ⟨_, g, hd, ?_, hheld, hnext⟩
      rw [getPort_modPort, ← findRx_key hf]
      exact hg'
  · have hd := does_arrive hc hs
    rw [rxFlow_unknown (s := offWires p s) hf hst, rxNetwork_empty (by simpa using hnet)] at hd
    exact hd

end Sys2Proof.Proofs

namespace Sys2Proof.Proofs

open Sys2Proof Sys2Proof.Machine Sys2Proof.Spec

/-! ## The messages of the residency managers and of the keeper (O52) -/

section
variable {t : Nat} {p : Packet} {s : State}

theorem deliver_residency (ht : t < 24) (h : pType p = 0x38) : deliver t p s = residencyTake t p s := by
  simp [deliver, h, ht]

theorem deliver_residencyReply (ht : t < 24) (h : pType p = 0x39) : deliver t p s = residencyReplyTake t p s := by
  simp [deliver, h, ht]

theorem deliver_managementReply (h : pType p = 0x41) (hk : s.keeper.phase ≠ 9) : deliver 30 p s = managementReplyTake p s := by
  simp [deliver, h, hk]

/-- A request for frames asks for one or for one given by its place. -/
theorem asks_frames (ho : fld p.w3 63 56 = 1 ∨ fld p.w3 63 56 = 2) :
    fld p.w3 63 56 ≠ 3 ∧ (fld p.w3 63 56 == 1 || fld p.w3 63 56 == 2) = true := by
  rcases ho with h | h <;> simp [h]

theorem residencyTake_badCount (ho : fld p.w3 63 56 = 1 ∨ fld p.w3 63 56 = 2) (h1 : fld p.w4 39 32 ≠ 1) (h32 : fld p.w4 39 32 ≠ 32) :
    residencyTake t p s = sendMsg t (pSrcModule p) (pSrcTile p) 0x39 p.w3
      (pack [(56, codeNum .rejected), (32, fld p.w4 39 32)]) 0 0 [] s := by
  obtain ⟨hne, hop⟩ := asks_frames ho
  unfold residencyTake
  simp only [hop]
  rw [if_neg hne, if_pos (by simp [h1, h32])]
  rfl

theorem openOwned_myModule {key frame n r k : Nat} {s u : State} (h : openOwned key frame n s = some (r, k, u)) : u.myModule = s.myModule := by
  unfold openOwned at h
  dsimp only at h
  split at h
  · exact absurd h (by simp)
  · obtain ⟨-, -, rfl⟩ := by simpa using h
    rfl

theorem markFrames_myModule (key f n space vpn : Nat) (shard exported : Bool) (s : State) :
    (markFrames key f n space vpn shard exported s).myModule = s.myModule := by
  unfold markFrames
  refine foldl_related (R := fun s u : State => u.myModule = s.myModule) (fun _ => rfl) (fun h g => g.trans h) (fun _ _ => ?_) _ _
  rfl

theorem residencyTake_named {r key : Nat} {v : State} (ho : fld p.w3 63 56 = 1 ∨ fld p.w3 63 56 = 2)
    (hn : fld p.w4 39 32 = 1 ∨ fld p.w4 39 32 = 32) (hb : bit p.w4 56 = true) (ht : gTile p.w5.toNat = t)
    (hu : sliceUsable s (ck (gTile p.w5.toNat) (gCore p.w5.toNat)) = true)
    (hf : frameFree s (ck (gTile p.w5.toNat) (gCore p.w5.toNat)) (gOff p.w5.toNat / 65536) = true)
    (hv : openOwned (ck (gTile p.w5.toNat) (gCore p.w5.toNat)) (gOff p.w5.toNat / 65536) (fld p.w4 39 32)
      (markFrames (ck (gTile p.w5.toNat) (gCore p.w5.toNat)) (gOff p.w5.toNat / 65536) (fld p.w4 39 32) 0 0 (fld p.w3 63 56 == 2) true s) =
        some (r, key, v)) :
    residencyTake t p s = sendMsg t (pSrcModule p) (pSrcTile p) 0x39 p.w3 (pack [(56, codeNum .ok), (32, fld p.w4 39 32)])
      (BitVec.ofNat 64 (gpaMake s.myModule (ck (gTile p.w5.toNat) (gCore p.w5.toNat) / 64) (ck (gTile p.w5.toNat) (gCore p.w5.toNat) % 64) 0
        (gOff p.w5.toNat / 65536 * 65536))) (pack [(32, key), (0, r)]) [] v := by
  obtain ⟨hne, hop⟩ := asks_frames ho
  have hcount : (fld p.w4 39 32 == 1 || fld p.w4 39 32 == 32) = true := by simpa using hn
  have hm : v.myModule = s.myModule := (openOwned_myModule hv).trans (markFrames_myModule _ _ _ _ _ _ _ _)
  unfold residencyTake
  simp only [hop, hcount]
  rw [if_neg hne, if_neg (by decide), if_pos hb, if_pos ⟨ht, hu, hf⟩, hv]
  simp only [hm]

/-- Operation 3: the region closes, and the frames that it covers are free. -/
theorem residencyTake_returned {e : Nat × Word × Word} (ho : fld p.w3 63 56 = 3)
    (he : (getPort s t).regions.find? (fun e => e.1 == fld p.w6 13 0) = some e) (hb : bit e.2.1 56 = true) :
    (getPort (residencyTake t p s) t).regions = tdel (getPort s t).regions (fld p.w6 13 0) ∧
    ∀ q, q ∈ (residencyTake t p s).frames ↔ q ∈ s.frames ∧ ¬ (fkey (ck t (fld e.2.1 37 32)) (regBase e.2.2 / 512) ≤ q.1 ∧
      q.1 < fkey (ck t (fld e.2.1 37 32)) (regBase e.2.2 / 512 + regLines e.2.2 / 512)) := by
  unfold residencyTake
  simp only [ho, he, hb, if_true, Bool.not_true, Bool.false_eq_true, if_false]
  refine ⟨?_, fun q => ?_⟩
  · simp [getPort, modPort, putPort]
  · simp only [modPort, putPort, List.mem_filter, Bool.not_eq_true', Bool.and_eq_false_iff, decide_eq_false_iff_not, not_and_or]

theorem receivedEvent_listed {tile n : Nat} (h : n < 16) : receivedEvent tile n s = s := if_pos h

theorem residencyReplyTake_failed {x : Xfer}
    (hx : (getRes s t).xfers.find? (fun x => x.id % 2 ^ 32 == fld p.w3 31 0 && x.phase == 1) = some x)
    (hc : codeReceived (fld p.w4 63 56) ≠ .ok) :
    residencyReplyTake t p s = abandon t x (codeReceived (fld p.w4 63 56)) (receivedEvent t (fld p.w4 63 56) s) := by
  unfold residencyReplyTake
  simp only [hx]
  exact if_pos (by simpa using hc)

theorem residencyReplyTake_given {x : Xfer}
    (hx : (getRes s t).xfers.find? (fun x => x.id % 2 ^ 32 == fld p.w3 31 0 && x.phase == 1) = some x) (hc : fld p.w4 63 56 = 0)
    (hk : x.key = none) (y : Xfer) (v : State)
    (hy : y = { x with region := fld p.w6 13 0, new := ⟨gModule p.w5.toNat, gTile p.w5.toNat, gCore p.w5.toNat, gOff p.w5.toNat / 65536⟩ })
    (hv : v = importEverywhere (gModule p.w5.toNat) (gTile p.w5.toNat) (gCore p.w5.toNat) (gOff p.w5.toNat / 65536) (fld p.w4 39 32)
      (fld p.w6 13 0) (fld p.w6 63 32) s) :
    residencyReplyTake t p s = if x.kind == .rebuild then gather t { y with phase := 2 } v else setXfer t { y with phase := 4 } v := by
  subst hy hv
  have hok : codeReceived (fld p.w4 63 56) = .ok := by rw [hc]; rfl
  unfold residencyReplyTake
  simp only [hx, hok, hk, receivedEvent_listed (show fld p.w4 63 56 < 16 by omega)]
  rfl

end

theorem managerMessages : Sys2Proof.Spec.ManagerMessages := by
  refine ⟨fun t n k fr p f s₀ s hs ht hcome hn hk hfr => ?_, fun t p f s₀ s x hs ht hcome hx => ?_, fun p f s₀ hcome hphase hlt => ?_⟩
  · subst hs hn hk hfr
    have hd := does_comes (c := .residencyMsg p) rfl hcome
    rw [deliver_residency ht hcome.sound.type] at hd
    refine ⟨fun ho => ⟨fun h1 h32 => ?_, fun hcount hb htile hu hf r key v hv => ?_⟩, fun e ho he hb => ?_⟩
    · rwa [residencyTake_badCount ho h1 h32] at hd
    · rwa [residencyTake_named ho hcount hb htile hu hf hv] at hd
    · exact ⟨_, hd, residencyTake_returned ho he hb⟩
  · subst hs
    have hd := does_comes (c := .residencyReplyMsg p) rfl hcome
    rw [deliver_residencyReply ht hcome.sound.type] at hd
    refine ⟨fun hc => ?_, fun hc hk y v hy hv => ?_⟩
    · rwa [residencyReplyTake_failed hx hc] at hd
    · rw [residencyReplyTake_given hx hc hk y v hy hv] at hd
      refine ⟨fun hkind => ?_, fun hkind => ?_⟩
      · rwa [if_neg (by simpa using hkind)] at hd
      · rwa [if_pos (by simpa using hkind)] at hd
  · have hd := does_comes (c := .managementReplyMsg p) rfl hcome
    rwa [deliver_managementReply (s := taken p 30 f s₀) hcome.sound.type hphase, managementReplyTake, receivedEvent_listed hlt] at hd

/-- Settles O52: a sound packet meets its flow's receive entry, and the cases of Table 8.7 and of Table 6.10 follow one by one. -/
theorem arrivals : Obligations.Arrivals := ⟨deliveries, packetsTurnedAway, managerMessages⟩

end Sys2Proof.Proofs

namespace Sys2Proof.Proofs

open Sys2Proof Sys2Proof.Machine Sys2Proof.Spec

/-! ## What sending crumbs and ending them leaves unchanged -/

/-- From `s` to `u` neither the collectives nor the time differ. -/
structure CollKept (s u : State) : Prop where
  coll : u.coll = s.coll
  now : u.now = s.now

section
variable {s u v : State}

theorem CollKept.refl (s : State) : CollKept s s := ⟨rfl, rfl⟩

theorem CollKept.trans (h : CollKept s u) (g : CollKept u v) : CollKept s v := ⟨g.coll.trans h.coll, g.now.trans h.now⟩

theorem Sent.collKept (h : Sent s u) : CollKept s u := ⟨h.coll, h.now⟩

theorem Logged.collKept (h : Logged s u) : CollKept s u := ⟨h.coll, h.now⟩

theorem CollKept.getColl (h : CollKept s u) (g : Nat) : getColl u g = getColl s g := by rw [Machine.getColl, h.coll]; rfl

theorem CollKept.fold {α : Type} {f : State → α → State} (hf : ∀ s x, CollKept s (f s x)) (l : List α) (s : State) :
    CollKept s (l.foldl f s) := foldl_related CollKept.refl CollKept.trans hf l s

end

theorem collKept_modCore (s : State) (k : Nat) (f : Core → Core) : CollKept s (modCore s k f) := ⟨rfl, rfl⟩

theorem collKept_crumbSend (p : Packet) (s : State) : CollKept s (crumbSend p s) := by
  unfold crumbSend
  split
  · exact ⟨rfl, rfl⟩
  · dsimp only
    split <;> rename_i heq
    · exact (sent_of_pickOne heq).collKept
    · exact ((sent_of_pickOne heq).trans (sent_strandSend _ _ _ _)).collKept

theorem collKept_sendAborts (g kind : Nat) (r : CrumbRound) (code : Code) (got : Nat × Nat) (s : State) :
    CollKept s (sendAborts g kind r code got s) := CollKept.fold (fun _ _ => collKept_crumbSend _ _) _ s

theorem collKept_crumbEnd (g : Nat) (i : CrumbIn) (code : Code) (v : BitVec 128) (s : State) : CollKept s (crumbEnd g i code v s) := by
  unfold crumbEnd
  dsimp only
  split
  · exact .refl s
  · split
    · exact (collKept_modCore _ _ _).trans (collKept_modCore _ _ _)
    · split
      · exact (logged_raise _ _).collKept.trans (collKept_modCore _ _ _)
      · exact collKept_modCore _ _ _

theorem collKept_receivedEvent (tile n : Nat) (s : State) : CollKept s (receivedEvent tile n s) := by
  unfold receivedEvent
  split
  · exact .refl s
  · exact (logged_raise _ _).collKept

/-! ## The entry of a group and its rounds -/

section
variable {s u : State} {g kind num : Nat} {r : CrumbRound} {x : CollGroup}

@[simp] theorem getColl_modColl (g : Nat) (f : CollGroup → CollGroup) (s : State) : getColl (modColl g f s) g = f (getColl s g) := by
  simp [getColl, modColl]

theorem findRound_key (h : findRound x kind num = some r) : r.kind = kind ∧ r.num = num := by
  simpa using List.find?_some h

theorem findRound_putRound (r : CrumbRound) (x : CollGroup) : findRound (putRound r x) r.kind r.num = some r := by
  have hnone (l : List CrumbRound) (q : CrumbRound → Bool) :
      ((l.filter (fun x => !(x.kind == r.kind && x.num == r.num))).filter q).find? (fun x => x.kind == r.kind && x.num == r.num) = none := by
    simp only [List.find?_eq_none, List.mem_filter]
    rintro y ⟨⟨-, hy⟩, -⟩ h
    rw [h] at hy
    exact absurd hy (by decide)
  simp only [findRound, putRound, List.find?_append, hnone]
  simp

theorem findRound_putRound_of (hk : r.kind = kind) (hn : r.num = num) : findRound (putRound r x) kind num = some r := by
  subst hk hn
  exact findRound_putRound r x

@[simp] theorem cgNum_putRound (r : CrumbRound) (x : CollGroup) (kind : Nat) : cgNum (putRound r x) kind = cgNum x kind := rfl

@[simp] theorem failed_putRound (r : CrumbRound) (x : CollGroup) : (putRound r x).failed = x.failed := rfl

@[simp] theorem cgT_putRound (r : CrumbRound) (x : CollGroup) : cgT (putRound r x) = cgT x := rfl

@[simp] theorem cgU_putRound (r : CrumbRound) (x : CollGroup) : cgU (putRound r x) = cgU x := rfl

@[simp] theorem cgV_putRound (r : CrumbRound) (x : CollGroup) : cgV (putRound r x) = cgV x := rfl

@[simp] theorem findRound_advanceRound (x : CollGroup) (kind num k n : Nat) : findRound (advanceRound kind num x) k n = findRound x k n := by
  unfold advanceRound
  dsimp only
  split <;> rfl

@[simp] theorem failed_advanceRound (x : CollGroup) (kind num : Nat) : (advanceRound kind num x).failed = x.failed := by
  unfold advanceRound
  dsimp only
  split <;> rfl

/-- Past the end of the round in progress a later one of its kind is in progress. -/
theorem cgNum_advanceRound (x : CollGroup) (kind : Nat) : cgNum x kind < cgNum (advanceRound kind (cgNum x kind) x) kind := by
  have hlater (n : Nat) (b : Bool) : n < if b = true then n + 2 else n + 1 := by split <;> omega
  unfold advanceRound
  dsimp only
  rw [if_pos rfl]
  split
  · rename_i hk
    subst hk
    exact hlater _ _
  · rename_i hk
    simpa only [cgNum, if_neg hk] using hlater _ _

/-! ## The end of a round -/

theorem coll_endRound (code : Code) (hr : findRound (getColl s g) kind num = some r) (he : r.ended = none) :
    CollKept (modColl g (fun x => advanceRound kind num (putRound { r with ended := some code } x)) s) (endRound g kind num code s) := by
  have hm : modColl g (advanceRound kind num) (modRound g kind num (fun r => { r with ended := some code }) s) =
      modColl g (fun x => advanceRound kind num (putRound { r with ended := some code } x)) s := by
    simp [modRound, modColl, getColl, show findRound (tget groupEmpty s.coll.groups g) kind num = some r from hr]
  unfold endRound
  simp only [hr, he, Option.isSome_none, Bool.false_eq_true, if_false, hm]
  exact CollKept.fold (fun _ _ => collKept_crumbEnd _ _ _ _ _) _ _

/-- A round that goes on has ended after `endRound`, in a group whose marks stay. -/
theorem endRound_ends (code : Code) (hr : findRound (getColl s g) kind num = some r) (he : r.ended = none) :
    RoundEnded s (endRound g kind num code s) g kind num code ∧ (getColl (endRound g kind num code s) g).failed = (getColl s g).failed := by
  obtain ⟨hk, hn⟩ := findRound_key hr
  rw [RoundEnded, (coll_endRound code hr he).getColl, getColl_modColl]
  refine ⟨⟨⟨{ r with ended := some code }, ?_, rfl⟩, ?_⟩, by simp⟩
  · rw [findRound_advanceRound]
    exact findRound_putRound_of hk hn
  · rintro rfl
    exact cgNum_advanceRound (putRound _ _) kind

theorem roundEnded_from {v : State} {code : Code} (h : RoundEnded u v g kind num code)
    (hn : cgNum (getColl u g) kind = cgNum (getColl s g) kind) : RoundEnded s v g kind num code := by
  unfold RoundEnded at h ⊢
  rwa [← hn]

/-- A group that is marked FAILED keeps its rounds and their numbers. -/
theorem markFailed_keeps (g kind num : Nat) (s : State) :
    (∀ k n, findRound (getColl (markFailed g kind num s) g) k n = findRound (getColl s g) k n) ∧
    (∀ k, cgNum (getColl (markFailed g kind num s) g) k = cgNum (getColl s g) k) ∧
    (getColl (markFailed g kind num s) g).failed = (getColl s g).failed ||| BitVec.twoPow 2 kind := by
  have h (f : CollGroup → CollGroup) :
      getColl { modColl g f s with coll := { (modColl g f s).coll with failedGroup := g, failedValid := true } } g = f (getColl s g) :=
    getColl_modColl g f s
  rw [markFailed, h]
  exact ⟨fun _ _ => rfl, fun _ => rfl, rfl⟩

theorem bit_markFailed (hk : kind < 2) (f : BitVec 2) : bit (f ||| BitVec.twoPow 2 kind) kind = true := by
  simp [bit, hk]

/-- What marks a group FAILED and then ends a round of it leaves the time. -/
theorem endRound_failed_ends {v w : State} (code : Code) (hk : kind < 2) (hr : findRound (getColl s g) kind num = some r) (he : r.ended = none)
    (hkept : CollKept (markFailed g kind num s) w) (hv : v = endRound g kind num code w) :
    v.now = s.now ∧ RoundEnded s v g kind num code ∧ bit (getColl v g).failed kind = true ∧ v.coll.failedGroup = g ∧
    v.coll.failedValid = true := by
  obtain ⟨hround, hnums, hfailed⟩ := markFailed_keeps g kind num s
  rw [← hkept.getColl] at hround hnums hfailed
  have hrw := (hround kind num).trans hr
  have hend := coll_endRound code hrw he
  obtain ⟨hends, hmarks⟩ := endRound_ends code hrw he
  rw [← hv] at hend hends hmarks
  refine ⟨hend.now.trans hkept.now, roundEnded_from hends (hnums kind), ?_, ?_, ?_⟩
  · rw [hmarks, hfailed]
    exact bit_markFailed hk _
  · rw [hend.coll]
    exact congrArg (·.failedGroup) hkept.coll
  · rw [hend.coll]
    exact congrArg (·.failedValid) hkept.coll

theorem mismatchRound_ends (origin : Nat) (hk : kind < 2) (hr : findRound (getColl s g) kind num = some r) (he : r.ended = none) :
    RoundEnded s (mismatchRound g kind num origin s) g kind num .mismatch ∧
    bit (getColl (mismatchRound g kind num origin s) g).failed kind = true := by
  have hkept (e : EvRec) (got : Nat × Nat) : CollKept (markFailed g kind num s)
      (sendAborts g kind r .mismatch got (raise e (countHearth 8 1 (markFailed g kind num s)))) :=
    ((logged_count _ _ _).trans (logged_raise _ _)).collKept.trans (collKept_sendAborts _ _ _ _ _ _)
  unfold mismatchRound
  simp only [hr, he, Option.isSome_none, Bool.false_eq_true, if_false]
  obtain ⟨-, hend, hfailed, -⟩ := endRound_failed_ends .mismatch hk hr he (hkept _ _) rfl
  exact ⟨hend, hfailed⟩

/-! ## A round that waits for inputs -/

/-- With one operation and lane count among contributions and inputs, none differs from the round. -/
theorem roundDiffers_none {sh : Nat × Nat} (hi : ∀ i ∈ r.ins, (i.op, i.lanes) = sh) (hv : ∀ y ∈ r.rack ++ r.hall, (y.op, y.lanes) = sh) :
    roundDiffers s r = none := by
  unfold roundDiffers roundOp
  cases hins : r.ins with
  | nil => rfl
  | cons a l =>
    rw [hins] at hi
    obtain rfl := hi a (by simp)
    simp only [Prod.mk.injEq] at hi hv
    have hany : (a :: l).any (fun i => i.op != a.op || i.lanes != a.lanes) = false := by
      simp only [List.any_eq_false, Bool.or_eq_true, bne_iff_ne]
      intro i h
      simp [hi i h]
    have hfind : (r.rack ++ r.hall).find? (fun v => v.op != a.op || v.lanes != a.lanes) = none := by
      simp only [List.find?_eq_none, Bool.or_eq_true, bne_iff_ne]
      intro y h
      simp [hv y h]
    dsimp only
    rw [hany, hfind]
    rfl

theorem formModule_formed (hr : findRound (getColl s g) kind num = some r) (hm : r.moduleVal.isSome = true) :
    formModule g kind num s = s := by
  unfold formModule
  simp only [hr]
  split
  · rfl
  · simp [hm]

theorem formRack_waits (hr : findRound (getColl s g) kind num = some r)
    (hw : r.rackVal.isSome = true ∨ r.rack.length < cgT (getColl s g) * cgU (getColl s g)) : formRack g kind num s = s := by
  unfold formRack
  simp only [hr]
  split
  · rfl
  · rcases hw with h | h <;> simp [h]

theorem finishRound_waits (hr : findRound (getColl s g) kind num = some r)
    (hw : r.rackVal = none ∨ r.hall.length < cgV (getColl s g)) : finishRound g kind num s = s := by
  unfold finishRound
  simp only [hr]
  rcases hw with h | h <;> simp [h]

theorem roundStep_waits {sh : Nat × Nat} (hr : findRound (getColl s g) kind num = some r)
    (hi : ∀ i ∈ r.ins, (i.op, i.lanes) = sh) (hv : ∀ y ∈ r.rack ++ r.hall, (y.op, y.lanes) = sh) (hm : r.moduleVal.isSome = true)
    (hrack : r.rackVal.isSome = true ∨ r.rack.length < cgT (getColl s g) * cgU (getColl s g))
    (hhall : r.rackVal = none ∨ r.hall.length < cgV (getColl s g)) : roundStep g kind num s = s := by
  unfold roundStep
  simp only [hr, roundDiffers_none (s := s) hi hv]
  rw [formModule_formed hr hm, formRack_waits hr hrack, finishRound_waits hr hhall]

end

/-! ## Arriving crumbs (R331, R335, R338, R340) -/

/-- The inputs of a fold of a round. -/
def foldInputs (hall : Bool) (r : CrumbRound) : List CrumbVal := if hall then r.hall else r.rack

/-- The origins that a fold takes inputs from. -/
def foldMembers (hall : Bool) (s : State) (x : CollGroup) : List Nat := if hall then memberRacks x else rackMembers x (s.myModule / 64)

/-- The round with an input more in a fold, and the fold's NACK due. -/
def joined (hall : Bool) (v : CrumbVal) (s : State) (r : CrumbRound) : CrumbRound :=
  if hall then nackDueHall s { r with hall := r.hall ++ [v] } else nackDue s { r with rack := r.rack ++ [v] }

section
variable {p : Packet} {s : State} {num : Nat} {r : CrumbRound} (h : RoundOpen p s num r) (hall : Bool)
include h

theorem crumbTake_open : crumbTake hall p s =
    if (foldInputs hall r).any (fun y => y.origin == (pcInput p).origin) = true then s
    else if fld p.w3 20 5 ≠ (getColl s (pcGroup p)).hash then
      mismatchRound (pcGroup p) (pcKind p) num (pcInput p).origin (modColl (pcGroup p) (putRound r) s)
    else if (foldMembers hall s (getColl s (pcGroup p))).contains (pcInput p).origin = false then s
    else roundStep (pcGroup p) (pcKind p) num (modColl (pcGroup p) (putRound (joined hall (pcInput p) s r)) s) := by
  obtain ⟨hserved, hhearth, hnamed, hpresent, hhealthy, hround, hgoing⟩ := h
  unfold pcGroup pcKind at *
  unfold crumbTake
  cases hall <;>
    simp [hserved, hhearth, hnamed, hhealthy, hround, hgoing, Nat.not_lt.2 hpresent, foldInputs, foldMembers, joined, pcInput]

theorem crumbTake_again (ha : (foldInputs hall r).any (fun y => y.origin == (pcInput p).origin) = true) : crumbTake hall p s = s := by
  rw [crumbTake_open h, if_pos ha]

/-- The round that a state holds once it has been written into its group. -/
theorem findRound_put {q : CrumbRound} (hq : q.kind = r.kind ∧ q.num = r.num) :
    findRound (getColl (modColl (pcGroup p) (putRound q) s) (pcGroup p)) (pcKind p) num = some q := by
  obtain ⟨hk, hn⟩ := findRound_key h.round
  rw [getColl_modColl]
  exact findRound_putRound_of (hq.1.trans hk) (hq.2.trans hn)

theorem mismatchRound_put_ends (origin : Nat) {v : State}
    (hv : v = mismatchRound (pcGroup p) (pcKind p) num origin (modColl (pcGroup p) (putRound r) s)) :
    RoundEnded s v (pcGroup p) (pcKind p) num .mismatch ∧ bit (getColl v (pcGroup p)).failed (pcKind p) = true := by
  subst hv
  obtain ⟨hend, hfailed⟩ := mismatchRound_ends origin (show pcKind p < 2 from fld_lt _ _ _) (findRound_put h ⟨rfl, rfl⟩) h.going
  exact ⟨roundEnded_from hend (by rw [getColl_modColl, cgNum_putRound]), hfailed⟩

theorem crumbTake_otherHash (ha : (foldInputs hall r).any (fun y => y.origin == (pcInput p).origin) = false)
    (hh : fld p.w3 20 5 ≠ (getColl s (pcGroup p)).hash) :
    crumbTake hall p s = mismatchRound (pcGroup p) (pcKind p) num (pcInput p).origin (modColl (pcGroup p) (putRound r) s) := by
  rw [crumbTake_open h, ha, if_neg Bool.false_ne_true, if_pos hh]

/-- An input of a new member joins its fold; nothing follows in a round that still waits. -/
theorem crumbTake_joins (ha : (foldInputs hall r).any (fun y => y.origin == (pcInput p).origin) = false)
    (hh : fld p.w3 20 5 = (getColl s (pcGroup p)).hash) (hmem : (pcInput p).origin ∈ foldMembers hall s (getColl s (pcGroup p)))
    (hrests : ∀ u, getColl u (pcGroup p) = putRound (joined hall (pcInput p) s r) (getColl s (pcGroup p)) →
      findRound (getColl u (pcGroup p)) (pcKind p) num = some (joined hall (pcInput p) s r) → roundStep (pcGroup p) (pcKind p) num u = u) :
    crumbTake hall p s = modColl (pcGroup p) (putRound (joined hall (pcInput p) s r)) s := by
  have hkey : (joined hall (pcInput p) s r).kind = r.kind ∧ (joined hall (pcInput p) s r).num = r.num := by cases hall <;> exact ⟨rfl, rfl⟩
  rw [crumbTake_open h, ha, if_neg Bool.false_ne_true, if_neg (not_not.2 hh), if_neg (by simpa using hmem)]
  exact hrests _ (getColl_modColl _ _ _) (findRound_put h hkey)

/-- A module that asks for a value of the round draws it again (R338). -/
theorem crumbNackOp_answers (hd : crumbDiffers (getColl s (pcGroup p)) r p = false)
    (hhall : (pSrcModule p / 64 != s.myModule / 64) = hall) (ho : (pcInput p).origin = if hall = true then s.myModule / 64 else s.myModule) :
    crumbNackOp p s = sendValue (pcGroup p) (pcKind p) r hall (pSrcModule p) s := by
  obtain ⟨hserved, hhearth, hnamed, -, -, hround, -⟩ := h
  unfold pcGroup pcKind pcInput at *
  unfold crumbNackOp
  simp [hserved, hhearth, hnamed, hround, hd, hhall, show fld p.w3 34 21 = _ from ho]

theorem crumbAbortOp_open : crumbAbortOp p s =
    if crumbDiffers (getColl s (pcGroup p)) r p = true then
      mismatchRound (pcGroup p) (pcKind p) num (fld p.w3 34 21) (modColl (pcGroup p) (putRound r) s)
    else endRound (pcGroup p) (pcKind p) num (codeReceived (fld p.w4 49 42)) (sendAborts (pcGroup p) (pcKind p) r (codeReceived (fld p.w4 49 42))
      (pktShape p) (modColl (pcGroup p) (putRound r) (receivedEvent 30 (fld p.w4 49 42) s))) := by
  obtain ⟨hserved, hhearth, hnamed, -, -, hround, hgoing⟩ := h
  unfold pcGroup pcKind at *
  unfold crumbAbortOp
  simp [hserved, hhearth, hnamed, hround, hgoing]

theorem crumbAbortOp_ends : RoundEnded s (crumbAbortOp p s) (pcGroup p) (pcKind p) num
    (if crumbDiffers (getColl s (pcGroup p)) r p = true then .mismatch else codeReceived (fld p.w4 49 42)) := by
  rw [crumbAbortOp_open h]
  split
  · exact (mismatchRound_put_ends h _ rfl).1
  · generalize codeReceived _ = code
    generalize hu : sendAborts _ _ _ _ _ _ = u
    have hx : getColl u (pcGroup p) = putRound r (getColl s (pcGroup p)) := by
      rw [← hu, (collKept_sendAborts _ _ _ _ _ _).getColl, getColl_modColl, (collKept_receivedEvent _ _ _).getColl]
    obtain ⟨hk, hn⟩ := findRound_key h.round
    refine roundEnded_from (endRound_ends code (r := r) ?_ h.going).1 (by rw [hx, cgNum_putRound])
    rw [hx]
    exact findRound_putRound_of hk hn

end

/-! ## The timers of a round (R338, R339) -/

section
variable {s : State} {g kind : Nat} {r : CrumbRound}

theorem findRound_of_nacksDue {x : CollGroup} {due : Nat} {hall : Bool} (h : nacksDue s x kind = [(due, r, hall)]) :
    findRound x kind r.num = some r := by
  have hmem : (due, r, hall) ∈ nacksDue s x kind := by simp [h]
  simp only [nacksDue, List.mem_flatMap] at hmem
  obtain ⟨n, -, hn⟩ := hmem
  split at hn
  · simp at hn
  · rename_i q hq
    have hqr : q = r := by
      split at hn
      · simp at hn
      · simp only [List.mem_filterMap] at hn
        obtain ⟨b, -, hb⟩ := hn
        split at hb
        · simp at hb
        · simp only [Option.map_eq_some_iff, Prod.mk.injEq] at hb
          obtain ⟨_, -, -, hb, -⟩ := hb
          exact hb
    subst hqr
    obtain ⟨-, hnum⟩ := findRound_key hq
    rwa [hnum]

theorem findRound_modRound {num : Nat} {f : CrumbRound → CrumbRound} (hf : (f r).kind = r.kind ∧ (f r).num = r.num)
    (hr : findRound (getColl s g) kind num = some r) : findRound (getColl (modRound g kind num f s) g) kind num = some (f r) := by
  obtain ⟨hk, hn⟩ := findRound_key hr
  rw [modRound, getColl_modColl]
  simp only [hr]
  exact findRound_putRound_of (hf.1.trans hk) (hf.2.trans hn)

theorem hash_modRound (g kind num : Nat) (f : CrumbRound → CrumbRound) (s : State) :
    (getColl (modRound g kind num f s) g).hash = (getColl s g).hash := by
  rw [modRound, getColl_modColl]
  split <;> rfl

/-- A change of a round leaves the packets that its group sends. -/
theorem crumbPkt_modRound (num : Nat) (f : CrumbRound → CrumbRound) (dst type op lanes n origin last code : Nat) (v : BitVec 128) :
    crumbPkt (modRound g kind num f s) dst type g kind op lanes n origin last code v = crumbPkt s dst type g kind op lanes n origin last code v := by
  unfold crumbPkt
  rw [hash_modRound]
  rfl

/-- The round with the next NACK of a fold due at a time. -/
def nackAgain (hall : Bool) (time : Nat) (r : CrumbRound) : CrumbRound :=
  if hall then { r with nackHall := some time } else { r with nackAt := some time }

theorem nackAgain_key (hall : Bool) (time : Nat) (r : CrumbRound) : (nackAgain hall time r).kind = r.kind ∧ (nackAgain hall time r).num = r.num := by
  cases hall <;> exact ⟨rfl, rfl⟩

theorem nackAgain_due (hall : Bool) (time : Nat) (r : CrumbRound) :
    (if hall then (nackAgain hall time r).nackHall else (nackAgain hall time r).nackAt) = some time := by
  cases hall <;> rfl

/-- The NACK of a fold asks each origin that the fold lacks, once its next is due NACK_US later. -/
theorem crumbNackTimerOp_due {due : Nat} {hall : Bool} (h : nacksDue s (getColl s g) kind = [(due, r, hall)]) (v : State)
    (hv : v = { s with now := max s.now due }) :
    crumbNackTimerOp g kind s = (foldMissing s (getColl s g) r hall).foldl (fun s m => countHearth 9 1 (crumbSend
      (crumbPkt s m.1 0x52 g kind ((roundShape r).getD (0, 1)).1 (((roundShape r).getD (0, 1)).2 - 1) r.num m.2 0 0 0) s))
      (modRound g kind r.num (nackAgain hall (nackNext v)) v) := by
  subst hv
  unfold crumbNackTimerOp
  simp only [h]
  rfl

theorem crumbNackTimerOp_keeps {due : Nat} {hall : Bool} (h : nacksDue s (getColl s g) kind = [(due, r, hall)]) (v : State)
    (hv : v = { s with now := max s.now due }) :
    CollKept (modRound g kind r.num (nackAgain hall (nackNext v)) v) (crumbNackTimerOp g kind s) := by
  rw [crumbNackTimerOp_due h v hv]
  exact CollKept.fold (fun _ _ => (collKept_crumbSend _ _).trans (logged_count _ _ _).collKept) _ _

theorem crumbRoundTimeoutOp_formed {num : Nat} (hn : cgNum (getColl s g) kind = num) (hr : findRound (getColl s g) kind num = some r)
    (hm : r.moduleVal.isSome = true) (he : r.ended = none) :
    ∃ e, crumbRoundTimeoutOp g kind s = endRound g kind num .timeout (raise e (countHearth 7 1 (markFailed g kind num
      { s with now := max s.now (r.formed + 1000 * cgWaitUs (getColl s g)) }))) := by
  obtain ⟨-, hnum⟩ := findRound_key hr
  unfold crumbRoundTimeoutOp
  simp only [hn, hr, Option.isNone_eq_false_iff.2 hm, he, Option.isSome_none, Bool.or_self, Bool.false_eq_true, if_false, hnum]
  exact ⟨_, rfl⟩

end

/-! ## Crumb rounds (O57) -/

theorem crumbRounds : Sys2Proof.Spec.CrumbRounds := by
  refine ⟨fun p s₀ s num r hs h => ?_, fun g kind s v r due hall hm hdue hv => ?_, fun g kind s r hm hr hformed hgoing => ?_⟩
  · have hrack (hp : Sound 0x50 p 30 s₀) : Does (.crumbRack p) s₀ (crumbTake false p s) := hs ▸ does_arriveLoose rfl hp
    have hhall (hp : Sound 0x51 p 30 s₀) : Does (.crumbHall p) s₀ (crumbTake true p s) := hs ▸ does_arriveLoose rfl hp
    have hnack (hp : Sound 0x52 p 30 s₀) : Does (.crumbNack p) s₀ (crumbNackOp p s) := hs ▸ does_arriveLoose rfl hp
    have habort (hp : Sound 0x53 p 30 s₀) : Does (.crumbAbort p) s₀ (crumbAbortOp p s) := hs ▸ does_arriveLoose rfl hp
    refine ⟨fun hp ha => ?_, fun hp ha => ?_, fun hp ha hh hmem hformed hrv hroom hi hv => ?_, fun hp ha hh hmem hformed hrv hroom hi hv => ?_,
      fun hp ha hh => ⟨_, hrack hp, mismatchRound_put_ends h _ (crumbTake_otherHash h false ha hh)⟩, fun hp hd => ⟨fun hsrc ho => ?_, fun hsrc ho => ?_⟩,
      fun hp => ⟨_, habort hp, crumbAbortOp_ends h⟩⟩
    · rw [← crumbTake_again h false ha]
      exact hrack hp
    · rw [← crumbTake_again h true ha]
      exact hhall hp
    · refine (crumbTake_joins h false ha hh hmem fun u hx hr => ?_) ▸ hrack hp
      exact roundStep_waits hr hi (by simpa [joined, nackDue, or_imp, forall_and] using hv) hformed
        (.inr (by rw [hx]; simpa [joined, nackDue] using hroom)) (.inl hrv)
    · refine (crumbTake_joins h true ha hh hmem fun u hx hr => ?_) ▸ hhall hp
      exact roundStep_waits hr hi (by simpa [joined, nackDueHall, or_imp, forall_and] using hv) hformed
        (.inl hrv) (.inr (by rw [hx]; simpa [joined, nackDueHall] using hroom))
    · exact crumbNackOp_answers h false hd (by simp [hsrc]) ho ▸ hnack hp
    · exact crumbNackOp_answers h true hd (by simp [hsrc]) ho ▸ hnack hp
  · have hdoes : Does (.crumbNackTimer g kind) s (crumbNackTimerOp g.val kind.val s) := does_onMain rfl hm rfl
    refine ⟨⟨_, nackAgain hall (nackNext v) r, hdoes, ?_, ?_, ?_⟩, fun m hmiss => ?_⟩
    · rw [(crumbNackTimerOp_keeps hdue v hv).now, hv]
      rfl
    · rw [(crumbNackTimerOp_keeps hdue v hv).getColl]
      exact findRound_modRound (s := v) (nackAgain_key _ _ _) (hv ▸ findRound_of_nacksDue hdue)
    · rw [nackAgain_due, (crumbNackTimerOp_keeps hdue v hv).now, hv]
      rfl
    · rw [crumbNackTimerOp_due hdue v hv, hmiss, List.foldl_cons, List.foldl_nil, crumbPkt_modRound] at hdoes
      exact hdoes
  · obtain ⟨e, hop⟩ := crumbRoundTimeoutOp_formed rfl hr hformed hgoing
    obtain ⟨hnow, hend, hmarks⟩ := endRound_failed_ends (s := { s with now := max s.now (r.formed + 1000 * cgWaitUs (getColl s g)) })
      .timeout kind.isLt hr hgoing ((logged_count _ _ _).trans (logged_raise _ _)).collKept hop
    exact ⟨_, does_onMain rfl hm rfl, hnow, roundEnded_from hend rfl, hmarks⟩

end Sys2Proof.Proofs

namespace Sys2Proof.Proofs

open Sys2Proof Sys2Proof.Machine Sys2Proof.Spec

/-! ## Collective packets at an operation that takes them (R349, R353, R356, Table 10.11) -/

section
variable {t i from_ : Nat} {p : Packet} {s : State} {o : LinkOp}

theorem findLink_of_collMatch (h : collMatch t p s = some (o, i, from_)) : findLink s t (fld p.w3 63 54) = some o := by
  unfold collMatch at h
  split at h
  · simp at h
  · rename_i q hq
    split at h
    · simp at h
    · simp only [Option.some.injEq, Prod.mk.injEq] at h
      rw [hq, h.1]

/-- The operation has taken nothing from a contributor in an exchange from a block or word on. -/
def NotGot (o : LinkOp) (i from_ first : Nat) : Prop := ∀ r ∈ o.got, ¬ (r.xch = i ∧ r.from_ = from_ ∧ r.first = first)

theorem NotGot.find {first : Nat} (h : NotGot o i from_ first) :
    o.got.find? (fun r => r.xch == i && r.from_ == from_ && r.first == first) = none := by
  simp only [List.find?_eq_none]
  intro r hr
  simpa [and_assoc] using h r hr

/-- A block of the up phase whose residue agrees joins the working block (R349). -/
theorem takeBlock_joins {st b : Nat} {lanes : List Word} (ho : findLink s t (fld p.w3 63 54) = some o) (hup : bit p.w3 43 = false)
    (hn : fld p.w4 7 5 = 0) (hb : b = fld p.w4 31 8) (hl : lanes = blockLanes (p.payload.take 512))
    (hres : leNat ((p.payload.drop 512).take 2) = blockResidue lanes) (hgot : NotGot o i from_ b) :
    takeBlock st t none p i from_ 0 s = modLink t o.group (fun o => { o with got := o.got ++ [⟨i, from_, b, 1, false⟩] })
      (modLink t o.group (fun o => { o with blk := tput o.blk b (tget 1 o.blk b + leNat ((p.payload.drop 528).take 3)) })
        (putWork o b (List.zipWith (· + ·) (workLanes s o b) lanes) (benchScan (linkKey o) (lWork o.desc + 512 * b) 512 s).2)) := by
  subst hb hl
  unfold takeBlock
  simp only [ho, hup, hn, Nat.mul_zero, Nat.add_zero, Nat.zero_add, Nat.mul_one, List.drop_zero, List.drop_drop, hres, bne_self_eq_false,
    Bool.false_eq_true, if_false, hgot.find]

/-- A COLL_DATA of one block that is due from its contributor is taken. -/
theorem collDataTake_takes {st : Nat} {wrong : Option Nat} {b : Nat} (hm : collMatch t p s = some (o, i, from_)) (hd : hashDiffers s o p = false)
    (hmem : collMember s o p = true) (hphase : o.phase = 1) (hr : lReduces o.desc = true) (hup : bit p.w3 43 = false)
    (hn : fld p.w4 7 5 = 0) (hb : b = fld p.w4 31 8)
    (hdue : ∃ q ∈ redIn (lOp o.desc == 2) (getColl s o.group) (linkMe s o) (lBlocks o.desc) false (fld p.w3 45 44, fld p.w3 42 35),
      q.1 = from_ ∧ q.2.1 ≤ b ∧ b < q.2.2) (hgot : NotGot o i from_ b) :
    collDataTake st t wrong p s = takeBlock st t wrong p i from_ 0 s := by
  have hdue' : (redIn (lOp o.desc == 2) (getColl s o.group) (linkMe s o) (lBlocks o.desc) false (fld p.w3 45 44, fld p.w3 42 35)).any
      (fun q => q.1 == from_ && decide (q.2.1 ≤ b) && decide (b + 1 ≤ q.2.2)) = true := by
    obtain ⟨q, hq, h1, h2, h3⟩ := hdue
    simp only [List.any_eq_true]
    exact ⟨q, hq, by simp [h1, h2, Nat.succ_le_of_lt h3]⟩
  have hlate : o.got.any (fun r => r.xch == i && r.from_ == from_ && r.first == b && r.omitted) = false := by
    simp only [List.any_eq_false]
    intro r hrm
    have := hgot r hrm
    simp only [Bool.and_eq_true, beq_iff_eq]
    tauto
  subst hb
  unfold collDataTake
  simp only [hm]
  simp only [hup, hn, hphase, hd, hr, hmem, hdue', Nat.reduceEqDiff, decide_false, Bool.or_self, Bool.false_eq_true, if_false, hlate]
  simp [upto]

/-- The words of a COLL_RAW are written into the output (R356, R358). -/
theorem collRawTake_writes {key : Nat} {ws : List Word} (hm : collMatch t p s = some (o, i, from_)) (hd : hashDiffers s o p = false)
    (hmem : collMember s o p = true) (hphase : o.phase = 1) (hr : lReduces o.desc = false) (hc : (inCounts o && bit p.w3 43) = false)
    (hi : i < (linkXchs (getColl s o.group) { o with phase := 1 }).length)
    (hw : ws = (upto ((pBytes p).length / 8)).map (fun k => BitVec.ofNat 64 (leNat (((pBytes p).drop (8 * k)).take 8))))
    (hk : key = (if lGathers o.desc then fld p.w4 31 8 else slotKey s o from_ + fld p.w4 31 8)) (hgot : NotGot o i from_ key) :
    collRawTake t p s = rawPut o key ws (modLink t o.group (fun o => { o with got := o.got ++ [⟨i, from_, key, ws.length, false⟩] }) s) := by
  subst hw hk
  unfold collRawTake
  simp only [hm]
  simp [hd, hmem, hphase, hr, hc, Nat.not_le.2 hi, hgot.find]

theorem collNackOp_draws (ht : pDstTile p = t) (hm : collMatch t p s = some (o, i, from_)) (hd : hashDiffers s o p = false)
    (hmem : collMember s o p = true) (hphase : o.phase = 3 ∨ o.phase = 4) :
    collNackOp p s = sendBlocks t o.group from_ (fld p.w3 45 44) 1 (fld p.w3 42 35) 8 (fld p.w4 31 8) (fld p.w4 31 8 + fld p.w4 7 5 + 1) s := by
  subst ht
  unfold collNackOp
  simp only [hm]
  simp [hd, hmem, hphase]

theorem collDataOp_here {st : Nat} {wrong : Option Nat} (h : Sound 0x60 p t u) (ht : t < 24) :
    collDataOp st wrong p s = collDataTake st t wrong p s := by
  obtain rfl := h.tile
  simp [collDataOp, ht, h.type]

theorem collOp_here (h : Sound 0x61 p t u) (ht : t < 24) : collOp p s = collRawTake t p s := by
  obtain rfl := h.tile
  simp [collOp, collTake, ht, h.type]

end

theorem linkAdderData : Sys2Proof.Spec.LinkAdderData := by
  intro t i from_ p s₀ s o hs ht hm hd hmem
  refine ⟨fun st b lanes hp hphase hr hup hn hb hl hres hdue hgot => ?_, fun key ws hp hphase hr hc hi hw hk hgot => ?_, fun hp hphase => ?_⟩
  · rw [← takeBlock_joins (st := st.val) (findLink_of_collMatch hm) hup hn hb hl hres hgot,
      ← collDataTake_takes hm hd hmem hphase hr hup hn hb hdue hgot, ← collDataOp_here hp ht, hs]
    exact does_arriveLoose rfl hp
  · rw [← collRawTake_writes hm hd hmem hphase hr hc hi hw hk hgot, ← collOp_here hp ht, hs]
    exact does_arriveLoose rfl hp
  · rw [← collNackOp_draws hp.tile hm hd hmem hphase, hs]
    exact does_arriveLoose rfl hp

end Sys2Proof.Proofs

namespace Sys2Proof.Proofs

open Sys2Proof Sys2Proof.Machine Sys2Proof.Spec

/-! ## What the bench side of an adder leaves unchanged -/

section
variable (s : State) (key : Nat)

theorem collKept_benchFail (i : Nat) : CollKept s (benchFail key i s) := by
  unfold benchFail
  exact (collKept_modCore s key _).trans (logged_raise _ _).collKept

theorem collKept_benchScan (off n : Nat) : CollKept s (benchScan key off n s).2 := by
  unfold benchScan
  dsimp only
  split
  · exact (logged_count _ _ _).collKept
  · exact (logged_count _ _ _).collKept.trans (collKept_benchFail _ _ _)

theorem collKept_benchPut (off : Nat) (bs : List Byte) : CollKept s (benchPut key off bs s) := collKept_modCore _ _ _

theorem collKept_conditionEvents (tile core level : Nat) (l : List Code) : CollKept s (conditionEvents tile core level l s) := by
  unfold conditionEvents
  split
  · exact .refl s
  · exact CollKept.fold (fun _ _ => (logged_raise _ _).collKept) _ s

variable (o : LinkOp)

theorem collKept_rawRestore : CollKept s (rawRestore o s) := by
  unfold rawRestore
  split
  · exact .refl s
  · exact collKept_benchPut _ _ _ _

theorem collKept_linkUnlock (work : Bool) : CollKept s (linkUnlock o work s) := collKept_modCore _ _ _

/-- A fold over a state and a mark that changes benches leaves the collectives. -/
theorem collKept_foldMarked {α : Type} {f : State × Bool → α → State × Bool} (hf : ∀ q x, CollKept q.1 (f q x).1) (l : List α)
    (q : State × Bool) : CollKept q.1 (l.foldl f q).1 :=
  foldl_related (R := fun q r : State × Bool => CollKept q.1 r.1) (fun q => .refl q.1) CollKept.trans hf l q

theorem collKept_linkDeliver : CollKept s (linkDeliver o s).1 := by
  unfold linkDeliver
  dsimp only
  split
  · exact .refl s
  · have hblocks {f : State × Bool → Nat → State × Bool} (hf : ∀ q i, CollKept q.1 (f q i).1) (off n : Nat) (l : List Nat) :
        CollKept s (l.foldl f ((benchScan (linkKey o) off n s).2, false)).1 :=
      (collKept_benchScan _ _ _ _).trans (collKept_foldMarked hf l (_, false))
    dsimp only
    split
    · exact (hblocks (fun q i => CollKept.fold (fun _ _ => collKept_benchPut _ _ _ _) _ q.1) _ _ _).trans (collKept_benchPut _ _ _ _)
    · exact hblocks (fun q i => CollKept.fold (fun _ _ => collKept_benchPut _ _ _ _) _ q.1) _ _ _

theorem linkTell_coll (code : Code) : (linkTell o code s).coll = { s.coll with
    lastTag := tput s.coll.lastTag o.tile (BitVec.ofNat 16 (lTag o.desc)), lastCode := tput s.coll.lastCode o.tile code } := by
  have hsteps : (if (lReduces o.desc || lGathers o.desc) = true then countTile o.tile 34 1 s else s).coll = s.coll := by
    split
    · exact count_coll _ _ _
    · rfl
  unfold linkTell
  dsimp only [modCore, putCore]
  split
  · simp only [raise_coll, hsteps]
  · simp only [hsteps]

end

/-! ## The end of an operation (R347, Table 10.10) -/

section
variable {s : State} {o : LinkOp}

theorem linkFinish_ended (he : o.ended = true) : (linkFinish o s).coll = (dropLink o.tile o.group s).coll := by
  unfold linkFinish
  simp only [he, if_true]
  exact (collKept_linkUnlock _ _ _).coll

/-- The end of a step that its kernel has not been told shows its tag and code. -/
theorem linkFinish_tells (he : o.ended = false) : ∃ c, (linkFinish o s).coll = { (dropLink o.tile o.group s).coll with
      lastTag := tput s.coll.lastTag o.tile (BitVec.ofNat 16 (lTag o.desc)), lastCode := tput s.coll.lastCode o.tile c } ∧
    (codeFailed o.code = true → c = o.code) ∧ (codeFailed o.code = false → c = o.code ∨ c = codeMerge o.code .saturated) := by
  have htells (c : Code) (l : List Code) {u : State} (hu : CollKept (dropLink o.tile o.group s) u) :
      (linkTell o c (conditionEvents o.tile o.core 4 l (linkUnlock o false u))).coll = { (dropLink o.tile o.group s).coll with
        lastTag := tput s.coll.lastTag o.tile (BitVec.ofNat 16 (lTag o.desc)), lastCode := tput s.coll.lastCode o.tile c } := by
    rw [linkTell_coll, (collKept_conditionEvents _ _ _ _ _).coll, (collKept_linkUnlock _ _ _).coll, hu.coll]
    rfl
  have hsat (b : Bool) : (if b = true then codeMerge o.code .saturated else o.code) = o.code ∨
      (if b = true then codeMerge o.code .saturated else o.code) = codeMerge o.code .saturated := by
    cases b
    · exact .inl rfl
    · exact .inr rfl
  unfold linkFinish
  simp only [he, Bool.false_eq_true, if_false]
  cases hc : codeFailed o.code with
  | true => exact ⟨_, htells _ _ (collKept_rawRestore _ _), fun _ => rfl, fun h => absurd h (by simp)⟩
  | false =>
    cases hs : lSends o.desc with
    | false => exact ⟨_, htells _ _ (.refl _), fun h => absurd h (by simp), fun _ => hsat _⟩
    | true => exact ⟨_, htells _ _ (collKept_linkDeliver _ _), fun h => absurd h (by simp), fun _ => hsat _⟩

end

/-! ## What a link crumb leaves unchanged -/

/-- From `s` to `u` the operations, their engines' control and codes, and the time stay. -/
structure OpsKept (s u : State) : Prop where
  ops : u.coll.ops = s.coll.ops
  ctrl : u.coll.linkCtrl = s.coll.linkCtrl
  codes : u.coll.lastCode = s.coll.lastCode
  now : u.now = s.now

section
variable {s u v : State}

theorem OpsKept.refl (s : State) : OpsKept s s := ⟨rfl, rfl, rfl, rfl⟩

theorem OpsKept.trans (h : OpsKept s u) (g : OpsKept u v) : OpsKept s v :=
  ⟨g.ops.trans h.ops, g.ctrl.trans h.ctrl, g.codes.trans h.codes, g.now.trans h.now⟩

theorem CollKept.opsKept (h : CollKept s u) : OpsKept s u := by
  obtain ⟨hc, hn⟩ := h
  exact ⟨by rw [hc], by rw [hc], by rw [hc], hn⟩

theorem opsKept_modColl (g : Nat) (f : CollGroup → CollGroup) (s : State) : OpsKept s (modColl g f s) := ⟨rfl, rfl, rfl, rfl⟩

theorem opsKept_markFailed (g kind num : Nat) (s : State) : OpsKept s (markFailed g kind num s) := ⟨rfl, rfl, rfl, rfl⟩

theorem opsKept_endRound (g kind num : Nat) (code : Code) (s : State) : OpsKept s (endRound g kind num code s) := by
  unfold endRound
  split
  · exact .refl s
  · split
    · exact .refl s
    · exact ((opsKept_modColl _ _ _).trans (opsKept_modColl _ _ _)).trans (CollKept.fold (fun _ _ => collKept_crumbEnd _ _ _ _ _) _ _).opsKept

theorem opsKept_mismatchRound (g kind num origin : Nat) (s : State) : OpsKept s (mismatchRound g kind num origin s) := by
  unfold mismatchRound
  split
  · exact .refl s
  · split
    · exact .refl s
    · exact ((opsKept_markFailed _ _ _ _).trans (((logged_count _ _ _).trans (logged_raise _ _)).collKept.trans
        (collKept_sendAborts _ _ _ _ _ _)).opsKept).trans (opsKept_endRound _ _ _ _ _)

theorem opsKept_noteLate (g : CollGroup) (r : CrumbRound) (s : State) : OpsKept s (noteLate g r s) := by
  have hlate (u : State) (l : List Nat) : OpsKept u { u with coll := { u.coll with late := l } } := ⟨rfl, rfl, rfl, rfl⟩
  have hsuspect (u : State) (l : List Nat) : OpsKept u { u with coll := { u.coll with suspects := l } } := ⟨rfl, rfl, rfl, rfl⟩
  have hmark (l : List Nat) (u : State) : OpsKept u (markSuspects l u) := by
    unfold markSuspects
    split
    · exact .refl u
    · exact foldl_related OpsKept.refl OpsKept.trans
        (fun _ _ => (hsuspect _ _).trans ((logged_count _ _ _).trans (logged_raise _ _)).collKept.opsKept) _ u
  unfold noteLate
  split
  · exact .refl s
  · exact (hlate _ _).trans (hmark _ _)

theorem collKept_sendValue (g kind : Nat) (r : CrumbRound) (hall : Bool) (dst : Nat) (s : State) :
    CollKept s (sendValue g kind r hall dst s) := by
  unfold sendValue
  split
  · exact .refl s
  · dsimp only
    split <;> split
    · exact .refl s
    · exact collKept_crumbSend _ _
    · exact .refl s
    · exact collKept_crumbSend _ _

theorem opsKept_formModule (g kind num : Nat) (s : State) : OpsKept s (formModule g kind num s) := by
  unfold formModule
  dsimp only
  split
  · exact .refl s
  · split
    · exact .refl s
    · split
      · exact .refl s
      · exact (opsKept_modColl _ _ _).trans (CollKept.fold (fun _ _ => collKept_sendValue _ _ _ _ _ _) _ _).opsKept

theorem opsKept_formRack (g kind num : Nat) (s : State) : OpsKept s (formRack g kind num s) := by
  unfold formRack
  dsimp only
  split
  · exact .refl s
  · split
    · exact .refl s
    · split
      · exact .refl s
      · exact (opsKept_modColl _ _ _).trans (CollKept.fold (fun _ _ => collKept_sendValue _ _ _ _ _ _) _ _).opsKept

theorem opsKept_finishRound (g kind num : Nat) (s : State) : OpsKept s (finishRound g kind num s) := by
  unfold finishRound
  dsimp only
  split
  · exact .refl s
  · split
    · exact .refl s
    · exact ((opsKept_noteLate _ _ _).trans (logged_count _ _ _).collKept.opsKept).trans (opsKept_endRound _ _ _ _ _)

theorem opsKept_roundStep (g kind num : Nat) (s : State) : OpsKept s (roundStep g kind num s) := by
  unfold roundStep
  split
  · exact .refl s
  · split
    · exact opsKept_mismatchRound _ _ _ _ _
    · exact ((opsKept_formModule _ _ _ _).trans (opsKept_formRack _ _ _ _)).trans (opsKept_finishRound _ _ _ _)

theorem opsKept_contribute (g kind : Nat) (i : CrumbIn) (s : State) : OpsKept s (contribute g kind i s) := by
  unfold contribute
  dsimp only
  split
  · exact (opsKept_modColl _ _ _).trans (collKept_crumbEnd _ _ _ _ _).opsKept
  · split
    · exact (collKept_crumbEnd _ _ _ _ _).opsKept
    · exact (opsKept_modColl _ _ _).trans (opsKept_roundStep _ _ _ _)

end

end Sys2Proof.Proofs

namespace Sys2Proof.Proofs

open Sys2Proof Sys2Proof.Machine Sys2Proof.Spec

/-! ## Operations by tile and group -/

section
variable {s u : State} {t g : Nat} {o : LinkOp} {f : LinkOp → LinkOp}

theorem findLink_key (h : findLink s t g = some o) : o.tile = t ∧ o.group = g := by
  simpa using List.find?_some h

theorem findLink_of_ops (h : u.coll.ops = s.coll.ops) (t g : Nat) : findLink u t g = findLink s t g := by rw [findLink, h]; rfl

theorem findLink_modLink (hf : ∀ o, (f o).tile = o.tile ∧ (f o).group = o.group) (h : findLink s t g = some o) :
    findLink (modLink t g f s) t g = some (f o) := by
  have hkeys (q : LinkOp) : ((if q.tile = t ∧ q.group = g then f q else q).tile == t && (if q.tile = t ∧ q.group = g then f q else q).group == g) =
      (q.tile == t && q.group == g) := by
    split
    · rw [(hf q).1, (hf q).2]
    · rfl
  unfold findLink at h ⊢
  simp only [modLink, List.find?_map, Function.comp_def, hkeys, h, Option.map_some]
  rw [if_pos (by simpa using List.find?_some h)]

end

/-! ## The commit of an operation (step 5 of R347) -/

section
variable {s : State} {t g : Nat} {o : LinkOp}

/-- A link crumb of a served group that has not FAILED leaves the operation waiting for its round. -/
theorem linkCrumb_keeps (op : Nat) (v : BitVec 128) (hs : cgServed (getColl s g) = true) (hf : bit (getColl s g).failed 1 = false)
    (h : findLink s t g = some o) : (linkCrumb t g op v s).now = s.now ∧ ∃ q, findLink (linkCrumb t g op v s) t g = some q ∧
    q.phase = o.phase ∧ q.status = o.status := by
  have hfail (n : Nat) : cgFailed (getColl s g) 1 n = false := by simp [cgFailed, hf]
  unfold linkCrumb
  simp only [hfail, hs, Bool.not_true, Bool.or_self, Bool.false_eq_true, if_false]
  generalize nextRound (getColl s g) 1 t 64 = num
  have hkept := opsKept_contribute g 1 ⟨t, 64, 0, 0, 0, op, 1, v⟩ (modLink t g (fun o => { o with waitRound := num }) s)
  exact ⟨hkept.now, { o with waitRound := num }, (findLink_of_ops hkept.ops t g).trans (findLink_modLink (fun _ => ⟨rfl, rfl⟩) h), rfl, rfl⟩

theorem linkCommit_commits (hs : cgServed (getColl s g) = true) (hf : bit (getColl s g).failed 1 = false) (h : findLink s t g = some o)
    (hp : o.phase ≠ 5) : (linkCommit t g s).now = s.now ∧ ∃ q, findLink (linkCommit t g s) t g = some q ∧ q.phase = 2 ∧ q.status = o.status := by
  unfold linkCommit
  simp only [h]
  obtain ⟨hnow, q, hq, hphase, hstatus⟩ := linkCrumb_keeps 4 (o.status.setWidth 128) (o := { o with phase := if o.phase = 5 then 5 else 2 })
    (s := modLink t g (fun o => { o with phase := if o.phase = 5 then 5 else 2 }) s) hs hf (findLink_modLink (fun _ => ⟨rfl, rfl⟩) h)
  exact ⟨hnow, q, hq, hphase.trans (if_neg hp), hstatus⟩

end

/-! ## What an exchange lacks, at a later time -/

section
variable (s : State) (key off n : Nat)

/-- A bench read finds a double error where one of its words holds one. -/
theorem benchScan_bad : (benchScan key off n s).1 =
    (((upto (cdiv (off % 8 + n) 8)).map (fun i => off / 8 + i)).find? (fun i => decide (2 ≤ tget 0 (getCore s key).benchErr i))).isSome := by
  unfold benchScan
  dsimp only
  split <;> rename_i heq <;> rw [heq] <;> rfl

theorem benchScan_free : (benchScan key off n s).2.free = s.free := by
  unfold benchScan
  dsimp only
  split
  · exact (logged_count _ _ _).free
  · exact (logged_raise _ _).free.trans (logged_count _ _ _).free

theorem adderBytes_eq : adderBytes s key off n = if (benchScan key off n s).1 = true
    then (benchRead (getCore s key) off n).zipIdx.map (fun p => (Config.free64 (s.free + p.2)).setWidth 8)
    else benchRead (getCore s key) off n := by
  have hfree := benchScan_free s key off n
  unfold adderBytes benchLoad
  dsimp only
  split <;> rename_i heq <;> rw [heq] at hfree ⊢
  · rfl
  · rw [if_pos rfl, ← hfree]

end

section
variable {s u : State} {n : Nat} (h : u = { s with now := n })
include h

theorem adderBytes_later (key off m : Nat) : adderBytes u key off m = adderBytes s key off m := by
  have hbad : (benchScan key off m u).1 = (benchScan key off m s).1 := by
    subst h
    rw [benchScan_bad, benchScan_bad]
    rfl
  rw [adderBytes_eq, adderBytes_eq, hbad]
  subst h
  rfl

theorem countOf_later (o : LinkOp) (i : Nat) : countOf u o i = countOf s o i := by
  rw [countOf, countOf, benchWord, benchWord, adderBytes_later h]
  subst h
  rfl

theorem slotWords_later (o : LinkOp) (c : Nat) : slotWords u o c = slotWords s o c := by
  simp only [slotWords, countOf_later h]

theorem slotKey_later (o : LinkOp) (c : Nat) : slotKey u o c = slotKey s o c := by
  rw [slotKey, slotKey, funext (slotWords_later h o)]

theorem linkExpect_later (o : LinkOp) (x : Nat × Nat) : linkExpect u o x = linkExpect s o x := by
  unfold linkExpect
  simp only [slotKey_later h, slotWords_later h]
  subst h
  rfl

theorem linkLacks_later (o : LinkOp) (i : Nat) : linkLacks u o i = linkLacks s o i := by
  unfold linkLacks
  simp only [linkExpect_later h]
  subst h
  rfl

end

/-! ## Late inputs and the end of a step (R347, R351) -/

section
variable {s : State} {t g : Nat} {o : LinkOp}

/-- In native mode an input that is late at an operation in its up phase ends that phase. -/
theorem lateInputTimeoutOp_native (h : findLink s t g = some o) (hp : o.phase = 1) (hl : linkLacks s o o.xch ≠ []) (hd : lDeadline o.desc = false) :
    lateInputTimeoutOp t g s =
      linkCommit t g (modLink t g (clearBit 1) { s with now := max s.now (o.lateFrom + 1000 * cgLateUs (getColl s g)) }) := by
  have hmiss : (linkLacks s o o.xch).isEmpty = false := by simpa using hl
  unfold lateInputTimeoutOp
  simp only [h, hp, hmiss, decide_true, Bool.not_false, Bool.and_self, if_true]
  generalize hv : ({ s with now := max s.now (o.lateFrom + 1000 * cgLateUs (getColl s g)) } : State) = v
  have hv' : findLink v t g = some o := by rw [← h, ← hv]; rfl
  unfold linkLate
  simp only [hv', linkLacks_later hv.symm, hmiss, hd, Bool.not_false, Bool.false_eq_true, if_false, if_true]

theorem lateInputTimeoutOp_ends (h : findLink s t g = some o) (hp : o.phase = 1) (hl : linkLacks s o o.xch ≠ []) (hd : lDeadline o.desc = false)
    (hs : cgServed (getColl s g) = true) (hf : bit (getColl s g).failed 1 = false) :
    (lateInputTimeoutOp t g s).now = max s.now (o.lateFrom + 1000 * cgLateUs (getColl s g)) ∧
    ∃ q, findLink (lateInputTimeoutOp t g s) t g = some q ∧ q.phase = 2 ∧ q.status = o.status &&& ~~~2#7 := by
  rw [lateInputTimeoutOp_native h hp hl hd]
  generalize hv : ({ s with now := max s.now (o.lateFrom + 1000 * cgLateUs (getColl s g)) } : State) = v
  have hx : getColl v g = getColl s g := by rw [← hv]; rfl
  have hq : findLink (modLink t g (clearBit 1) v) t g = some (clearBit 1 o) :=
    findLink_modLink (fun _ => ⟨rfl, rfl⟩) (by rw [← h, ← hv]; rfl)
  obtain ⟨hnow, q, hq, hphase, hstatus⟩ := linkCommit_commits (s := modLink t g (clearBit 1) v) (hx ▸ hs) (hx ▸ hf) hq (by rw [clearBit, hp]; decide)
  refine ⟨hnow.trans ?_, q, hq, hphase, hstatus.trans rfl⟩
  rw [modLink, ← hv]

/-- The end of a step frees its operation and shows its tag and code. -/
theorem linkStepEndOp_ends (h : findLink s t g = some o) (hp : o.phase = 4) :
    (linkStepEndOp t g s).coll.ops = s.coll.ops.filter (fun q => !(q.tile == t && q.group == g)) ∧
    (o.ended = false → tget 0 (linkStepEndOp t g s).coll.lastTag o.tile = BitVec.ofNat 16 (lTag o.desc) ∧
      (codeFailed o.code = true → tget .ok (linkStepEndOp t g s).coll.lastCode o.tile = o.code) ∧
      (codeFailed o.code = false → tget .ok (linkStepEndOp t g s).coll.lastCode o.tile = o.code ∨
        tget .ok (linkStepEndOp t g s).coll.lastCode o.tile = codeMerge o.code .saturated)) := by
  have hop : linkStepEndOp t g s = linkFinish o s := by simp [linkStepEndOp, h, hp]
  obtain ⟨rfl, rfl⟩ := findLink_key h
  rw [hop]
  cases he : o.ended with
  | true => exact ⟨by rw [linkFinish_ended he]; rfl, fun h => absurd h (by simp)⟩
  | false =>
    obtain ⟨c, hcoll, hfailed, hdone⟩ := linkFinish_tells (s := s) he
    rw [hcoll]
    refine ⟨rfl, fun _ => ?_⟩
    simp only [Laws.tget_tput_same]
    exact ⟨trivial, hfailed, hdone⟩

end

/-! ## Withdrawn link adders (R24, Table 10.11) -/

section
variable {s u : State} {o : LinkOp}

theorem linkCommit_ctrl (t g : Nat) (s : State) :
    (linkCommit t g s).coll.linkCtrl = s.coll.linkCtrl ∧ (linkCommit t g s).coll.lastCode = s.coll.lastCode := by
  unfold linkCommit
  split
  · exact ⟨rfl, rfl⟩
  · unfold linkCrumb
    dsimp only
    split
    · exact ⟨rfl, rfl⟩
    · exact ⟨(opsKept_contribute _ _ _ _).ctrl, (opsKept_contribute _ _ _ _).codes⟩

/-- An operation that its kernel waits for ends with the code; of another nothing is told. -/
theorem linkAbandon_ctrl (o : LinkOp) {code : Code} (hc : codeFailed code = true) (s : State) :
    (linkAbandon o code s).coll.linkCtrl = s.coll.linkCtrl ∧ (linkAbandon o code s).coll.lastCode =
      if o.ended = true ∨ o.phase = 5 then s.coll.lastCode else tput s.coll.lastCode o.tile code := by
  have htold : (linkTell o code s).coll.linkCtrl = s.coll.linkCtrl ∧
      (linkTell o code s).coll.lastCode = tput s.coll.lastCode o.tile code := by rw [linkTell_coll]; exact ⟨rfl, rfl⟩
  have hleft (f : LinkOp → LinkOp) (work : Bool) {v : State} (hv : CollKept (linkTell o code s) v) :
      (linkUnlock o work (modLink o.tile o.group f v)).coll.linkCtrl = s.coll.linkCtrl ∧
      (linkUnlock o work (modLink o.tile o.group f v)).coll.lastCode = tput s.coll.lastCode o.tile code := by
    rw [(collKept_linkUnlock _ _ _).coll, modLink, hv.coll]
    exact htold
  unfold linkAbandon
  by_cases he : o.ended = true ∨ o.phase = 5
  · rw [if_pos (by simpa using he), if_pos he]
    exact ⟨rfl, rfl⟩
  rw [if_neg (by simpa using he), if_neg he]
  by_cases h4 : o.phase = 4
  · rw [if_pos h4]
    obtain ⟨c, hcoll, hfailed, -⟩ := linkFinish_tells (s := s) (o := { o with code := code }) (by simpa using fun h => he (.inl h))
    rw [hcoll, hfailed hc]
    exact ⟨rfl, rfl⟩
  rw [if_neg h4]
  dsimp only
  by_cases hup : o.phase ≤ 1
  · rw [if_pos hup]
    by_cases h1 : o.phase = 1
    · rw [if_pos h1, (linkCommit_ctrl _ _ _).1, (linkCommit_ctrl _ _ _).2]
      exact hleft _ _ (collKept_rawRestore _ _)
    · rw [if_neg h1]
      exact hleft _ _ (collKept_rawRestore _ _)
  · rw [if_neg hup]
    exact hleft _ _ (.refl _)

/-- Once an operation of a tile has ended with the code, the tile shows it after the others too. -/
theorem abandon_all_ctrl {t : Nat} {code : Code} (hc : codeFailed code = true) (l : List LinkOp) (ht : ∀ o ∈ l, o.tile = t) (s : State) :
    (l.foldl (fun s o => linkAbandon o code s) s).coll.linkCtrl = s.coll.linkCtrl ∧
    ((tget .ok s.coll.lastCode t = code ∨ ∃ o ∈ l, o.ended = false ∧ o.phase ≠ 5) →
      tget .ok (l.foldl (fun s o => linkAbandon o code s) s).coll.lastCode t = code) := by
  induction l generalizing s with
  | nil => exact ⟨rfl, fun h => by simpa using h⟩
  | cons o l ih =>
    obtain ⟨hctrl, hcode⟩ := linkAbandon_ctrl o hc s
    obtain ⟨ih1, ih2⟩ := ih (fun o ho => ht o (by simp [ho])) (linkAbandon o code s)
    have hone : o.tile = t := ht o (by simp)
    refine ⟨ih1.trans hctrl, fun h => ih2 ?_⟩
    by_cases he : o.ended = true ∨ o.phase = 5
    · rw [hcode, if_pos he]
      rcases h with h | ⟨q, hq, hq1, hq2⟩
      · exact .inl h
      · rcases List.mem_cons.1 hq with rfl | hq
        · rcases he with he | he
          · simp [he] at hq1
          · exact absurd he hq2
        · exact .inr ⟨q, hq, hq1, hq2⟩
    · left
      rw [hcode, if_neg he, hone, Laws.tget_tput_same]

/-- The state in which the operations of a tile have ended with WITHDRAWN, its engine's ENABLE 0. -/
def linkWithdrawn (t : Nat) (s : State) : State :=
  (s.coll.ops.filter (fun o => o.tile == t)).foldl (fun s o => linkAbandon o .withdrawn s)
    { s with coll := { s.coll with linkCtrl := tput s.coll.linkCtrl t (setFld (tget 3 s.coll.linkCtrl t) 0 0 0) } }

theorem linkWithdrawn_ctrl (t : Nat) (s : State) : tget 3 (linkWithdrawn t s).coll.linkCtrl t = setFld (tget 3 s.coll.linkCtrl t) 0 0 0 ∧
    ((∃ o ∈ s.coll.ops, o.tile = t ∧ o.ended = false ∧ o.phase ≠ 5) → tget .ok (linkWithdrawn t s).coll.lastCode t = .withdrawn) := by
  obtain ⟨hctrl, hcode⟩ := abandon_all_ctrl (t := t) (code := .withdrawn) rfl (s.coll.ops.filter (fun o => o.tile == t))
    (fun o ho => by simpa using (List.mem_filter.1 ho).2)
    { s with coll := { s.coll with linkCtrl := tput s.coll.linkCtrl t (setFld (tget 3 s.coll.linkCtrl t) 0 0 0) } }
  refine ⟨?_, fun ⟨o, ho, ht, he⟩ => hcode (.inr ⟨o, List.mem_filter.2 ⟨ho, by simpa using ht⟩, he⟩)⟩
  rw [linkWithdrawn, hctrl, Laws.tget_tput_same]

theorem linkWithdrawn_none {t : Nat} (h : ∀ o ∈ s.coll.ops, o.tile ≠ t) : linkWithdrawn t s =
    { s with coll := { s.coll with linkCtrl := tput s.coll.linkCtrl t (setFld (tget 3 s.coll.linkCtrl t) 0 0 0) } } := by
  have hnil : s.coll.ops.filter (fun o => o.tile == t) = [] := by simpa [List.filter_eq_nil_iff] using h
  rw [linkWithdrawn, hnil, List.foldl_nil]

end

/-! ## Adders that fail (R350) -/

/-- An adder's output mismatch is noted; a second one within 3,600 s takes the adder out of service while RESIDUE_RETIRE is 1. -/
theorem adderMismatch_tile (t gi b a : Nat) (s : State) (h : bit (getTile s t).addersDown a = false) :
    getTile (adderMismatch t gi b a s) t = { getTile s t with
      adderMiss := tput (getTile s t).adderMiss a s.now
      addersDown := if ((getTile s t).adderMiss.any (fun p => p.1 == a && decide (s.now ≤ p.2 + 3600000000000)) && bit (tget 3 s.coll.linkCtrl t) 1) = true
        then (getTile s t).addersDown ||| BitVec.twoPow 7 a else (getTile s t).addersDown } := by
  have hput (u : State) (f : Tile → Tile) : getTile (modTile u t f) t = f (getTile u t) := by simp [getTile, modTile, putTile]
  have hraised (e : EvRec) (u : State) : getTile (raise e u) t = getTile u t := by rw [getTile, raise_tiles]; rfl
  have hseen (e : EvRec) : getTile (raise e (countTile t 37 1 (modLink t gi (clearBit 2) s))) t = getTile s t := by
    rw [hraised, getTile, countTile, count_tiles]
    rfl
  unfold adderMismatch
  simp only [h, Bool.false_eq_true, if_false]
  generalize hv : raise _ (countTile t 37 1 (modLink t gi (clearBit 2) s)) = v
  have hv' : getTile v t = getTile s t ∧ v.coll.linkCtrl = s.coll.linkCtrl ∧ v.now = s.now := by
    rw [← hv]
    exact ⟨hseen _, by rw [raise_coll, countTile, count_coll]; rfl, by rw [raise_now, countTile, count_now]; rfl⟩
  obtain ⟨htile, hctrl, hnow⟩ := hv'
  have hc : (modTile v t (fun x => { x with adderMiss := tput x.adderMiss a v.now })).coll.linkCtrl = s.coll.linkCtrl := hctrl
  rw [hc]
  split
  · rw [hraised, hput, hput, htile, hnow]
  · rw [hput, htile, hnow]

theorem linkAdderSteps : Sys2Proof.Spec.LinkAdderSteps := by
  refine ⟨fun t g s o hm ho => ⟨fun hp hl hd hs hf => ?_, fun hp => ⟨_, does_onMain rfl hm rfl, linkStepEndOp_ends ho hp⟩⟩,
    fun rq t s he => ?_, fun t gi b a s h => ⟨fun hx hr => ?_, fun hx => ?_, ?_⟩⟩
  · obtain ⟨hnow, q, hq⟩ := lateInputTimeoutOp_ends ho hp hl hd hs hf
    exact ⟨_, q, does_onMain rfl hm rfl, hnow, hq⟩
  · obtain ⟨hctrl, hcode⟩ := linkWithdrawn_ctrl t.val s
    refine ⟨linkWithdrawn t.val s, does_onMain rfl he.on (withExpert_ok _ he.level), hctrl, hcode, fun hnone => ?_⟩
    rw [linkWithdrawn_none hnone]
    exact ⟨rfl, rfl⟩
  · have hany : (getTile s t).adderMiss.any (fun p => p.1 == a && decide (s.now ≤ p.2 + 3600000000000)) = true := by
      obtain ⟨x, hx, h1, h2⟩ := hx
      simp only [List.any_eq_true, Bool.and_eq_true, beq_iff_eq, decide_eq_true_eq]
      exact ⟨x, hx, h1, h2⟩
    rw [adderMismatch_tile t gi b a s h, hany, hr]
    rfl
  · have hany : (getTile s t).adderMiss.any (fun p => p.1 == a && decide (s.now ≤ p.2 + 3600000000000)) = false := by
      simp only [List.any_eq_false, Bool.and_eq_true, beq_iff_eq, decide_eq_true_eq]
      exact fun x hm ⟨h1, h2⟩ => absurd h2 (Nat.not_le.2 (hx x hm h1))
    rw [adderMismatch_tile t gi b a s h, hany]
    rfl
  · rw [adderMismatch_tile t gi b a s h]
    exact Laws.tget_tput_same _ _ _ _

/-- Settles O57: the rounds keep to their groups' entries, and the operations of the link adders to their own. -/
theorem crumbsAndLinkAdders : Obligations.CrumbsAndLinkAdders := ⟨crumbRounds, linkAdderSteps, linkAdderData⟩

end Sys2Proof.Proofs

namespace Sys2Proof.Proofs

open Sys2Proof Sys2Proof.Machine Sys2Proof.Spec

/-! ## PASS (O3) -/

@[simp] theorem count_zero (k : Nat) (s : State) : count k 0 s = s := rfl

section
variable {key : Nat} {s : State}

theorem benchScan_sound (h : (getCore s key).benchErr = []) (o n : Nat) : benchScan key o n s = (false, s) := by
  have hnone (l : List Nat) : l.find? (fun i => decide (2 ≤ tget 0 (getCore s key).benchErr i)) = none := by
    rw [List.find?_eq_none, h]
    simp
  unfold benchScan
  dsimp only
  rw [hnone]
  simp [countCore, h]

theorem benchLoad_sound (h : (getCore s key).benchErr = []) (o n : Nat) : benchLoad key o n s = (benchRead (getCore s key) o n, s) := by
  rw [benchLoad, benchScan_sound h]

/-- An outcome found after the bench read that led to `t`: a trap keeps what the read noted (R179). -/
def afterRead (t : State) : IRes → IRes
  | .trap c imm => .trapped t c imm
  | x => x

theorem withDesc_sound (h : (getCore s key).benchErr = []) (a n : Nat) (f : List Byte → State → IRes) :
    withDesc key a n s f = afterRead s (f (benchRead (getCore s key) a n) s) := by
  rw [withDesc, benchLoad_sound h]
  rfl

end

section
variable {s : State} {r : CoreRef} {w : BitVec 56} {k : Kernel}

theorem exec_kPass (hi : Issues s r k w) (hs : wSel w < 2) (hz : fld w 39 0 = 0) (hf : Final k [wD w, wA w]) :
    exec (.kPass r w) s = answer s (settle (issueEnd (coreKey r) k s (opPass.run (coreKey r) k w s))) := by
  have hl : opPass.legal w = true := by simp [opPass, wZero, hz, Nat.le_of_lt_succ hs]
  have hrun := Laws.issue_run (op := opPass) (key := coreKey r) (s := s) hi.gap (fetchBad_of_issues hi) hi.guard rfl hl hf
  have hx : exec (.kPass r w) s = answer s (settle (isaStep opPass r w s)) := rfl
  rw [hx, Laws.isaStep_issue hi.kernel (canIssue_of_issues hi), hrun]

theorem does_kPass {x : IRes} {u : State} (hi : Issues s r k w) (hs : wSel w < 2) (hz : fld w 39 0 = 0) (hf : Final k [wD w, wA w])
    (hx : opPass.run (coreKey r) k w s = x) (hu : issueEnd (coreKey r) k s x = u) : Does (.kPass r w) s u := by
  rw [Does, exec_kPass hi hs hz hf, hx, hu]
  rfl

end

/-- What PASS does where the queues give its descriptor a fate (R55, R92, R95). -/
def passAct (key : Nat) (k : Kernel) (w : BitVec 56) (d : CmdDesc) (s : State) : PassFate → IRes
  | .refused => .trap .descriptor 0
  | .full => .stall
  | .withdrawn => .next (putCore s key (passPost { getCore s key with kernel := some (ticketed k (wSel w) (wD w)) } (wSel w)
      ⟨d, (getCore s key).enqSeq, wSel w, some ((getCls k (wSel w)).issued + 1), .queued, false, 0, true, none, none, none, false⟩ .withdrawn))
  | .enqueue b => .next (putCore s key (passEnqueue { getCore s key with kernel := some (ticketed k (wSel w) (wD w)) } b (wSel w)
      (some ((getCls k (wSel w)).issued + 1)) d))

section
variable {s : State} {key : Nat} {w : BitVec 56} {k : Kernel} {d : CmdDesc} (ha : gTag k (wA w) = false)
  (hw : inWindow k (gReg k (wA w)).toNat 64 = true) (hd : d = descOf (benchRead (getCore s key) (gReg k (wA w)).toNat 64))
  (he : (getCore s key).benchErr = [])
include ha hw hd he

theorem opPass_badFields (hb : passFieldsBad d = true) : opPass.run key k w s = .trapped s .descriptor 0 := by
  subst hd
  simp [opPass, ha, hw, withDesc_sound he, afterRead, hb]

variable (hb : passFieldsBad d = false) (hr : passRangeBad d = false) (hin : ∀ x ∈ passIn d ++ passOut d, inWindow k x.1 x.2 = true)
include hb hr hin

/-- A valid descriptor whose ranges lie in the window meets the queues. -/
theorem opPass_valid : opPass.run key k w s = afterRead s (passAct key k w d s (passFate (getCore s key) (wSel w) d)) := by
  have hall : (passIn d ++ passOut d).all (fun x => inWindow k x.1 x.2) = true := List.all_eq_true.2 hin
  subst hd
  simp only [opPass, ha, hw, withDesc_sound he, hb, hr, hall, Bool.false_eq_true, if_false, Bool.not_true]
  rfl

end

/-! ## What a queue does with a descriptor (Table 2.6) -/

section
variable {c : Core} {a b : Nat} {d : CmdDesc} (hb : passFieldsBad d = false) (hr : passRangeBad d = false)
include hb hr

theorem passFate_enqueue (ht : takingArray c a = some b) (hq : (getArray c b).queue.length < 4) : passFate c a d = .enqueue b := by
  simp [passFate, hb, hr, ht, Nat.not_le.2 hq]

theorem passFate_full (ht : takingArray c a = some b) (hq : 4 ≤ (getArray c b).queue.length) : passFate c a d = .full := by
  simp [passFate, hb, hr, ht, hq]

theorem passFate_withdrawn (ht : takingArray c a = none) : passFate c a d = .withdrawn := by
  simp [passFate, hb, hr, ht]

theorem passFate_ne_refused : passFate c a d ≠ .refused := by
  cases ht : takingArray c a with
  | none => simp [passFate_withdrawn hb hr ht]
  | some b =>
    by_cases hq : (getArray c b).queue.length < 4
    · simp [passFate_enqueue hb hr ht hq]
    · simp [passFate_full hb hr ht (Nat.not_lt.1 hq)]

end

/-- Settles O3, from the fate of the descriptor in the queues. -/
theorem passInstruction : Obligations.PassInstruction := by
  intro r w s k d hi hs hz hf ha hw hd he
  refine ⟨fun hb => ?_, fun hb hr hin => ?_⟩
  · exact does_kPass hi hs hz hf (opPass_badFields ha hw hd he hb) rfl
  · have hrun := opPass_valid ha hw hd he hb hr hin
    refine ⟨fun b ht hq => ?_, fun b ht hq => ?_, fun ht => ?_⟩
    · rw [passFate_enqueue hb hr ht hq] at hrun
      exact does_kPass hi hs hz hf hrun rfl
    · rw [passFate_full hb hr ht hq] at hrun
      exact does_kPass hi hs hz hf hrun rfl
    · rw [passFate_withdrawn hb hr ht] at hrun
      exact does_kPass hi hs hz hf hrun rfl

end Sys2Proof.Proofs

namespace Sys2Proof.Proofs

open Sys2Proof Sys2Proof.Machine Sys2Proof.Spec

/-! ## The arrays of a core -/

section
variable (c : Core) (a : Nat) (x : ArrayState) (f : ArrayState → ArrayState)

@[simp] theorem getArray_putArray : getArray (putArray c a x) a = x := Laws.tget_tput_same _ _ _ _

theorem getArray_putArray_other {b : Nat} (h : b ≠ a) : getArray (putArray c a x) b = getArray c b := Laws.tget_tput_other _ _ _ h

@[simp] theorem getArray_modArray : getArray (modArray c a f) a = f (getArray c a) := getArray_putArray _ _ _

theorem getArray_modArray_other {b : Nat} (h : b ≠ a) : getArray (modArray c a f) b = getArray c b := getArray_putArray_other _ _ _ h

theorem getArray_of_arrays {c d : Core} (h : d.arrays = c.arrays) (a : Nat) : getArray d a = getArray c a := by rw [getArray, h]; rfl

end

/-! ## What the end of a pass leaves unchanged in its core -/

/-- From `c` to `d` at most the kernels, running or saved, differ. -/
def Told (c d : Core) : Prop := d = { c with kernel := d.kernel, saved := d.saved }

/-- From `c` to `d` at most the kernels and PASS_COMPLETION differ. -/
def Posted (c d : Core) : Prop :=
  d = { c with kernel := d.kernel, saved := d.saved, complTag := d.complTag, complCode := d.complCode, complArray := d.complArray, complSeq := d.complSeq }

/-- From `c` to `d` at most the bench, the scale bank, the stores that wait and the running kernel differ. -/
def Stored (c d : Core) : Prop :=
  d = { c with bench := d.bench, benchErr := d.benchErr, kernel := d.kernel, scale := d.scale, writes := d.writes }

section
variable {c d e : Core}

theorem Told.refl (c : Core) : Told c c := rfl
theorem Told.posted (h : Told c d) : Posted c d := by rw [Posted, h]
theorem Told.complSeq (h : Told c d) : d.complSeq = c.complSeq := by rw [h]

theorem Posted.refl (c : Core) : Posted c c := rfl
theorem Posted.trans (h : Posted c d) (g : Posted d e) : Posted c e := by rw [Posted, g, h]
theorem Posted.arrays (h : Posted c d) : d.arrays = c.arrays := by rw [h]
theorem Posted.bench (h : Posted c d) : d.bench = c.bench := by rw [h]
theorem Posted.writes (h : Posted c d) : d.writes = c.writes := by rw [h]
theorem Posted.residueLog (h : Posted c d) : d.residueLog = c.residueLog := by rw [h]

theorem Stored.refl (c : Core) : Stored c c := rfl
theorem Stored.trans (h : Stored c d) (g : Stored d e) : Stored c e := by rw [Stored, g, h]
theorem Stored.arrays (h : Stored c d) : d.arrays = c.arrays := by rw [h]
theorem Stored.residueLog (h : Stored c d) : d.residueLog = c.residueLog := by rw [h]
theorem Stored.withdrawn (h : Stored c d) : d.withdrawn = c.withdrawn := by rw [h]

end

theorem told_passKernel (c : Core) (e : PassEntry) (f : Kernel → Kernel) : Told c (passKernel c e f) := by
  unfold passKernel
  split
  · rfl
  · split <;> rfl

theorem told_passTicketEnd (c : Core) (e : PassEntry) (code : Code) : Told c (passTicketEnd c e code) := by
  unfold passTicketEnd
  split
  · exact .refl c
  · exact told_passKernel _ _ _

/-- The core in which PASS_COMPLETION shows the pass, and its ticket has ended (R79). -/
def completed (c : Core) (a : Nat) (e : PassEntry) (code : Code) : Core :=
  { passTicketEnd c e code with complTag := BitVec.ofNat 16 (dTag e.desc), complCode := code, complArray := a, complSeq := c.complSeq + 1 }

theorem told_passPost (c : Core) (a : Nat) (e : PassEntry) (code : Code) : Told (completed c a e code) (passPost c a e code) := by
  unfold passPost
  dsimp only
  rw [(told_passTicketEnd c e code).complSeq]
  split
  · exact told_passKernel _ _ _
  · exact .refl _

theorem posted_passPost (c : Core) (a : Nat) (e : PassEntry) (code : Code) : Posted c (passPost c a e code) := by
  have hc : Posted (passTicketEnd c e code) (completed c a e code) := rfl
  exact ((told_passTicketEnd c e code).posted.trans hc).trans (told_passPost c a e code).posted

theorem posted_withdrawPasses (c : Core) (a : Nat) (es : List PassEntry) : Posted c (withdrawPasses c a es) :=
  foldl_related Posted.refl Posted.trans (fun c e => posted_passPost c a e _) es c

theorem stored_benchWrite (c : Core) (o : Nat) (bs : List Byte) : Stored c (benchWrite c o bs) := by
  unfold benchWrite
  dsimp only
  split
  · rfl
  · split <;> rfl

theorem stored_applyWrite (c : Core) (w : WaitingWrite) : Stored c (applyWrite c w) := by
  unfold applyWrite
  split
  · rfl
  · exact stored_benchWrite _ _ _

theorem stored_applyWaiting (c : Core) : Stored c (applyWaiting c) := by
  have hfold := foldl_related (R := fun p q : Core × List WaitingWrite => Stored p.1 q.1) (fun p => .refl p.1) Stored.trans
    (f := fun st w => if writeLocked st.1 w || st.2.any (fun x => x.scale == w.scale && rangesOverlap x.off (max 1 x.bytes.length) w.off (max 1 w.bytes.length))
      then (st.1, st.2 ++ [w]) else (applyWrite st.1 w, st.2)) (fun p w => by
        split
        · exact .refl p.1
        · exact stored_applyWrite p.1 w) c.writes (c, [])
  exact hfold.trans rfl

theorem applyWaiting_idle {c : Core} (h : c.writes = []) : (applyWaiting c).bench = c.bench := by
  rw [applyWaiting, h]
  rfl

end Sys2Proof.Proofs

namespace Sys2Proof.Proofs

open Sys2Proof Sys2Proof.Machine Sys2Proof.Spec

/-! ## The stages of a pass (O7) -/

theorem coreKey_tile (r : CoreRef) : coreKey r / 64 = r.tile.val := ck_tile _ _
theorem coreKey_core (r : CoreRef) : coreKey r % 64 = r.core.val := ck_core _ _
theorem coreKey_group (r : CoreRef) : groupOf (coreKey r) = r.core.val / 16 := by rw [groupOf, coreKey_core]

section
variable {c : Core} {a : Nat} {e : PassEntry}

theorem passReady_of_inputsFinal (h : InputsFinal c a e) : passReady c a e = true := by
  obtain ⟨hp, hm, hw⟩ := h
  simp only [passReady, Bool.and_eq_true, List.all_eq_true, Bool.or_eq_true, decide_eq_true_eq, Bool.not_eq_true']
  refine ⟨⟨fun p hpm => ?_, fun m hmm => ?_⟩, fun w hwm => ?_⟩
  · by_cases hs : e.seq ≤ p.seq
    · exact .inl hs
    · have := hp p hpm (Nat.not_le.1 hs)
      right
      cases hl : ((getArray c a).queue.takeWhile (fun x => x.seq != e.seq)).getLast? <;> rw [hl] at this <;> simpa using this
  · by_cases hs : e.seq ≤ m.seq
    · exact .inl hs
    · exact .inr (hm m hmm (Nat.not_le.1 hs))
  · by_cases hs : e.seq < w.seq
    · exact .inl (.inl hs)
    · cases hsc : w.scale
      · exact .inr (hw w hwm (Nat.not_lt.1 hs) hsc)
      · exact .inl (.inr rfl)

theorem drainClear_of_outputFree (h : OutputFree c e) : drainClear c e = true := by
  obtain ⟨hp, hm, hl, hw⟩ := h
  simp only [drainClear, Bool.and_eq_true, List.all_eq_true, Bool.or_eq_true, decide_eq_true_eq, Bool.not_eq_true', List.any_eq_false,
    not_and, not_or, holdsBench, bne_iff_ne, Bool.not_eq_true, anyOverlap_eq_false]
  refine ⟨fun w hwm => ?_, fun x hx => ⟨⟨fun p hpm hs => ?_, fun m hmm hs => ?_⟩, fun l hlm => ?_⟩⟩
  · by_cases hs : e.seq < w.seq
    · exact .inl hs
    · obtain ⟨hscale, hbench⟩ := hw w hwm (Nat.not_lt.1 hs)
      cases hsc : w.scale
      · exact .inr (anyOverlap_eq_false.2 (hbench hsc))
      · exact .inr (anyOverlap_eq_false.2 (hscale hsc))
  · exact hp p hpm hs x hx
  · exact hm m hmm hs x hx
  · exact hl l hlm x hx

end

section
variable {r : CoreRef} {a : Fin 2} {s : State} {e : PassEntry} (hm : mainOn s = true) (hg : groupRuns s (coreKey r) = true)
include hm hg

theorem does_passActivate (hn : nextQueued (getCore s (coreKey r)) a.val = some e)
    (ha : ∀ x ∈ (getArray (getCore s (coreKey r)) a.val).queue, x.stage ≠ .active)
    (hr : (getGroup s r.tile.val (r.core.val / 16)).request = none) (hi : InputsFinal (getCore s (coreKey r)) a.val e) (hs : e.snapshot = none) :
    Does (.passActivate r a) s (bakeSample (coreKey r) a.val e (putCore s (coreKey r)
      (setEntry { getCore s (coreKey r) with gen := genAdvance 4096 (getCore s (coreKey r)).gen } a.val
        { e with stage := .active, snapshot := some (getCore s (coreKey r)).gen }))) := by
  have hact : (getArray (getCore s (coreKey r)) a.val).queue.any (fun x => x.stage == .active) = false := by simpa using ha
  refine does_onMain rfl hm ?_
  rw [passActivateOp, coreKey_tile, coreKey_group]
  simp [hn, hact, hg, hr, passReady_of_inputsFinal hi, hs]

theorem does_drainBegin (hf : (getArray (getCore s (coreKey r)) a.val).queue.find? (fun x => x.stage == .active) = some e)
    (hd : ∀ x ∈ (getArray (getCore s (coreKey r)) a.val).queue, x.stage ≠ .draining) :
    Does (.drainBegin r a) s (benchScans (coreKey r) (passIn e.desc) (throttleEffect r.tile.val (r.core.val / 16) (countCycles (coreKey r) (passCycles e.desc)
      (putCore s (coreKey r) (applyWaiting (setEntry (getCore s (coreKey r)) a.val
        { e with stage := .draining, acc := some (passCompute (getCore s (coreKey r)) e.desc), fresh := true })))))) := by
  have hdr : (getArray (getCore s (coreKey r)) a.val).queue.any (fun x => x.stage == .draining) = false := by simpa using hd
  refine does_onMain rfl hm ?_
  rw [drainBeginOp, coreKey_tile, coreKey_group]
  simp [hf, hdr, hg]

end

/-! ## The offers of a drain, and its end -/

/-- From `c` to `d` at most the kernels and the trackers differ. -/
def Offered (c d : Core) : Prop := d = { c with kernel := d.kernel, saved := d.saved, trackers := d.trackers }

section
variable {c d : Core} (h : Offered c d)
include h

theorem Offered.complSeq : d.complSeq = c.complSeq := by rw [h]
theorem Offered.writes : d.writes = c.writes := by rw [h]
theorem Offered.bench : d.bench = c.bench := by rw [h]

end

theorem offered_offer (c : Core) (e : PassEntry) (els : List Drained) (acc : PassAcc) : Offered c (offer c e els acc) := by
  have htold (f : Kernel → Kernel) : Told c (if e.ticket.isNone then c else passKernel c e f) := by
    split
    · exact .refl c
    · exact told_passKernel _ _ _
  have hput (f : Kernel → Kernel) (t : Nat) (x : Tracker) : Offered c (putTracker (if e.ticket.isNone then c else passKernel c e f) t x) := by
    rw [Offered, htold f]
    rfl
  unfold offer
  dsimp only
  split
  · rfl
  · split <;> exact hput _ _ _

section
variable {c : Core} {a : Nat} {e : PassEntry} {code : Code}

/-- The core after the drain of a pass: the pass has left its queue, its completion is posted, and stores that waited for it go on. -/
def drained (c : Core) (a : Nat) (e : PassEntry) (code : Code) : Core :=
  applyWaiting (passPost (modArray c a (fun x => { x with queue := x.queue.filter (fun y => y.seq != e.seq) })) a e code)

theorem drained_queue : ∀ x ∈ (getArray (drained c a e code) a).queue, x.seq ≠ e.seq := by
  rw [drained, getArray_of_arrays (stored_applyWaiting _).arrays, getArray_of_arrays (posted_passPost _ _ _ _).arrays, getArray_modArray]
  simp

theorem drained_completion : (drained c a e code).complCode = code ∧ (drained c a e code).complTag = BitVec.ofNat 16 (dTag e.desc) ∧
    (drained c a e code).complArray = a ∧ (drained c a e code).complSeq = c.complSeq + 1 := by
  rw [drained, stored_applyWaiting, told_passPost]
  exact ⟨rfl, rfl, rfl, rfl⟩

theorem drained_bench (h : c.writes = []) : (drained c a e code).bench = c.bench := by
  have hp := posted_passPost (modArray c a (fun x => { x with queue := x.queue.filter (fun y => y.seq != e.seq) })) a e code
  rw [drained, applyWaiting_idle (hp.writes.trans h), hp.bench]
  rfl

end

theorem does_passComplete {r : CoreRef} {a : Fin 2} {s : State} {e : PassEntry} {acc : PassAcc} {c : Core} {els : List Drained} {sat : Nat}
    (hm : mainOn s = true) (hg : groupRuns s (coreKey r) = true)
    (hf : (getArray (getCore s (coreKey r)) a.val).queue.find? (fun x => x.stage == .draining) = some e) (hacc : e.acc = some acc)
    (ho : OutputFree (getCore s (coreKey r)) e) (hd : drainAll (getCore s (coreKey r)) e acc = (c, els))
    (hsat : sat = (els.filter (fun x => !x.invalid && x.sat)).length) :
    Does (.passComplete r a) s (countCore (coreKey r) 2 sat (countCore (coreKey r) 3 (els.filter (fun x => x.invalid)).length
      (countCore (coreKey r) 4 acc.invalid (countCore (coreKey r) 5 (els.filter (fun x => x.under)).length (putCore s (coreKey r)
        (drained (offer c e els acc) a.val e (if sat = 0 then .ok else .saturated))))))) := by
  refine does_onMain rfl hm ?_
  rw [passCompleteOp]
  simp only [hf, hacc, drainClear_of_outputFree ho, hg, hd, Bool.not_true, Bool.or_self, Bool.false_eq_true, if_false]
  subst hsat
  rfl

/-- Settles O7, from the three steps of a pass: activation, the end of its K cycles, and the end of its drain. -/
theorem passStages : Obligations.PassStages := by
  intro r a s hm hg
  refine ⟨fun e hn ha hr hi hs => does_passActivate hm hg hn ha hr hi hs, fun e hf hd => does_drainBegin hm hg hf hd,
    fun e acc hf hacc ho c els sat hd hsat => ⟨_, does_passComplete hm hg hf hacc ho hd hsat, drained_queue, ?_⟩⟩
  obtain ⟨hcode, htag, harray, hseq⟩ := drained_completion (c := offer c e els acc) (a := a.val) (e := e) (code := if sat = 0 then .ok else .saturated)
  have hoff := offered_offer c e els acc
  exact ⟨hcode, htag, harray, hseq.trans (by rw [hoff.complSeq]), fun hw => (drained_bench (hoff.writes.trans hw)).trans hoff.bench⟩

end Sys2Proof.Proofs

namespace Sys2Proof.Proofs

open Sys2Proof Sys2Proof.Machine Sys2Proof.Spec

/-! ## The fields of an own address (Tables 1.4, 1.5) -/

section
variable {s : State} {t c sp off : Nat} (ht : t < 32) (hc : c < 64) (hsp : sp < 8) (ho : off < 2 ^ 36)
include ht hc hsp ho

theorem ownAddr_toNat : (ownAddr s t c sp off).toNat = s.myModule * 2 ^ 50 + t * 2 ^ 45 + c * 2 ^ 39 + sp * 2 ^ 36 + off := by
  have hm := s.myModule_lt
  rw [ownAddr, BitVec.toNat_ofNat, gpaMake]
  simp only [Nat.shiftLeft_eq]
  omega

theorem gModule_ownAddr : gModule (ownAddr s t c sp off).toNat = s.myModule := by
  have hm := s.myModule_lt
  rw [ownAddr_toNat ht hc hsp ho, gModule, nbits, Nat.shiftRight_eq_div_pow]
  omega

theorem gTile_ownAddr : gTile (ownAddr s t c sp off).toNat = t := by
  rw [ownAddr_toNat ht hc hsp ho, gTile, nbits, Nat.shiftRight_eq_div_pow]
  omega

theorem gCore_ownAddr : gCore (ownAddr s t c sp off).toNat = c := by
  rw [ownAddr_toNat ht hc hsp ho, gCore, nbits, Nat.shiftRight_eq_div_pow]
  omega

theorem gSpace_ownAddr : gSpace (ownAddr s t c sp off).toNat = sp := by
  rw [ownAddr_toNat ht hc hsp ho, gSpace, nbits, Nat.shiftRight_eq_div_pow]
  omega

theorem gOff_ownAddr : gOff (ownAddr s t c sp off).toNat = off := by
  rw [ownAddr_toNat ht hc hsp ho, gOff, nbits, Nat.shiftRight_eq_div_pow]
  omega

end

/-! ## The access of a core that is awake (R396–R398) -/

section
variable {u : State} {t g : Nat}

theorem wakeGroup_awake (h : groupAsleep u t g = false) : wakeGroup t g u = u := by
  simp only [groupAsleep, Bool.or_eq_false_iff] at h
  simp [wakeGroup, h]

theorem groupAsleep_of_groups {s : State} (h : u.groups = s.groups) (t g : Nat) : groupAsleep u t g = groupAsleep s t g := by
  rw [groupAsleep, getGroup, h]
  rfl

/-- A throttle step that takes effect changes the clock of its group, not its sleep. -/
theorem groupAsleep_throttleEffect (t g t' g' : Nat) (s : State) : groupAsleep (throttleEffect t g s) t' g' = groupAsleep s t' g' := by
  unfold throttleEffect
  dsimp only
  split
  · by_cases hk : 4 * t' + g' = 4 * t + g
    · simp [groupAsleep, getGroup, putGroup, hk]
    · simp [groupAsleep, getGroup, putGroup, Laws.tget_tput_other _ _ _ hk]
  · rfl

theorem regWake_own {s : State} {c sp off : Nat} (ht : t < 24) (hc : c < 64) (hsp : sp = 1 ∨ sp = 2) (ho : off < 2 ^ 36)
    (ha : groupAsleep u t (c / 16) = false) : regWake (ownAddr s t c sp off).toNat u = groupBusy t (c / 16) u := by
  have ht' : t < 32 := by omega
  have hsp' : sp < 8 := by omega
  have hor : sp = 2 ∨ sp = 1 := hsp.symm
  rw [regWake, gTile_ownAddr ht' hc hsp' ho, gCore_ownAddr ht' hc hsp' ho, gSpace_ownAddr ht' hc hsp' ho, wakeGroup_awake ha]
  simp [ht, hor]

end

/-! ## A write of a core's register -/

section
variable {rq : Requester} {r : CoreRef} {s u : State} {off : Nat} {v : Word} {c : Instr}

/-- A write of a register of an awake core has its effect, and its group's time towards Nap starts again. -/
theorem coreRegOp_writes (hp : CorePath rq s r) (ho : off < 2 ^ 36) (hw : coreRegWrite rq (coreKey r) off v s = some u)
    (ha : groupAsleep u r.tile.val (r.core.val / 16) = false) :
    coreRegOp rq (coreKey r) off v s = groupBusy r.tile.val (r.core.val / 16) u := by
  have ht : r.tile.val < 32 := by omega
  have hc := r.core.isLt
  have haddr : BitVec.ofNat 64 (gpaMake s.myModule (coreKey r / 64) (coreKey r % 64) 2 off) = ownAddr s r.tile.val r.core.val 2 off := by
    rw [coreKey_tile, coreKey_core, ownAddr]
  have hreg : pathWrite s rq (ownAddr s r.tile.val r.core.val 2 off).toNat v = some (groupBusy r.tile.val (r.core.val / 16) u) := by
    rw [← regWake_own (s := s) (off := off) (sp := 2) r.tile.isLt hc (.inr rfl) ho ha]
    simp only [pathWrite, regWrite, spaceKnown, gTile_ownAddr ht hc (by omega : 2 < 8) ho, gCore_ownAddr ht hc (by omega : 2 < 8) ho,
      gSpace_ownAddr ht hc (by omega : 2 < 8) ho, gOff_ownAddr ht hc (by omega : 2 < 8) ho, hp.awake]
    have hck : ck r.tile.val r.core.val = coreKey r := rfl
    have h30 : r.tile.val ≠ 30 := by omega
    simp [hck, hw, h30]
  rw [coreRegOp, haddr, regWriteOp, if_neg hp.writer, hreg]

theorem does_coreReg (hp : CorePath rq s r) (hc : exec c s = onMain (coreRegOp rq (coreKey r) off v) s) (ho : off < 2 ^ 36)
    (hw : coreRegWrite rq (coreKey r) off v s = some u) (ha : groupAsleep u r.tile.val (r.core.val / 16) = false) :
    Does c s (groupBusy r.tile.val (r.core.val / 16) u) :=
  does_onMain hc hp.on (coreRegOp_writes hp ho hw ha)

end

end Sys2Proof.Proofs

namespace Sys2Proof.Proofs

open Sys2Proof Sys2Proof.Machine Sys2Proof.Spec

/-! ## PASS_DESC_SUBMIT (R24, R55, R78) -/

section
variable {key a : Nat} {d : CmdDesc} {s : State}

theorem passSubmit_enqueues {b : Nat} (hw : (getCore s key).withdrawn = false) (hf : passFate (getCore s key) a d = .enqueue b) :
    passSubmit key a d s = (putCore s key (passEnqueue (getCore s key) b a none d), .ok) := by
  simp [passSubmit, hw, hf]

theorem passSubmit_withdrawn (hw : (getCore s key).withdrawn = true) (hf : passFate (getCore s key) a d ≠ .refused) :
    passSubmit key a d s = (s, .withdrawn) := by
  simp [passSubmit, hw, hf]

end

section
variable {rq : Requester} {r : CoreRef} {s u : State} {a : Fin 2} {code : Code}

/-- Word 7 of either array's window submits to the array of its window. -/
theorem coreRegWrite_passDesc (v : Word) : coreRegWrite rq (coreKey r) (0x8038 + 0x40 * a.val) v s =
    some (passDescWrite rq (coreKey r) a.val 7 v s) := by
  match a with
  | 0 => rfl
  | 1 => rfl

/-- The submission of a descriptor through the register path ends with the code of the queue, and clears the buffer. -/
theorem does_passDescSubmit {word7 : BitVec 64} {d : CmdDesc} (hp : CorePath rq s r)
    (hd : d = descPut (stageGet s rq (gpaKey r.tile.val r.core.val 2 0x8000)) 7 word7)
    (hs : passSubmit (coreKey r) a.val d (unstaged s rq (gpaKey r.tile.val r.core.val 2 0x8000)) = (u, code))
    (ha : groupAsleep u r.tile.val (r.core.val / 16) = false) :
    Does (.passDescSubmit rq r a word7) s (groupBusy r.tile.val (r.core.val / 16) (ends code u)) := by
  have hw : coreRegWrite rq (coreKey r) (0x8038 + 0x40 * a.val) word7 s = some (ends code u) := by
    rw [coreRegWrite_passDesc, passDescWrite, coreKey_tile, coreKey_core, windowWrite, if_pos rfl]
    dsimp only [stageTake]
    rw [← hd]
    exact congrArg (fun x : State × Code => some (ends x.2 x.1)) hs
  exact does_coreReg hp rfl (by omega) hw ha

end

/-! ## PASS_CTRL (R70, R80) -/

/-- What a write of PASS_CTRL does to one array: FLUSH, then STOP, then the enable bit. -/
def passCtrlStep (key : Nat) (v : Word) (s : State) (a : Nat) : State :=
  let s := if bit v (6 + a) then passFlushOp key a s else s
  let s := if bit v (4 + a) then passStopOp key a s else s
  if bit v a then arrayEnableOp key a s else arrayDisableOp key a s

/-- PASS_CTRL as it reads where array 0 and array 1 are in service or not. -/
def ctrlWord (x y : Bool) : Word := pack [(1, b2n y), (0, b2n x)]

theorem bit_ctrlWord : ∀ (x y b : Bool) (i j : Fin 8), bit (setFld (ctrlWord x y) i.val i.val (b2n b)) j.val =
    if j = i then b else (j = 0 && x) || (j = 1 && y) := by decide +kernel

section
variable {key : Nat} {v : Word} {s : State}

theorem coreRegWrite_passCtrl {rq : Requester} (he : expertOk rq 0 s = true) : coreRegWrite rq key 0x8090 v s =
    some (ends .ok (passCtrlStep key v (passCtrlStep key v s 0) 1)) := by
  have hw : coreRegWrite rq key 0x8090 v s = some (passCtrlWrite rq key v s) := rfl
  rw [hw, passCtrlWrite, withExpert_ok _ he]
  rfl

/-- A write of an array's enable bit as it reads does nothing. -/
theorem enableWrite_same {a : Nat} {b : Bool} (h : b = !(getArray (getCore s key) a).out) :
    (if b then arrayEnableOp key a s else arrayDisableOp key a s) = s := by
  cases ho : (getArray (getCore s key) a).out <;> simp [h, ho, arrayEnableOp, arrayDisableOp]

theorem passCtrlStep_same {a : Nat} (h6 : bit v (6 + a) = false) (h4 : bit v (4 + a) = false)
    (h0 : bit v a = !(getArray (getCore s key) a).out) : passCtrlStep key v s a = s := by
  simp only [passCtrlStep, h6, h4, Bool.false_eq_true, if_false]
  exact enableWrite_same h0

end

/-- PASS_CTRL of a core as it reads, with one bit written. -/
def ctrlPut (c : Core) (i : Nat) (b : Bool) : Word := setFld (ctrlWord (!(getArray c 0).out) (!(getArray c 1).out)) i i (b2n b)

section
variable {c : Core} {b : Bool} {a i : Nat}

theorem bit_ctrlPut {j : Nat} (hi : i < 8) (hj : j < 8) :
    bit (ctrlPut c i b) j = if j = i then b else (j = 0 && !(getArray c 0).out) || (j = 1 && !(getArray c 1).out) := by
  have h := bit_ctrlWord (!(getArray c 0).out) (!(getArray c 1).out) b ⟨i, hi⟩ ⟨j, hj⟩
  rw [ctrlPut, h]
  simp [Fin.ext_iff]

/-- A write of one bit of an array leaves the bits of the other array as they read. -/
theorem bit_ctrlPut_other (ha : a < 2) (hi : i = a ∨ i = 4 + a ∨ i = 6 + a) : bit (ctrlPut c i b) (6 + (1 - a)) = false ∧
    bit (ctrlPut c i b) (4 + (1 - a)) = false ∧ bit (ctrlPut c i b) (1 - a) = !(getArray c (1 - a)).out := by
  obtain rfl | rfl : a = 0 ∨ a = 1 := by omega
  · rcases hi with rfl | rfl | rfl <;> simp [bit_ctrlPut]
  · rcases hi with rfl | rfl | rfl <;> simp [bit_ctrlPut]

theorem bit_ctrlPut_own (ha : a < 2) : (bit (ctrlPut c (6 + a) b) (6 + a) = b ∧ bit (ctrlPut c (6 + a) b) (4 + a) = false ∧
      bit (ctrlPut c (6 + a) b) a = !(getArray c a).out) ∧
    (bit (ctrlPut c (4 + a) b) (6 + a) = false ∧ bit (ctrlPut c (4 + a) b) (4 + a) = b ∧ bit (ctrlPut c (4 + a) b) a = !(getArray c a).out) ∧
    (bit (ctrlPut c a b) (6 + a) = false ∧ bit (ctrlPut c a b) (4 + a) = false ∧ bit (ctrlPut c a b) a = b) := by
  obtain rfl | rfl : a = 0 ∨ a = 1 := by omega
  · simp [bit_ctrlPut]
  · simp [bit_ctrlPut]

end

section
variable {rq : Requester} {r : CoreRef} {s u : State} {a : Fin 2} {i : Nat} {b : Bool} {c : Instr}

/-- A write of one bit of an array in PASS_CTRL does what the bit says to the array, and nothing to the other one. -/
theorem does_passCtrl (hp : CorePath rq s r) (he : expertOk rq 0 s = true) (hi : i = a.val ∨ i = 4 + a.val ∨ i = 6 + a.val)
    (hc : exec c s = onMain (passCtrlOp rq (coreKey r) (fun v => setFld v i i (b2n b))) s)
    (hu : passCtrlStep (coreKey r) (ctrlPut (getCore s (coreKey r)) i b) s a.val = u)
    (ho : (getArray (getCore u (coreKey r)) (1 - a.val)).out = (getArray (getCore s (coreKey r)) (1 - a.val)).out)
    (hg : u.groups = s.groups ∨ ∃ t g v, u = throttleEffect t g v ∧ v.groups = s.groups) :
    Does c s (groupBusy r.tile.val (r.core.val / 16) (ends .ok u)) := by
  have hawake : groupAsleep u r.tile.val (r.core.val / 16) = false := by
    rcases hg with hg | ⟨t, g, v, rfl, hg⟩
    · rw [groupAsleep_of_groups hg, hp.awake]
    · rw [groupAsleep_throttleEffect, groupAsleep_of_groups hg, hp.awake]
  obtain ⟨h6, h4, h0⟩ := bit_ctrlPut_other (c := getCore s (coreKey r)) (b := b) a.isLt hi
  have hsteps : passCtrlStep (coreKey r) (ctrlPut (getCore s (coreKey r)) i b)
      (passCtrlStep (coreKey r) (ctrlPut (getCore s (coreKey r)) i b) s 0) 1 = u := by
    match a with
    | 0 =>
      have hown : passCtrlStep (coreKey r) (ctrlPut (getCore s (coreKey r)) i b) s 0 = u := hu
      rw [hown]
      exact passCtrlStep_same h6 h4 (h0.trans (congrArg not ho.symm))
    | 1 =>
      have hother : passCtrlStep (coreKey r) (ctrlPut (getCore s (coreKey r)) i b) s 0 = s := passCtrlStep_same h6 h4 h0
      rw [hother]
      exact hu
  refine does_onMain hc hp.on ?_
  have hw : coreRegWrite rq (coreKey r) 0x8090 (ctrlPut (getCore s (coreKey r)) i b) s = some (ends .ok u) := by
    rw [coreRegWrite_passCtrl he, hsteps]
  exact coreRegOp_writes hp (by omega) hw hawake

end

end Sys2Proof.Proofs

namespace Sys2Proof.Proofs

open Sys2Proof Sys2Proof.Machine Sys2Proof.Spec

/-! ## STOP and FLUSH (R70, Table 2.9) -/

theorem Logged.groups {s u : State} (h : Logged s u) : u.groups = s.groups := by rw [h]

theorem getCore_of_cores {s u : State} (h : u.cores = s.cores) (key : Nat) : getCore u key = getCore s key := by rw [getCore, h]; rfl

@[simp] theorem throttleEffect_cores (t g : Nat) (s : State) : (throttleEffect t g s).cores = s.cores := by
  unfold throttleEffect
  dsimp only
  split <;> rfl

@[simp] theorem getCore_throttleEffect (t g key : Nat) (s : State) : getCore (throttleEffect t g s) key = getCore s key :=
  getCore_of_cores (throttleEffect_cores t g s) key

@[simp] theorem getTile_throttleEffect (t g t' : Nat) (s : State) : getTile (throttleEffect t g s) t' = getTile s t' := by
  unfold throttleEffect
  dsimp only
  split <;> rfl

theorem logged_countReissues (key n : Nat) (s : State) : Logged s (countReissues key n s) := by
  have hm : Logged s (markFault (key / 64) s) := rfl
  unfold countReissues
  split
  · exact .refl s
  · exact hm.trans (logged_count _ _ _)

section
variable {key a : Nat} {s : State}

/-- The queue of an array whose active pass has been stopped, in its core. -/
def stoppedCore (c : Core) (a : Nat) : Core := putArray c a { getArray c a with queue := stoppedQueue (getArray c a).queue }

theorem stopActive_active (h : ∃ e ∈ (getArray (getCore s key) a).queue, e.stage = .active) :
    stopActive key a s = countReissues key 1 (putCore s key (stoppedCore (getCore s key) a)) := by
  have hany : (getArray (getCore s key) a).queue.any (fun e => e.stage == .active) = true := by simpa using h
  have hq (q : List PassEntry) : q.map (fun e => if e.stage == .active then { e with stage := .queued, reissued := true, fresh := false } else e) =
      stoppedQueue q := by simp [stoppedQueue]
  rw [stopActive, if_pos hany]
  simp only [modArray, hq]
  rfl

theorem stopActive_none (h : ∀ e ∈ (getArray (getCore s key) a).queue, e.stage ≠ .active) : stopActive key a s = s := by
  have hany : (getArray (getCore s key) a).queue.any (fun e => e.stage == .active) = false := by simpa using h
  simp [stopActive, hany]

theorem stoppedQueue_stages (q : List PassEntry) : ∀ x ∈ stoppedQueue q, x.stage ≠ .active := by
  intro x hx
  obtain ⟨e, -, rfl⟩ := List.mem_map.1 hx
  split
  · simp
  · assumption

end

/-- From `s` to `u` the arrays of core `key` stay in service or out of it. -/
def ServiceKept (key : Nat) (s u : State) : Prop := ∀ b, (getArray (getCore u key) b).out = (getArray (getCore s key) b).out

theorem putQueue_out (c : Core) (a b : Nat) (q : List PassEntry) :
    (getArray (putArray c a { getArray c a with queue := q }) b).out = (getArray c b).out := by
  by_cases hb : b = a
  · rw [hb, getArray_putArray]
  · rw [getArray_putArray_other _ _ _ hb]

section
variable (key a : Nat) (s : State)

theorem getCore_stopActive : getCore (stopActive key a s) key = getCore s key ∨
    getCore (stopActive key a s) key = stoppedCore (getCore s key) a := by
  by_cases h : ∃ e ∈ (getArray (getCore s key) a).queue, e.stage = .active
  · right
    rw [stopActive_active h, getCore_of_cores (logged_countReissues _ _ _).cores, Laws.getCore_putCore_same]
  · left
    rw [stopActive_none fun e he hs => h ⟨e, he, hs⟩]

theorem stopActive_groups : (stopActive key a s).groups = s.groups := by
  unfold stopActive
  dsimp only
  split
  · exact (logged_countReissues _ _ _).groups
  · rfl

theorem serviceKept_passStopOp : ServiceKept key s (passStopOp key a s) := by
  intro b
  rw [passStopOp, getCore_throttleEffect]
  rcases getCore_stopActive key a s with h | h <;> rw [h]
  exact putQueue_out _ _ _ _

theorem serviceKept_passFlushOp : ServiceKept key s (passFlushOp key a s) := by
  intro b
  rw [passFlushOp, getCore_throttleEffect, Laws.getCore_putCore_same, flushArray,
    getArray_of_arrays (stored_applyWaiting _).arrays, getArray_of_arrays (posted_withdrawPasses _ _ _).arrays]
  exact putQueue_out _ _ _ _

end

section
variable {rq : Requester} {r : CoreRef} {s : State} {a : Fin 2} (hp : CorePath rq s r) (he : expertOk rq 0 s = true)
include hp he

theorem does_passStop (h : ∃ e ∈ (getArray (getCore s (coreKey r)) a.val).queue, e.stage = .active) :
    Does (.passStop rq r a) s (groupBusy r.tile.val (r.core.val / 16) (ends .ok (throttleEffect r.tile.val (r.core.val / 16)
      (countReissues (coreKey r) 1 (putCore s (coreKey r) (stoppedCore (getCore s (coreKey r)) a.val)))))) := by
  obtain ⟨-, ⟨h6, h4, h0⟩, -⟩ := bit_ctrlPut_own (c := getCore s (coreKey r)) (b := true) a.isLt
  have hk := serviceKept_passStopOp (coreKey r) a.val s
  have hu : passCtrlStep (coreKey r) (ctrlPut (getCore s (coreKey r)) (4 + a.val) true) s a.val = passStopOp (coreKey r) a.val s := by
    simp only [passCtrlStep, h6, h4, Bool.false_eq_true, if_false, if_true]
    exact enableWrite_same (h0.trans (congrArg not (hk a.val).symm))
  have hx : exec (.passStop rq r a) s = onMain (passCtrlOp rq (coreKey r) (fun v => setFld v (4 + a.val) (4 + a.val) (b2n true))) s := rfl
  have hd := does_passCtrl hp he (.inr (.inl rfl)) hx hu (hk _) (.inr ⟨_, _, _, rfl, stopActive_groups _ _ _⟩)
  rwa [passStopOp, stopActive_active h, coreKey_tile, coreKey_group] at hd

theorem does_passFlush : Does (.passFlush rq r a) s (groupBusy r.tile.val (r.core.val / 16) (ends .ok (throttleEffect r.tile.val (r.core.val / 16)
    (putCore s (coreKey r) (flushArray (getCore s (coreKey r)) a.val true))))) := by
  obtain ⟨⟨h6, h4, h0⟩, -, -⟩ := bit_ctrlPut_own (c := getCore s (coreKey r)) (b := true) a.isLt
  have hk := serviceKept_passFlushOp (coreKey r) a.val s
  have hu : passCtrlStep (coreKey r) (ctrlPut (getCore s (coreKey r)) (6 + a.val) true) s a.val = passFlushOp (coreKey r) a.val s := by
    simp only [passCtrlStep, h6, h4, Bool.false_eq_true, if_false, if_true]
    exact enableWrite_same (h0.trans (congrArg not (hk a.val).symm))
  have hx : exec (.passFlush rq r a) s = onMain (passCtrlOp rq (coreKey r) (fun v => setFld v (6 + a.val) (6 + a.val) (b2n true))) s := rfl
  have hd := does_passCtrl hp he (.inr (.inr rfl)) hx hu (hk _) (.inr ⟨_, _, _, rfl, rfl⟩)
  rwa [passFlushOp, coreKey_tile, coreKey_group] at hd

end

end Sys2Proof.Proofs

namespace Sys2Proof.Proofs

open Sys2Proof Sys2Proof.Machine Sys2Proof.Spec

/-! ## An array leaves service (R74, R75, R80) -/

section
variable {α : Type} {le : α → α → Bool}

theorem perm_sortBy_put (x : α) (l : List α) : (sortBy.put le x l).Perm (x :: l) := by
  induction l with
  | nil => exact .refl _
  | cons y r ih =>
    unfold sortBy.put
    split
    · exact .refl _
    · exact (ih.cons y).trans (.swap _ _ _)

theorem perm_sortBy (l : List α) : (sortBy le l).Perm l := by
  induction l with
  | nil => exact .refl _
  | cons x r ih => exact (perm_sortBy_put x (sortBy le r)).trans (ih.cons x)

end

/-- The passes that leave an array with it: all but a running drain, the active one to be issued again. -/
def movedPasses (q : List PassEntry) : List PassEntry :=
  (q.filter (fun e => e.stage != .draining)).map (fun e =>
    { e with stage := if e.stage == .active then .queued else e.stage, fresh := false, reissued := e.reissued || e.stage == .active })

/-- The array that has left service with only a running drain in it. -/
def outArray (q : List PassEntry) (byWrite : Bool) : ArrayState := ⟨q.filter (fun e => e.stage == .draining), true, byWrite⟩

/-- The core that one of its arrays has left. -/
def outCore (c : Core) (a : Nat) (byWrite : Bool) : Core := putArray c a (outArray (getArray c a).queue byWrite)

/-- The tile whose CORE_HALF marks core `key`. -/
def halved (key : Nat) (s : State) : State := modTile s (key / 64) (fun t => { t with coreHalf := t.coreHalf ||| BitVec.twoPow 64 (key % 64) })

theorem movedPasses_moves {q : List PassEntry} {e : PassEntry} (he : e ∈ q) (hd : e.stage ≠ .draining) :
    ∃ e' ∈ movedPasses q, e'.seq = e.seq ∧ e'.desc = e.desc ∧ e'.stage ≠ .active := by
  refine ⟨_, List.mem_map.2 ⟨e, List.mem_filter.2 ⟨he, by simpa using hd⟩, rfl⟩, rfl, rfl, ?_⟩
  by_cases ha : e.stage = .active <;> simp [ha]

section
variable {key a : Nat} {w : Bool} {s : State}

/-- With the other array out too the passes end with WITHDRAWN, and the core is withdrawn. -/
theorem arrayOut_alone (h : (getArray (outCore (getCore s key) a w) (1 - a)).out = true) :
    ∃ due, arrayOut key a w s = putCore (halved key s) key (applyWaiting
      { withdrawPasses (outCore (getCore s key) a w) a (movedPasses (getArray (getCore s key) a).queue) with
        withdrawn := true, withdrawBy := due }) :=
  ⟨_, if_pos h⟩

/-- With the other array in service the passes join its queue. -/
theorem arrayOut_shared (h : (getArray (outCore (getCore s key) a w) (1 - a)).out = false) :
    ∃ n q, (∀ e ∈ movedPasses (getArray (getCore s key) a).queue, e ∈ q) ∧
      arrayOut key a w s = countReissues key n (putCore (halved key s) key
        (putArray (outCore (getCore s key) a w) (1 - a)
          { getArray (outCore (getCore s key) a w) (1 - a) with queue := q })) := by
  refine ⟨_, _, fun e he => ?_, if_neg (Bool.eq_false_iff.1 h)⟩
  exact List.mem_append_right _ ((perm_sortBy _).mem_iff.2 (List.mem_append_right _ he))

end

/-- From `s` to `u` array `a` of core `key` has left service. -/
structure LeftService (key a : Nat) (w : Bool) (s u : State) : Prop where
  array : getArray (getCore u key) a = outArray (getArray (getCore s key) a).queue w
  other : (getArray (getCore u key) (1 - a)).out = (getArray (getCore s key) (1 - a)).out
  log : (getCore u key).residueLog = (getCore s key).residueLog
  groups : u.groups = s.groups
  half : bit (getTile u (key / 64)).coreHalf (key % 64) = true
  withdraws : (getArray (getCore s key) (1 - a)).out = true → (getCore u key).withdrawn = true
  moves : (getArray (getCore s key) (1 - a)).out = false → ∀ e ∈ movedPasses (getArray (getCore s key) a).queue,
    e ∈ (getArray (getCore u key) (1 - a)).queue

theorem halved_half (key : Nat) (s : State) : bit (getTile (halved key s) (key / 64)).coreHalf (key % 64) = true := by
  have hk : key % 64 < 64 := by omega
  simp [halved, modTile, getTile, putTile, bit, hk]

theorem leftService_arrayOut {key a : Nat} (ha : a < 2) (w : Bool) (s : State) : LeftService key a w s (arrayOut key a w s) := by
  have hne : 1 - a ≠ a := by omega
  have hother : getArray (outCore (getCore s key) a w) (1 - a) = getArray (getCore s key) (1 - a) := getArray_putArray_other _ _ _ hne
  cases ho : (getArray (getCore s key) (1 - a)).out with
  | true =>
    obtain ⟨due, hout⟩ := arrayOut_alone (w := w) (by rw [hother, ho])
    have hst := stored_applyWaiting { withdrawPasses (outCore (getCore s key) a w) a (movedPasses (getArray (getCore s key) a).queue) with
      withdrawn := true, withdrawBy := due }
    have hpo := posted_withdrawPasses (outCore (getCore s key) a w) a (movedPasses (getArray (getCore s key) a).queue)
    have harr := hst.arrays.trans hpo.arrays
    rw [hout]
    refine ⟨?_, ?_, ?_, rfl, ?_, fun _ => ?_, fun h => ?_⟩
    · rw [Laws.getCore_putCore_same, getArray_of_arrays harr]
      exact getArray_putArray _ _ _
    · rw [Laws.getCore_putCore_same, getArray_of_arrays harr, hother]
    · rw [Laws.getCore_putCore_same]
      exact hst.residueLog.trans hpo.residueLog
    · exact halved_half key s
    · rw [Laws.getCore_putCore_same]
      exact hst.withdrawn
    · exact absurd (ho.symm.trans h) (by simp)
  | false =>
    obtain ⟨n, q, hq, hout⟩ := arrayOut_shared (w := w) (by rw [hother, ho])
    rw [hother] at hout
    rw [hout]
    have hlog := logged_countReissues key n (putCore (halved key s) key
      (putArray (outCore (getCore s key) a w) (1 - a) { getArray (getCore s key) (1 - a) with queue := q }))
    have hcore := (getCore_of_cores hlog.cores key).trans (Laws.getCore_putCore_same _ _ _)
    refine ⟨?_, ?_, ?_, hlog.groups, ?_, fun h => ?_, fun _ e he => ?_⟩
    · rw [hcore, getArray_putArray_other _ _ _ hne.symm]
      exact getArray_putArray _ _ _
    · rw [hcore, getArray_putArray]
    · rw [hcore]
      rfl
    · rw [getTile, hlog.tiles]
      exact halved_half key s
    · exact absurd (ho.symm.trans h) (by simp)
    · rw [hcore, getArray_putArray]
      exact hq e he

end Sys2Proof.Proofs

namespace Sys2Proof.Proofs

open Sys2Proof Sys2Proof.Machine Sys2Proof.Spec

/-! ## The enable bits of PASS_CTRL (R80) -/

section
variable {rq : Requester} {r : CoreRef} {s : State} {a : Fin 2} (hp : CorePath rq s r) (he : expertOk rq 0 s = true)
include hp he

theorem does_arrayDisable (ho : (getArray (getCore s (coreKey r)) a.val).out = false) :
    Does (.arrayDisable rq r a) s (groupBusy r.tile.val (r.core.val / 16) (ends .ok
      (throttleEffect r.tile.val (r.core.val / 16) (arrayOut (coreKey r) a.val true s)))) := by
  obtain ⟨-, -, h6, h4, h0⟩ := bit_ctrlPut_own (c := getCore s (coreKey r)) (b := false) a.isLt
  have hl := leftService_arrayOut a.isLt true s (key := coreKey r)
  have hu : passCtrlStep (coreKey r) (ctrlPut (getCore s (coreKey r)) a.val false) s a.val =
      throttleEffect (coreKey r / 64) (groupOf (coreKey r)) (arrayOut (coreKey r) a.val true s) := by
    simp [passCtrlStep, h6, h4, h0, arrayDisableOp, ho]
  have hx : exec (.arrayDisable rq r a) s = onMain (passCtrlOp rq (coreKey r) (fun v => setFld v a.val a.val (b2n false))) s := rfl
  have hout := (congrArg (fun c => (getArray c (1 - a.val)).out) (getCore_throttleEffect (coreKey r / 64) (groupOf (coreKey r)) (coreKey r)
    (arrayOut (coreKey r) a.val true s))).trans hl.other
  have hd := does_passCtrl hp he (.inl rfl) hx hu hout (.inr ⟨_, _, _, rfl, hl.groups⟩)
  rwa [coreKey_tile, coreKey_group] at hd

theorem does_arrayEnable (ho : (getArray (getCore s (coreKey r)) a.val).out = true)
    (hw : (getArray (getCore s (coreKey r)) a.val).outByWrite = true) (hother : (getArray (getCore s (coreKey r)) (1 - a.val)).out = false) :
    Does (.arrayEnable rq r a) s (groupBusy r.tile.val (r.core.val / 16) (ends .ok
      (modTile (putCore s (coreKey r) (putArray (getCore s (coreKey r)) a.val
          { getArray (getCore s (coreKey r)) a.val with out := false, outByWrite := false })) r.tile.val
        (fun t => { t with coreHalf := t.coreHalf &&& ~~~(BitVec.twoPow 64 r.core.val) })))) := by
  obtain ⟨-, -, h6, h4, h0⟩ := bit_ctrlPut_own (c := getCore s (coreKey r)) (b := true) a.isLt
  have hne : 1 - a.val ≠ a.val := by omega
  have hback : (getArray (putArray (getCore s (coreKey r)) a.val { getArray (getCore s (coreKey r)) a.val with out := false, outByWrite := false })
      (1 - a.val)).out = false := by rw [getArray_putArray_other _ _ _ hne, hother]
  have hu : passCtrlStep (coreKey r) (ctrlPut (getCore s (coreKey r)) a.val true) s a.val =
      modTile (putCore s (coreKey r) (putArray (getCore s (coreKey r)) a.val
          { getArray (getCore s (coreKey r)) a.val with out := false, outByWrite := false })) (coreKey r / 64)
        (fun t => { t with coreHalf := t.coreHalf &&& ~~~(BitVec.twoPow 64 (coreKey r % 64)) }) := by
    simp [passCtrlStep, h6, h4, h0, arrayEnableOp, ho, hw, hback]
  rw [coreKey_tile, coreKey_core] at hu
  have hx : exec (.arrayEnable rq r a) s = onMain (passCtrlOp rq (coreKey r) (fun v => setFld v a.val a.val (b2n true))) s := rfl
  refine does_passCtrl hp he (.inl rfl) hx hu ?_ (.inl rfl)
  exact (congrArg (fun c => (getArray c (1 - a.val)).out) (Laws.getCore_putCore_same _ _ _)).trans (hback.trans hother.symm)

end

/-- Settles O6, from what a write of each bit of PASS_CTRL does to its array and from the fate of a submitted descriptor. -/
theorem passRegisters : Obligations.PassRegisters := by
  intro rq r a s hp
  refine ⟨fun word7 d b hd hb hr => ⟨fun hw ht hq => ?_, fun hw => ?_⟩, fun he =>
    ⟨does_passStop hp he, does_passFlush hp he, fun ho => ?_, does_arrayEnable hp he⟩⟩
  · exact does_passDescSubmit hp hd (passSubmit_enqueues (s := unstaged s rq _) hw (passFate_enqueue hb hr ht hq))
      ((groupAsleep_of_groups rfl _ _).trans hp.awake)
  · exact does_passDescSubmit hp hd (passSubmit_withdrawn (s := unstaged s rq _) hw (passFate_ne_refused hb hr))
      ((groupAsleep_of_groups rfl _ _).trans hp.awake)
  · have hl := leftService_arrayOut a.isLt true s (key := coreKey r)
    have hhalf := hl.half
    rw [coreKey_tile, coreKey_core] at hhalf
    refine ⟨_, does_arrayDisable hp he ho, ?_⟩
    rw [getCore_throttleEffect, getTile_throttleEffect, hl.array]
    refine ⟨rfl, rfl, rfl, hhalf, hl.withdraws, fun hother e hmem hdr => ?_⟩
    obtain ⟨e', hmem', hseq, hdesc, hact⟩ := movedPasses_moves hmem hdr
    exact ⟨e', hl.moves hother e' hmem', hseq, hdesc, hact⟩

end Sys2Proof.Proofs

namespace Sys2Proof.Proofs

open Sys2Proof Sys2Proof.Machine Sys2Proof.Spec

/-! ## An array out of service through a shift of its group (R74, R371, Table 11.6) -/

/-- No pass of array `a` of a core is active. -/
def NoActive (c : Core) (a : Nat) : Prop := ∀ x ∈ (getArray c a).queue, x.stage ≠ .active

/-- From core `c` to core `d` the residue log and array `a`'s service stay, and no pass of the array becomes active. -/
structure ArrayRests (a : Nat) (c d : Core) : Prop where
  log : d.residueLog = c.residueLog
  out : (getArray d a).out = (getArray c a).out
  byWrite : (getArray d a).outByWrite = (getArray c a).outByWrite
  idle : NoActive c a → NoActive d a

section
variable {a : Nat} {c d e : Core}

theorem ArrayRests.refl (a : Nat) (c : Core) : ArrayRests a c c := ⟨rfl, rfl, rfl, id⟩

theorem ArrayRests.trans (h : ArrayRests a c d) (g : ArrayRests a d e) : ArrayRests a c e :=
  ⟨g.log.trans h.log, g.out.trans h.out, g.byWrite.trans h.byWrite, g.idle ∘ h.idle⟩

theorem arrayRests_of_arrays (h : d.arrays = c.arrays) (hl : d.residueLog = c.residueLog) : ArrayRests a c d := by
  have ha := getArray_of_arrays h a
  exact ⟨hl, by rw [ha], by rw [ha], fun hn => by rwa [NoActive, ha]⟩

/-- A new queue in which no pass becomes active. -/
theorem arrayRests_putQueue (b : Nat) (q : List PassEntry)
    (hq : (∀ x ∈ (getArray c b).queue, x.stage ≠ .active) → ∀ x ∈ q, x.stage ≠ .active) :
    ArrayRests a c (putArray c b { getArray c b with queue := q }) := by
  by_cases hb : a = b
  · subst hb
    refine ⟨rfl, ?_, ?_, fun hn => ?_⟩
    · rw [getArray_putArray]
    · rw [getArray_putArray]
    · rw [NoActive, getArray_putArray]
      exact hq hn
  · have ha := getArray_putArray_other c b { getArray c b with queue := q } hb
    exact ⟨rfl, by rw [ha], by rw [ha], fun hn => by rwa [NoActive, ha]⟩

theorem arrayRests_carriesMove (a : Nat) (c : Core) : ArrayRests a c (carriesMove c) := by
  have hq (c : Core) (b : Nat) : ArrayRests a c (modArray c b (fun x => { x with queue := x.queue.map (fun e => { e with fresh := false }) })) :=
    arrayRests_putQueue b _ fun hn x hx => by
      obtain ⟨e, he, rfl⟩ := List.mem_map.1 hx
      exact hn e he
  exact (hq c 0).trans (hq _ 1)

end

/-- From `s` to `u` array `a` of core `key` rests. -/
def Rests (key a : Nat) (s u : State) : Prop := ArrayRests a (getCore s key) (getCore u key)

section
variable {key a : Nat} {s u v : State}

theorem Rests.refl (key a : Nat) (s : State) : Rests key a s s := ArrayRests.refl a _

theorem Rests.trans (h : Rests key a s u) (g : Rests key a u v) : Rests key a s v := ArrayRests.trans h g

theorem rests_of_cores (h : u.cores = s.cores) : Rests key a s u := by
  rw [Rests, getCore_of_cores h]
  exact ArrayRests.refl a _

theorem Logged.rests (h : Logged s u) : Rests key a s u := rests_of_cores h.cores

theorem rests_modCore (k : Nat) {f : Core → Core} (hf : ArrayRests a (getCore s k) (f (getCore s k))) : Rests key a s (modCore s k f) := by
  by_cases hk : key = k
  · rw [hk, Rests, modCore, Laws.getCore_putCore_same]
    exact hf
  · rw [Rests, modCore, Laws.getCore_putCore_other _ _ hk]
    exact ArrayRests.refl a _

theorem rests_stopActive (k b : Nat) (s : State) : Rests key a s (stopActive k b s) := by
  unfold stopActive
  dsimp only
  split
  · refine Rests.trans (rests_modCore k (f := fun c => modArray c b (fun x => { x with queue := x.queue.map (fun e =>
      if e.stage == .active then { e with stage := .queued, reissued := true, fresh := false } else e) })) ?_) (logged_countReissues _ _ _).rests
    refine arrayRests_putQueue b _ fun hn x hx => ?_
    obtain ⟨e, he, rfl⟩ := List.mem_map.1 hx
    simp [hn e he]
  · exact .refl key a s

theorem rests_wakeGroup (t g : Nat) (s : State) : Rests key a s (wakeGroup t g s) := by
  unfold wakeGroup
  dsimp only
  split
  · exact rests_of_cores rfl
  · exact .refl key a s

theorem rests_bakeAbandon (t g : Nat) (s : State) : Rests key a s (bakeAbandon t g s) := by
  unfold bakeAbandon
  split
  · exact rests_of_cores ((logged_count _ _ (modGroup s t g _)).cores.trans rfl)
  · exact .refl key a s

theorem rests_benchFail (k i : Nat) (s : State) : Rests key a s (benchFail k i s) :=
  Rests.trans (rests_modCore k (f := fun c =>
    { c with benchDead := true, withdrawn := true, withdrawBy := some (c.withdrawBy.getD (s.now + 2000000)) })
    (arrayRests_of_arrays rfl rfl)) (logged_raise _ _).rests

/-- The core of a position stops its passes and gives up what its queues carry. -/
theorem rests_coreMoves (k : Nat) (s : State) : Rests key a s (modCore (stopActive k 1 (stopActive k 0 s)) k carriesMove) :=
  ((rests_stopActive k 0 s).trans (rests_stopActive k 1 _)).trans (rests_modCore k (arrayRests_carriesMove a _))

theorem rests_shiftStart (t g cause p : Nat) (restore byCmd : Bool) (s : State) : Rests key a s (shiftStart t g cause p restore byCmd s) := by
  have hwake := (rests_wakeGroup (key := key) (a := a) t g s).trans (rests_bakeAbandon t g _)
  have hmoves (v : State) := foldl_related (R := Rests key a) (.refl key a) .trans (fun u l => rests_coreMoves (ck t (16 * g + l)) u)
    ((upto 16).filter (fun l => decide (p ≤ l))) v
  have hshift (v : State) : Rests key a v (modGroup v t g (fun x => { x with shift := some ⟨cause, p, restore, byCmd⟩ })) := rests_of_cores rfl
  unfold shiftStart
  refine Rests.trans (Rests.trans (hwake.trans ?_) (hmoves _)) (hshift _)
  split
  · split
    · exact .refl key a _
    · exact rests_benchFail _ _ _
  · exact .refl key a _

theorem rests_leaseRelease (act tile unit_ : Nat) (s : State) : Rests key a s (leaseRelease act tile unit_ s) := rests_of_cores rfl

theorem rests_leaseAsk (act tile unit_ : Nat) (l : LeaseAct) (auto : Bool) (s : State) : Rests key a s (leaseAsk act tile unit_ l auto s).2 := by
  have hconflict : (countHearth 11 1 s).cores = s.cores := (logged_count _ _ _).cores
  refine rests_of_cores ?_
  unfold leaseAsk
  dsimp only
  split
  · split
    · cases auto <;> rfl
    · rfl
  · cases auto <;> rfl
  · split
    · cases auto <;> rfl
    · rfl
  · cases auto <;> exact hconflict

/-- A shift of a group that no command and no RESTORE asked for, in a case of R371 that withdraws no core. -/
theorem rests_shiftRun {cause : Nat} (hcause : cause ≠ 2) (t g p : Nat) (s : State) :
    Rests key a s (shiftRun t g cause p false false s) := by
  have hspare (v : State) : Rests key a v (leaseRelease 4 t g (spareEnd t .ok (sparingMark (shiftEvent t g 16 5 v)))) :=
    Rests.trans (logged_raise _ _).rests (rests_of_cores rfl)
  have hoff : Rests key a s (bakeAbandon t g (setOff t g 16 true s)) := Rests.trans (rests_of_cores (u := setOff t g 16 true s) rfl) (rests_bakeAbandon _ _ _)
  simp only [shiftRun, hcause, Bool.not_false, Bool.true_and, Bool.false_eq_true, if_false]
  split
  · exact rests_leaseRelease _ _ _ _
  · split
    · split
      · exact rests_leaseRelease _ _ _ _
      · exact hoff.trans (hspare _)
    · split
      · exact rests_shiftStart _ _ _ _ _ _ _
      · exact rests_leaseRelease _ _ _ _

theorem rests_shiftAuto {cause : Nat} (hcause : cause ≠ 2) (t g p : Nat) (s : State) : Rests key a s (shiftAuto t g cause p s) := by
  have hask := rests_leaseAsk (key := key) (a := a) 4 t g (.shift t g cause p false false) true s
  unfold shiftAuto
  split
  · exact .refl key a s
  · split
    · split <;> rename_i heq <;> rw [heq] at hask
      · exact hask.trans (rests_shiftRun hcause _ _ _ _)
      · exact hask
    · exact .refl key a s

end

/-! ## RESIDUE_MISMATCH (R74) -/

section
variable {key a row col : Nat} {s : State} {e : PassEntry}

/-- What a mismatch writes into the residue log of a core. -/
def mismatchLog (c : Core) (a row col : Nat) (e : PassEntry) : Word :=
  pack [(48, dTag e.desc), (40, min 255 (fld c.residueLog 47 40 + 1)), (31, 1), (30, b2n (decide (0 < e.mismatches))), (29, a), (18, row), (12, col)]

/-- The core whose pass has met a mismatch. -/
def mismatchCore (c : Core) (a row col : Nat) (e : PassEntry) : Core :=
  { setEntry c a { e with mismatches := e.mismatches + 1 } with residueLog := mismatchLog c a row col e }

theorem mismatchCore_out (c : Core) (a row col : Nat) (e : PassEntry) : (getArray (mismatchCore c a row col e) a).out = (getArray c a).out := by
  have h : (mismatchCore c a row col e).arrays = (setEntry c a { e with mismatches := e.mismatches + 1 }).arrays := rfl
  rw [getArray_of_arrays h]
  exact putQueue_out _ _ _ _

/-- The module whose core `key` has logged, counted and reported a mismatch. -/
def mismatchSeen (key a row col : Nat) (e : PassEntry) (s : State) : State :=
  let u := putCore s key (mismatchCore (getCore s key) a row col e)
  raise (mkEv 0x0101 clsFault 0 1 (key / 64) (key % 64)
    (evW2 (unit := key % 64) (position := posOf u key) (array := a) ||| pack [(6, row), (0, col)]) (BitVec.ofNat 64 (dTag e.desc))) (countCore key 1 1 u)

theorem getCore_mismatchSeen : getCore (mismatchSeen key a row col e s) key = mismatchCore (getCore s key) a row col e :=
  (getCore_of_cores ((logged_count _ _ _).trans (logged_raise _ _)).cores key).trans (Laws.getCore_putCore_same _ _ _)

section
variable (hf : (getArray (getCore s key) a).queue.find? (fun x => x.stage == .active) = some e)
include hf

/-- The first mismatch of a pass stops it. -/
theorem residueMismatchOp_first (hm : e.mismatches = 0) :
    residueMismatchOp key a row col s = passStopOp key a (mismatchSeen key a row col e s) := by
  have hsecond : decide (0 < e.mismatches) = false := by simp [hm]
  simp only [residueMismatchOp, hf]
  rw [if_neg (by simp [hsecond])]
  rfl

/-- The second mismatch of a pass takes its array out of service, and the tile asks for a shift. -/
theorem residueMismatchOp_second (hm : 0 < e.mismatches) :
    ∃ v, Logged (arrayOut key a false (mismatchSeen key a row col e s)) v ∧ residueMismatchOp key a row col s =
      shiftAuto (key / 64) (groupOf key) 1 (posOf v key) (throttleEffect (key / 64) (groupOf key) v) := by
  have hv := logged_raise (mkEv 0x0102 clsFault 0 3 (key / 64) (key % 64) (evW2 (unit := key % 64)
    (position := posOf (putCore s key (mismatchCore (getCore s key) a row col e)) key) (array := a)) (BitVec.ofNat 64 (dTag e.desc)))
    (arrayOut key a false (mismatchSeen key a row col e s))
  refine ⟨_, hv, ?_⟩
  simp only [residueMismatchOp, hf]
  rw [if_pos (by simp [hm])]
  rfl

end

theorem noActive_stopActive (key a : Nat) (s : State) : NoActive (getCore (stopActive key a s) key) a := by
  by_cases h : ∃ e ∈ (getArray (getCore s key) a).queue, e.stage = .active
  · rw [stopActive_active h, getCore_of_cores (logged_countReissues _ _ _).cores, Laws.getCore_putCore_same, NoActive, stoppedCore, getArray_putArray]
    exact stoppedQueue_stages _
  · rw [stopActive_none fun e he hs => h ⟨e, he, hs⟩]
    exact fun e he hs => h ⟨e, he, hs⟩

theorem noActive_outArray {c : Core} {q : List PassEntry} {w : Bool} (h : getArray c a = outArray q w) : NoActive c a := by
  intro x hx hs
  rw [h] at hx
  simpa [hs] using (List.mem_filter.1 hx).2

end

/-- What a residue mismatch of the active pass leaves in its core. -/
theorem residueMismatch : Sys2Proof.Spec.ResidueMismatch := by
  intro r a row col s e hon hf
  have hd {u : State} (hu : residueMismatchOp (coreKey r) a.val row.val col.val s = u) : Does (.residueMismatch r a row col) s u :=
    does_onMain rfl hon hu
  by_cases hm : e.mismatches = 0
  · have hrest := rests_stopActive (key := coreKey r) (a := a.val) (coreKey r) a.val (mismatchSeen (coreKey r) a.val row.val col.val e s)
    have hlog := hrest.log
    have hout := hrest.out
    rw [getCore_mismatchSeen] at hlog hout
    refine ⟨_, hd (residueMismatchOp_first hf hm), ?_⟩
    rw [passStopOp, getCore_throttleEffect, hlog, hout]
    refine ⟨by simp [mismatchCore, mismatchLog, hm, b2n], noActive_stopActive _ _ _, fun _ => mismatchCore_out _ _ _ _ _, fun h => ?_⟩
    omega
  · have hpos := Nat.pos_of_ne_zero hm
    obtain ⟨v, hv, hop⟩ := residueMismatchOp_second (row := row.val) (col := col.val) hf hpos
    have hleft := leftService_arrayOut a.isLt false (mismatchSeen (coreKey r) a.val row.val col.val e s) (key := coreKey r)
    have hrest := (hv.rests.trans
      (rests_of_cores (throttleEffect_cores (coreKey r / 64) (groupOf (coreKey r)) _))).trans
      (rests_shiftAuto (key := coreKey r) (a := a.val) (cause := 1) (by decide) (coreKey r / 64) (groupOf (coreKey r))
        (posOf v (coreKey r)) _)
    refine ⟨_, hd hop, ?_, hrest.idle (noActive_outArray hleft.array), fun h => absurd h hm, fun _ => ⟨?_, ?_⟩⟩
    · rw [hrest.log, hleft.log, getCore_mismatchSeen]
      simp [mismatchCore, mismatchLog, hm, hpos, b2n]
    · rw [hrest.out, hleft.array]
      rfl
    · rw [hrest.byWrite, hleft.array]
      rfl

/-! ## Clock changes (R70, R394) -/

theorem clockChanges : Sys2Proof.Spec.ClockChanges := by
  intro t g s hon
  refine ⟨fun at_ hreq hch hsh => does_onMain rfl hon ?_, fun u key a => noActive_stopActive key a u, fun hch => does_onMain rfl hon ?_⟩
  · simp [throttleStepTimeoutOp, hreq, hch, hsh]
  · simp [clockChangeCompleteOp, hch]

/-- Settles O44: after a second mismatch the array rests through the shift that the tile asks for. -/
theorem mismatchesAndClocks : Obligations.MismatchesAndClocks := ⟨residueMismatch, clockChanges⟩

end Sys2Proof.Proofs

namespace Sys2Proof.Proofs

open Sys2Proof Sys2Proof.Machine Sys2Proof.Spec

/-! ## The end of a transaction at its source (R316) -/

theorem Logged.port {s u : State} (h : Logged s u) (t : Nat) : getPort u t = getPort s t := by rw [getPort, h.ports]; rfl

theorem logged_receivedEvent (tile n : Nat) (s : State) : Logged s (receivedEvent tile n s) := by
  unfold receivedEvent
  split
  · exact .refl s
  · exact logged_raise _ _

/-- The kernel whose remote operation has ended. -/
def endedKernel (o : RemOp) (code : Code) (v : Word) (k : Kernel) : Kernel :=
  if o.kind = .const then opResult o code v k else ticketEnd (opResult o code v k) 3 o.ticket code

/-- The module whose operation `o` has left its port and its kernel. -/
def opEnded (t : Nat) (o : RemOp) (code : Code) (v : Word) (s : State) : State :=
  modCore (modPort s t (dropOp o.txn)) (ck t o.core) (fun c => modKernel c (endedKernel o code v))

section
variable {t : Nat} {o : RemOp} {code : Code} {v : Word} {s : State}

theorem logged_endOp : Logged (opEnded t o code v s) (endOp t o code v s) := by
  have hcount (b : Prop) [Decidable b] (i : Nat) (u : State) : Logged u (if b then countTile t i 1 u else u) := by
    split
    · exact logged_count _ _ _
    · exact .refl u
  exact (hcount _ 31 _).trans (hcount _ 32 _)

theorem kernel_endOp {k : Kernel} (hk : (getCore s (ck t o.core)).kernel = some k) :
    (getCore (endOp t o code v s) (ck t o.core)).kernel = some (endedKernel o code v k) := by
  have hc : getCore (modPort s t (dropOp o.txn)) (ck t o.core) = getCore s (ck t o.core) := rfl
  rw [getCore_of_cores logged_endOp.cores, opEnded, modCore, Laws.getCore_putCore_same, hc, modKernel, hk]
  rfl

theorem txn_endOp : ∀ y ∈ (getPort (endOp t o code v s) t).ops, y.txn ≠ o.txn := by
  have hp : getPort (opEnded t o code v s) t = getPort (modPort s t (dropOp o.txn)) t := rfl
  rw [logged_endOp.port, hp, getPort_modPort]
  intro y hy
  simpa using (List.mem_filter.1 hy).2

end

/-! ## Answers to loads, stores and atomics (R97, R316) -/

/-- The kinds of operation that a reply of a MSG_TYPE answers (Table 9.3). -/
def Answers (type : Nat) (k : RemKind) : Prop :=
  (type = 0x10 ∧ (k = .const ∨ ∃ sg, k = .load sg)) ∨ (type = 0x12 ∧ ∃ op, k = .atomic op) ∨ (type = 0x11 ∧ (k = .store ∨ ∃ op, k = .reduce op))

theorem findOp_txn {s : State} {t txn : Nat} {o : RemOp} (h : findOp s t txn = some o) : o.txn = txn := by
  simpa using List.find?_some h

section
variable {t : Nat} {p : Packet} {s : State} {o : RemOp}

/-- The commands of the replies arrive under their MSG_TYPE, and the endpoint takes them as replies. -/
theorem does_reply {f : FlowRx} {x : (Packet → Instr) × Nat} (hx : x ∈ [(Instr.loadReply, 0x10), (.doneReply, 0x11), (.atomicReply, 0x12)])
    (ht : t < 24) (hc : Comes x.2 p t f s) : Does (x.1 p) s (followUp t (rxKey p) (replyTake t p (taken p t f s))) := by
  simp only [List.mem_cons, List.not_mem_nil, or_false] at hx
  have htype := hc.sound.type
  have hrow : exec (x.1 p) s = arrive x.2 p s ∧ deliver t p (taken p t f s) = replyTake t p (taken p t f s) := by
    rcases hx with rfl | rfl | rfl <;> exact ⟨rfl, by simp [deliver, htype, ht]⟩
  have hd := does_comes hrow.1 hc
  rwa [hrow.2] at hd

theorem replyTake_stray (hf : findOp s t (pTxn p) = none) : replyTake t p s = countTile t 33 1 s := by simp [replyTake, hf]

theorem replyTake_ends (hf : findOp s t (pTxn p) = some o) (hw : o.waitPage = none) (hm : pSrcModule p = o.module) (ht : pSrcTile p = o.tile)
    (hk : Answers (pType p) o.kind) :
    replyTake t p s = endOp t o (codeReceived (fld p.w5 39 32)) p.w6 (receivedEvent t (fld p.w5 39 32) s) := by
  rcases hk with ⟨hty, hk | ⟨_, hk⟩⟩ | ⟨hty, _, hk⟩ | ⟨hty, hk | ⟨_, hk⟩⟩ <;> simp [replyTake, Option.filter, hf, hw, hm, ht, hty, hk]

end

/-! ## The value of a load (Table 6.4) -/

theorem ofInt_sext8 (v : Word) : BitVec.ofInt 64 (sext 8 v.toNat) = (v.setWidth 8).signExtend 64 := by
  have hb : sext 8 v.toNat = (v.setWidth 8).toInt := by
    rw [BitVec.toInt_eq_toNat_cond, BitVec.toNat_setWidth, sext]
    norm_num
    split <;> split <;> omega
  rw [hb, BitVec.signExtend]

theorem opResult_ok {o : RemOp} {v : Word} {k : Kernel} (h : o.kind = .load false ∨ o.kind = .const) :
    opResult o .ok v k = putG { k with gWait := k.gWait &&& ~~~(BitVec.twoPow 32 o.reg) } o.reg (BitVec.ofNat 64 (v.toNat % 2 ^ (8 * 2 ^ o.size))) false := by
  rcases h with h | h <;> simp [opResult, h, putBit]

theorem opResult_signedByte {o : RemOp} {v : Word} {k : Kernel} (h : o.kind = .load true) (hs : o.size = 0) :
    opResult o .ok v k = putG { k with gWait := k.gWait &&& ~~~(BitVec.twoPow 32 o.reg) } o.reg ((v.setWidth 8).signExtend 64) false := by
  rw [← ofInt_sext8]
  simp [opResult, h, hs, putBit]

theorem opResult_failed {o : RemOp} {v : Word} {k : Kernel} {c : Code} (hc : c ≠ .ok)
    (h : o.kind = .const ∨ (∃ sg, o.kind = .load sg) ∨ ∃ op, o.kind = .atomic op) :
    opResult o c v k = putG { k with gWait := k.gWait &&& ~~~(BitVec.twoPow 32 o.reg) } o.reg (BitVec.allOnes 64) true := by
  rcases h with h | ⟨sg, h⟩ | ⟨op, h⟩
  · simp [opResult, h, hc, putBit]
  · cases sg <;> simp [opResult, h, hc, putBit]
  · simp [opResult, h, hc, putBit]

/-! ## Answers to a move (R97, R100) -/

section
variable {key ticket txn : Nat} {code : Code} {bytes : Option (Nat × List Byte)} {m : MoveOp} {s : State}

/-- The move after one of its requests has ended. -/
def partedMove (m : MoveOp) (txn : Nat) (code : Code) (bytes : Option (Nat × List Byte)) : MoveOp :=
  { m with await := m.await.filter (· != txn), code := codeMerge m.code code, parts := m.parts ++ bytes.toList }

theorem find_setMove {c : Core} {m' : MoveOp} (hf : c.moves.find? (fun x => x.ticket == ticket) = some m) (ht : m'.ticket = ticket) :
    (setMove m' c).moves.find? (fun x => x.ticket == ticket) = some m' := by
  have hm : m.ticket = ticket := by simpa using List.find?_some hf
  have hkeep : (fun x : MoveOp => x.ticket == ticket) ∘ (fun x => if x.ticket = m'.ticket then m' else x) = fun x => x.ticket == ticket := by
    funext x
    by_cases hx : x.ticket = m'.ticket
    · simp [hx, ht]
    · simp [hx]
  rw [setMove, List.find?_map, hkeep, hf]
  simp [hm, ht]

theorem find_partedMove {c : Core} (hf : c.moves.find? (fun x => x.ticket == ticket) = some m) :
    (setMove (partedMove m txn code bytes) c).moves.find? (fun x => x.ticket == ticket) = some (partedMove m txn code bytes) :=
  find_setMove hf (show m.ticket = ticket by simpa using List.find?_some hf)

theorem setMove_of_mem {c : Core} {x m' : MoveOp} (hx : x ∈ (setMove m' c).moves) (ht : x.ticket = m'.ticket) : x = m' := by
  obtain ⟨y, -, hy⟩ := List.mem_map.1 hx
  by_cases h : y.ticket = m'.ticket
  · simpa [h] using hy.symm
  · rw [if_neg h] at hy
    exact absurd (hy ▸ ht) h

/-- A move with nothing left to send sends nothing. -/
theorem movePump_idle (h : ∀ x ∈ (getCore s key).moves, x.ticket = ticket → x.todo = []) (fuel : Nat) : movePump fuel key ticket s = s := by
  cases fuel with
  | zero => rfl
  | succ fuel =>
    unfold movePump
    dsimp only
    split
    · rename_i x k hx hk
      have ht : x.ticket = ticket := by simpa using And.left (by simpa using List.find?_some hx)
      rw [h x (List.mem_of_find?_eq_some hx) ht]
    · rfl

/-- The last answer to a move waits in the move. -/
theorem movePart_last (hf : (getCore s key).moves.find? (fun x => x.ticket == ticket) = some m) (htodo : m.todo = []) :
    movePart key ticket txn code bytes s = putCore s key (setMove (partedMove m txn code bytes) (getCore s key)) := by
  have hm : m.ticket = ticket := by simpa using List.find?_some hf
  have hop : movePart key ticket txn code bytes s =
      movePump ((partedMove m txn code bytes).todo.length + 1) key ticket (putCore s key (setMove (partedMove m txn code bytes) (getCore s key))) := by
    cases bytes <;> simp [movePart, partedMove, hf]
  rw [hop, movePump_idle]
  intro x hx ht
  rw [Laws.getCore_putCore_same] at hx
  rw [setMove_of_mem hx (ht.trans hm.symm)]
  exact htodo

end

section
variable {t : Nat} {p : Packet} {f : FlowRx} {s : State} {o : RemOp} {ticket row : Nat} {m : MoveOp}

theorem does_moveData (ht : t < 24) (hc : Comes 0x22 p t f s) : Does (.moveDataMsg p) s (followUp t (rxKey p) (bulkTake t p (taken p t f s))) := by
  have hd := does_comes (c := .moveDataMsg p) rfl hc
  have htype := hc.sound.type
  rwa [show deliver t p (taken p t f s) = bulkTake t p (taken p t f s) by simp [deliver, htype, ht]] at hd

theorem does_moveDone (ht : t < 24) (hc : Comes 0x23 p t f s) : Does (.moveDoneMsg p) s (followUp t (rxKey p) (bulkTake t p (taken p t f s))) := by
  have hd := does_comes (c := .moveDoneMsg p) rfl hc
  have htype := hc.sound.type
  rwa [show deliver t p (taken p t f s) = bulkTake t p (taken p t f s) by simp [deliver, htype, ht]] at hd

/-- The state in which the answer to a move has been taken, before its end reaches the move. -/
def bulkHeard (t : Nat) (p : Packet) (o : RemOp) (s : State) : State := modPort (receivedEvent t (fld p.w6 7 0) s) t (dropOp o.txn)

theorem getCore_bulkHeard (key : Nat) : getCore (bulkHeard t p o s) key = getCore s key :=
  getCore_of_cores (u := bulkHeard t p o s) (logged_receivedEvent t (fld p.w6 7 0) s).cores key

theorem bulkTake_data (hty : pType p = 0x22) (hf : findOp s t (pTxn p) = some o) (hk : o.kind = .moveRead ticket row) (hm : pSrcModule p = o.module)
    (ht : pSrcTile p = o.tile) (hok : fld p.w6 7 0 = 0) :
    bulkTake t p s = movePart (ck t o.core) ticket o.txn .ok (some (row, (pBytes p).take o.size)) (bulkHeard t p o s) := by
  have hcode : codeReceived (fld p.w6 7 0) = .ok := by rw [hok]; rfl
  simp [bulkTake, Option.filter, hf, hty, hk, hm, ht, bulkEnd, hcode, bulkHeard]

theorem bulkTake_done (hty : pType p = 0x23) (hf : findOp s t (pTxn p) = some o) (hk : o.kind = .moveWrite ticket row) (hm : pSrcModule p = o.module)
    (ht : pSrcTile p = o.tile) :
    bulkTake t p s = movePart (ck t o.core) ticket o.txn (codeReceived (fld p.w6 7 0)) none (bulkHeard t p o s) := by
  simp [bulkTake, Option.filter, hf, hty, hk, hm, ht, bulkEnd, bulkHeard]

end

theorem remoteReplyTimeoutOp_ends {t txn at_ : Nat} {s : State} {o : RemOp} (hf : findOp s t txn = some o) (hs : o.sentNs = some at_)
    (hw : o.waitPage = none) (ha : opAcked s t txn = true) :
    (o.kind = .store → remoteReplyTimeoutOp t txn s = endOp t o .timeout 0 { s with now := max s.now (at_ + 128000) }) ∧
    ((∃ op, o.kind = .atomic op ∨ o.kind = .reduce op) →
      remoteReplyTimeoutOp t txn s = endOp t o .unknownOutcome 0 { s with now := max s.now (at_ + 128000) }) ∧
    ((o.kind = .const ∨ ∃ sg, o.kind = .load sg) → remoteReplyTimeoutOp t txn s = endOp t o .poisoned 0
      (targetDead t o.module o.tile { s with now := max s.now (at_ + 128000) })) := by
  refine ⟨fun hk => ?_, ?_, ?_⟩
  · simp [remoteReplyTimeoutOp, hf, hs, hw, ha, hk, noAnswer]
  · rintro ⟨op, hk | hk⟩ <;> simp [remoteReplyTimeoutOp, hf, hs, hw, ha, hk, noAnswer]
  · rintro (hk | ⟨sg, hk⟩) <;> simp [remoteReplyTimeoutOp, hf, hs, hw, ha, hk, noAnswer]

/-- The answers at the source and the end of a request without one. -/
theorem remoteSource : Sys2Proof.Spec.RemoteSource := by
  refine ⟨?_, fun o v k _ => ⟨opResult_ok, opResult_signedByte, fun c => opResult_failed⟩, ?_, ?_, ?_⟩
  · rintro t p f s₀ s rfl ht x hx hc
    have hd := does_reply hx ht hc
    refine ⟨fun hnone => ?_, fun o k hf hw hm htile hkind hk => ?_⟩
    · rwa [replyTake_stray hnone] at hd
    · have hans : Answers (pType p) o.kind := by rwa [hc.sound.type]
      rw [replyTake_ends hf hw hm htile hans] at hd
      have hkernel := kernel_endOp (code := codeReceived (fld p.w5 39 32)) (v := p.w6)
        (by rwa [getCore_of_cores (logged_receivedEvent t (fld p.w5 39 32) _).cores])
      refine ⟨_, hd, fun hconst => ?_, fun hconst => ?_, findOp_txn hf ▸ txn_endOp⟩
      · rw [hkernel, endedKernel, if_pos hconst]
      · rw [hkernel, endedKernel, if_neg hconst]
  · rintro t p f s₀ s o ticket row m rfl ht hc hf hk hm htile hok hmove htodo
    have hd := does_moveData ht hc
    rw [bulkTake_data hc.sound.type hf hk hm htile hok, movePart_last (by rwa [getCore_bulkHeard]) htodo, getCore_bulkHeard] at hd
    refine ⟨_, hd, ?_, ?_⟩
    · rw [Laws.getCore_putCore_same]
      rfl
    · rw [Laws.getCore_putCore_same]
      exact find_partedMove hmove
  · rintro t p f s₀ s o ticket row m rfl ht hc hf hk hm htile hmove htodo
    have hd := does_moveDone ht hc
    rw [bulkTake_done hc.sound.type hf hk hm htile, movePart_last (by rwa [getCore_bulkHeard]) htodo, getCore_bulkHeard] at hd
    refine ⟨_, hd, ?_⟩
    rw [Laws.getCore_putCore_same]
    simpa [partedMove] using find_partedMove (txn := o.txn) (code := codeReceived (fld p.w6 7 0)) (bytes := none) hmove
  · intro t txn s o at_ hon hf hs hw ha
    obtain ⟨hstore, hatomic, hload⟩ := remoteReplyTimeoutOp_ends hf hs hw ha
    exact ⟨fun h => does_onMain rfl hon (hstore h), fun h => does_onMain rfl hon (hatomic h), fun h => does_onMain rfl hon (hload h)⟩

/-! ## The timers of the target (R68, R308, R315, R320) -/

/-- What ends a waiting request of a tile at an instant. -/
theorem waitTimeout_first {t d : Nat} {f : TargetWait → Bool} {s : State} {w : TargetWait} (h : (getPort s t).waits.find? f = some w) :
    waitTimeout t d f s = some (homeRefuse t w.pkt .retryLater (countTile t 30 1
      (modPort { s with now := max s.now ((if d = 100000 then w.since else w.whySince) + d) } t (fun x => { x with waits := x.waits.erase w })))) := by
  rw [waitTimeout, h]
  rfl

theorem targetWaitTimeoutOp_first {t : Nat} {s : State} {w : TargetWait} {rest : List TargetWait} (h : (getPort s t).waits = w :: rest) :
    targetWaitTimeoutOp t s = homeRefuse t w.pkt .retryLater (countTile t 30 1
      (modPort { s with now := max s.now (w.since + 100000) } t (fun p => { p with waits := rest }))) := by
  have hport : modPort { s with now := max s.now (w.since + 100000) } t (fun x => { x with waits := x.waits.erase w }) =
      modPort { s with now := max s.now (w.since + 100000) } t (fun p => { p with waits := rest }) := by
    have hs : getPort { s with now := max s.now (w.since + 100000) } t = getPort s t := rfl
    simp [modPort, hs, h]
  rw [targetWaitTimeoutOp, waitTimeout_first (w := w) (by simp [h]), Option.getD_some, if_pos rfl, hport]

theorem arcEntryExpireOp_only {t : Nat} {s : State} {e : ArcEntry} {x : Code × Word × Nat} (h : (getPort s t).arc = [e]) (hr : e.result = some x) :
    arcEntryExpireOp t s = modPort { s with now := max s.now x.2.2 } t (fun p => { p with arc := [] }) := by
  have hs : getPort { s with now := max s.now x.2.2 } t = getPort s t := rfl
  simp [arcEntryExpireOp, arcPurge, modPort, h, hr, hs]

theorem targetTimers : Sys2Proof.Spec.TargetTimers := by
  intro t n s hon
  refine ⟨fun w rest h => does_onMain rfl hon (targetWaitTimeoutOp_first h), fun w h => does_onMain rfl hon ?_,
    fun e x h hr => does_onMain rfl hon (arcEntryExpireOp_only h hr), fun line b h => does_onMain rfl hon ?_⟩
  · rw [lockWaitTimeoutOp, remoteLockTimeout, coreKey_tile, coreKey_core, waitTimeout_first h]
    rfl
  · rw [lineBufferWritebackOp, h]

/-- Settles O56, from the end of a transaction at its source and the timers of the target. -/
theorem remoteEnds : Obligations.RemoteEnds := ⟨remoteSource, targetTimers⟩

end Sys2Proof.Proofs

namespace Sys2Proof.Proofs

open Sys2Proof Sys2Proof.Machine Sys2Proof.Spec

/-! ## Messages leave the event log as it is -/

theorem Logged.log {s u : State} (h : Logged s u) : u.log = s.log := by rw [h]

theorem Sent.log {s u : State} (h : Sent s u) : u.log = s.log := by rw [h]

theorem sent_sendCopies (t : Nat) (p : Packet) (hall rack : Bool) (s : State) : Sent s (sendCopies t p hall rack s).2 := by
  have hone (want : Bool) (q : Packet) (l : State → List Nat) (vc : Nat) (st : Bool × State) :
      Sent st.2 (if !want || !st.1 then st else match pickOne (l st.2) st.2 with
        | (none, s) => (false, s)
        | (some x, s) => (true, strandSend t x (pktSeal (withRoute q vc 0 0)) s)).2 := by
    split
    · exact .refl _
    · split <;> rename_i heq
      · exact sent_of_pickOne heq
      · exact (sent_of_pickOne heq).trans (sent_strandSend _ _ _ _)
  exact (hone hall _ (fun u => (roleStrands (bankSel s true) 3).filter (strandUp u)) 2 (true, s)).trans
    (hone rack _ (fun u => (roleStrands (bankSel s true) 2).filter (strandUp u)) 3 _)

theorem sent_sendMcast (t : Nat) (p : Packet) (s : State) : Sent s (sendMcast t p s).2 := by
  unfold sendMcast
  dsimp only
  split
  · exact .refl s
  · have hcopies := sent_sendCopies t p (bit (groupEntry (bankSel s true) (pDstModule p)).1 60) (bit (groupEntry (bankSel s true) (pDstModule p)).1 61) s
    split <;> rename_i heq <;> rw [heq] at hcopies
    · exact hcopies
    · exact hcopies.trans (sent_d2dSend _ _ _ _ _)

theorem logged_countPort (t i n : Nat) (s : State) : Logged s (countPort t i n s) := by
  unfold countPort
  split
  · exact logged_count _ _ _
  · exact .refl s

theorem log_pumpOne (t : Nat) (st : State × List (FlowKey × Packet)) (q : FlowKey × Packet) : (pumpOne t st q).1.log = st.1.log := by
  have hsend (p : Packet) (s : State) : Sent s (if pMcast p then sendMcast t p s else sendRouted t p s).2 := by
    split
    · exact sent_sendMcast t p s
    · exact sent_sendRouted t p s
  unfold pumpOne
  dsimp only
  split
  · rfl
  · split
    · rfl
    · split
      · rfl
      · split <;> rename_i heq
        · exact (congrArg (fun x => x.2.log) heq).symm.trans (hsend _ _).log
        · refine (logged_countPort _ _ _ _).log.trans ?_
          exact (congrArg (fun x => x.2.log) heq).symm.trans (hsend _ _).log

theorem log_pump (t : Nat) (s : State) : (pump t s).log = s.log := by
  have hfold := foldl_related (R := fun x y : State × List (FlowKey × Packet) => y.1.log = x.1.log) (fun _ => rfl) (fun h g => g.trans h)
    (log_pumpOne t) (getPort s t).queue (s, [])
  exact hfold

theorem log_sendMsg (t m dt ty : Nat) (w3 w4 w5 w6 : Word) (bs : List Byte) (s : State) : (sendMsg t m dt ty w3 w4 w5 w6 bs s).log = s.log :=
  log_pump _ _

/-! ## Stamps and notices (R450, R462) -/

/-- The stamp that follows in the event log. -/
def stampAfter (s : State) : BitVec 48 := if s.log.stamp = BitVec.allOnes 48 then s.log.stamp else s.log.stamp + 1

/-- From `s` to `u` at most the stamp, its STAMP_STUCK and the windows of the notices of the event log differ. -/
def Stamped (s u : State) : Prop :=
  u.log = { s.log with stamp := u.log.stamp, stuckLogged := u.log.stuckLogged, noticeWindow := u.log.noticeWindow }

section
variable {s u v : State}

theorem Stamped.trans (h : Stamped s u) (g : Stamped u v) : Stamped s v := by rw [Stamped, g, h]

theorem stamped_of_log (h : u.log = s.log) : Stamped s u := by rw [Stamped, h]

theorem Stamped.seq (h : Stamped s u) : u.log.seq = s.log.seq := by rw [h]
theorem Stamped.ring (h : Stamped s u) : u.log.ring = s.log.ring := by rw [h]
theorem Stamped.turn (h : Stamped s u) : u.log.turn = s.log.turn := by rw [h]
theorem Stamped.alert (h : Stamped s u) : u.log.alert = s.log.alert := by rw [h]
theorem Stamped.ctrl (h : Stamped s u) : u.log.ctrl = s.log.ctrl := by rw [h]
theorem Stamped.subs (h : Stamped s u) : u.log.subs = s.log.subs := by rw [h]

end

theorem stampNext_stamp (s : State) : (stampNext s).1 = (stampAfter s).toNat := rfl

theorem stampStuck_log (s : State) : (stampStuck s).log = { s.log with stuckLogged := (stampStuck s).log.stuckLogged } := by
  unfold stampStuck
  split
  · rw [(logged_raise _ _).log]
  · rfl

theorem stampNext_log (s : State) :
    (stampNext s).2.log = { s.log with stamp := stampAfter s, stuckLogged := (stampNext s).2.log.stuckLogged } :=
  stampStuck_log { s with log := { s.log with stamp := stampAfter s } }

theorem stamped_stampNext (s : State) : Stamped s (stampNext s).2 := by
  rw [Stamped, stampNext_log]

theorem stamped_of_stampNext {s u : State} {n : Nat} (h : stampNext s = (n, u)) : Stamped s u := by
  have hs := stamped_stampNext s
  rwa [h] at hs

theorem stamped_noticeWindow (s : State) (w : Tab (Nat × Nat)) : Stamped s { s with log := { s.log with noticeWindow := w } } := rfl

/-- A notice is sent or counted as lost. The definition is opened as a function and its outer `let`s only: the kernel must not
compare two forms of its conditions, which it would unfold down to their numbers. -/
theorem stamped_noticeSend (r : LogRec) (seq : Nat) (s : State) (i : Nat) : Stamped s (noticeSend r seq s i) := by
  obtain ⟨notice, hnotice⟩ : ∃ f, f = noticeSend := ⟨_, rfl⟩
  rw [← hnotice]
  delta noticeSend at hnotice
  rw [hnotice]
  beta_reduce
  extract_lets +onlyGivenNames w q
  generalize (if q.1 + 1000000000 ≤ s.now then (s.now, 0) else q) = x
  split
  split
  · exact stamped_of_log (logged_count _ _ _).log
  · split
    rename_i heq
    exact ((stamped_noticeWindow _ _).trans (stamped_of_stampNext heq)).trans (stamped_of_log (log_sendMsg _ _ _ _ _ _ _ _ _ _))

end Sys2Proof.Proofs

namespace Sys2Proof.Proofs

open Sys2Proof Sys2Proof.Machine Sys2Proof.Spec

/-! ## The event log takes a record (R448, R452, R462) -/

/-- The module whose log takes a record with a stamp: in its slot of the ring, with its sequence number and its alert bit. -/
def recordIn (e : EvRec) (stamp : Nat) (s : State) : State :=
  { s with log := { s.log with
      ring := tput s.log.ring (s.log.seq.toNat % 16384) (logWords s stamp e)
      seq := s.log.seq + 1
      alert := match alertBit s.log.ctrl e with
        | some i => s.log.alert ||| BitVec.ofNat 16 (2 ^ i)
        | none => s.log.alert } }

theorem logRecord_of_stampNext {e : EvRec} {s u : State} {stamp : Nat} (h : stampNext s = (stamp, u)) : logRecord e s =
    ((upto 4).filter (fun i => subscribed (tget 0 u.log.subs i) e)).foldl (noticeSend (logWords u stamp e) u.log.seq.toNat) (recordIn e stamp u) := by
  unfold logRecord
  rw [h]
  rfl

theorem stamped_logRecord {e : EvRec} {s u : State} {stamp : Nat} (h : stampNext s = (stamp, u)) :
    Stamped (recordIn e stamp u) (logRecord e s) := by
  rw [logRecord_of_stampNext h]
  exact foldl_related (R := Stamped) (fun _ => stamped_of_log rfl) Stamped.trans (stamped_noticeSend _ _) _ _

/-- Without subscribers no notice follows a record. -/
theorem logRecord_quiet {e : EvRec} {s u : State} {stamp : Nat} (h : stampNext s = (stamp, u)) (hs : u.log.subs = []) :
    logRecord e s = recordIn e stamp u := by
  have hsub : (upto 4).filter (fun i => subscribed (tget 0 u.log.subs i) e) = [] :=
    List.filter_eq_nil_iff.2 fun i _ => by simp [hs, subscribed, bit]
  rw [logRecord_of_stampNext h, hsub]
  rfl

theorem logWords_stampNext (s : State) (n : Nat) (e : EvRec) : logWords (stampNext s).2 n e = logWords s n e := by
  have hraise (ev : EvRec) (u : State) : logWords (raise ev u) n e = logWords u n e := by
    rw [logged_raise ev u]
    rfl
  have hstuck (u : State) : logWords (stampStuck u) n e = logWords u n e := by
    unfold stampStuck
    split
    · rw [hraise]
      rfl
    · rfl
  exact (hstuck _).trans rfl

theorem log_lostNote (t : Nat) (s : State) : (lostNote t s).log = s.log ∧ ∀ n e, logWords (lostNote t s) n e = logWords s n e := by
  unfold lostNote
  dsimp only
  split
  · exact ⟨rfl, fun _ _ => rfl⟩
  · exact ⟨rfl, fun _ _ => rfl⟩

/-- The module whose log has turned to the source after `i`, with what the source has lost. -/
def turned (i : Nat) (r : List EvRec) (s : State) : State :=
  lostNote (logSource i) { s with
    stages := tput s.stages (logSource i) { getStage s (logSource i) with queue := r }, log := { s.log with turn := (i + 1) % 25 } }

theorem eventLogTakeOp_takes {s : State} {i : Nat} {e : EvRec} {r : List EvRec}
    (hi : ((upto 25).map (fun j => (s.log.turn + j) % 25)).find? (fun j => !(getStage s (logSource j)).queue.isEmpty) = some i)
    (hq : (getStage s (logSource i)).queue = e :: r) : eventLogTakeOp s = logRecord e (turned i r s) := by
  simp only [eventLogTakeOp, hi, hq, turned]

theorem turned_log (i : Nat) (r : List EvRec) (s : State) : (turned i r s).log = { s.log with turn := (i + 1) % 25 } := (log_lostNote _ _).1

/-- What EVENT_LOG_TAKE leaves in the log. -/
theorem eventLogTake_log {s : State} {i : Nat} {e : EvRec} {r : List EvRec} :
    (logRecord e (turned i r s)).log.seq = s.log.seq + 1 ∧ (logRecord e (turned i r s)).log.turn = (i + 1) % 25 ∧
    tget (⟨0, 0, 0, 0⟩ : LogRec) (logRecord e (turned i r s)).log.ring (s.log.seq.toNat % 16384) = logWords s (stampAfter s).toNat e ∧
    (logRecord e (turned i r s)).log.alert =
      (match alertBit s.log.ctrl e with | some b => s.log.alert ||| BitVec.ofNat 16 (2 ^ b) | none => s.log.alert) ∧
    (s.log.subs = [] → (logRecord e (turned i r s)).log.stamp = stampAfter s) := by
  have hafter : stampAfter (turned i r s) = stampAfter s := by rw [stampAfter, turned_log]; rfl
  have hnext : stampNext (turned i r s) = ((stampAfter s).toNat, (stampNext (turned i r s)).2) := by
    rw [← hafter]
    rfl
  have hlog := stampNext_log (turned i r s)
  rw [turned_log, hafter] at hlog
  have hwords : logWords (stampNext (turned i r s)).2 (stampAfter s).toNat e = logWords s (stampAfter s).toNat e :=
    (logWords_stampNext _ _ _).trans ((log_lostNote _ _).2 _ _)
  generalize (stampNext (turned i r s)).2 = u at hnext hlog hwords
  have hrec := stamped_logRecord (e := e) hnext
  refine ⟨?_, ?_, ?_, ?_, fun hsubs => ?_⟩
  · rw [hrec.seq, recordIn, hlog]
  · rw [hrec.turn, recordIn, hlog]
  · rw [hrec.ring, recordIn, hwords, hlog]
    exact Laws.tget_tput_same _ _ _ _
  · rw [hrec.alert, recordIn, hlog]
  · rw [logRecord_quiet hnext (by rw [hlog]; exact hsubs), recordIn, hlog]

/-! ## Writes of the hearth's event block (R459, R462) -/

section
variable {rq : Requester} {off : Nat} {v : Word} {s : State}

theorem regWriteOp_done {a : Word} {u : State} (hrq : rq ≠ .firmware) (hp : pathWrite s rq a.toNat v = some u) : regWriteOp rq a v s = u := by
  rw [regWriteOp, if_neg hrq, hp]

/-- A write of an own register of the hearth that reads no member list has its effect at once. -/
theorem regWriteOp_hearth (hrq : rq ≠ .firmware) (ho : off < 2 ^ 36) (hl : listTrains s rq off = false) :
    regWriteOp rq (ownAddr s 30 0 3 off) v s = hearthRegWrite rq off v s := by
  have h30 : 30 < 32 := by decide
  have h0 : 0 < 64 := by decide
  have h3 : 3 < 8 := by decide
  have hpath : pathWrite s rq (ownAddr s 30 0 3 off).toNat v = some (hearthRegWrite rq off v s) := by
    simp [pathWrite, regWrite, spaceKnown, gTile_ownAddr h30 h0 h3 ho, gCore_ownAddr h30 h0 h3 ho, gSpace_ownAddr h30 h0 h3 ho,
      gOff_ownAddr h30 h0 h3 ho, hl]
  exact regWriteOp_done hrq hpath

theorem listTrains_eventBlock (h : 0x309000 ≤ off) : listTrains s rq off = false := by
  have hlt : ¬ off < 0x309000 := by omega
  simp [listTrains, hlt]

theorem hearthRegWrite_alert : hearthRegWrite rq 0x700018 v s = alertClearOp v s := rfl

theorem hearthRegWrite_evtCtrl (he : expertOk rq 9 s = true) :
    hearthRegWrite rq 0x700010 v s = ends .ok { s with log := { s.log with ctrl := v &&& 0x1BFFF } } := by
  have h : hearthRegWrite rq 0x700010 v s = withExpert rq 9 s (fun s => ends .ok { s with log := { s.log with ctrl := v &&& 0x1BFFF } }) := rfl
  rw [h, withExpert_ok _ he]

theorem countersClearOp_expert {b : CounterBlock} (he : expertOk rq 9 s = true) : countersClearOp rq b s = ends .ok (match b with
    | .core r => coreCountersClear (coreKey r) s
    | .tile t => tileCountersClear t.val s
    | .hearth => hearthCountersClear s) := withExpert_ok _ he

end

theorem eventsAndCounters : Sys2Proof.Spec.EventsAndCounters := by
  refine ⟨fun s i e r hi hq => ?_, fun rq s => ⟨fun hon he b => ?_, fun h => ⟨fun r => ?_, fun t => ?_, ?_⟩, fun hon hrq mask => ?_⟩⟩
  · obtain ⟨hseq, hturn, hring, halert, hstamp⟩ := eventLogTake_log (s := s) (i := i) (e := e) (r := r)
    refine ⟨logRecord e (turned i r s), stampAfter s, ?_, rfl, hseq, hturn, hring, halert, hstamp⟩
    rw [← eventLogTakeOp_takes hi hq]
    exact rfl
  · refine does_onMain rfl hon ?_
    simp [countersClearOp, withExpert, he]
  · refine does_onMain rfl h.on ((countersClearOp_expert h.level).trans ?_)
    simp only [coreCountersClear, coreKey_tile, coreKey_core]
    rfl
  · exact does_onMain rfl h.on (countersClearOp_expert h.level)
  · exact does_onMain rfl h.on (countersClearOp_expert h.level)
  · refine does_onMain rfl hon ?_
    exact (regWriteOp_hearth hrq (by decide) (listTrains_eventBlock (by decide))).trans hearthRegWrite_alert

end Sys2Proof.Proofs

namespace Sys2Proof.Proofs

open Sys2Proof Sys2Proof.Machine Sys2Proof.Spec

/-! ## REGISTER_WRITE (R68, R431, R435) -/

section
variable {rq : Requester} {r : CoreRef} {s : State} {off : Nat} {v : Word}

theorem registerWriteOp_own {a : Word} (hrq : rq ≠ .firmware) (hm : gModule a.toNat = s.myModule) (h0 : gSpace a.toNat ≠ 0)
    (h3 : gSpace a.toNat ≤ 3) : registerWriteOp rq a v s = regWriteOp rq a v s := by
  have hle : ¬ 3 < gSpace a.toNat := by omega
  simp [registerWriteOp, hrq, hm, h0, hle]

theorem registerWriteOp_foreign {a : Word} (hrq : rq ≠ .firmware) (h : gModule a.toNat ≠ s.myModule ∨ gSpace a.toNat = 0 ∨ 3 < gSpace a.toNat) :
    registerWriteOp rq a v s = ends .rejected s := by
  rcases h with h | h | h <;> simp [registerWriteOp, hrq, h]

theorem groupBusy_now (t g : Nat) (s : State) : (groupBusy t g s).now = s.now := by
  unfold groupBusy
  split <;> rfl

/-- A write that must wait joins the works, with its group awake. -/
theorem regWriteOp_waits {a : Word} {t : State} (hrq : rq ≠ .firmware) (hp : pathWrite s rq a.toNat v = none) (ht : regWake a.toNat s = t) :
    regWriteOp rq a v s = { t with keeper := { t.keeper with works := t.keeper.works ++ [⟨rq, [], [(a, v)], 0, .ok, t.now⟩] } } := by
  rw [regWriteOp, if_neg hrq, hp, ht]

/-- What a bench write that nothing refuses does: it waits for a lock, or stores its bytes. -/
theorem pathWrite_bench (h : BenchOpen rq s r off) : pathWrite s rq (ownAddr s r.tile.val r.core.val 1 off).toNat v =
    if benchLocked (getCore s (coreKey r)) off 8 then none else some (ends .ok (groupBusy r.tile.val (r.core.val / 16)
      (putCore s (coreKey r) (benchWrite (getCore s (coreKey r)) off (leBytes 8 v.toNat))))) := by
  have ht : r.tile.val < 32 := by omega
  have hc := r.core.isLt
  have hsp : 1 < 8 := by decide
  have hin := h.inside
  have ho : off < 2 ^ 36 := by omega
  have hck : ck r.tile.val r.core.val = coreKey r := rfl
  have htile : ¬ 24 ≤ r.tile.val := by omega
  have hrefusal : benchPathRefusal s rq (ownAddr s r.tile.val r.core.val 1 off).toNat = none := by
    simp [benchPathRefusal, gTile_ownAddr ht hc hsp ho, gCore_ownAddr ht hc hsp ho, gOff_ownAddr ht hc hsp ho, hck, h.expert.level, h.core,
      h.tile, h.aligned, htile, hin]
  have hwake := regWake_own (s := s) (u := putCore s (coreKey r) (benchWrite (getCore s (coreKey r)) off (leBytes 8 v.toNat))) r.tile.isLt hc
    (.inl rfl) ho ((groupAsleep_of_groups rfl _ _).trans h.awake)
  rw [pathWrite, gSpace_ownAddr ht hc hsp ho, if_pos rfl, benchPathWrite, hrefusal]
  simp only [gTile_ownAddr ht hc hsp ho, gCore_ownAddr ht hc hsp ho, gOff_ownAddr ht hc hsp ho, hck, h.still, h.awake, Bool.or_false, modCore]
  rw [hwake]

theorem does_benchWrite {u : State} (h : BenchOpen rq s r off) (hu : regWriteOp rq (ownAddr s r.tile.val r.core.val 1 off) v s = u) :
    Does (.registerWrite rq (ownAddr s r.tile.val r.core.val 1 off) v) s u := by
  have ht : r.tile.val < 32 := by omega
  have hin := h.inside
  have ho : off < 2 ^ 36 := by omega
  have hspace := gSpace_ownAddr (s := s) ht r.core.isLt (by decide : 1 < 8) ho
  refine does_onMain rfl h.expert.on ((registerWriteOp_own h.writer (gModule_ownAddr ht r.core.isLt (by decide) ho) ?_ ?_).trans hu) <;>
    simp [hspace]

end

/-! ## LOCK_WAIT_TIMEOUT of a register-path write (R68) -/

theorem workSettle_ended {w : RegWork} {s : State} (ht : w.todo = []) (hh : w.header = []) : workSettle w s = ends w.code s := by
  simp [workSettle, workRun, ht, hh]

/-- With no remote write in wait, LOCK_WAIT_TIMEOUT ends the first register write that waits for the core. -/
theorem lockWaitTimeoutOp_work {key : Nat} {s : State} {w : RegWork} (hn : (getPort s (key / 64)).waits = [])
    (ha : groupAsleep s (key / 64) (groupOf key) = false) (hf : s.keeper.works.find? (fun w => workKey w == key) = some w) (hh : w.header = []) :
    lockWaitTimeoutOp key s = ends (codeMerge w.code .retryLater)
      { s with now := max s.now (w.since + 32000), keeper := { s.keeper with works := s.keeper.works.erase w } } := by
  have hremote : remoteLockTimeout key s = none := by simp [remoteLockTimeout, waitTimeout, hn]
  have hwork : s.keeper.works.find? (fun w => workKey w == key && !groupAsleep s (key / 64) (groupOf key)) = some w := by
    simpa [ha] using hf
  simp only [lockWaitTimeoutOp, hremote, workTimeout, hwork, Option.map_some, Option.getD_some]
  exact workSettle_ended rfl hh

theorem registerWrites : Sys2Proof.Spec.RegisterWrites := by
  refine ⟨fun rq a v s hon => ⟨fun hrq h => does_onMain rfl hon (registerWriteOp_foreign hrq h), does_onMain rfl hon rfl⟩,
    fun rq r off v s h => ⟨fun hl => does_benchWrite h (regWriteOp_done h.writer ((pathWrite_bench h).trans (if_neg (by simp [hl])))), fun hl t ht => does_benchWrite h ?_⟩, fun rq v s h hrq => does_onMain rfl h.on ?_,
    fun r w s hon hn ha hf hh => does_onMain rfl hon ?_⟩
  · have hin := h.inside
    have hwake := regWake_own (u := s) (s := s) (sp := 1) (off := off) r.tile.isLt r.core.isLt (.inl rfl) (by omega) h.awake
    have hnow : t.now = s.now := ht ▸ groupBusy_now _ _ _
    rw [regWriteOp_waits h.writer ((pathWrite_bench h).trans (if_pos hl)) (hwake.trans ht.symm), hnow]
  · have hmod := gModule_ownAddr (s := s) (t := 30) (c := 0) (sp := 3) (off := 0x700010) (by decide) (by decide) (by decide) (by decide)
    have hspace := gSpace_ownAddr (s := s) (t := 30) (c := 0) (sp := 3) (off := 0x700010) (by decide) (by decide) (by decide) (by decide)
    rw [registerWriteOp_own hrq hmod (by omega) (by omega), regWriteOp_hearth hrq (by decide) (listTrains_eventBlock (by decide)),
      hearthRegWrite_evtCtrl h.level]
  · exact lockWaitTimeoutOp_work (by rwa [coreKey_tile]) (by rwa [coreKey_tile, coreKey_group]) hf hh

/-- Settles O60, from what EVENT_LOG_TAKE leaves in the log and what a register write does at its address. -/
theorem eventsAndRegisters : Obligations.EventsAndRegisters := ⟨eventsAndCounters, registerWrites⟩

end Sys2Proof.Proofs

namespace Sys2Proof.Proofs

open Sys2Proof Sys2Proof.Machine Sys2Proof.Spec

/-! ## The issue of one instruction -/

/-- The row of an instruction presents an operation to a core. -/
def Presents (x : Isa) (op : IOp) : Prop := ∀ (r : CoreRef) (w : BitVec 56) (s : State), exec (x r w) s = answer s (isaStep op r w s)

section
variable {s : State} {r : CoreRef} {k : Kernel} {w : BitVec 56} {x : Isa} {op : IOp}

/-- A core that issues a legal instruction whose registers are final has its effect (R84, R86, R104). -/
theorem isaStep_run (hi : Issues s r k w) (hp : op.fetch k w = false) (hl : op.legal w = true) (hf : Final k (op.regs w)) :
    isaStep op r w s = issueEnd (coreKey r) k s (op.run (coreKey r) k w s) := by
  rw [Laws.isaStep_issue hi.kernel (canIssue_of_issues hi), Laws.issue_run hi.gap (fetchBad_of_issues hi) hi.guard hp hl hf]

theorem exec_run {y : IRes} (hx : Presents x op) (hi : Issues s r k w) (hp : op.fetch k w = false) (hl : op.legal w = true)
    (hf : Final k (op.regs w)) (hy : op.run (coreKey r) k w s = y) : exec (x r w) s = answer s (issueEnd (coreKey r) k s y) := by
  rw [hx, isaStep_run hi hp hl hf, hy]

theorem retire_putKernel (k' : Kernel) (pc : Nat) : retire (coreKey r) pc (putKernel s (coreKey r) k') = retired s r k' pc :=
  Laws.retire_putKernel _ _ _ _

theorem retire_own (hi : Issues s r k w) (pc : Nat) : retire (coreKey r) pc s = retired s r k pc :=
  Laws.retire_self _ _ _ _ hi.kernel

theorem answer_retired (k' : Kernel) (pc : Nat) : answer s (retired s r k' pc) = .next (retired s r k' pc) :=
  Laws.answer_same rfl rfl rfl

theorem answer_retire_putKernel (k' : Kernel) (pc : Nat) :
    answer s (retire (coreKey r) pc (putKernel s (coreKey r) k')) = .next (retired s r k' pc) := by
  rw [retire_putKernel, answer_retired]

theorem answer_retire_own (hi : Issues s r k w) (pc : Nat) : answer s (retire (coreKey r) pc s) = .next (retired s r k pc) := by
  rw [retire_own hi, answer_retired]

/-- An instruction of a kernel's own registers writes them and retires to the next word. -/
theorem exec_regOp {legal : BitVec 56 → Bool} {regs : BitVec 56 → List Nat} {f : Kernel → BitVec 56 → Kernel}
    (hx : Presents x (regOp legal regs f)) (hi : Issues s r k w) (hl : legal w = true) (hf : Final k (regs w)) :
    exec (x r w) s = .next (retired s r (f k w) (k.pc + 8)) :=
  (exec_run hx hi rfl hl hf rfl).trans (answer_retire_putKernel _ _)

end

theorem wZero_of_fld {w : BitVec 56} {hi lo : Nat} (h : fld w hi lo = 0) : wZero w hi lo = true := by simp [wZero, h]

end Sys2Proof.Proofs

namespace Sys2Proof.Proofs

open Sys2Proof Sys2Proof.Machine Sys2Proof.Spec

/-! ## The values of Table 3.4 -/

/-- MULHU takes the upper half of the product of 128 bits. -/
theorem mulhu_eq (a b : Word) :
    BitVec.ofNat 64 (a.toNat * b.toNat / 2 ^ 64) = (a.setWidth 128 * b.setWidth 128).extractLsb' 64 64 := by
  have hab : a.toNat * b.toNat < 2 ^ 128 := by
    calc a.toNat * b.toNat < 2 ^ 64 * 2 ^ 64 := Nat.mul_lt_mul'' a.isLt b.isLt
      _ = 2 ^ 128 := by norm_num
  have ha : a.toNat % 2 ^ 128 = a.toNat := Nat.mod_eq_of_lt (by have := a.isLt; omega)
  have hb : b.toNat % 2 ^ 128 = b.toNat := Nat.mod_eq_of_lt (by have := b.isLt; omega)
  refine BitVec.eq_of_toNat_eq ?_
  rw [BitVec.extractLsb'_toNat, BitVec.toNat_mul, BitVec.toNat_setWidth, BitVec.toNat_setWidth, ha, hb, Nat.mod_eq_of_lt hab,
    BitVec.toNat_ofNat, Nat.shiftRight_eq_div_pow]

theorem slt_eq_toInt (a b : Word) : a.slt b = decide (a.toInt < b.toInt) := BitVec.slt_eq_decide

/-- CLZ counts the zero bits above the highest set one. -/
theorem clz64_eq (a : Word) : clz64 a = ((upto 65).find? (fun n => n = 64 || a.getLsbD (63 - n))).getD 64 := by
  suffices h : (upto 65).find? (fun n => n = 64 || a.getLsbD (63 - n)) = some (clz64 a) by rw [h]; rfl
  refine List.find?_range_eq_some.2 ?_
  by_cases ha : a = 0
  · subst ha
    refine ⟨rfl, by decide, fun j hj => ?_⟩
    have hj : j ≠ 64 := Nat.ne_of_lt hj
    simp [hj]
  · have hpos : a.toNat ≠ 0 := fun h => ha (BitVec.eq_of_toNat_eq h)
    have htop : a.toNat.log2 < 64 := (Nat.log2_lt hpos).2 a.isLt
    have hclz : clz64 a = 63 - a.toNat.log2 := if_neg ha
    rw [hclz]
    refine ⟨?_, List.mem_range.2 (by omega), fun j hj => ?_⟩
    · rw [show 63 - (63 - a.toNat.log2) = a.toNat.log2 by omega, BitVec.getLsbD, Nat.testBit_log2 hpos, Bool.or_true]
    · have hlow : a.toNat < 2 ^ (63 - j) :=
        Nat.lt_of_lt_of_le Nat.lt_log2_self (Nat.pow_le_pow_right (by decide) (by omega))
      have hj : j ≠ 64 := by omega
      simp [hj, BitVec.getLsbD, Nat.testBit_lt_two_pow hlow]

/-! ## The immediates of the formats (R87) -/

/-- A shift count whose upper bits are zero is below 64. -/
theorem lt_of_mask {i : BitVec 32} (h : i &&& 0xFFFFFFC0 = 0) : i.toNat < 2 ^ 6 := by
  refine Nat.lt_pow_two_of_testBit _ fun j hj => ?_
  by_cases hj' : j < 32
  · have hbit := congrArg (fun x : BitVec 32 => x.getLsbD j) h
    have hmask : (0xFFFFFFC0 : BitVec 32).getLsbD j = true := by interval_cases j <;> rfl
    rw [BitVec.getLsbD_and, hmask, Bool.and_true] at hbit
    exact hbit.trans BitVec.getLsbD_zero
  · exact BitVec.getLsbD_of_ge _ _ (Nat.not_lt.1 hj')

section
variable (w : BitVec 56)

theorem fld_imm : fld w 31 0 = (w.setWidth 32).toNat := by simp [fld, nbits]

theorem sext_imm (i : BitVec 32) : sext 32 i.toNat = i.toInt := by
  have := i.isLt
  rw [sext, BitVec.toInt_eq_toNat_cond, Nat.mod_eq_of_lt i.isLt]
  split <;> split <;> omega

theorem wImm_eq : wImm w = (w.setWidth 32).signExtend 64 := by
  rw [wImm, fld_imm, sext_imm]
  rfl

theorem wImmU_eq : BitVec.ofNat 64 (wImmU w) = (w.setWidth 32).setWidth 64 := by
  rw [wImmU, fld_imm, BitVec.ofNat_toNat]

theorem branchTo_eq (k : Kernel) : branchTo k w = target k w := by
  rw [branchTo, fld_imm, sext_imm, BitVec.ofInt_mul]
  rfl

/-- LIH keeps the lower half of its register. -/
theorem lih_eq (a : Word) : BitVec.ofNat 64 (wImmU w * 2 ^ 32 + a.toNat % 2 ^ 32) = (w.setWidth 32 : BitVec 32) ++ (a.setWidth 32 : BitVec 32) := by
  have himm : wImmU w = (w.setWidth 32).toNat := fld_imm w
  have hlt := (w.setWidth 32).isLt
  have hlow : a.toNat % 2 ^ 32 < 2 ^ 32 := Nat.mod_lt _ (by decide)
  refine BitVec.eq_of_toNat_eq ?_
  rw [BitVec.toNat_append, BitVec.toNat_ofNat, BitVec.toNat_setWidth (x := a), himm, ← Nat.shiftLeft_add_eq_or_of_lt hlow,
    Nat.shiftLeft_eq]
  exact Nat.mod_eq_of_lt (by omega)

variable {w} (h : w.setWidth 32 &&& (0xFFFFFFC0 : BitVec 32) = 0)
include h

theorem shiftImm_legal : wZero w 31 6 = true := by
  have hlt := lt_of_mask h
  refine wZero_of_fld ?_
  rw [← fld_imm] at hlt
  simp only [fld, nbits, Nat.shiftRight_eq_div_pow] at hlt ⊢
  omega

theorem shiftImm_eq : fld w 5 0 = (w.setWidth 32).toNat := by
  have hlt := lt_of_mask h
  rw [← fld_imm] at hlt ⊢
  simp only [fld, nbits, Nat.shiftRight_eq_div_pow] at hlt ⊢
  omega

end

/-! ## The scalar forms (O36) -/

/-- Every two-source instruction of Table 3.4 applies its function. -/
theorem aluRR_presents : ∀ p ∈ aluRR, Presents p.1 (aluR p.2) := by
  have hmulhu : opMulhu = aluR (fun a b => ((a.setWidth 128 * b.setWidth 128).extractLsb' 64 64)) :=
    congrArg aluR (funext₂ mulhu_eq)
  have hmin : opMin = aluR (fun a b => if a.slt b then a else b) := by simp only [slt_eq_toInt, decide_eq_true_eq]; rfl
  have hmax : opMax = aluR (fun a b => if a.slt b then b else a) := by simp only [slt_eq_toInt, decide_eq_true_eq]; rfl
  simp only [aluRR, List.forall_mem_cons]
  exact ⟨fun _ _ _ => rfl, fun _ _ _ => rfl, fun _ _ _ => rfl, hmulhu ▸ fun _ _ _ => rfl, fun _ _ _ => rfl, fun _ _ _ => rfl,
    fun _ _ _ => rfl, fun _ _ _ => rfl, fun _ _ _ => rfl, fun _ _ _ => rfl, hmin ▸ fun _ _ _ => rfl, hmax ▸ fun _ _ _ => rfl,
    fun _ h => nomatch h⟩

/-- A row of format I presents the operation that accepts the IMM of the row and applies its function to it. -/
def PresentsImm (p : Isa × BitVec 32 × (Word → BitVec 32 → Word)) : Prop :=
  ∃ legal f, Presents p.1 (aluI legal f) ∧
    ∀ w : BitVec 56, w.setWidth 32 &&& p.2.1 = 0 → legal w = true ∧ ∀ a, f a w = p.2.2 a (w.setWidth 32)

theorem aluRI_presents : ∀ p ∈ aluRI, PresentsImm p := by
  simp only [aluRI, List.forall_mem_cons]
  refine ⟨⟨_, _, fun _ _ _ => rfl, fun w _ => ⟨rfl, fun a => ?_⟩⟩, ⟨_, _, fun _ _ _ => rfl, fun w _ => ⟨rfl, fun a => ?_⟩⟩,
    ⟨_, _, fun _ _ _ => rfl, fun w _ => ⟨rfl, fun a => ?_⟩⟩, ⟨_, _, fun _ _ _ => rfl, fun w _ => ⟨rfl, fun a => ?_⟩⟩,
    ⟨_, _, fun _ _ _ => rfl, fun w h => ⟨shiftImm_legal h, fun a => ?_⟩⟩,
    ⟨_, _, fun _ _ _ => rfl, fun w h => ⟨shiftImm_legal h, fun a => ?_⟩⟩,
    ⟨_, _, fun _ _ _ => rfl, fun w h => ⟨shiftImm_legal h, fun a => ?_⟩⟩, ⟨_, _, fun _ _ _ => rfl, fun w _ => ⟨rfl, fun a => ?_⟩⟩,
    fun _ h => nomatch h⟩
  all_goals dsimp only
  · rw [wImm_eq]
  · rw [wImmU_eq]
  · rw [wImmU_eq]
  · rw [wImmU_eq]
  · rw [shiftImm_eq h]
  · rw [shiftImm_eq h]
  · rw [shiftImm_eq h]
  · rw [wImm_eq]

theorem scalarRegisterForms : Sys2Proof.Spec.ScalarRegisterForms := by
  refine ⟨fun p hp r w s k hi hz hf => exec_regOp (aluRR_presents p hp) hi (wZero_of_fld hz) hf,
    fun r w s k hi hz hf => ⟨?_, ?_⟩, fun r w s k hi hz hc hf => ?_⟩
  · rw [← clz64_eq]
    exact exec_regOp (show Presents .kClz opClz from fun _ _ _ => rfl) hi (wZero_of_fld hz) hf
  · exact exec_regOp (show Presents .kPopc opPopc from fun _ _ _ => rfl) hi (wZero_of_fld hz) hf
  · exact exec_regOp (show Presents .kSel opSel from fun _ _ _ => rfl) hi (by simp [wZero_of_fld hz, hc]) hf

theorem scalarImmediateForms : Sys2Proof.Spec.ScalarImmediateForms := by
  refine ⟨fun p hp r w s k hi hz hm hf => ?_, fun r w s k hi hz hf => ⟨?_, ?_⟩⟩
  · obtain ⟨legal, f, hx, hw⟩ := aluRI_presents p hp
    obtain ⟨hl, hv⟩ := hw w hm
    rw [← hv]
    exact exec_regOp hx hi (by simp [wZero_of_fld hz, hl]) hf
  · rw [← wImm_eq]
    exact exec_regOp (show Presents .kLi opLi from fun _ _ _ => rfl) hi (wZero_of_fld hz) hf
  · rw [← lih_eq]
    exact exec_regOp (show Presents .kLih opLih from fun _ _ _ => rfl) hi (wZero_of_fld hz) hf

/-- Settles O36, from the operation that each row presents and the value of Table 3.4 that it computes. -/
theorem scalarForms : Obligations.ScalarForms := ⟨scalarRegisterForms, scalarImmediateForms⟩

end Sys2Proof.Proofs

namespace Sys2Proof.Proofs

open Sys2Proof Sys2Proof.Machine Sys2Proof.Spec

/-! ## The predicate forms and the branches (O37) -/

theorem cmpRR_presents : ∀ p ∈ cmpRR, Presents p.1 (cmpR p.2) := by
  have hlt : opCmplt = cmpR (fun a b => a.slt b) := by simp only [slt_eq_toInt]; rfl
  simp only [cmpRR, List.forall_mem_cons]
  exact ⟨fun _ _ _ => rfl, hlt ▸ fun _ _ _ => rfl, fun _ _ _ => rfl, fun _ h => nomatch h⟩

theorem cmpRI_presents : ∀ p ∈ cmpRI, Presents p.1 (cmpI p.2) := by
  have hlt : opCmplti = cmpI (fun a b => a.slt b) := by simp only [slt_eq_toInt]; rfl
  simp only [cmpRI, List.forall_mem_cons]
  exact ⟨fun _ _ _ => rfl, hlt ▸ fun _ _ _ => rfl, fun _ h => nomatch h⟩

theorem predRR_presents : ∀ p ∈ predRR, Presents p.1 (predR p.2) := by
  simp only [predRR, List.forall_mem_cons]
  exact ⟨fun _ _ _ => rfl, fun _ _ _ => rfl, fun _ h => nomatch h⟩

/-- A predicate register other than p0 reads what was written. -/
theorem pReg_putP (k : Kernel) {i : Nat} (v : Bool) (h0 : 0 < i) (h8 : i < 8) : pReg (putP k i v) i = v := by
  have hi : i ≠ 0 := Nat.ne_of_gt h0
  cases v <;> simp [pReg, putP, putBit, bit, hi, h8]

theorem predicateForms : Sys2Proof.Spec.PredicateForms := by
  refine ⟨fun p hp r w s k hi hz hd hf => ?_, fun p hp r w s k hi hz hd hf => ?_, fun p hp r w s k hi hz hd ha hb => ?_,
    fun r w s k hi hz hd ha => ?_, fun k i v => ⟨rfl, rfl, pReg_putP k v⟩⟩
  · exact exec_regOp (cmpRR_presents p hp) hi (by simp [wZero_of_fld hz, hd]) hf
  · rw [← wImm_eq]
    exact exec_regOp (cmpRI_presents p hp) hi (by simp [wZero_of_fld hz, hd]) hf
  · exact exec_regOp (predRR_presents p hp) hi (by simp [wZero_of_fld hz, hd, ha, hb]) (fun _ h => nomatch h)
  · exact exec_regOp (show Presents .kPnot opPnot from fun _ _ _ => rfl) hi (by simp [wZero_of_fld hz, hd, ha]) (fun _ h => nomatch h)

section
variable {r : CoreRef} {w : BitVec 56} {s : State} {k : Kernel} (hi : Issues s r k w)
include hi

theorem exec_kNop (hz : fld w 51 0 = 0) : exec (.kNop r w) s = .next (retired s r k (k.pc + 8)) :=
  (exec_run (op := opNop) (fun _ _ _ => rfl) hi rfl (wZero_of_fld hz) (fun _ h => nomatch h) rfl).trans (answer_retire_own hi _)

theorem exec_kBr (hz : fld w 51 32 = 0) : exec (.kBr r w) s = .next (retired s r k (target k w)) := by
  rw [← branchTo_eq]
  exact (exec_run (op := opBr) (fun _ _ _ => rfl) hi rfl (wZero_of_fld hz) (fun _ h => nomatch h) rfl).trans (answer_retire_own hi _)

theorem exec_kCall (hz : fld w 46 32 = 0) (hf : Final k [wD w]) :
    exec (.kCall r w) s = .next (retired s r (putG k (wD w) (BitVec.ofNat 64 (k.pc + 8)) false) (target k w)) := by
  rw [← branchTo_eq]
  exact (exec_run (op := opCall) (fun _ _ _ => rfl) hi rfl (wZero_of_fld hz) hf rfl).trans (answer_retire_putKernel _ _)

theorem exec_kJr (hz : fld w 51 47 = 0) (hz' : fld w 41 0 = 0) (hf : Final k [wA w]) (ht : gTag k (wA w) = false) :
    exec (.kJr r w) s = .next (retired s r k (gReg k (wA w)).toNat) := by
  have hrun : opJr.run (coreKey r) k w s = .jump s (gReg k (wA w)).toNat := by simp [opJr, ht]
  exact (exec_run (op := opJr) (fun _ _ _ => rfl) hi rfl (by simp [opJr, wZero_of_fld hz, wZero_of_fld hz']) hf hrun).trans
    (answer_retire_own hi _)

theorem exec_kLoop (hz : fld w 46 32 = 0) (hf : Final k [wD w]) (ht : gTag k (wD w) = false) :
    exec (.kLoop r w) s = .next (retired s r (putG k (wD w) (gReg k (wD w) - 1) false)
      (if gReg k (wD w) = 1 then k.pc + 8 else target k w)) := by
  have hx {y : IRes} (hy : opLoop.run (coreKey r) k w s = y) :=
    exec_run (x := .kLoop) (op := opLoop) (fun _ _ _ => rfl) hi rfl (wZero_of_fld hz) hf hy
  rw [← branchTo_eq]
  by_cases h : gReg k (wD w) = 1
  · rw [if_pos h, hx (y := .next (putKernel s (coreKey r) (putG k (wD w) (gReg k (wD w) - 1) false))) (by simp [opLoop, ht, h])]
    exact answer_retire_putKernel _ _
  · have h' : gReg k (wD w) - 1 ≠ 0 := fun hz => h (sub_eq_zero.1 hz)
    rw [if_neg h, hx (y := .jump (putKernel s (coreKey r) (putG k (wD w) (gReg k (wD w) - 1) false)) (branchTo k w))
      (by simp only [opLoop, ht, if_neg h', Bool.false_eq_true, if_false])]
    exact answer_retire_putKernel _ _

theorem exec_kEnd (hz : fld w 51 0 = 0) : exec (.kEnd r w) s = .next (putKernel s (coreKey r) { k with phase := .ending .fin }) :=
  (exec_run (op := opEnd) (fun _ _ _ => rfl) hi rfl (wZero_of_fld hz) (fun _ h => nomatch h) rfl).trans (Laws.answer_same rfl rfl rfl)

end

theorem controlFlow : Sys2Proof.Spec.ControlFlow := fun _ _ _ _ hi =>
  ⟨exec_kNop hi, exec_kBr hi, exec_kCall hi, exec_kJr hi, exec_kLoop hi, exec_kEnd hi⟩

/-- Settles O37, from the operation that each row presents. -/
theorem predicatesAndBranches : Obligations.PredicatesAndBranches := ⟨predicateForms, controlFlow⟩

end Sys2Proof.Proofs

namespace Sys2Proof.Proofs

open Sys2Proof Sys2Proof.Machine Sys2Proof.Spec

/-! ## The vector forms (O39) -/

theorem vec1_presents : ∀ p ∈ vec1, Presents p.1 (vecR1 p.2) := by
  simp only [vec1, List.forall_mem_cons]
  exact ⟨fun _ _ _ => rfl, fun _ _ _ => rfl, fun _ _ _ => rfl, fun _ _ _ => rfl, fun _ _ _ => rfl, fun _ _ _ => rfl, fun _ h => nomatch h⟩

theorem vec2_presents : ∀ p ∈ vec2, Presents p.1 (vecR2 p.2) := by
  simp only [vec2, List.forall_mem_cons]
  exact ⟨fun _ _ _ => rfl, fun _ _ _ => rfl, fun _ _ _ => rfl, fun _ _ _ => rfl, fun _ _ _ => rfl, fun _ _ _ => rfl, fun _ _ _ => rfl,
    fun _ h => nomatch h⟩

theorem vec3_presents : ∀ p ∈ vec3, Presents p.1 (vecR3 p.2) := by
  simp only [vec3, List.forall_mem_cons]
  exact ⟨fun _ _ _ => rfl, fun _ _ _ => rfl, fun _ h => nomatch h⟩

theorem vectorLanes : Sys2Proof.Spec.VectorLanes := by
  refine ⟨fun p hp r w s k hi hz v hv => ?_, fun p hp r w s k hi hz v hv => ?_, fun p hp r w s k hi hz v hv => ?_⟩
  all_goals subst hv
  · exact exec_regOp (vec1_presents p hp) hi (wZero_of_fld hz) (fun _ h => nomatch h)
  · exact exec_regOp (vec2_presents p hp) hi (wZero_of_fld hz) (fun _ h => nomatch h)
  · exact exec_regOp (vec3_presents p hp) hi (wZero_of_fld hz) (fun _ h => nomatch h)

section
variable {r : CoreRef} {w : BitVec 56} {s : State} {k : Kernel} (hi : Issues s r k w) (hz : fld w 36 0 = 0)
include hi hz

theorem exec_kVextr {y : IRes} (hf : Final k [wD w, wB w]) (hy : opVextr.run (coreKey r) k w s = y) :
    exec (.kVextr r w) s = answer s (issueEnd (coreKey r) k s y) :=
  exec_run (op := opVextr) (fun _ _ _ => rfl) hi rfl (wZero_of_fld hz) hf hy

theorem exec_kVins {y : IRes} (hf : Final k [wA w, wB w]) (hy : opVins.run (coreKey r) k w s = y) :
    exec (.kVins r w) s = answer s (issueEnd (coreKey r) k s y) :=
  exec_run (op := opVins) (fun _ _ _ => rfl) hi rfl (wZero_of_fld hz) hf hy

theorem exec_kVextr_lane (hf : Final k [wD w, wB w]) (hn : gReg k (wB w) < 64) (hb : gTag k (wB w) = false) :
    exec (.kVextr r w) s = .next (retired s r
      (putG k (wD w) ((lane (vReg k (wA w)) (gReg k (wB w)).toNat).setWidth 64) (vTag k (wA w))) (k.pc + 8)) := by
  have hn' : ¬ 64 ≤ (gReg k (wB w)).toNat := Nat.not_le.2 (BitVec.lt_def.1 hn)
  exact (exec_kVextr hi hz hf ((if_neg hn').trans (if_neg (by simp [hb])))).trans (answer_retire_putKernel _ _)

theorem exec_kVins_lane (hf : Final k [wA w, wB w]) (hn : gReg k (wB w) < 64) (ha : gTag k (wA w) = false) (hb : gTag k (wB w) = false) :
    exec (.kVins r w) s = .next (retired s r
      (putV k (wD w) (ofLanes (fun j => if j = (gReg k (wB w)).toNat then (gReg k (wA w)).setWidth 32 else lane (vReg k (wD w)) j)) (vTag k (wD w)))
      (k.pc + 8)) := by
  have hn' : ¬ 64 ≤ (gReg k (wB w)).toNat := Nat.not_le.2 (BitVec.lt_def.1 hn)
  exact (exec_kVins hi hz hf ((if_neg hn').trans (if_neg (by simp [ha, hb])))).trans
    (answer_retire_putKernel _ _)

/-- An index of 64 or more is ILLEGAL before anything is written (R116). -/
theorem exec_lane_illegal (hf : Final k [wD w, wA w, wB w]) (hn : 64 ≤ gReg k (wB w)) :
    exec (.kVextr r w) s = .next (kept s (takeTrap (coreKey r) .illegal 0 s)) ∧
      exec (.kVins r w) s = .next (kept s (takeTrap (coreKey r) .illegal 0 s)) := by
  have hn' : 64 ≤ (gReg k (wB w)).toNat := BitVec.le_def.1 hn
  simp only [Final, List.forall_mem_cons] at hf
  obtain ⟨hd, ha, hb, -⟩ := hf
  exact ⟨exec_kVextr hi hz (y := .trap .illegal 0) (by simp [Final, hd, hb]) (if_pos hn'),
    exec_kVins hi hz (y := .trap .illegal 0) (by simp [Final, ha, hb]) (if_pos hn')⟩

end

theorem vectorScalarForms : Sys2Proof.Spec.VectorScalarForms := by
  intro r w s k hi
  refine ⟨fun hz hf => ?_, fun hz hf v hv => ?_, fun hz hf v hv => ?_, exec_kVextr_lane hi, exec_kVins_lane hi, exec_lane_illegal hi⟩
  · exact exec_regOp (show Presents .kVbcast opVbcast from fun _ _ _ => rfl) hi (wZero_of_fld hz) hf
  · subst hv
    exact exec_regOp (show Presents .kVrmax opVrmax from fun _ _ _ => rfl) hi (wZero_of_fld hz) hf
  · subst hv
    exact exec_regOp (show Presents .kVrsum opVrsum from fun _ _ _ => rfl) hi (wZero_of_fld hz) hf

/-- Settles O39, from the lanes that each operation computes and the index checks of VEXTR and VINS. -/
theorem vectorForms : Obligations.VectorForms := ⟨vectorLanes, vectorScalarForms⟩

end Sys2Proof.Proofs

namespace Sys2Proof.Proofs

open Sys2Proof Sys2Proof.Machine Sys2Proof.Spec

/-! ## What a flush leaves in a core (Table 2.9) -/

theorem applyWaiting_of_none {c : Core} (h : c.writes = []) : applyWaiting c = c := by
  rw [applyWaiting, h]
  exact congrArg (fun l => { c with writes := l }) h.symm

/-- From `c` to `d` at most the queues, the kernels and PASS_COMPLETION differ. -/
def Flushed (c d : Core) : Prop :=
  d = { c with arrays := d.arrays, kernel := d.kernel, saved := d.saved, complTag := d.complTag, complCode := d.complCode,
               complArray := d.complArray, complSeq := d.complSeq }

section
variable {c d e : Core}

theorem Flushed.trans (h : Flushed c d) (g : Flushed d e) : Flushed c e := by rw [Flushed, g, h]
theorem Flushed.writes (h : Flushed c d) : d.writes = c.writes := by rw [h]
theorem Flushed.moves (h : Flushed c d) : d.moves = c.moves := by rw [h]
theorem Flushed.bench (h : Flushed c d) : d.bench = c.bench := by rw [h]
theorem Flushed.scale (h : Flushed c d) : d.scale = c.scale := by rw [h]
theorem Posted.flushed (h : Posted c d) : Flushed c d := by rw [Flushed, h]

end

/-- From `k` to `k'` at most the tickets and the wake-pending bits differ. -/
def Credited (k k' : Kernel) : Prop := k' = { k with classes := k'.classes, wake := k'.wake }

theorem credited_ticketEnd (k : Kernel) (cls t : Nat) (code : Code) : Credited k (ticketEnd k cls t code) := rfl

/-- From `c` to `d` the running kernel is at most credited with work that has ended. -/
def RunCredited (c d : Core) : Prop := ∀ k, c.kernel = some k → ∃ k', d.kernel = some k' ∧ Credited k k'

section
variable {c d e : Core}

theorem RunCredited.refl (c : Core) : RunCredited c c := fun k h => ⟨k, h, rfl⟩

theorem RunCredited.trans (h : RunCredited c d) (g : RunCredited d e) : RunCredited c e := by
  intro k hk
  obtain ⟨k', hk', hc⟩ := h k hk
  obtain ⟨k'', hk'', hc'⟩ := g k' hk'
  exact ⟨k'', hk'', by rw [Credited, hc', hc]⟩

end

theorem runCredited_passKernel (c : Core) (e : PassEntry) {f : Kernel → Kernel} (hf : ∀ k, Credited k (f k)) :
    RunCredited c (passKernel c e f) := by
  have hm : RunCredited c (modKernel c f) := fun k hk => ⟨f k, by rw [modKernel, hk]; rfl, hf k⟩
  unfold passKernel
  split
  · exact hm
  · split
    · exact fun k hk => ⟨k, hk, rfl⟩
    · exact hm

theorem runCredited_passPost (c : Core) (a : Nat) (e : PassEntry) (code : Code) : RunCredited c (passPost c a e code) := by
  have hticket : RunCredited c (passTicketEnd c e code) := by
    unfold passTicketEnd
    split
    · exact .refl c
    · exact runCredited_passKernel _ _ fun k => credited_ticketEnd k _ _ _
  have hpost : RunCredited c (completed c a e code) := hticket.trans fun k hk => ⟨k, hk, rfl⟩
  have hseq : (passTicketEnd c e code).complSeq = c.complSeq := (told_passTicketEnd c e code).complSeq
  unfold passPost
  dsimp only
  rw [hseq]
  split
  · exact hpost.trans (runCredited_passKernel _ _ fun _ => rfl)
  · exact hpost

theorem runCredited_withdrawPasses (c : Core) (a : Nat) (es : List PassEntry) : RunCredited c (withdrawPasses c a es) :=
  foldl_related RunCredited.refl RunCredited.trans (fun c e => runCredited_passPost c a e _) es c

/-- Whether a flush takes a pass. -/
def flushes (e : PassEntry) : Bool := e.stage == .queued || e.stage == .active

/-- What a flush leaves of a queue: passes that drain or that pre-emption has saved. -/
def flushedQueue (q : List PassEntry) : List PassEntry := q.filter (fun e => !flushes e)

section
variable {c : Core} (a : Nat) (h : c.writes = [])
include h

theorem flushArray_eq : flushArray c a true =
    withdrawPasses (putArray c a { getArray c a with queue := flushedQueue (getArray c a).queue }) a ((getArray c a).queue.filter flushes) := by
  have hq : (getArray c a).queue.filter (fun e => !((getArray c a).queue.filter flushes).contains e) = flushedQueue (getArray c a).queue :=
    List.filter_congr fun e he => by
      congr 1
      rw [Bool.eq_iff_iff, List.contains_iff_mem, List.mem_filter]
      exact ⟨And.right, fun hf => ⟨he, hf⟩⟩
  have hw (q : List PassEntry) (es : List PassEntry) : (withdrawPasses (putArray c a { getArray c a with queue := q }) a es).writes = [] :=
    (posted_withdrawPasses _ _ _).writes.trans h
  rw [← hq]
  exact applyWaiting_of_none (hw _ _)

theorem flushed_flushArray : Flushed c (flushArray c a true) := by
  have hput : Flushed c (putArray c a { getArray c a with queue := flushedQueue (getArray c a).queue }) := rfl
  rw [flushArray_eq a h]
  exact hput.trans (posted_withdrawPasses _ _ _).flushed

theorem runCredited_flushArray : RunCredited c (flushArray c a true) := by
  rw [flushArray_eq a h]
  exact fun k hk => runCredited_withdrawPasses _ _ _ k hk

theorem flushArray_queue : (getArray (flushArray c a true) a).queue = flushedQueue (getArray c a).queue := by
  rw [flushArray_eq a h, getArray_of_arrays (posted_withdrawPasses _ _ _).arrays, getArray_putArray]

theorem flushArray_other {b : Nat} (hb : b ≠ a) : getArray (flushArray c a true) b = getArray c b := by
  rw [flushArray_eq a h, getArray_of_arrays (posted_withdrawPasses _ _ _).arrays, getArray_putArray_other _ _ _ hb]

end

/-! ## What a trap leaves in its core (R105) -/

/-- A kernel stopped by a trap at its own address. -/
def trapKernel (k : Kernel) (cause : Cause) (imm : Nat) : Kernel := { k with phase := .ending (.trap cause imm k.pc), blocked := none }

/-- A core whose kernel a trap has stopped. -/
def trapStopped (c : Core) (k : Kernel) (cause : Cause) (imm : Nat) : Core := { c with kernel := some (trapKernel k cause imm) }

/-- A core whose kernel a trap has stopped, its queues flushed. -/
def trapFlushed (c : Core) (k : Kernel) (cause : Cause) (imm : Nat) : Core := flushArray (flushArray (trapStopped c k cause imm) 0 true) 1 true

section
variable {c : Core} (k : Kernel) (cause : Cause) (imm : Nat) (h : c.writes = [])
include h

theorem flushed_firstQueue : Flushed c (flushArray (trapStopped c k cause imm) 0 true) := by
  have hc : Flushed c (trapStopped c k cause imm) := rfl
  exact hc.trans (flushed_flushArray 0 h)

theorem flushed_trapFlushed : Flushed c (trapFlushed c k cause imm) := by
  have h0 := flushed_firstQueue k cause imm h
  exact h0.trans (flushed_flushArray 1 (h0.writes.trans h))

theorem trapFlushed_kernel : ∃ k', (trapFlushed c k cause imm).kernel = some k' ∧ Credited (trapKernel k cause imm) k' := by
  have h0 := flushed_firstQueue k cause imm h
  have hrun := (runCredited_flushArray (c := trapStopped c k cause imm) 0 h).trans (runCredited_flushArray 1 (h0.writes.trans h))
  exact hrun _ rfl

theorem trapFlushed_queue {a : Nat} (ha : a < 2) : (getArray (trapFlushed c k cause imm) a).queue = flushedQueue (getArray c a).queue := by
  have hw := (flushed_firstQueue k cause imm h).writes.trans h
  have hc (b : Nat) : getArray (trapStopped c k cause imm) b = getArray c b := rfl
  have hcases : a = 0 ∨ a = 1 := by omega
  rcases hcases with rfl | rfl
  · rw [trapFlushed, flushArray_other 1 hw (by decide), flushArray_queue (c := trapStopped c k cause imm) 0 h, hc]
  · rw [trapFlushed, flushArray_queue 1 hw, flushArray_other (c := trapStopped c k cause imm) 0 h (by decide), hc]

end

section
variable (c : Core)

theorem cancelMoves_arrays : (cancelMoves c).arrays = c.arrays := rfl
theorem cancelMoves_kernel : (cancelMoves c).kernel = c.kernel := rfl
theorem cancelMoves_moves : (cancelMoves c).moves = c.moves.filter (fun m => m.started) := rfl
theorem cancelMoves_bench : (cancelMoves c).bench = c.bench := rfl
theorem cancelMoves_scale : (cancelMoves c).scale = c.scale := rfl
theorem cancelMoves_writes : (cancelMoves c).writes = c.writes := rfl

end

theorem throttleEffect_groups (t g : Nat) (s : State) : throttleEffect t g s = { s with groups := (throttleEffect t g s).groups } := by
  unfold throttleEffect
  dsimp only
  split <;> rfl

section
variable {s : State} {key : Nat} (cause : Cause) (imm : Nat) {k : Kernel} (hk : (getCore s key).kernel = some k)
  (hw : (getCore s key).writes = [])
include hk hw

theorem takeTrap_eq : takeTrap key cause imm s =
    throttleEffect (key / 64) (groupOf key) (putCore s key (cancelMoves (trapFlushed (getCore s key) k cause imm))) := by
  have hw' : (cancelMoves (trapFlushed (getCore s key) k cause imm)).writes = [] := by
    rw [cancelMoves_writes, (flushed_trapFlushed k cause imm hw).writes, hw]
  rw [← applyWaiting_of_none hw']
  simp only [takeTrap, hk]
  rfl

theorem getCore_takeTrap : getCore (takeTrap key cause imm s) key = cancelMoves (trapFlushed (getCore s key) k cause imm) := by
  rw [takeTrap_eq cause imm hk hw, getCore_throttleEffect, Laws.getCore_putCore_same]

theorem getCore_takeTrap_other {j : Nat} (hj : j ≠ key) : getCore (takeTrap key cause imm s) j = getCore s j := by
  rw [takeTrap_eq cause imm hk hw, getCore_throttleEffect, Laws.getCore_putCore_other _ _ hj]

theorem takeTrap_frame : takeTrap key cause imm s =
    { s with cores := (takeTrap key cause imm s).cores, groups := (takeTrap key cause imm s).groups } := by
  rw [takeTrap_eq cause imm hk hw, throttleEffect_groups]
  rfl

end

end Sys2Proof.Proofs

namespace Sys2Proof.Proofs

open Sys2Proof Sys2Proof.Machine Sys2Proof.Spec

/-! ## Traps (O42) -/

/-- The row of an instruction presents an operation to a core, and the module settles. -/
def PresentsWork (x : Isa) (op : IOp) : Prop := ∀ (r : CoreRef) (w : BitVec 56) (s : State), exec (x r w) s = answer s (settle (isaStep op r w s))

section
variable {s : State} {r : CoreRef} {k : Kernel} {w : BitVec 56} {x : Isa} {op : IOp}

theorem does_run {y : IRes} {u : State} (hx : PresentsWork x op) (hi : Issues s r k w) (hp : op.fetch k w = false) (hl : op.legal w = true)
    (hf : Final k (op.regs w)) (hy : op.run (coreKey r) k w s = y) (hu : issueEnd (coreKey r) k s y = u) : Does (x r w) s u := by
  rw [Does, hx, isaStep_run hi hp hl hf, hy, hu]
  rfl

theorem issue_illegal (hi : Issues s r k w) (hp : op.fetch k w = false) (hl : op.legal w = false) :
    issue op (coreKey r) w k s = .trap .illegal 0 := by
  simp [issue, Nat.not_lt.2 hi.gap, fetchBad_of_issues hi, hp, hl]

end

theorem debugInForce_eq_true_iff (s : State) : debugInForce s = true ↔ ∃ e ∈ s.keeper.enables, bit e.2.functions 8 = true := by
  simp [debugInForce]

theorem withKernel_eq {s : State} {key : Nat} {k : Kernel} (hk : (getCore s key).kernel = some k) (f : Kernel → Kernel) :
    withKernel key f s = putKernel s key (f k) := by
  simp [withKernel, putKernel, modCore, modKernel, hk]

/-- A word that no table lists names no operation. -/
theorem opOf_unlisted {opcode op : Nat} (h : listed opcode op = false) : opOf opcode op = opIllegal := by
  unfold opOf
  split
  any_goals exact Bool.noConfusion (h : true = false)
  case h_90 => rfl
  all_goals simp [listed] at h
  · simp [opRemote, show op ≠ 0 by omega, show op ≠ 1 by omega]
  · simp [opRemote, show op ≠ 0 by omega, show op ≠ 1 by omega]
  · simp [opRemote, Nat.not_le.2 h]
  · simp [opRemote, Nat.not_le.2 h.1, h.2]

theorem abortBreakTrap : Sys2Proof.Spec.AbortBreakTrap := by
  refine ⟨fun r w s k hi => ⟨fun hz => ?_, fun hz hd => ?_, fun hz hd => ?_⟩, fun r w s k hi hu => ?_⟩
  · have himm : wImmU w = fld w 15 0 := by
      simp only [wImmU, fld, nbits, Nat.shiftRight_eq_div_pow] at hz ⊢
      omega
    exact does_run (op := opAbort) (y := .trap .abort (wImmU w)) (fun _ _ _ => rfl) hi rfl (wZero_of_fld hz) (fun _ h => nomatch h) rfl
      (himm ▸ rfl)
  · have hrun : opBrk.run (coreKey r) k w s = .next (putKernel s (coreKey r) { k with phase := .halted }) := by
      rw [← withKernel_eq hi.kernel (fun k => { k with phase := .halted })]
      exact if_pos ((debugInForce_eq_true_iff s).2 hd)
    exact does_run (op := opBrk) (fun _ _ _ => rfl) hi rfl (wZero_of_fld hz) (fun _ h => nomatch h) hrun rfl
  · have hrun : opBrk.run (coreKey r) k w s = .trap .privilege 0 := by
      refine if_neg fun hf => ?_
      obtain ⟨e, he, hb⟩ := (debugInForce_eq_true_iff s).1 hf
      exact Bool.false_ne_true ((hd e he).symm.trans hb)
    exact does_run (op := opBrk) (fun _ _ _ => rfl) hi rfl (wZero_of_fld hz) (fun _ h => nomatch h) hrun rfl
  · have htrap : trapStep r w s = takeTrap (coreKey r) .illegal 0 s := by
      simp only [trapStep, hi.kernel, canIssue_of_issues hi, opOf_unlisted hu, issue_illegal hi (op := opIllegal) rfl rfl, if_true]
    exact congrArg (fun u => answer s (settle u)) htrap

theorem trapOrder : Sys2Proof.Spec.TrapOrder := by
  intro p hp r w s k hk hc
  have hx (y : IRes) (hy : issue (aluR p.2) (coreKey r) w k s = y) : exec (p.1 r w) s = answer s (issueEnd (coreKey r) k s y) := by
    rw [aluRR_presents p hp, Laws.isaStep_issue hk hc, hy]
  refine ⟨fun hg => hx (.trap .gapExceeded 0) (if_pos hg), fun hg hb => hx (.trap .fetch 0) ?_,
    fun hg hcode hal => ⟨fun hz => hx (.trap .illegal 0) ?_, fun hz hgd => ?_⟩⟩
  · have hfetch : fetchBad k = true := by simpa [fetchBad] using hb
    simp [issue, Nat.not_lt.2 hg, hfetch]
  · have hfetch : fetchBad k = false := by simp [fetchBad, hcode, hal]
    simp [issue, Nat.not_lt.2 hg, hfetch, aluR, regOp, wZero, hz]
  · have hfetch : fetchBad k = false := by simp [fetchBad, hcode, hal]
    rw [hx (.next s) (by simp [issue, Nat.not_lt.2 hg, hfetch, aluR, regOp, wZero, hz, hgd])]
    exact (congrArg (answer s) (Laws.retire_self s _ _ k hk)).trans (answer_retired k _)

theorem trapTaken : Sys2Proof.Spec.TrapTaken := by
  intro s key c imm k hk hw
  have hcore := getCore_takeTrap c imm hk hw
  have hframe := takeTrap_frame c imm hk hw
  have hfl := flushed_trapFlushed k c imm hw
  have hqueue {a : Nat} (ha : a < 2) : (getArray (getCore (takeTrap key c imm s) key) a).queue = flushedQueue (getArray (getCore s key) a).queue := by
    rw [hcore, getArray_of_arrays (cancelMoves_arrays _), trapFlushed_queue k c imm hw ha]
  refine ⟨?_, fun a ha e he => ?_, fun a ha e he hs => ?_, ?_, ?_, ?_, fun j hj => getCore_takeTrap_other c imm hk hw hj, ?_, ?_, ?_, ?_⟩
  · obtain ⟨k', hk', hcr⟩ := trapFlushed_kernel k c imm hw
    refine ⟨k', by rw [hcore, cancelMoves_kernel, hk'], ?_⟩
    rw [hcr]
    exact ⟨rfl, rfl, rfl, rfl, rfl, rfl, rfl, rfl⟩
  · rw [hqueue ha] at he
    obtain ⟨hmem, hst⟩ := List.mem_filter.1 he
    exact ⟨hmem, by simpa [flushes] using hst⟩
  · rw [hqueue ha]
    exact List.mem_filter.2 ⟨he, by simp [flushes, hs]⟩
  · rw [hcore, cancelMoves_moves, hfl.moves]
  · rw [hcore, cancelMoves_bench, hfl.bench]
  · rw [hcore, cancelMoves_scale, hfl.scale]
  all_goals rw [hframe]

/-- Settles O42, from what a flush leaves in the core of a trapped kernel. -/
theorem traps : Obligations.Traps := ⟨abortBreakTrap, trapOrder, trapTaken⟩

end Sys2Proof.Proofs

namespace Sys2Proof.Proofs

open Sys2Proof Sys2Proof.Machine Sys2Proof.Spec

/-! ## What an instruction of the registers leaves unchanged (O27) -/

/-- The data of a core that no register instruction touches: its bench, its scale bank, its trackers, its generator and ARITH_CTL. -/
structure SameData (c d : Core) : Prop where
  bench : d.bench = c.bench
  scale : d.scale = c.scale
  trackers : d.trackers = c.trackers
  gen : d.gen = c.gen
  arithCtl : d.arithCtl = c.arithCtl

theorem SameData.kernel (c : Core) (k : Option Kernel) : SameData c { c with kernel := k } := ⟨rfl, rfl, rfl, rfl, rfl⟩

theorem SameData.modKernel (c : Core) (f : Kernel → Kernel) : SameData c (modKernel c f) := .kernel c _

theorem SameData.trans {c d e : Core} (h : SameData c d) (g : SameData d e) : SameData c e :=
  ⟨g.bench.trans h.bench, g.scale.trans h.scale, g.trackers.trans h.trackers, g.gen.trans h.gen, g.arithCtl.trans h.arithCtl⟩

theorem SameData.cancelMoves (c : Core) : SameData c (cancelMoves c) := ⟨rfl, rfl, rfl, rfl, rfl⟩

theorem Flushed.sameData {c d : Core} (h : Flushed c d) : SameData c d := by
  refine ⟨h.bench, h.scale, ?_, ?_, ?_⟩ <;> rw [h]

/-- From `s` to `t` at most the registers of core `key`, its queues and its group's clock request differ, and the free values taken. -/
structure OwnRegisters (key : Nat) (s t : State) : Prop where
  frame : t = { s with free := t.free, cores := t.cores, groups := t.groups }
  others : ∀ j, j ≠ key → getCore t j = getCore s j
  own : SameData (getCore s key) (getCore t key)

section
variable {key : Nat} {s t u : State}

theorem OwnRegisters.refl (key : Nat) (s : State) : OwnRegisters key s s := ⟨rfl, fun _ _ => rfl, .kernel _ _⟩

theorem OwnRegisters.trans (h : OwnRegisters key s t) (g : OwnRegisters key t u) : OwnRegisters key s u where
  frame := by rw [g.frame, h.frame]
  others j hj := (g.others j hj).trans (h.others j hj)
  own := h.own.trans g.own

theorem ownRegisters_putCore {c : Core} (h : SameData (getCore s key) c) : OwnRegisters key s (putCore s key c) where
  frame := rfl
  others _ hj := Laws.getCore_putCore_other _ _ hj
  own := by rwa [Laws.getCore_putCore_same]

theorem ownRegisters_putKernel (k : Kernel) : OwnRegisters key s (putKernel s key k) := ownRegisters_putCore (.kernel _ _)

theorem ownRegisters_retire (pc : Nat) : OwnRegisters key s (retire key pc s) := by
  have hfree : OwnRegisters key s { s with free := s.free + 1 } := ⟨rfl, fun _ _ => rfl, .kernel _ _⟩
  exact hfree.trans (ownRegisters_putCore (.modKernel _ _))

theorem ownRegisters_takeTrap {k : Kernel} (c : Cause) (imm : Nat) (hk : (getCore s key).kernel = some k) (hw : (getCore s key).writes = []) :
    OwnRegisters key s (takeTrap key c imm s) where
  frame := by
    rw [takeTrap_frame c imm hk hw]
  others _ hj := getCore_takeTrap_other c imm hk hw hj
  own := by
    rw [getCore_takeTrap c imm hk hw]
    exact (flushed_trapFlushed k c imm hw).sameData.trans (.cancelMoves _)

end

/-- An outcome of an instruction of core `key` that writes at most registers. -/
inductive InRegisters (key : Nat) (s : State) : IRes → Prop
  | next {t : State} (h : OwnRegisters key s t) : InRegisters key s (.next t)
  | jump {t : State} (pc : Nat) (h : OwnRegisters key s t) : InRegisters key s (.jump t pc)
  | trap (c : Cause) (imm : Nat) : InRegisters key s (.trap c imm)
  | stall : InRegisters key s .stall

theorem InRegisters.issueEnd {key : Nat} {s : State} {x : IRes} {k : Kernel} (h : InRegisters key s x)
    (hk : (getCore s key).kernel = some k) (hw : (getCore s key).writes = []) : OwnRegisters key s (issueEnd key k s x) := by
  cases h with
  | next h => exact h.trans (ownRegisters_retire _)
  | jump pc h => exact h.trans (ownRegisters_retire _)
  | trap c imm => exact ownRegisters_takeTrap c imm hk hw
  | stall => exact .refl _ _

/-- An operation writes at most registers. -/
def WritesRegisters (op : IOp) : Prop := ∀ key k w s, InRegisters key s (op.run key k w s)

section
variable {op : IOp} (hop : WritesRegisters op)
include hop

theorem WritesRegisters.issue (key : Nat) (w : BitVec 56) (k : Kernel) (s : State) : InRegisters key s (issue op key w k s) := by
  unfold Machine.issue
  dsimp only
  split
  · exact .trap _ _
  split
  · exact .trap _ _
  split
  · exact .trap _ _
  split
  · exact .trap _ _
  split
  · exact .next (.refl _ _)
  split
  · exact .stall
  · exact hop _ _ _ _

theorem WritesRegisters.isaStep (r : CoreRef) (w : BitVec 56) (s : State) : OwnRegisters (coreKey r) s (isaStep op r w s) := by
  cases hk : (getCore s (coreKey r)).kernel with
  | none => simpa [Machine.isaStep, hk] using OwnRegisters.refl _ _
  | some k =>
    by_cases hc : canIssue s (coreKey r) (getCore s (coreKey r)) k = true
    · have hw : (getCore s (coreKey r)).writes = [] := by
        simp only [canIssue, Bool.and_eq_true, List.isEmpty_iff] at hc
        exact hc.2
      rw [Laws.isaStep_issue hk hc]
      exact (hop.issue (coreKey r) w k s).issueEnd hk hw
    · simpa [Machine.isaStep, hk, hc] using OwnRegisters.refl _ _

end

theorem writesRegisters_regOp (legal : BitVec 56 → Bool) (regs : BitVec 56 → List Nat) (f : Kernel → BitVec 56 → Kernel) :
    WritesRegisters (regOp legal regs f) := fun _ _ _ _ => .next (ownRegisters_putKernel _)

theorem writesRegisters_opNop : WritesRegisters opNop := fun _ _ _ _ => .next (.refl _ _)

theorem writesRegisters_opBr : WritesRegisters opBr := fun _ _ _ _ => .jump _ (.refl _ _)

theorem writesRegisters_opCall : WritesRegisters opCall := fun _ _ _ _ => .jump _ (ownRegisters_putKernel _)

theorem writesRegisters_opJr : WritesRegisters opJr := by
  intro key k w s
  unfold opJr
  dsimp only
  split
  · exact .trap _ _
  · exact .jump _ (.refl _ _)

theorem writesRegisters_opLoop : WritesRegisters opLoop := by
  intro key k w s
  unfold opLoop
  dsimp only
  split
  · exact .trap _ _
  split
  · exact .next (ownRegisters_putKernel _)
  · exact .jump _ (ownRegisters_putKernel _)

theorem writesRegisters_opVextr : WritesRegisters opVextr := by
  intro key k w s
  unfold opVextr
  dsimp only
  split
  · exact .trap _ _
  split
  · exact .trap _ _
  · exact .next (ownRegisters_putKernel _)

theorem writesRegisters_opVins : WritesRegisters opVins := by
  intro key k w s
  unfold opVins
  dsimp only
  split
  · exact .trap _ _
  split
  · exact .trap _ _
  · exact .next (ownRegisters_putKernel _)

/-- A row presents an operation that writes at most registers. -/
def PresentsRegisters (x : Isa) : Prop := ∃ op, Presents x op ∧ WritesRegisters op

theorem presentsRegisters_regOp {x : Isa} {legal : BitVec 56 → Bool} {regs : BitVec 56 → List Nat} {f : Kernel → BitVec 56 → Kernel}
    (h : Presents x (regOp legal regs f)) : PresentsRegisters x := ⟨_, h, writesRegisters_regOp _ _ _⟩

theorem computeForms_presentRegisters : ∀ x ∈ computeForms, PresentsRegisters x := by
  unfold computeForms
  refine List.forall_mem_cons.2 ⟨⟨opNop, fun _ _ _ => rfl, writesRegisters_opNop⟩, ?_⟩
  iterate 33 refine List.forall_mem_cons.2 ⟨presentsRegisters_regOp fun _ _ _ => rfl, ?_⟩
  refine List.forall_mem_cons.2 ⟨⟨opBr, fun _ _ _ => rfl, writesRegisters_opBr⟩, ?_⟩
  refine List.forall_mem_cons.2 ⟨⟨opCall, fun _ _ _ => rfl, writesRegisters_opCall⟩, ?_⟩
  refine List.forall_mem_cons.2 ⟨⟨opJr, fun _ _ _ => rfl, writesRegisters_opJr⟩, ?_⟩
  refine List.forall_mem_cons.2 ⟨⟨opLoop, fun _ _ _ => rfl, writesRegisters_opLoop⟩, ?_⟩
  iterate 17 refine List.forall_mem_cons.2 ⟨presentsRegisters_regOp fun _ _ _ => rfl, ?_⟩
  refine List.forall_mem_cons.2 ⟨⟨opVextr, fun _ _ _ => rfl, writesRegisters_opVextr⟩, ?_⟩
  refine List.forall_mem_cons.2 ⟨⟨opVins, fun _ _ _ => rfl, writesRegisters_opVins⟩, ?_⟩
  refine List.forall_mem_cons.2 ⟨presentsRegisters_regOp fun _ _ _ => rfl, ?_⟩
  exact fun _ h => nomatch h

/-- Settles O27, from the outcomes that an instruction of the registers can have. -/
theorem computeFrame : Obligations.ComputeFrame := by
  intro x hx r w s t hexec
  obtain ⟨op, hp, hop⟩ := computeForms_presentRegisters x hx
  have hstep := hop.isaStep r w s
  have hsame : answer s (isaStep op r w s) = .next (isaStep op r w s) :=
    Laws.answer_same (by rw [hstep.frame]) (by rw [hstep.frame]) (by rw [hstep.frame])
  rw [hp, hsame] at hexec
  cases hexec
  exact ⟨hstep.frame, hstep.others, fun o => by rw [benchByte, hstep.own.bench]; rfl, hstep.own.scale, hstep.own.trackers, hstep.own.gen,
    hstep.own.arithCtl⟩

end Sys2Proof.Proofs

namespace Sys2Proof.Proofs

open Sys2Proof Sys2Proof.Machine Sys2Proof.Spec

/-! ## The conditions of the waits (R93, R102) -/

theorem waitReady_iff (k : Kernel) (cls n : Nat) : waitReady k cls n = true ↔ Ended k cls n := by
  simp [waitReady, Ended]

theorem fenceReady_iff (k : Kernel) (mask : Nat) :
    fenceReady k mask = true ↔ ∀ i < 6, mask.testBit i = true → (getCls k i).live = [] := by
  simp only [fenceReady, upto, List.all_eq_true, List.mem_range, Bool.or_eq_true, Bool.not_eq_true', List.isEmpty_iff, ← Bool.not_eq_true,
    or_iff_not_imp_left, not_not]

theorem preemptSlot_of_no_request {c : Core} (h : c.preemptReq = false) (k : Kernel) : preemptSlot c k = none := by
  simp [preemptSlot, h]

/-! ## WAIT, POLL and FENCE (O41) -/

section
variable {r : CoreRef} {w : BitVec 56} {s : State} {k : Kernel} {n : Nat} (hi : Issues s r k w)
include hi

theorem does_retired {x : Isa} {op : IOp} {k' : Kernel} (hx : PresentsWork x op) (hp : op.fetch k w = false) (hl : op.legal w = true)
    (hf : Final k (op.regs w)) (hy : op.run (coreKey r) k w s = .next (putKernel s (coreKey r) k')) :
    Does (x r w) s (retired s r k' (k.pc + 8)) :=
  does_run hx hi hp hl hf hy (retire_putKernel _ _)

section
variable (hz : fld w 41 32 = 0) (hz' : fld w 31 3 = 0) (hc : fld w 2 0 < 6) (hf : Final k [wD w, wA w]) (ha : gTag k (wA w) = false)
  (hn : n = (gReg k (wA w)).toNat) (his : n ≤ (getCls k (fld w 2 0)).issued)
include hz hz' hc hf ha hn his

omit hi hf in
theorem opWait_run : opWait.legal w = true ∧ opWait.run (coreKey r) k w s =
    if n = 0 then .next (putKernel s (coreKey r) (putG k (wD w) 0 false))
    else if waitReady k (fld w 2 0) n then .next (putKernel s (coreKey r) (reported k (wD w) (fld w 2 0) n))
    else .hold (putKernel s (coreKey r) { k with blocked := some (.wait (wD w) (fld w 2 0) n) }) := by
  subst hn
  have hl : opWait.legal w = true := by simp [opWait, wZero_of_fld hz, wZero_of_fld hz', waitClass, hc]
  exact ⟨hl, (if_neg (Nat.not_lt.2 his)).trans (if_neg (by simp [ha]))⟩

theorem does_kWait_zero (h : n = 0) : Does (.kWait r w) s (retired s r (putG k (wD w) 0 false) (k.pc + 8)) := by
  obtain ⟨hl, hrun⟩ := opWait_run hz hz' hc ha hn his
  exact does_retired hi (fun _ _ _ => rfl) rfl hl hf (hrun.trans (if_pos h))

theorem does_kWait_ended (h : 0 < n) (he : Ended k (fld w 2 0) n) :
    Does (.kWait r w) s (retired s r (reported k (wD w) (fld w 2 0) n) (k.pc + 8)) := by
  obtain ⟨hl, hrun⟩ := opWait_run hz hz' hc ha hn his
  exact does_retired hi (fun _ _ _ => rfl) rfl hl hf ((hrun.trans (if_neg (Nat.ne_of_gt h))).trans (if_pos ((waitReady_iff _ _ _).2 he)))

theorem does_kWait_blocks (h : 0 < n) (he : ¬ Ended k (fld w 2 0) n) :
    Does (.kWait r w) s (putKernel s (coreKey r) { k with blocked := some (.wait (wD w) (fld w 2 0) n) }) := by
  obtain ⟨hl, hrun⟩ := opWait_run hz hz' hc ha hn his
  exact does_run (fun _ _ _ => rfl) hi rfl hl hf
    ((hrun.trans (if_neg (Nat.ne_of_gt h))).trans (if_neg (mt (waitReady_iff _ _ _).1 he))) rfl

end

section
variable (hz : fld w 41 32 = 0) (hz' : fld w 31 7 = 0) (hz'' : fld w 3 3 = 0) (hc : fld w 2 0 < 6) (hf : Final k [wD w, wA w])
  (ha : gTag k (wA w) = false) (hn : n = (gReg k (wA w)).toNat) (his : n ≤ (getCls k (fld w 2 0)).issued) (h : 0 < n)
include hz hz' hz'' hc hf ha hn his h

omit hi hf in
theorem opPoll_run : opPoll.legal w = true ∧ opPoll.run (coreKey r) k w s =
    if waitReady k (fld w 2 0) n then .next (putKernel s (coreKey r) (putP (reported k (wD w) (fld w 2 0) n) (fld w 6 4) true))
    else .next (putKernel s (coreKey r) (putP k (fld w 6 4) false)) := by
  subst hn
  have hl : opPoll.legal w = true := by simp [opPoll, wZero_of_fld hz, wZero_of_fld hz', wZero_of_fld hz'', waitClass, hc]
  exact ⟨hl, ((if_neg (Nat.not_lt.2 his)).trans (if_neg (by simp [ha]))).trans (if_neg (Nat.ne_of_gt h))⟩

theorem does_kPoll_ended (he : Ended k (fld w 2 0) n) :
    Does (.kPoll r w) s (retired s r (putP (reported k (wD w) (fld w 2 0) n) (fld w 6 4) true) (k.pc + 8)) := by
  obtain ⟨hl, hrun⟩ := opPoll_run hz hz' hz'' hc ha hn his h
  exact does_retired hi (fun _ _ _ => rfl) rfl hl hf (hrun.trans (if_pos ((waitReady_iff _ _ _).2 he)))

theorem does_kPoll_live (he : ¬ Ended k (fld w 2 0) n) : Does (.kPoll r w) s (retired s r (putP k (fld w 6 4) false) (k.pc + 8)) := by
  obtain ⟨hl, hrun⟩ := opPoll_run hz hz' hz'' hc ha hn his h
  exact does_retired hi (fun _ _ _ => rfl) rfl hl hf (hrun.trans (if_neg (mt (waitReady_iff _ _ _).1 he)))

end

section
variable (hz : fld w 51 32 = 0) (hz' : fld w 31 6 = 0)
include hz hz'

theorem does_kFence_ended (he : ∀ i < 6, (fld w 5 0).testBit i = true → (getCls k i).live = []) :
    Does (.kFence r w) s (retired s r k (k.pc + 8)) :=
  does_run (op := opFence) (fun _ _ _ => rfl) hi rfl (by simp [opFence, wZero_of_fld hz, wZero_of_fld hz']) (fun _ h => nomatch h)
    (if_pos ((fenceReady_iff _ _).2 he)) (retire_own hi _)

theorem does_kFence_blocks (he : ¬ ∀ i < 6, (fld w 5 0).testBit i = true → (getCls k i).live = []) :
    Does (.kFence r w) s (putKernel s (coreKey r) { k with blocked := some (.fence (fld w 5 0)) }) :=
  does_run (op := opFence) (fun _ _ _ => rfl) hi rfl (by simp [opFence, wZero_of_fld hz, wZero_of_fld hz']) (fun _ h => nomatch h)
    (if_neg (mt (fenceReady_iff _ _).1 he)) rfl

end

/-! ## Yield points (R98, R108) -/

theorem does_kYield (hz : fld w 51 0 = 0) (hq : (getCore s (coreKey r)).preemptReq = false) :
    Does (.kYield r w) s (retired s r { k with gap := 0 } (k.pc + 8)) := by
  have hrun : opYield.run (coreKey r) k w s = .next (putKernel s (coreKey r) { k with gap := 0 }) := by
    simp only [opYield, preemptSlot_of_no_request hq]
  exact does_retired hi (fun _ _ _ => rfl) rfl (wZero_of_fld hz) (fun _ h => nomatch h) hrun

section
variable (hz : fld w 46 32 = 0) (hz' : fld w 31 5 = 0) (hf : Final k [wD w]) (hq : (getCore s (coreKey r)).preemptReq = false)
include hz hz' hf hq

omit hi hf in
theorem opWaitwake_run : opWaitwake.legal w = true ∧ opWaitwake.run (coreKey r) k w s =
    if k.wake.toNat &&& fld w 4 0 != 0 then .next (putKernel s (coreKey r) (woken { k with gap := 0 } (wD w) (fld w 4 0)))
    else .hold (putKernel s (coreKey r) { k with gap := 0, blocked := some (.waitwake (wD w) (fld w 4 0)) }) := by
  refine ⟨by simp [opWaitwake, wZero_of_fld hz, wZero_of_fld hz'], ?_⟩
  simp only [opWaitwake, preemptSlot_of_no_request hq]
  rfl

theorem does_kWaitwake_wakes (h : k.wake.toNat &&& fld w 4 0 ≠ 0) :
    Does (.kWaitwake r w) s (retired s r (woken { k with gap := 0 } (wD w) (fld w 4 0)) (k.pc + 8)) := by
  obtain ⟨hl, hrun⟩ := opWaitwake_run hz hz' hq
  exact does_retired hi (fun _ _ _ => rfl) rfl hl hf (hrun.trans (if_pos (bne_iff_ne.2 h)))

theorem does_kWaitwake_blocks (h : k.wake.toNat &&& fld w 4 0 = 0) :
    Does (.kWaitwake r w) s (putKernel s (coreKey r) { k with gap := 0, blocked := some (.waitwake (wD w) (fld w 4 0)) }) := by
  obtain ⟨hl, hrun⟩ := opWaitwake_run hz hz' hq
  exact does_run (fun _ _ _ => rfl) hi rfl hl hf (hrun.trans (if_neg (by simp [h]))) rfl

end

end

theorem waitingInstructions : Sys2Proof.Spec.WaitingInstructions := by
  intro r w s k n hi
  refine ⟨fun hz hz' hc hf ha hn his => ?_, fun hz hz' hz'' hc hf ha hn his => ?_, fun hz hz' => ?_, does_kYield hi,
    fun hz hz' hf hq => ?_⟩
  · exact ⟨does_kWait_zero hi hz hz' hc hf ha hn his, does_kWait_ended hi hz hz' hc hf ha hn his,
      does_kWait_blocks hi hz hz' hc hf ha hn his⟩
  · exact ⟨does_kPoll_ended hi hz hz' hz'' hc hf ha hn his, does_kPoll_live hi hz hz' hz'' hc hf ha hn his⟩
  · exact ⟨does_kFence_ended hi hz hz', does_kFence_blocks hi hz hz'⟩
  · exact ⟨does_kWaitwake_wakes hi hz hz' hf hq, does_kWaitwake_blocks hi hz hz' hf hq⟩

/-! ## The ends of waits and the yield gap (R93, R98, R102, R110) -/

section
variable {r : CoreRef} {s : State} {k : Kernel} (hk : (getCore s (coreKey r)).kernel = some k) (hph : k.phase = .running)
  (hg : groupRuns s (coreKey r) = true)
include hk hph hg

/-- A blocked kernel whose condition has come retires the instruction that blocks it. -/
theorem unblockOp_retires {kind : Blocked → Bool} {b : Blocked} {k' : Kernel} (hb : k.blocked = some b) (hkind : kind b = true)
    (hu : unblocked k = some k') : unblockOp kind (coreKey r) s = retired s r { k' with blocked := none } (k.pc + 8) := by
  rw [unblockOp]
  simp only [hk, hph, hb, hkind, hg, hu, Option.any_some, bne_self_eq_false, Bool.not_true, Bool.or_self, Bool.false_eq_true, if_false]
  exact retire_putKernel _ _

theorem gapExceededOp_traps (hgap : k.gap ≤ k.image.maxYieldGap) : gapExceededOp (coreKey r) s =
    takeTrap (coreKey r) .gapExceeded 0 (putKernel s (coreKey r) { k with
      gap := k.image.maxYieldGap + 1, cycles := k.cycles + (k.image.maxYieldGap + 1 - k.gap) }) := by
  have hmax : max k.gap (k.image.maxYieldGap + 1) = k.image.maxYieldGap + 1 := Nat.max_eq_right (Nat.le_succ_of_le hgap)
  rw [gapExceededOp]
  simp only [hk, hph, hg, bne_self_eq_false, Bool.not_true, Bool.or_self, Bool.false_eq_true, if_false, withKernel_eq hk, hmax]

end

theorem unblocksAndGap : Sys2Proof.Spec.UnblocksAndGap := by
  intro r s k hm hk hph hg
  refine ⟨fun d cls n hb he => ?_, fun mask hb he => ?_, fun d mask hb hw => ?_, fun hgap => ?_⟩
  · have hu : unblocked k = some (reported k d cls n) := by
      simp only [unblocked, hb]
      exact if_pos ((waitReady_iff _ _ _).2 he)
    exact does_onMain rfl hm (unblockOp_retires hk hph hg hb rfl hu)
  · have hu : unblocked k = some k := by
      simp only [unblocked, hb]
      exact if_pos ((fenceReady_iff _ _).2 he)
    exact does_onMain rfl hm (unblockOp_retires hk hph hg hb rfl hu)
  · have hu : unblocked k = some (woken k d mask) := by
      simp only [unblocked, hb]
      exact if_pos (bne_iff_ne.2 hw)
    exact does_onMain rfl hm (unblockOp_retires hk hph hg hb rfl hu)
  · exact does_onMain rfl hm (gapExceededOp_traps hk hph hg hgap)

/-- Settles O41, from the condition of each wait and the instruction that it blocks. -/
theorem waiting : Obligations.Waiting := ⟨waitingInstructions, unblocksAndGap⟩

end Sys2Proof.Proofs

namespace Sys2Proof.Proofs

open Sys2Proof Sys2Proof.Machine Sys2Proof.Spec

/-! ## A translation leaves the module's number -/

/-- `u` is a state of the same module as `s`. -/
def SameModule (s u : State) : Prop := u.myModule = s.myModule

theorem SameModule.trans {s u v : State} (h : SameModule s u) (g : SameModule u v) : SameModule s v := Eq.trans g h

theorem sameModule_walked (l : List (Nat × Nat)) (again : Bool) (t : Nat) (s : State) :
    SameModule s (l.foldl (fun s l => if sliceOut s l.1 then s else sliceTouch l.1 s) (if again then s else countTile t 3 1 s)) := by
  have hcount : SameModule s (if again then s else countTile t 3 1 s) := by
    split
    · rfl
    · rw [SameModule, countTile, logged_count _ _ s]
      rfl
  refine hcount.trans (foldl_related (R := SameModule) (fun _ => rfl) SameModule.trans (fun u l => ?_) _ _)
  split <;> rfl

theorem sameModule_translate {key space va pk m t c off reg : Nat} {a : Access} {system again : Bool} {s u : State}
    (h : Machine.translate key space va a system again s = (.at_ pk m t c off reg, u)) : SameModule s u := by
  unfold Machine.translate at h
  dsimp only at h
  split at h
  · obtain ⟨-, rfl⟩ := Prod.ext_iff.1 h
    refine SameModule.trans (u := _) ?_ rfl
    split
    · rfl
    · refine SameModule.trans ?_ (sameModule_walked _ _ _ _)
      split <;> rfl
  · exact nomatch (Prod.ext_iff.1 h).1
  · next hne _ => exact (hne _ _ _ _ _ _ (Prod.ext_iff.1 h).1).elim

/-! ## Loads of the bench and of the constant section (O2) -/

/-- The 64 elements of the bytes that VLDQ reads, widened to FP32 (R132). -/
def widened (w : BitVec 56) (bs : List Byte) : BitVec 2048 × FpFlags :=
  vmap (fun i => widen (qFmt w) (elemAt (fun j => bs.getD j 0) (inWidth (qFmt w)) i)
    (if inBlock (qFmt w) = 1 then 0 else blockDatum (qFmt w) (fun j => bs.getD (qInElems (qFmt w) + j) 0) (i / inBlock (qFmt w))))

section
variable {r : CoreRef} {w : BitVec 56} {s : State} {k : Kernel} (hi : Issues s r k w) (ha : gTag k (wA w) = false)
include hi ha

/-- A load that reads the bench without an error writes a register of its kernel and retires. -/
theorem exec_benchLoad {x : Isa} {legal : BitVec 56 → Bool} {regs : BitVec 56 → List Nat} {align n : BitVec 56 → Nat}
    {load : BitVec 56 → List Byte → Kernel → Kernel} (he : (getCore s (coreKey r)).benchErr = [])
    (hx : Presents x (benchOp legal regs (fun _ _ => false) align n fun key _ w a s =>
      .next (withKernel key (load w (benchLoad key a (n w) s).1) (benchLoad key a (n w) s).2)))
    (hl : legal w = true) (hf : Final k (regs w)) (hal : memAddr k w % align w = 0) (hw : inWindow k (memAddr k w) (n w) = true) :
    exec (x r w) s = .next (retired s r (load w (benchRead (getCore s (coreKey r)) (memAddr k w) (n w)) k) (k.pc + 8)) := by
  rw [hx, isaStep_benchOp hi hl hf ha rfl hal hw, benchLoad_sound he, withKernel_eq hi.kernel]
  exact answer_retire_putKernel _ _

section
variable (hsz : wSize w < 4) (hal : memAddr k w % 2 ^ wSize w = 0)
include hsz hal

/-- A constant that its slice holds sound is loaded. -/
theorem exec_kLdc {sp va pk t c off reg : Nat} {bs : List Byte} {u v : State} (hop : fld w 38 32 = 0) (hf : Final k [wD w, wA w])
    (hc : memAddr k w + 2 ^ wSize w ≤ k.image.constBytes) (hwin : windowOf s k (k.image.va + k.image.constOffset + memAddr k w) = some (sp, va))
    (htr : Machine.translate (coreKey r) sp va .fetch (k.image.flags.testBit 0) false s = (.at_ pk s.myModule t c off reg, u))
    (hst : sliceTrains u (ck t c) = false) (hso : sliceOut u (ck t c) = false)
    (hld : sliceLoad (ck t c) off (2 ^ wSize w) u = (bs, false, v)) :
    exec (.kLdc r w) s = .next (kept s (retired v r (putG k (wD w) (BitVec.ofNat 64 (leNat bs)) false) (k.pc + 8))) := by
  have hm : (s.myModule != u.myModule) = false := by
    rw [sameModule_translate htr]
    exact bne_self_eq_false _
  have hl : opLdc.legal w = true := by simp [opLdc, sizeLegal, wZero_of_fld hop, hsz]
  have hp : opLdc.fetch k w = false := by simp [opLdc, hsz, Nat.not_lt.2 hc, sizeBytes]
  have hrun : opLdc.run (coreKey r) k w s = .next (putKernel v (coreKey r) (putG k (wD w) (BitVec.ofNat 64 (leNat bs)) false)) := by
    simp only [opLdc, sizeBytes, ha, hal, hwin, htr, hm, hst, hso, hld, bne_self_eq_false, Bool.false_eq_true, if_false]
  exact (exec_run (fun _ _ _ => rfl) hi hp hl hf hrun).trans (congrArg (answer s) (retire_putKernel _ _))

end

end

/-- Settles O2, from the bytes that a sound bench reads and, for LDC, from a translation that stays in its module. -/
theorem benchLoads : Obligations.BenchLoads := by
  intro r w s k hi ha he
  refine ⟨fun hop hsz hf hal hw => ?_, fun sp va pk t c off reg bs u v hop hsz hf hal => ?_, fun hop hf hal hw => ?_,
    fun bs h41 h34 hq hf hal hw hbs v hv => ?_⟩
  · have hl : sizeLegal w = true := by simp [sizeLegal, wZero_of_fld hop, hsz]
    exact ⟨exec_benchLoad hi ha he (x := .kLd) (align := sizeBytes) (n := sizeBytes)
        (load := fun w bs k => putG k (wD w) (BitVec.ofNat 64 (leNat bs)) false) (fun _ _ _ => rfl) hl hf hal hw,
      exec_benchLoad hi ha he (x := .kLds) (align := sizeBytes) (n := sizeBytes)
        (load := fun w bs k => putG k (wD w) (BitVec.ofInt 64 (sext (8 * sizeBytes w) (leNat bs))) false)
        (fun _ _ _ => rfl) hl hf hal hw⟩
  · exact exec_kLdc hi ha hsz hal hop hf
  · exact exec_benchLoad hi ha he (load := fun w bs k => putV k (wD w) (vecOfBytes bs) false) (x := .kVld)
      (legal := vmemLegal) (regs := fun w => [wA w]) (align := fun _ => 4) (n := fun _ => 256) (fun _ _ _ => rfl)
      (wZero_of_fld hop) hf hal hw
  · have hl : (wZero w 41 39 && decide (qFmt w ≤ 0xC) && wZero w 34 32) = true := by simp [wZero_of_fld h41, wZero_of_fld h34, hq]
    subst hbs hv
    exact exec_benchLoad hi ha he (load := fun w bs k => putFlags (putV k (wD w) (widened w bs).1 false) (widened w bs).2) (x := .kVldq)
      (regs := fun w => [wA w]) (align := fun _ => 8) (n := fun w => qInBytes (qFmt w)) (fun _ _ _ => rfl) hl hf hal hw

end Sys2Proof.Proofs

namespace Sys2Proof.Proofs

open Sys2Proof Sys2Proof.Machine Sys2Proof.Spec

/-! ## The words of a descriptor (R95) -/

theorem benchRead_word {c : Core} {a n i : Nat} (h : 8 * (i + 1) ≤ n) : ((benchRead c a n).drop (8 * i)).take 8 = benchRead c (a + 8 * i) 8 := by
  refine List.ext_getElem (by simp [benchRead, upto]; omega) fun j hj hj' => ?_
  simp [benchRead, upto, Nat.add_assoc]

/-- A descriptor read of 32 bytes has the first words of one of 64. -/
theorem descPart_benchRead {c : Core} {a i : Nat} (h : i < 4) : descPart (benchRead c a 32) i = descPart (benchRead c a 64) i := by
  rw [descPart, descPart, benchRead_word (by omega), benchRead_word (by omega)]

/-- The two words of a crumb's value. -/
theorem append_eq_or (a b : Word) : (a.setWidth 128 <<< 64 ||| b.setWidth 128 : BitVec 128) = a ++ b := by
  rw [BitVec.append_def, BitVec.shiftLeftZeroExtend_eq, BitVec.setWidth'_eq]

/-! ## MOVE, CRUMB and LINKOP (O4) -/

section
variable {r : CoreRef} {w : BitVec 56} {s : State} {k : Kernel} {a : Nat} {d : CmdDesc}
  (htag : gTag k (wA w) = false) (ha : a = (gReg k (wA w)).toNat) (hd : d = descOf (benchRead (getCore s (coreKey r)) a 64))
  (he : (getCore s (coreKey r)).benchErr = [])
include htag ha hd he

theorem opMove_run {m : MoveOp} (hm : m = ⟨(getCls k 2).issued + 1, (getCore s (coreKey r)).enqSeq, d.w0, d.w1, d.w2, d.w3, false, [], [], .ok,
      k.image.flags.testBit 0, [], false⟩)
    (hwin : inWindow k a 32 = true) (hbad : moveFieldsBad m = false) (hpriv : movePrivileged m = true → k.image.flags.testBit 0 = true)
    (hin : moveInWindow k m = true) (hsv : ∀ x ∈ moveDstRange m, savedLocked (getCore s (coreKey r)) x.1 x.2 = false) :
    opMove.run (coreKey r) k w s = .next (putCore s (coreKey r) { getCore s (coreKey r) with
      kernel := some (ticketed k 2 (wD w))
      moves := (getCore s (coreKey r)).moves ++ [m]
      enqSeq := (getCore s (coreKey r)).enqSeq + 1 }) := by
  subst ha hd
  have hp : (movePrivileged m && !k.image.flags.testBit 0) = false := by
    rw [Bool.and_eq_false_iff, Bool.not_eq_false', or_iff_not_imp_left, Bool.not_eq_false]
    exact hpriv
  have hs : ((moveDstRange m).any fun r' => savedLocked (getCore s (coreKey r)) r'.1 r'.2) = false := by simpa using hsv
  subst hm
  simp only [descOf] at hbad hp hin hs
  simp only [opMove, htag, hwin, withDesc_sound he, descPart_benchRead, Nat.reduceLT, ticketIssue, hbad, hp, hin, hs, Bool.not_true,
    Bool.false_eq_true, if_false]
  rfl

theorem opCrumb_run (hwin : inWindow k a 32 = true) (hbad : crumbBad s (coreKey r) d.w0 d.w1 = false) (hin : inWindow k (fld d.w1 22 0) 16 = true)
    (hsv : savedLocked (getCore s (coreKey r)) (fld d.w1 22 0) 16 = false) (hbusy : crumbBusy s (fld d.w0 53 44) (coreKey r) = false) :
    opCrumb.run (coreKey r) k w s = .next (contribute (fld d.w0 53 44) 0
      ⟨r.tile.val, r.core.val, (getCls k 4).issued + 1, fld d.w1 22 0, fld d.w0 15 0, fld d.w0 63 56, fld d.w0 55 54 + 1, d.w3 ++ d.w2⟩
      (putKernel s (coreKey r) (ticketed k 4 (wD w)))) := by
  subst ha hd
  simp only [descOf] at hbad hin hsv hbusy
  simp only [opCrumb, htag, hwin, withDesc_sound he, descPart_benchRead, Nat.reduceLT, ticketIssue, hbad, hin, hsv, hbusy, Bool.not_true,
    Bool.false_eq_true, if_false, coreKey_tile, coreKey_core, append_eq_or]
  rfl

end

/-! ### LINKOP -/

theorem modCore_modCore (s : State) (key : Nat) (f g : Core → Core) : modCore (modCore s key f) key g = modCore s key (fun c => g (f c)) := by
  simp [modCore]

theorem collKept_linkThin (o : LinkOp) (s : State) : CollKept s (linkThin o s) := by
  refine CollKept.trans (CollKept.fold (fun u i => ?_) _ s) (CollKept.fold (fun u x => collKept_benchScan _ _ _ _) _ _)
  dsimp only
  split
  · exact CollKept.trans (u := (freeWord u).2) ⟨rfl, rfl⟩ (collKept_benchPut _ _ _ _)
  · exact collKept_benchPut _ _ _ _

theorem CollKept.suspectCode {s u : State} (h : CollKept s u) (g : CollGroup) : suspectCode u g = suspectCode s g := by
  rw [Machine.suspectCode, Machine.suspectCode, h.coll]

theorem lThins_of_not_lSends {d : CmdDesc} (h : lSends d = false) : lThins d = true := by
  rw [lSends, Bool.or_eq_false_iff, Bool.not_eq_false'] at h
  exact h.1

theorem lSends_of_not_lThins {d : CmdDesc} (h : lThins d = false) : lSends d = true := by simp [lSends, h]

/-- A LINKOP of core `key` whose descriptor and ranges pass the checks of an issue. -/
structure LinkIssues (key : Nat) (k : Kernel) (w : BitVec 56) (d : CmdDesc) (s : State) : Prop where
  untagged : gTag k (wA w) = false
  desc : d = descOf (benchRead (getCore s key) (gReg k (wA w)).toNat 64)
  sound : (getCore s key).benchErr = []
  inside : inWindow k (gReg k (wA w)).toNat 64 = true
  fields : linkBad s key d = false
  ranges : ∀ x ∈ linkRanges s key d, inWindow k x.1 x.2 = true
  apart : linkOverlaps d (linkRanges s key d) = false
  unsaved : ∀ x ∈ (linkRanges s key d).drop 1, savedLocked (getCore s key) x.1 x.2 = false
  free : findLink s (key / 64) (lGroup d) = none

/-- The operation that LINKOP takes over, before its exchanges (R347). -/
def linkBegun (key : Nat) (k : Kernel) (d : CmdDesc) (now : Nat) : LinkOp :=
  ⟨key / 64, lGroup d, key % 64, (getCls k 5).issued + 1, d, 0, 0, -150, 0, 0x7F, 0, now, [], [], [], [], [], 0, .ok, [], false⟩

/-- The core whose bench ranges an operation of its kernel has locked (R347). -/
def linkLocked (key : Nat) (k : Kernel) (w : BitVec 56) (d : CmdDesc) (s : State) : Core :=
  { getCore s key with
    kernel := some (ticketed k 5 (wD w))
    linkLocks := (getCore s key).linkLocks ++ (linkRanges s key d).map (fun x => (lGroup d, x.1, x.2)) }

/-- The link adders take over an operation whose bench ranges are locked (R347, R348). -/
def linkTake (o : LinkOp) (u : State) : State :=
  let v := if lThins o.desc then linkThin o u else u
  let code := suspectCode v (getColl v o.group)
  let u := addLink (if !lSends o.desc then { o with phase := 4, code := code, conds := [code] } else o) v
  if !lSends o.desc then u else linkArm o.tile o.group u

/-- The link adders refuse an operation (R350). -/
def linkRefuse (o : LinkOp) (u : State) : State := linkTell o .withdrawn (if lThins o.desc && lSends o.desc then linkThin o u else u)

section
variable {key : Nat} {k : Kernel} {w : BitVec 56} {d : CmdDesc} {s : State} (h : LinkIssues key k w d s)
include h

/-- LINKOP as its checks leave it. -/
theorem opLinkop_checked : opLinkop.run key k w s =
    if !linkEnabled s (key / 64) then .next (linkRefuse (linkBegun key k d s.now) (putKernel s key (ticketed k 5 (wD w))))
    else .next (linkTake (linkBegun key k d s.now) (putCore s key (linkLocked key k w d s))) := by
  have hlock : modCore (putKernel s key (ticketed k 5 (wD w))) key (fun c =>
      { c with linkLocks := c.linkLocks ++ (linkRanges s key d).map (fun x => (lGroup d, x.1, x.2)) }) = putCore s key (linkLocked key k w d s) :=
    modCore_modCore s _ _ _
  rw [← hlock]
  obtain ⟨htag, rfl, he, hin, hbad, hr, ha, hs, hfree⟩ := h
  refine (if_neg (by simp [htag])).trans ((if_neg (by simp [hin])).trans ((withDesc_sound he _ _ _).trans ?_))
  refine (congrArg (afterRead s) ((if_neg (by simp [hbad])).trans ((if_neg (by simpa using hr)).trans ((if_neg (by simp [ha])).trans
    ((if_neg (by simpa using hs)).trans (if_neg (by simp [hfree]))))))).trans ?_
  cases hen : linkEnabled s (key / 64)
  · exact congrArg (afterRead s) (if_pos (congrArg not hen))
  · exact congrArg (afterRead s) (if_neg ((Bool.not_eq_true _).mpr (congrArg not hen)))

end

section
variable {o : LinkOp} (u : State)

theorem linkTake_exchanges (h : lThins o.desc = false) : linkTake o u = linkArm o.tile o.group (addLink o u) := by
  simp [linkTake, h, lSends_of_not_lThins h]

theorem linkTake_thins (h : lThins o.desc = true) (hs : lSends o.desc = true) :
    linkTake o u = linkArm o.tile o.group (addLink o (linkThin o u)) := by
  simp [linkTake, h, hs]

/-- A step that only thins ends without an exchange, with the code of a group of which a member may be marked (R342, R348). -/
theorem linkTake_only {s : State} (hu : CollKept s u) (hs : lSends o.desc = false) : linkTake o u =
    addLink { o with phase := 4, code := suspectCode s (getColl s o.group), conds := [suspectCode s (getColl s o.group)] } (linkThin o u) := by
  have hkept : CollKept s (linkThin o u) := hu.trans (collKept_linkThin o u)
  simp [linkTake, lThins_of_not_lSends hs, hs, hkept.suspectCode, hkept.getColl]

end

section
variable {r : CoreRef} {w : BitVec 56} {s : State} {k : Kernel} (hi : Issues s r k w) (hsel : wSel w = 0) (hz : fld w 39 0 = 0)
  (hf : Final k [wD w, wA w])
include hi hsel hz hf

/-- An instruction with a descriptor at gA runs and retires. -/
theorem does_descOp {x : Isa} {op : IOp} {u : State} (hx : PresentsWork x op) (hl : op.legal w = (wSel w == 0 && wZero w 39 0))
    (hr : op.regs w = [wD w, wA w]) (hp : op.fetch k w = false) (hy : op.run (coreKey r) k w s = .next u) :
    Does (x r w) s (retire (coreKey r) (k.pc + 8) u) :=
  does_run hx hi hp (by rw [hl, hsel, wZero_of_fld hz]; rfl) (hr ▸ hf) hy rfl

section
variable {d : CmdDesc} (h : LinkIssues (coreKey r) k w d s)
include h

theorem does_kLinkop_enabled (hen : linkEnabled s (coreKey r / 64) = true) : Does (.kLinkop r w) s (retire (coreKey r) (k.pc + 8)
    (linkTake (linkBegun (coreKey r) k d s.now) (putCore s (coreKey r) (linkLocked (coreKey r) k w d s)))) := by
  refine does_descOp hi hsel hz hf (op := opLinkop) (fun _ _ _ => rfl) rfl rfl rfl ?_
  rw [opLinkop_checked h, hen]
  rfl

theorem does_kLinkop_disabled (hen : linkEnabled s (coreKey r / 64) = false) : Does (.kLinkop r w) s (retire (coreKey r) (k.pc + 8)
    (linkRefuse (linkBegun (coreKey r) k d s.now) (putKernel s (coreKey r) (ticketed k 5 (wD w))))) := by
  refine does_descOp hi hsel hz hf (op := opLinkop) (fun _ _ _ => rfl) rfl rfl rfl ?_
  rw [opLinkop_checked h, hen]
  rfl

end

end

/-- Settles O4, from the checks of each descriptor and what the unit that takes the work over makes of it. -/
theorem moveCrumbLinkop : Obligations.MoveCrumbLinkop := by
  intro r w s k a d hi hsel hz hf htag ha hd he
  refine ⟨fun m hm hwin hbad hpriv hin hsv => ?_, fun hwin hbad hin hsv hbusy => ?_, fun hwin hbad hr hov hsv hfree o u ho hu => ?_⟩
  · exact does_descOp hi hsel hz hf (fun _ _ _ => rfl) rfl rfl rfl (opMove_run htag ha hd he hm hwin hbad hpriv hin hsv)
  · exact does_descOp hi hsel hz hf (fun _ _ _ => rfl) rfl rfl rfl (opCrumb_run htag ha hd he hwin hbad hin hsv hbusy)
  · rw [← coreKey_tile r] at hfree ho
    rw [← coreKey_core r] at ho
    rw [← coreKey_tile r]
    subst a
    have h : LinkIssues (coreKey r) k w d s := ⟨htag, hd, he, hwin, hbad, hr, hov, hsv, hfree⟩
    have hu' : u = putCore s (coreKey r) (linkLocked (coreKey r) k w d s) := hu
    have ho' : o = linkBegun (coreKey r) k d s.now := ho
    subst hu' ho'
    refine ⟨fun hen ht => ?_, fun hen ht hs => ?_, fun hen hs => ?_, fun v hv hen => hv ▸ does_kLinkop_disabled hi hsel hz hf h hen⟩
    · exact linkTake_exchanges _ (o := linkBegun (coreKey r) k d s.now) ht ▸ does_kLinkop_enabled hi hsel hz hf h hen
    · exact linkTake_thins _ (o := linkBegun (coreKey r) k d s.now) ht hs ▸ does_kLinkop_enabled hi hsel hz hf h hen
    · have hkept : CollKept s (putCore s (coreKey r) (linkLocked (coreKey r) k w d s)) := ⟨rfl, rfl⟩
      exact linkTake_only _ (o := linkBegun (coreKey r) k d s.now) hkept hs ▸ does_kLinkop_enabled hi hsel hz hf h hen

end Sys2Proof.Proofs

namespace Sys2Proof.Proofs

open Sys2Proof Sys2Proof.Machine Sys2Proof.Spec

/-! ## The record of a save (R109) -/

theorem savedRecord_length (n : Nat) : (savedRecord n).length = 8704 := by
  simp only [savedRecord, List.length_flatMap, leBytes_length, List.map_const', List.sum_replicate, upto, List.length_range,
    smul_eq_mul, Nat.reduceMul]

/-- A write of whole lines reads none of them (R163). -/
theorem edgeLines_whole {off n : Nat} (ho : off % 128 = 0) (hn : n % 128 = 0) (s : State) (key : Nat) : edgeLines s key off n = [] := by
  refine List.filter_eq_nil_iff.2 fun l hl => ?_
  obtain ⟨i, hi, rfl⟩ := List.mem_map.1 (List.mem_filter.1 hl).1
  have hi' : i < (off % 128 + n + 128 - 1) / 128 := List.mem_range.1 hi
  simp only [Bool.or_eq_true, decide_eq_true_eq]
  omega

theorem sliceStore_whole {off : Nat} {bs : List Byte} (ho : off % 128 = 0) (hn : bs.length % 128 = 0) (s : State) (key : Nat) :
    sliceStore key off bs s = (false, sliceWrite key off bs (sliceAccess key (bs.length / 128) s)) := by
  have hc : cdiv (off % 128 + bs.length) 128 = bs.length / 128 := by
    unfold cdiv
    omega
  rw [sliceStore, edgeLines_whole ho hn, hc]
  rfl

/-! ## The start, save, resume and end of kernels (O43) -/

theorem kernelStartOp_starts {key : Nat} {s : State} {k : Kernel} (hk : (getCore s key).kernel = some k) (hph : k.phase = .placed)
    (hg : groupRuns s key = true) :
    kernelStartOp key s = putCore s key { getCore s key with
      kernel := some { k with
        g := (upto 15).foldl (fun g i => tset 0 g (i + 1) (BitVec.ofNat 64 (leNat ((k.args.drop (8 * i)).take 8)))) []
        gPoison := 0, gWait := 0, p := 1, v := [], vPoison := 0, pc := k.image.entry, classes := [], wake := 0, fpFlags := 0
        watchLine := 0, cycles := 0, gap := 0, blocked := none, kwriteRefused := 0, kwriteFirst := 0, trackers := [], phase := .running }
      gen := k.seed
      grants := match getSpace s k.image.space with | some x => x.grants | none => 0
      lastStream := k.stream
      lastKernel := k.image.kernelId } := by
  rw [kernelStartOp]
  simp only [hk, hph, hg, bne_self_eq_false, Bool.not_true, Bool.or_self, Bool.false_eq_true, if_false]
  rfl

/-- A core whose kernel has left it for a save slot. -/
def savedCore (slot : Nat) (k : Kernel) (c : Core) : Core :=
  { c with saved := c.saved ++ [⟨slot, { k with phase := .running }, c.gen⟩], kernel := none
           trackers := (cfgHeldApply c).trackers, preemptReq := false }

/-- The module in which the save record of a core has been written to its area, and its kernel has left it (Table 3.10). -/
def saveWritten (key slot : Nat) (k : Kernel) (s : State) : State :=
  sliceWrite key (6 * 65536 + 8704 * slot) (savedRecord s.free) (sliceAccess key 68
    { countTile (key / 64) 1 1 (putCore s key (savedCore slot k (getCore s key))) with free := s.free + 1088 })

theorem kernelSaved_saves {key slot : Nat} {s : State} {k : Kernel} (hk : (getCore s key).kernel = some k) (hph : k.phase = .saving slot)
    (hold : (getTile s (key / 64)).hold = false) (ht : sliceTrains s key = false) (hout : sliceOut s key = false) (hev : sliceEvac s key = false) :
    kernelSaved key s = some (saveWritten key slot k s) := by
  have hroom : writeRoom s key (saveArea slot) 8704 = true := by simp [writeRoom, hold]
  have halign : saveArea slot % 128 = 0 := by
    unfold saveArea
    omega
  have hlen := savedRecord_length s.free
  rw [kernelSaved]
  simp only [hk, hph, ht, hroom, hout, hev, Bool.not_true, Bool.or_self, Bool.false_eq_true, if_false,
    sliceStore_whole halign (bs := savedRecord s.free) (by rw [hlen]), hlen]
  rfl

/-- A pass of a slot that resumes re-enters its queue (R109). -/
def resumedPass (slot : Nat) (e : PassEntry) : PassEntry :=
  if e.savedSlot = some slot then { e with stage := if e.stage == .saved then .queued else e.stage, savedSlot := none, cut := false } else e

/-- No pass of the slot that resumes stays marked as saved in it (R109). -/
theorem unsavePasses_savedSlot {slot a : Nat} (c : Core) (ha : a < 2) :
    ∀ e ∈ (getArray (unsavePasses slot c) a).queue, e.savedSlot ≠ some slot := by
  have hmark (q : List PassEntry) : ∀ e ∈ q.map (resumedPass slot), e.savedSlot ≠ some slot := by
    intro e he
    obtain ⟨e', -, rfl⟩ := List.mem_map.1 he
    unfold resumedPass
    split
    · simp
    · assumption
  have hcases : a = 0 ∨ a = 1 := by omega
  rcases hcases with rfl | rfl
  · rw [unsavePasses, getArray_modArray_other (b := 0) _ _ _ (by decide), getArray_modArray]
    exact hmark _
  · rw [unsavePasses, getArray_modArray]
    exact hmark _

/-- A core to which the kernel of a save slot has returned (R109). -/
def resumedCore (slot : Nat) (x : SavedKernel) (grants : BitVec 256) (c : Core) : Core :=
  { unsavePasses slot c with
    saved := c.saved.filter (fun y => y.slot != slot), kernel := some x.k, gen := x.gen, resumeReq := none
    grants := grants, lastStream := x.k.stream, lastKernel := x.k.image.kernelId }

theorem getArray_resumedCore (slot : Nat) (x : SavedKernel) (grants : BitVec 256) (c : Core) (a : Nat) :
    getArray (resumedCore slot x grants c) a = getArray (unsavePasses slot c) a := rfl

theorem getCore_resumeOp {key slot : Nat} {s : State} {x : SavedKernel} (hk : (getCore s key).kernel = none)
    (hr : (getCore s key).resumeReq = some slot) (hg : groupRuns s key = true) (hx : (getCore s key).saved.find? (fun y => y.slot == slot) = some x) :
    getCore (resumeOp key slot s) key = resumedCore slot x (grantsFor s x.k) (getCore s key) := by
  rw [resumeOp]
  simp only [hk, hr, hg, hx, bne_self_eq_false, Bool.not_true, Bool.or_self, Bool.false_eq_true, if_false]
  rw [getCore_of_cores (logged_countReissues _ _ _).cores, Laws.getCore_putCore_same]
  rfl

end Sys2Proof.Proofs

namespace Sys2Proof.Proofs

open Sys2Proof Sys2Proof.Machine Sys2Proof.Spec

/-! ## What the commits of a kernel end leave unchanged (R105, R138, R139) -/

/-- From `c` to `d` at most the passes' marks, the scale registers and the trackers differ. -/
def Recommitted (c d : Core) : Prop := d = { c with arrays := d.arrays, scale := d.scale, trackers := d.trackers }

section
variable {c d e : Core}

theorem Recommitted.refl (c : Core) : Recommitted c c := rfl
theorem Recommitted.trans (h : Recommitted c d) (g : Recommitted d e) : Recommitted c e := by rw [Recommitted, g, h]
theorem Recommitted.kernel (h : Recommitted c d) : d.kernel = c.kernel := by rw [h]
theorem Recommitted.bench (h : Recommitted c d) : d.bench = c.bench := by rw [h]
theorem Recommitted.trap (h : Recommitted c d) : d.trap = c.trap := by rw [h]

end

theorem recommitted_commitSteps (tr : Nat) (tripped : Bool) (c : Core) : Recommitted c (commitSteps tr tripped c) := by
  unfold commitSteps
  dsimp only
  split <;> rfl

theorem recommitted_discardRun (l : List Nat) (c : Core) : Recommitted c (discardRun l c) := by
  refine foldl_related Recommitted.refl Recommitted.trans (fun c tr => ?_) l c
  dsimp only
  split <;> rfl

/-- The core `key` of `u` is that of `s` but for what commits change. -/
def CoreRecommitted (key : Nat) (s u : State) : Prop := Recommitted (getCore s key) (getCore u key)

section
variable {key : Nat} {s u v : State}

theorem CoreRecommitted.refl (s : State) : CoreRecommitted key s s := Recommitted.refl _
theorem CoreRecommitted.trans (h : CoreRecommitted key s u) (g : CoreRecommitted key u v) : CoreRecommitted key s v :=
  Recommitted.trans h g

theorem coreRecommitted_putCore {c : Core} (h : Recommitted (getCore s key) c) : CoreRecommitted key s (putCore s key c) := by
  rw [CoreRecommitted, Laws.getCore_putCore_same]
  exact h

theorem Logged.coreRecommitted (h : Logged s u) : CoreRecommitted key s u := by
  rw [CoreRecommitted, getCore_of_cores h.cores]
  rfl

theorem getCore_raise_modCore (ev : EvRec) (s : State) (f : Core → Core) : getCore (raise ev (modCore s key f)) key = f (getCore s key) :=
  (getCore_of_cores (logged_raise _ _).cores key).trans (Laws.getCore_putCore_same _ _ _)

theorem coreRecommitted_commitOrDefer (tr : Nat) (tripped : Bool) (s : State) : CoreRecommitted key s (commitOrDefer key tr tripped s) := by
  unfold commitOrDefer
  dsimp only
  split
  · exact coreRecommitted_putCore rfl
  · exact coreRecommitted_putCore (recommitted_commitSteps _ _ _)

theorem coreRecommitted_commitTracker (tr : Nat) (s : State) : CoreRecommitted key s (commitTracker key tr s).1 := by
  have hmark (t : Tracker) : CoreRecommitted key s (putCore s key (putTracker (getCore s key) tr t)) := coreRecommitted_putCore rfl
  unfold commitTracker
  dsimp only
  split
  · exact .refl s
  · split
    · exact (hmark _).trans (coreRecommitted_commitOrDefer _ _ _)
    · exact (((hmark _).trans (logged_count _ _ _).coreRecommitted).trans (logged_raise _ _).coreRecommitted).trans
        (coreRecommitted_commitOrDefer _ _ _)

theorem coreRecommitted_commitRun (s : State) : CoreRecommitted key s (commitRun key s).1 := by
  refine foldl_related (R := fun p q : State × List TripReport => CoreRecommitted key p.1 q.1) (fun p => .refl p.1) CoreRecommitted.trans
    (fun p tr => ?_) _ (s, [])
  have h := coreRecommitted_commitTracker (key := key) tr p.1
  split <;> rename_i heq <;> rw [heq] at h <;> exact h

theorem coreRecommitted_commitDeferred (s : State) : CoreRecommitted key s (commitDeferred key s) := by
  refine coreRecommitted_putCore (foldl_related Recommitted.refl Recommitted.trans (fun c p => ?_) _ _)
  dsimp only
  split
  · rfl
  · exact recommitted_commitSteps _ _ _

theorem coreRecommitted_kwriteEvent (k : Kernel) (s : State) : CoreRecommitted key s (kwriteEvent key k s) := by
  unfold kwriteEvent
  split
  · exact .refl s
  · exact (logged_raise _ _).coreRecommitted

end

/-! ## The end of a kernel (R105) -/

/-- The trap register after the end of a kernel: the record of a trap, else what it held. -/
def endTrap (e : EndKind) (old : Word) : Word :=
  match e with
  | .trap cause imm pc => pack [(48, imm), (40, codeNum (causeCode cause)), (32, causeNum cause), (31, 1), (0, pc % 2 ^ 20)]
  | _ => old

/-- A kernel end that has settled its commits in `u` leaves no kernel in its core, its bench as it was and the record of its trap. -/
structure EndsIn (key : Nat) (e : EndKind) (s u : State) : Prop where
  kernel : (getCore u key).kernel = none
  bench : (getCore u key).bench = (getCore s key).bench
  trap : (getCore u key).trap = endTrap e (getCore s key).trap

section
variable {key : Nat} {s u : State} {e : EndKind}

theorem endsIn_cleared (hb : (getCore u key).bench = (getCore s key).bench) (ht : (getCore u key).trap = endTrap e (getCore s key).trap) :
    EndsIn key e s (commitDeferred key (modCore u key (fun c => { c with kernel := none }))) := by
  have h := coreRecommitted_commitDeferred (key := key) (modCore u key (fun c => { c with kernel := none }))
  have hc : getCore (modCore u key (fun c => { c with kernel := none })) key = { getCore u key with kernel := none } :=
    Laws.getCore_putCore_same _ _ _
  rw [CoreRecommitted, hc] at h
  exact ⟨h.kernel, h.bench.trans hb, h.trap.trans ht⟩

theorem kernelEnd_ends {k : Kernel} (hk : (getCore s key).kernel = some k) (hph : k.phase = .ending e) (hr : endReady (getCore s key) k e = true) :
    ∃ code trips u, kernelEnd key s = some (k, code, trips, u) ∧ EndsIn key e s u := by
  have hbegun : CoreRecommitted key s (kwriteEvent key k (modCore s key cfgHeldApply)) := by
    have hcfg : CoreRecommitted key s (modCore s key cfgHeldApply) := coreRecommitted_putCore rfl
    exact hcfg.trans (coreRecommitted_kwriteEvent _ _)
  rw [kernelEnd]
  simp only [hk, hph, hr, Bool.not_true, Bool.false_eq_true, if_false]
  cases e with
  | fin =>
    have h := hbegun.trans (coreRecommitted_commitRun _)
    exact ⟨_, _, _, rfl, endsIn_cleared h.bench h.trap⟩
  | withdrawn =>
    have h := hbegun.trans (coreRecommitted_putCore (recommitted_discardRun k.trackers _))
    exact ⟨_, _, _, rfl, endsIn_cleared h.bench h.trap⟩
  | trap cause imm pc =>
    have horphan (c : Core) : Recommitted c (orphanPasses c) := rfl
    have h := hbegun.trans (coreRecommitted_putCore ((recommitted_discardRun k.trackers _).trans (horphan _)))
    rw [CoreRecommitted, Laws.getCore_putCore_same] at h
    exact ⟨_, _, _, rfl, endsIn_cleared ((congrArg Core.bench (getCore_raise_modCore ..)).trans h.bench)
      (congrArg Core.trap (getCore_raise_modCore ..))⟩

theorem kernelEndCompleteOp_ends {k : Kernel} (hk : (getCore s key).kernel = some k) (hph : k.phase = .ending e)
    (hr : endReady (getCore s key) k e = true) :
    EndsIn key e s (kernelEndCompleteOp key s) ∧ (getCore (kernelEndCompleteOp key s) key).preemptReq = false := by
  obtain ⟨code, trips, u, hend, hu⟩ := kernelEnd_ends hk hph hr
  have hc : getCore (kernelEndCompleteOp key s) key = { getCore u key with preemptReq := false } := by
    rw [kernelEndCompleteOp]
    simp only [hend]
    exact Laws.getCore_putCore_same _ _ _
  rw [hc]
  refine ⟨⟨?_, ?_, ?_⟩, rfl⟩ <;> rw [hc]
  · exact hu.kernel
  · exact hu.bench
  · exact hu.trap

end

theorem kernelLife : Sys2Proof.Spec.KernelLife := by
  intro r s hm
  refine ⟨fun k hk hph hg => ?_, fun k slot hk hph hold ht hout hev => ?_, fun slot x hk hreq hg hx => ?_, fun k e hk hph hr => ?_⟩
  · exact does_onMain rfl hm (kernelStartOp_starts hk hph hg)
  · rw [← coreKey_tile r] at hold ⊢
    have hop : preemptSaveCompleteOp (coreKey r) s = saveWritten (coreKey r) slot k s := by
      rw [preemptSaveCompleteOp, kernelSaved_saves hk hph hold ht hout hev, Option.getD_some]
    exact does_onMain rfl hm hop
  · have hc := getCore_resumeOp hk hreq hg hx
    refine ⟨_, does_onMain rfl hm rfl, ?_⟩
    rw [hc]
    refine ⟨rfl, rfl, rfl, rfl, fun a ha => ?_⟩
    rw [getArray_resumedCore]
    exact unsavePasses_savedSlot _ ha
  · obtain ⟨h, hp⟩ := kernelEndCompleteOp_ends hk hph hr
    refine ⟨_, does_onMain rfl hm rfl, h.kernel, hp, h.bench, fun cause imm pc he => ?_, fun he => ?_⟩
    · rw [h.trap, he, endTrap]
    · rw [h.trap]
      rcases he with rfl | rfl <;> rfl

end Sys2Proof.Proofs

namespace Sys2Proof.Proofs

open Sys2Proof Sys2Proof.Machine Sys2Proof.Spec

/-! ## The end of a move (O43) -/

/-- Whether a move reaches the pages of a tin (Table 3.6). -/
def movePaged (m : MoveOp) : Bool := mKind m == 3 || mKind m == 4

section
variable {key ticket : Nat} {s : State} {k : Kernel} {m : MoveOp} (hk : (getCore s key).kernel = some k)
  (hfind : (getCore s key).moves.find? (fun x => x.ticket == ticket) = some m) (hst : m.started = true) (htodo : m.todo = []) (haw : m.await = [])
  (hlock : moveLocked (getCore s key) m = false) (hshift : inShift s key = false)
include hk hfind hst htodo haw hlock hshift

/-- A move of which nothing is outstanding, and whose pages translate, does what lies in this module and ends. -/
theorem moveCompleteOp_ends {rp : RegPath} {code : Code} {t u : State} (hfail : (codeFailed m.code && movePaged m) = false)
    (hpages : (if movePaged m then movePages key k m true s else (false, .ok, s)) = (false, .ok, u))
    (hlocal : moveLocal rp key k m u = some (code, t)) :
    moveCompleteOp rp key ticket s = moveEnd key m (codeMerge m.code code) (moveFlush key m t) := by
  unfold movePaged at hfail hpages
  rw [moveCompleteOp]
  simp only [hfind, hk, hst, htodo, haw, hlock, hshift, hfail, hpages, hlocal, List.isEmpty_nil, Bool.not_true,
    Bool.or_self, Bool.false_eq_true, if_false]

end

/-- One row of a copy within a bench, between cores (R96). -/
def copyRow (m : MoveOp) (c : Core) (i : Nat) : Core :=
  benchWrite c (m.w2.toNat + i * fld m.w3 31 0) (benchRead c (m.w1.toNat + i * fld m.w3 63 32) (mRow m))

theorem benchWrite_sound {c : Core} (h : c.benchErr = []) (o : Nat) (bs : List Byte) : (benchWrite c o bs).benchErr = [] := by
  unfold benchWrite
  rw [h]
  dsimp only
  split
  · rfl
  · split <;> rfl

/-- The rows of a copy within a sound bench are read and written one after another. -/
theorem getCore_foldl_copyRow {key : Nat} {m : MoveOp} (l : List Nat) {s : State} (h : (getCore s key).benchErr = []) :
    getCore (l.foldl (fun s r =>
      let (src, dst) := mRowAddrs m r
      let (bs, s) := benchLoad key src (mRow m) s
      modCore s key (fun c => benchWrite c dst bs)) s) key = l.foldl (copyRow m) (getCore s key) := by
  induction l generalizing s with
  | nil => rfl
  | cons i l ih =>
    have hrow : getCore (modCore s key (fun c => copyRow m c i)) key = copyRow m (getCore s key) i := Laws.getCore_putCore_same _ _ _
    simp only [List.foldl_cons, mRowAddrs, benchLoad_sound h]
    rw [← hrow]
    exact ih (hrow ▸ benchWrite_sound h _ _)

theorem moveEnd_ends {key : Nat} {m : MoveOp} {code : Code} {t : State} {k : Kernel} (hc : codeFailed code = false)
    (hk : (getCore t key).kernel = some k) (hw : (getCore t key).writes = []) :
    moveEnd key m code t = putCore t key { getCore t key with
        moves := (getCore t key).moves.filter (fun x => x.ticket != m.ticket)
        kernel := some { ticketEnd k 2 m.ticket code with wake := if mNotify m then k.wake ||| 2 else k.wake } } := by
  refine (if_neg (by simp [hc])).trans (congrArg (putCore t key) ((applyWaiting_of_none ?_).trans ?_))
  · exact hw
  · simp only [modKernel, hk, Option.map_some]
    cases mNotify m <;> rfl

theorem moveCompletes : Sys2Proof.Spec.MoveCompletes := by
  intro r ticket s k m hm hk hfind hst htodo haw hlock hshift
  have hends {code : Code} {t u : State} := moveCompleteOp_ends (rp := regPath) (code := code) (t := t) (u := u) hk hfind hst htodo haw hlock hshift
  refine ⟨fun code t h3 h4 hl => ?_, fun code t u hkind hf hp hl => ?_, fun h2 he => ?_, fun t code k' hc hk' hw => moveEnd_ends hc hk' hw⟩
  · have hpaged : movePaged m = false := by simp [movePaged, h3, h4]
    exact does_onMain rfl hm (hends (by rw [hpaged, Bool.and_false]) (by rw [hpaged]; rfl) hl)
  · have hpaged : movePaged m = true := by simpa [movePaged] using hkind
    exact does_onMain rfl hm (hends (by rw [hf, Bool.false_and]) (by rw [hpaged]; exact hp) hl)
  · exact ⟨_, if_pos h2, congrArg Core.bench (getCore_foldl_copyRow _ he)⟩

/-- Settles O43, from what a save, a resumption and the commits of an end leave in a core, and the rows of a move in their order. -/
theorem kernelsAndMoves : Obligations.KernelsAndMoves := ⟨kernelLife, moveCompletes⟩

end Sys2Proof.Proofs

namespace Sys2Proof.Proofs

open Sys2Proof Sys2Proof.Machine Sys2Proof.Spec

/-! ## The locks of scale registers and a kernel's writes of them (R67, R134) -/

theorem scaleLocked_eq_false_iff {c : Core} {i n : Nat} :
    scaleLocked c i n = false ↔ ∀ e ∈ allPasses c, anyOverlap (passScales e.desc) i n = false := by
  simp [scaleLocked]

theorem savedScaleLocked_eq_true_iff {c : Core} {i n : Nat} : savedScaleLocked c i n = true ↔
    ∃ e ∈ allPasses c, e.stage = .saved ∧ ∃ x ∈ passScales e.desc, rangesOverlap x.1 x.2 i n = true := by
  simp [savedScaleLocked, anyOverlap]

/-- A register that no pass locks, no saved pass locks. -/
theorem savedScaleLocked_of_unlocked {c : Core} {i n : Nat} (h : scaleLocked c i n = false) : savedScaleLocked c i n = false := by
  rw [savedScaleLocked, List.any_eq_false]
  intro e he
  simp [scaleLocked_eq_false_iff.1 h e he]

theorem kwriteViolates_one (c : Core) (k : Kernel) (n : Nat) : kwriteViolates c k n 1 = (kwriteOk c k n && savedScaleLocked c n 1) := by
  simp [kwriteViolates, upto]

/-- The kernel may write scale register `n`, and no pass locks it. -/
def Writable (c : Core) (k : Kernel) (n : Nat) : Prop := kwriteOk c k n = true ∧ scaleLocked c n 1 = false

theorem kwriteViolates_of_writable {c : Core} {k : Kernel} {i n : Nat} (h : ∀ j < n, Writable c k (i + j)) : kwriteViolates c k i n = false := by
  rw [kwriteViolates, List.any_eq_false]
  intro j hj
  simp [savedScaleLocked_of_unlocked (h j (List.mem_range.1 hj)).2]

section
variable {key n : Nat} {x : Word32} {s : State} {k : Kernel} (hk : (getCore s key).kernel = some k)
include hk

theorem kwrite_applies (h : Writable (getCore s key) k n) :
    kwrite key s (n, x) = putCore s key { getCore s key with scale := tset scaleInit (getCore s key).scale n x } := by
  obtain ⟨hok, hlock⟩ := h
  simp [kwrite, hk, hok, hlock]

theorem kwrite_refused (h : kwriteOk (getCore s key) k n = false) : kwrite key s (n, x) = countCore key 10 1 (putKernel s key { k with
    kwriteRefused := k.kwriteRefused + 1, kwriteFirst := if k.kwriteRefused = 0 then n else k.kwriteFirst }) := by
  simp [kwrite, hk, h]

end

/-- Writes of scale registers that are all writable are applied one after another: a write changes no kernel, window or lock. -/
theorem foldl_kwrite {key n : Nat} {x : Nat → Word32} {k : Kernel} {l : List Nat} (hl : l ≠ []) {s : State}
    (hk : (getCore s key).kernel = some k) (h : ∀ i ∈ l, Writable (getCore s key) k (n + i)) :
    l.foldl (fun s i => kwrite key s (n + i, x i)) s = putCore s key { getCore s key with
      scale := l.foldl (fun t i => tset scaleInit t (n + i) (x i)) (getCore s key).scale } := by
  induction l generalizing s with
  | nil => exact absurd rfl hl
  | cons i l ih =>
    obtain ⟨hi, hrest⟩ := List.forall_mem_cons.1 h
    rw [List.foldl_cons, List.foldl_cons, kwrite_applies hk hi]
    cases l with
    | nil => rfl
    | cons j l =>
      rw [ih (List.cons_ne_nil _ _) (by rw [Laws.getCore_putCore_same]; exact hk) (by rw [Laws.getCore_putCore_same]; exact hrest),
        Laws.getCore_putCore_same, Laws.putCore_putCore]

/-! ## The scale bank (O40: R132–R134, R104) -/

section
variable {r : CoreRef} {w : BitVec 56} {s : State} {k : Kernel} (hi : Issues s r k w) (ha : gTag k (wA w) = false)
  (hf : Final k [wD w, wA w, wB w])
include hi ha hf

section
variable (hz : fld w 41 0 = 0)
include hz

theorem exec_kKld (hn : gReg k (wA w) < 4096) : exec (.kKld r w) s = .next (retired s r
    (putG k (wD w) ((scaleReg (getCore s (coreKey r)) (gReg k (wA w)).toNat).setWidth 64) false) (k.pc + 8)) := by
  have hn' : ¬ 4096 ≤ (gReg k (wA w)).toNat := Nat.not_le.2 (BitVec.lt_def.1 hn)
  have hregs : Final k (opKld.regs w) := fun i h => hf i (List.mem_of_mem_take (i := 2) h)
  exact (exec_run (op := opKld) (fun _ _ _ => rfl) hi rfl (wZero_of_fld hz) hregs ((if_neg hn').trans (if_neg (by simp [ha])))).trans
    (answer_retire_putKernel _ _)

variable (hn : gReg k (wA w) ≤ 4032)
include hn

omit hi ha hf hz in
theorem not_beyond_bank : ¬ 4096 ≤ (gReg k (wA w)).toNat + 63 := by
  have hn' : (gReg k (wA w)).toNat ≤ 4032 := BitVec.le_def.1 hn
  omega

omit hi ha hz hn in
theorem final_gA : Final k [wA w] := fun i h => hf i (by simp [List.mem_singleton.1 h])

theorem exec_kVkld : exec (.kVkld r w) s = .next (retired s r
    (putV k (wD w) (ofLanes (fun i => scaleReg (getCore s (coreKey r)) ((gReg k (wA w)).toNat + i))) false) (k.pc + 8)) :=
  (exec_run (op := opVkld) (fun _ _ _ => rfl) hi rfl (wZero_of_fld hz) (final_gA hf)
    ((if_neg (not_beyond_bank hn)).trans (if_neg (by simp [ha])))).trans (answer_retire_putKernel _ _)

theorem exec_kVkst (ht : vTag k (wD w) = false)
    (hw : ∀ i < 64, Writable (getCore s (coreKey r)) k ((gReg k (wA w)).toNat + i)) :
    exec (.kVkst r w) s = .next (retire (coreKey r) (k.pc + 8) (putCore s (coreKey r) { getCore s (coreKey r) with
      scale := (upto 64).foldl (fun t i => tset scaleInit t ((gReg k (wA w)).toNat + i) (lane (vReg k (wD w)) i))
        (getCore s (coreKey r)).scale })) := by
  have hrun : opVkst.run (coreKey r) k w s =
      .next ((upto 64).foldl (fun s i => kwrite (coreKey r) s ((gReg k (wA w)).toNat + i, lane (vReg k (wD w)) i)) s) :=
    (if_neg (not_beyond_bank hn)).trans ((if_neg (by simp [ha, ht])).trans (if_neg (by simp [kwriteViolates_of_writable hw])))
  rw [foldl_kwrite (l := upto 64) (by decide) hi.kernel fun i h => hw i (List.mem_range.1 h)] at hrun
  exact (exec_run (op := opVkst) (fun _ _ _ => rfl) hi rfl (wZero_of_fld hz) (final_gA hf) hrun).trans
    (answer_retire _ _ rfl rfl rfl)

end

section
variable (hz : fld w 51 47 = 0) (hz' : fld w 36 0 = 0) (hn : gReg k (wA w) < 4096) (hb : gTag k (wB w) = false)
include hz hz' hn hb

/-- KST as the checks of its operands leave it. -/
theorem exec_kKst : exec (.kKst r w) s = answer s (issueEnd (coreKey r) k s
    (if kwriteOk (getCore s (coreKey r)) k (gReg k (wA w)).toNat && savedScaleLocked (getCore s (coreKey r)) (gReg k (wA w)).toNat 1
      then .trap .lockViolation 0
      else .next (kwrite (coreKey r) s ((gReg k (wA w)).toNat, (gReg k (wB w)).setWidth 32)))) := by
  have hn' : ¬ 4096 ≤ (gReg k (wA w)).toNat := Nat.not_le.2 (BitVec.lt_def.1 hn)
  have hregs : Final k (opKst.regs w) := fun i h => hf i (List.mem_cons_of_mem _ h)
  rw [← kwriteViolates_one]
  exact exec_run (op := opKst) (fun _ _ _ => rfl) hi rfl (by simp [opKst, wZero_of_fld hz, wZero_of_fld hz']) hregs
    ((if_neg hn').trans (if_neg (by simp [ha, hb])))

theorem exec_kKst_applies (hw : Writable (getCore s (coreKey r)) k (gReg k (wA w)).toNat) :
    exec (.kKst r w) s = .next (retire (coreKey r) (k.pc + 8) (putCore s (coreKey r) { getCore s (coreKey r) with
      scale := tset scaleInit (getCore s (coreKey r)).scale (gReg k (wA w)).toNat ((gReg k (wB w)).setWidth 32) })) := by
  rw [exec_kKst hi ha hf hz hz' hn hb, if_neg (by simp [savedScaleLocked_of_unlocked hw.2]), kwrite_applies hi.kernel hw]
  exact answer_retire _ _ rfl rfl rfl

theorem exec_kKst_refused (hok : kwriteOk (getCore s (coreKey r)) k (gReg k (wA w)).toNat = false) :
    exec (.kKst r w) s = .next (kept s (retire (coreKey r) (k.pc + 8) (countCore (coreKey r) 10 1 (putKernel s (coreKey r) { k with
      kwriteRefused := k.kwriteRefused + 1
      kwriteFirst := if k.kwriteRefused = 0 then (gReg k (wA w)).toNat else k.kwriteFirst })))) := by
  rw [exec_kKst hi ha hf hz hz' hn hb, if_neg (by simp [hok]), kwrite_refused hi.kernel hok]
  rfl

theorem exec_kKst_traps (hok : kwriteOk (getCore s (coreKey r)) k (gReg k (wA w)).toNat = true)
    (hs : savedScaleLocked (getCore s (coreKey r)) (gReg k (wA w)).toNat 1 = true) :
    exec (.kKst r w) s = .next (kept s (takeTrap (coreKey r) .lockViolation 0 s)) := by
  rw [exec_kKst hi ha hf hz hz' hn hb, if_pos (by simp [hok, hs])]
  rfl

end

end

theorem scaleBank : Sys2Proof.Spec.ScaleBank := fun _ _ _ _ hi ha hf =>
  ⟨exec_kKld hi ha hf, exec_kVkld hi ha hf,
    fun hz hz' hn hb hok hlock => exec_kKst_applies hi ha hf hz hz' hn hb ⟨hok, hlock⟩, exec_kKst_refused hi ha hf,
    fun hz hz' hn hb hok hs => exec_kKst_traps hi ha hf hz hz' hn hb hok (savedScaleLocked_eq_true_iff.2 hs), exec_kVkst hi ha hf⟩

/-! ## The special registers and the geometry registers (O40: R103, R115) -/

section
variable {s : State} {r : CoreRef} {k : Kernel} {p : Nat × Word} (hp : p ∈ specials s r k)
include hp

/-- The numbers of Table 3.8. -/
theorem specials_number : p.1 ≤ 0x0A ∨ 0x10 ≤ p.1 ∧ p.1 ≤ 0x15 := by
  revert p
  simp [specials]

/-- A special register reads as Table 3.8 lists it. -/
theorem specialRead_of_mem : specialRead s (coreKey r) k p.1 = some p.2 := by
  have hcore : BitVec.ofNat 64 (s.myModule <<< 11 + (coreKey r / 64) <<< 6 + coreKey r % 64) =
      BitVec.ofNat 64 (s.myModule * 2 ^ 11 + r.tile.val * 2 ^ 6 + r.core.val) := by
    rw [coreKey_tile, coreKey_core, Nat.shiftLeft_eq, Nat.shiftLeft_eq]
  have hpreempt : BitVec.ofNat 64 (b2n (getCore s (coreKey r)).preemptReq) = if (getCore s (coreKey r)).preemptReq then 1 else 0 := by
    cases (getCore s (coreKey r)).preemptReq <;> rfl
  have hclock : BitVec.ofNat 64 (getGroup s (coreKey r / 64) (groupOf (coreKey r))).mhz =
      BitVec.ofNat 64 (getGroup s r.tile.val (r.core.val / 16)).mhz := by
    rw [coreKey_tile, coreKey_group]
  revert p
  simp only [specials, List.forall_mem_cons]
  exact ⟨rfl, rfl, congrArg some hcore, rfl, rfl, rfl, congrArg some (BitVec.ofNat_toNat _ _), rfl, congrArg some hpreempt,
    congrArg some hclock, rfl, rfl, rfl, rfl, rfl, rfl, rfl, fun _ h => nomatch h⟩

end

/-- The low seven bits of WATCH_LINE drop. -/
theorem and_not_lowSeven (v : Word) : v &&& ~~~(0x7F#64) = (v >>> 7) <<< 7 := by
  rw [BitVec.shiftLeft_ushiftRight]
  rfl

/-- An immediate below 256 has its upper bits zero. -/
theorem fld_upper_eq_zero {w : BitVec 56} (h : fld w 31 0 < 256) : fld w 31 8 = 0 := by
  simp only [fld, nbits, Nat.shiftRight_eq_div_pow] at h ⊢
  omega

/-- An immediate whose upper bits are zero is its low byte. -/
theorem wImmU_eq_low {w : BitVec 56} (h : fld w 31 8 = 0) : wImmU w = fld w 7 0 := by
  simp only [wImmU, fld, nbits, Nat.shiftRight_eq_div_pow] at h ⊢
  omega

section
variable {r : CoreRef} {w : BitVec 56} {s : State} {k : Kernel} (hi : Issues s r k w)
include hi

theorem does_kRsr {p : Nat × Word} (hp : p ∈ specials s r k) (hz : fld w 46 32 = 0) (hn : fld w 31 0 = p.1) (hf : Final k [wD w]) :
    Does (.kRsr r w) s (retired s r (putG k (wD w) p.2 false) (k.pc + 8)) := by
  have hlisted := specials_number hp
  have himm : wImmU w = p.1 := hn
  have hupper : fld w 31 8 = 0 := fld_upper_eq_zero (by omega)
  have hl : opRsr.legal w = true := by simpa [opRsr, wZero_of_fld hz, wZero_of_fld hupper, himm] using hlisted
  have hrun : opRsr.run (coreKey r) k w s = .next (putKernel s (coreKey r) (putG k (wD w) p.2 false)) := by
    simp only [opRsr, himm, specialRead_of_mem hp]
  exact does_retired hi (fun _ _ _ => rfl) rfl hl hf hrun

section
variable (hz : fld w 51 47 = 0) (hz' : fld w 41 32 = 0) (hf : Final k [wA w]) (ha : gTag k (wA w) = false)
include hz hz' hf ha

theorem does_kWsr_fpFlags (hn : fld w 31 0 = 6) :
    Does (.kWsr r w) s (retired s r { k with fpFlags := (gReg k (wA w)).setWidth 5 } (k.pc + 8)) := by
  have himm : wImmU w = 6 := hn
  exact does_retired hi (op := opWsr) (fun _ _ _ => rfl) rfl (by simp [opWsr, wZero_of_fld hz, wZero_of_fld hz', himm]) hf
    ((if_neg (by simp [ha])).trans (if_pos himm))

theorem does_kWsr_watchLine (hn : fld w 31 0 = 7) :
    Does (.kWsr r w) s (retired s r { k with watchLine := (gReg k (wA w) >>> 7) <<< 7 } (k.pc + 8)) := by
  have himm : wImmU w = 7 := hn
  rw [← and_not_lowSeven]
  exact does_retired hi (op := opWsr) (fun _ _ _ => rfl) rfl (by simp [opWsr, wZero_of_fld hz, wZero_of_fld hz', himm]) hf
    ((if_neg (by simp [ha])).trans (if_neg (by simp [himm])))

end

theorem does_kGeo (hz : fld w 46 32 = 0) (hz' : fld w 31 8 = 0) (hf : Final k [wD w]) :
    Does (.kGeo r w) s (retired s r (putG k (wD w) (geometry.getD (fld w 7 0) 0) false) (k.pc + 8)) := by
  rw [← wImmU_eq_low hz']
  exact does_retired hi (op := opGeo) (fun _ _ _ => rfl) rfl (by simp [opGeo, regOp, wZero_of_fld hz, wZero_of_fld hz']) hf rfl

end

theorem specialRegisters : Sys2Proof.Spec.SpecialRegisters := fun _ _ _ _ hi =>
  ⟨fun _ => does_kRsr hi, fun hz hz' hf ha => ⟨does_kWsr_fpFlags hi hz hz' hf ha, does_kWsr_watchLine hi hz hz' hf ha⟩, does_kGeo hi⟩

/-- Settles O40, from the three outcomes of a kernel's write of a scale register and the values of Table 3.8. -/
theorem scalesAndSpecialRegisters : Obligations.ScalesAndSpecialRegisters := ⟨scaleBank, specialRegisters⟩

end Sys2Proof.Proofs

namespace Sys2Proof.Proofs

open Sys2Proof Sys2Proof.Machine Sys2Proof.Spec

/-! ## A write of a core's register that must wait (R68, R135) -/

/-- The state in which the keeper holds one register write more that waits. -/
def queueWork (x : RegWork) (s : State) : State := { s with keeper := { s.keeper with works := s.keeper.works ++ [x] } }

section
variable {rq : Requester} {r : CoreRef} {s : State} {off : Nat} {v : Word}

theorem groupBusy_queueWork (t g : Nat) (x : RegWork) : groupBusy t g (queueWork x s) = queueWork x (groupBusy t g s) := by
  rw [groupBusy, groupBusy, apply_ite (queueWork x)]
  rfl

/-- A write that an awake core's register does not take yet joins the works of the keeper, and its group's time towards Nap starts again. -/
theorem coreRegOp_waits (hp : CorePath rq s r) (ho : off < 2 ^ 36) (hw : coreRegWrite rq (coreKey r) off v s = none) :
    coreRegOp rq (coreKey r) off v s = groupBusy r.tile.val (r.core.val / 16)
      (queueWork ⟨rq, [], [(ownAddr s r.tile.val r.core.val 2 off, v)], 0, .ok, s.now⟩ s) := by
  have ht : r.tile.val < 32 := by omega
  have hc := r.core.isLt
  have hsp : 2 < 8 := by decide
  have haddr : BitVec.ofNat 64 (gpaMake s.myModule (coreKey r / 64) (coreKey r % 64) 2 off) = ownAddr s r.tile.val r.core.val 2 off := by
    rw [coreKey_tile, coreKey_core, ownAddr]
  have hpath : pathWrite s rq (ownAddr s r.tile.val r.core.val 2 off).toNat v = none := by
    have hck : ck r.tile.val r.core.val = coreKey r := rfl
    have h30 : r.tile.val ≠ 30 := by omega
    simp [pathWrite, regWrite, spaceKnown, gTile_ownAddr ht hc hsp ho, gCore_ownAddr ht hc hsp ho, gSpace_ownAddr ht hc hsp ho,
      gOff_ownAddr ht hc hsp ho, hp.awake, hck, hw, h30]
  rw [groupBusy_queueWork, ← groupBusy_now r.tile.val (r.core.val / 16) s, coreRegOp, haddr]
  exact regWriteOp_waits hp.writer hpath (regWake_own r.tile.isLt hc (.inr rfl) ho hp.awake)

end

/-! ## AMAX_CFG_WRITE and SCALE_K_WRITE (R135, R150) -/

section
variable {rq : Requester} {key tr : Nat} {v : Word} {s : State}

theorem coreRegWrite_amaxCfg (n : Fin 256) : coreRegWrite rq key (0x6000 + 0x10 * n.val) v s = some (amaxCfgWriteOp key n.val v s) := by
  have hn := n.isLt
  have hscale : ¬ 0x6000 + 0x10 * n.val < 0x5000 := by omega
  have hreserved : ¬ 0x6000 + 0x10 * n.val < 0x6000 := by omega
  have htracker : 0x6000 + 0x10 * n.val < 0x7000 := by omega
  have hblock : 0x6000 + 0x10 * n.val < 0x8000 := by omega
  have halign : (0x6000 + 0x10 * n.val) % 16 = 0 := by omega
  have hindex : (0x6000 + 0x10 * n.val - 0x6000) / 16 = n.val := by omega
  have hfirst : ¬ 0x6000 + 0x10 * n.val < 0x1000 := by omega
  rw [coreRegWrite, if_neg hfirst, if_neg hscale, if_neg hreserved, if_pos hblock, trackerWrite, if_pos (by simp [htracker, halign]), hindex]

theorem coreRegWrite_scaleK (n : Fin 4096) : coreRegWrite rq key (0x1000 + 4 * n.val) v s = scaleWrite key n.val (v.setWidth 32) s := by
  have hn := n.isLt
  have hfirst : ¬ 0x1000 + 4 * n.val < 0x1000 := by omega
  have hscale : 0x1000 + 4 * n.val < 0x5000 := by omega
  have halign : (0x1000 + 4 * n.val) % 4 = 0 := by omega
  have hindex : (0x1000 + 4 * n.val - 0x1000) / 4 = n.val := by omega
  rw [coreRegWrite, if_neg hfirst, if_pos hscale, if_pos halign, hindex]

theorem amaxCfgWriteOp_refused (h : amaxCfgOk v = false) : amaxCfgWriteOp key tr v s = ends .rejected s := if_pos (by simp [h])

theorem amaxCfgWriteOp_held (h : amaxCfgOk v = true) {k : Kernel} (hk : (getCore s key).kernel = some k) :
    amaxCfgWriteOp key tr v s = ends .ok (putCore s key (putTracker (getCore s key) tr
      { getTracker (getCore s key) tr with held := some v })) := by
  simp [amaxCfgWriteOp, h, modCore, hk]

theorem amaxCfgWriteOp_applied (h : amaxCfgOk v = true) (hk : (getCore s key).kernel = none) :
    amaxCfgWriteOp key tr v s = ends .ok (putCore s key (putTracker (getCore s key) tr (cfgApply v (getTracker (getCore s key) tr)))) := by
  simp [amaxCfgWriteOp, h, modCore, hk, cfgApply, trackerInit]

end

section
variable {rq : Requester} {r : CoreRef} {s : State} (hp : CorePath rq s r)
include hp

/-- A write of AMAX_CFG has the effect of its operation, which leaves the groups. -/
theorem does_amaxCfgWrite {n : Fin 256} {v : Word} {u : State} (hu : amaxCfgWriteOp (coreKey r) n.val v s = u) (hg : u.groups = s.groups) :
    Does (.amaxCfgWrite rq r n v) s (groupBusy r.tile.val (r.core.val / 16) u) := by
  have hn := n.isLt
  exact does_coreReg hp rfl (by omega) ((coreRegWrite_amaxCfg n).trans (congrArg some hu)) ((groupAsleep_of_groups hg _ _).trans hp.awake)

section
variable {n : Fin 4096} {v : BitVec 32}

omit hp in
theorem coreRegWrite_scaleWord : coreRegWrite rq (coreKey r) (0x1000 + 4 * n.val) (v.setWidth 64) s = scaleWrite (coreKey r) n.val v s := by
  rw [coreRegWrite_scaleK, BitVec.setWidth_setWidth_of_le v (by decide), BitVec.setWidth_eq]

theorem does_scaleKWrite_applies (h : scaleLocked (getCore s (coreKey r)) n.val 1 = false) :
    Does (.scaleKWrite rq r n v) s (groupBusy r.tile.val (r.core.val / 16) (ends .ok (putCore s (coreKey r) { getCore s (coreKey r) with
      scale := tset scaleInit (getCore s (coreKey r)).scale n.val v }))) := by
  have hn := n.isLt
  exact does_coreReg hp rfl (by omega) (coreRegWrite_scaleWord.trans (if_neg (by simp [h]))) ((groupAsleep_of_groups rfl _ _).trans hp.awake)

theorem does_scaleKWrite_waits (h : scaleLocked (getCore s (coreKey r)) n.val 1 = true) :
    Does (.scaleKWrite rq r n v) s (groupBusy r.tile.val (r.core.val / 16) { s with keeper := { s.keeper with works := s.keeper.works ++
      [⟨rq, [], [(BitVec.ofNat 64 (gpaMake s.myModule r.tile.val r.core.val 2 (0x1000 + 4 * n.val)), v.setWidth 64)], 0, .ok, s.now⟩] } }) := by
  have hn := n.isLt
  exact does_onMain rfl hp.on (coreRegOp_waits hp (by omega) (coreRegWrite_scaleWord.trans (if_pos h)))

end

end

/-! ## The charges of a window and the pins (R147, R148) -/

theorem wideChargeWindowEndOp_ends {t : Nat} {s : State} (hf : (getTin s t).state ≠ .free) (hw : 1024 ≤ (getTin s t).windowSteps) :
    wideChargeWindowEndOp t s = (((getTin s t).charges.filter
        (fun c => decide ((getTin s t).wideAllow < c.2.1) && decide ((getTin s t).wideAllow < c.2.2))).map (·.1)).foldl (fun u l => pinTin t l u)
      (modTin s t (fun x => { x with
        windowSteps := x.windowSteps - 1024
        charges := (x.charges.filter (fun c => c.2.1 != 0)).map (fun c => (c.1, 0, c.2.1)) })) :=
  if_neg (by simp [hf, hw])

section
variable {t layer : Nat} {u : State}

theorem pinTin_pinned (h : (getTin u t).pinAll = true ∨ layer ∈ (getTin u t).pins) : pinTin t layer u = u := if_pos (by simpa using h)

section
variable (ha : (getTin u t).pinAll = false) (hl : layer ∉ (getTin u t).pins)
include ha hl

theorem pinTin_adds (hn : (getTin u t).pins.length < 64) : pinTin t layer u =
    raise (mkEv 0x0402 clsNotice 0 7 30 0 evW2 (pack [(48, layer), (32, t)])) (modTin u t (fun x => { x with pins := x.pins ++ [layer] })) := by
  have hfull : decide (64 ≤ (getTin u t).pins.length) = false := decide_eq_false (Nat.not_le.2 hn)
  refine (if_neg (by simp [ha, hl])).trans ?_
  simp only [hfull, Bool.false_eq_true, if_false]

theorem pinTin_full (hn : 64 ≤ (getTin u t).pins.length) : pinTin t layer u =
    raise (mkEv 0x0402 clsNotice 0 7 30 0 evW2 (pack [(48, 0xFFFF), (32, t)])) (modTin u t (fun x => { x with pins := [], pinAll := true })) := by
  have hfull : decide (64 ≤ (getTin u t).pins.length) = true := decide_eq_true hn
  refine (if_neg (by simp [ha, hl])).trans ?_
  simp only [hfull, if_true]

end

end

theorem trackerCommands : Sys2Proof.Spec.TrackerCommands := by
  refine ⟨fun rq r n v s hp => ⟨fun hok k hk => ?_, fun hok hk => ?_, fun hok => ?_⟩,
    fun rq r n v s hp => ⟨does_scaleKWrite_applies hp, does_scaleKWrite_waits hp⟩, fun tin s x above hon hx hf hw ha => ?_,
    fun t layer u => ⟨pinTin_pinned, pinTin_adds, pinTin_full⟩⟩
  · exact does_amaxCfgWrite hp (amaxCfgWriteOp_held hok hk) rfl
  · exact does_amaxCfgWrite hp (amaxCfgWriteOp_applied hok hk) rfl
  · exact does_amaxCfgWrite hp (amaxCfgWriteOp_refused hok) rfl
  · subst hx ha
    exact does_onMain rfl hon (wideChargeWindowEndOp_ends hf hw)

/-! ## The commit of a tracker (R139) -/

theorem trK_le (t : Tracker) : trK t ≤ 16 := by
  simp only [trK, fld, nbits]
  omega

/-- The scale that a commit sets from the largest magnitude of a history (step 3 of R139). -/
def commitScale (c : Core) (t : Tracker) (h : Word32) : Word32 :=
  if isZero h then scaleReg c (trScale t) else clampScale (fDiv (fRound false (quaricMax (trTarget t) * trMargin t) 256).1 h)

/-- The tracker that a commit leaves with its new history: the pending values cleared and one commit more (step 5 of R139). -/
def committed (t : Tracker) (hist : List Word32) : Tracker := { trClear { t with hist := hist } with commitSeq := t.commitSeq + 1 }

/-- What a commit without a trip leaves with RECIP_EN, FOLDED and WIDE_PENDING 0. -/
theorem commitSteps_narrow {c : Core} {tr : Nat} {t : Tracker} (ht : t = getTracker c tr) (hr : bit t.cfg 1 = false)
    (hw : t.widePending = false) (hf : trFolded t = false) : commitSteps tr false c =
    putTracker { c with scale := tset scaleInit c.scale (trScale t) (commitScale c t (magMax ((t.pendingAmax :: t.hist).take (trK t)))) } tr
      (committed t ((t.pendingAmax :: t.hist).take 16)) := by
  have htake : ((t.pendingAmax :: t.hist).take 16).take (trK t) = (t.pendingAmax :: t.hist).take (trK t) := by
    rw [List.take_take, Nat.min_eq_left (trK_le t)]
  simp only [commitSteps, ← ht, hr, hw, hf, Bool.or_false, Bool.false_eq_true, if_false, htake]
  rfl

theorem trackerCommit : Sys2Proof.Spec.TrackerCommit := by
  intro c tr t ht hr hw hf
  have hsame (c : Core) (x : Tracker) : getTracker (putTracker c tr x) tr = x := Laws.tget_tput_same _ _ _ _
  rw [commitSteps_narrow ht hr hw hf, hsame]
  exact ⟨rfl, rfl, rfl, rfl, rfl, fun _ hj => Laws.tget_tput_other _ _ _ hj, rfl, rfl⟩

/-- Settles O45, from the writes of a core's registers, the pins of a tin, and the tracker and scale that a commit leaves. -/
theorem trackers : Obligations.Trackers := ⟨trackerCommands, trackerCommit⟩

end Sys2Proof.Proofs

namespace Sys2Proof.Proofs

open Sys2Proof Sys2Proof.Machine Sys2Proof.Spec

/-! ## The state after reset (O32) -/

theorem regRead_resetValues : ∀ x ∈ resetValues,
    (regRead State.reset .keeper (gpaMake State.reset.myModule x.1 x.2.1 x.2.2.1 x.2.2.2.1)).1 = BitVec.ofNat 64 x.2.2.2.2 := by
  decide +kernel

/-- Settles O32: the listed registers by evaluation, and the sparse tables because reset lists nothing in them. -/
theorem resetState : Obligations.ResetState :=
  ⟨regRead_resetValues, fun _ _ => ⟨rfl, rfl, rfl⟩, rfl⟩

end Sys2Proof.Proofs

namespace Sys2Proof.Proofs

open Sys2Proof Sys2Proof.Machine Sys2Proof.Spec

/-! ## The record of a slice -/

theorem getSlice_of_slices {s u : State} (h : u.slices = s.slices) (key : Nat) : getSlice u key = getSlice s key := by
  rw [getSlice, h]
  rfl

@[simp] theorem getSlice_modSlice (s : State) (key : Nat) (f : Slice → Slice) : getSlice (modSlice s key f) key = f (getSlice s key) :=
  Laws.tget_tput_same _ _ _ _

theorem getSlice_modSlice_other (s : State) {key k : Nat} (f : Slice → Slice) (h : k ≠ key) : getSlice (modSlice s key f) k = getSlice s k :=
  Laws.tget_tput_other _ _ _ h

theorem modSlice_modSlice (s : State) (key : Nat) (f g : Slice → Slice) :
    modSlice (modSlice s key f) key g = modSlice s key (fun x => g (f x)) := by
  rw [modSlice, getSlice_modSlice]
  simp [modSlice, putSlice]

@[simp] theorem getTile_modSlice (s : State) (key t : Nat) (f : Slice → Slice) : getTile (modSlice s key f) t = getTile s t := rfl

theorem Logged.slices {s u : State} (h : Logged s u) : u.slices = s.slices := by rw [h]

@[simp] theorem getSlice_countSlice (key i n k : Nat) (s : State) : getSlice (countSlice key i n s) k = getSlice s k :=
  getSlice_of_slices (logged_count _ _ _).slices k

theorem sliceFault_slices (key type level : Nat) (w2 w3 : Word) (code : Code) (s : State) :
    (sliceFault key type level w2 w3 code s).slices = s.slices := (logged_raise _ _).slices

@[simp] theorem getSlice_sliceFault (key type level k : Nat) (w2 w3 : Word) (code : Code) (s : State) :
    getSlice (sliceFault key type level w2 w3 code s) k = getSlice s k := getSlice_of_slices (sliceFault_slices _ _ _ _ _ _ _) k

/-- What a read finds of a line rests on the stored cells and the held writes alone. -/
theorem lineQueued_congr {s u : State} {key : Nat} (h : (getSlice u key).heldWrites = (getSlice s key).heldWrites) (line : Nat) :
    lineQueued u key line = lineQueued s key line := by
  rw [lineQueued, h]
  rfl

theorem lineBad_congr {s u : State} {key : Nat} (hb : (getSlice u key).bad = (getSlice s key).bad)
    (hh : (getSlice u key).heldWrites = (getSlice s key).heldWrites) (line : Nat) : lineBad u key line = lineBad s key line := by
  rw [lineBad, hb, lineQueued_congr hh]
  rfl

end Sys2Proof.Proofs

namespace Sys2Proof.Proofs

open Sys2Proof Sys2Proof.Machine Sys2Proof.Spec

/-! ## The lines of a write -/

/-- The slice in which a line write is stored (R158, R163, R170). -/
def lineStored (now : Nat) (w : Nat × List Byte) (x : Slice) : Slice :=
  { x with
    data := memWrite x.data w.1 w.2
    lastAccess := now
    state := if x.state = 3 then 1 else x.state
    scrubPending := if x.scrubPending = some (w.1 / 128) then none else x.scrubPending
    bad := if w.2.length = 128 then tdel x.bad (w.1 / 128) else x.bad }

section LineWrite

variable {key : Nat} {s : State} {w : Nat × List Byte}

/-- A write of a part of an uncorrectable line leaves its cells (R163). -/
theorem sliceWriteLine_refused (hn : w.2.length < 128) (hb : lineBad s key (w.1 / 128) = true) : sliceWriteLine key s w = sliceAccess key 0 s := by
  rw [sliceWriteLine, if_pos (by simp [hn, hb])]

/-- Any other line write into a stack that holds no writes is stored. -/
theorem sliceWriteLine_stored (hold : (getTile s (key / 64)).hold = false) (h : lineBad s key (w.1 / 128) = true → 128 ≤ w.2.length) :
    sliceWriteLine key s w = modSlice s key (lineStored s.now w) := by
  have hn : ¬(w.2.length < 128 ∧ lineBad s key (w.1 / 128) = true) := fun hp => Nat.not_lt.2 (h hp.2) hp.1
  rw [sliceWriteLine, if_neg (by simpa using hn), if_neg (by simp [hold])]
  rfl

variable (hold : (getTile s (key / 64)).hold = false)
include hold

theorem sliceWriteLine_cases : sliceWriteLine key s w = sliceAccess key 0 s ∨ sliceWriteLine key s w = modSlice s key (lineStored s.now w) := by
  by_cases h : w.2.length < 128 ∧ lineBad s key (w.1 / 128) = true
  · exact .inl (sliceWriteLine_refused h.1 h.2)
  · exact .inr (sliceWriteLine_stored hold fun hb => Nat.not_lt.1 fun hn => h ⟨hn, hb⟩)

theorem sliceWriteLine_hold : (getTile (sliceWriteLine key s w) (key / 64)).hold = false := by
  rcases sliceWriteLine_cases (w := w) hold with h | h <;> rw [h] <;> exact hold

theorem sliceWriteLine_other {k : Nat} (hk : k ≠ key) : getSlice (sliceWriteLine key s w) k = getSlice s k := by
  rcases sliceWriteLine_cases (w := w) hold with h | h <;> rw [h] <;> exact getSlice_modSlice_other _ _ hk

theorem sliceWriteLine_outside {a : Nat} (ha : a < w.1 ∨ w.1 + w.2.length ≤ a) :
    tget 0 (getSlice (sliceWriteLine key s w) key).data a = tget 0 (getSlice s key).data a := by
  rcases sliceWriteLine_cases (w := w) hold with h | h <;> rw [h]
  · simp [sliceAccess]
  · rw [getSlice_modSlice]
    rcases ha with ha | ha
    · exact Laws.memWrite_before _ _ ha
    · exact Laws.memWrite_after _ _ ha

/-- A write makes no line uncorrectable. -/
theorem lineBad_of_sliceWriteLine {l : Nat} (hl : lineBad (sliceWriteLine key s w) key l = true) : lineBad s key l = true := by
  rcases sliceWriteLine_cases (w := w) hold with h | h <;> rw [h] at hl
  · rwa [lineBad_congr (s := s) (by simp [sliceAccess]) (by simp [sliceAccess])] at hl
  · have hq : lineQueued (modSlice s key (lineStored s.now w)) key l = lineQueued s key l := lineQueued_congr (by simp [lineStored]) l
    rw [lineBad, hq, getSlice_modSlice] at hl
    obtain ⟨hbad, hfree⟩ := Bool.and_eq_true_iff.1 hl
    refine Bool.and_eq_true_iff.2 ⟨?_, hfree⟩
    by_cases hw : w.2.length = 128
    · by_cases hlw : l = w.1 / 128
      · simp [lineStored, hw, hlw] at hbad
      · simpa [lineStored, hw, Laws.tget_tdel_other _ _ hlw] using hbad
    · simpa [lineStored, hw] using hbad

end LineWrite

/-- The lines of a write one after the other: the rest is split from the next line on. -/
theorem lineSplit_succ {fuel off : Nat} {bs : List Byte} (h : bs ≠ []) :
    lineSplit (fuel + 1) off bs = (off, bs.take (128 - off % 128)) ::
      lineSplit fuel (off + (128 - off % 128)) (bs.drop (128 - off % 128)) := by
  rw [lineSplit, if_neg (by simpa using h)]

theorem lineSplit_nil (fuel off : Nat) : lineSplit fuel off [] = [] := by
  cases fuel <;> rfl

/-- A write that stays within one line is one line write. -/
theorem lineSplit_single {off : Nat} {bs : List Byte} (h : bs ≠ []) (hn : off % 128 + bs.length ≤ 128) :
    lineSplit (bs.length + 1) off bs = [(off, bs)] := by
  rw [lineSplit_succ h, List.take_of_length_le (by omega), List.drop_of_length_le (by omega), lineSplit_nil]

/-- The lines of a write lie in its range. -/
theorem lineSplit_within {fuel off : Nat} {bs : List Byte} {w : Nat × List Byte} (h : w ∈ lineSplit fuel off bs) :
    off ≤ w.1 ∧ w.1 + w.2.length ≤ off + bs.length := by
  induction fuel generalizing off bs with
  | zero => simp [lineSplit] at h
  | succ fuel ih =>
    by_cases hb : bs = []
    · simp [hb, lineSplit] at h
    · rw [lineSplit_succ hb] at h
      rcases List.mem_cons.1 h with rfl | h
      · simp only [List.length_take]
        omega
      · have hrest : bs.drop (128 - off % 128) ≠ [] := fun hnil => by simp [hnil, lineSplit_nil] at h
        have hlen : 128 - off % 128 < bs.length := by simpa using hrest
        have hin := ih h
        rw [List.length_drop] at hin
        omega

/-! ## A write to a slice (O8) -/

section SliceWrite

variable {key : Nat}

/-- What every line write of a stack without held writes keeps, a write keeps. -/
theorem foldl_sliceWriteLine {P : State → Prop} {ws : List (Nat × List Byte)} {s : State} (hold : (getTile s (key / 64)).hold = false)
    (hs : P s) (hstep : ∀ w ∈ ws, ∀ u, (getTile u (key / 64)).hold = false → P u → P (sliceWriteLine key u w)) :
    P (ws.foldl (sliceWriteLine key) s) := by
  refine (List.foldlRecOn (motive := fun u => (getTile u (key / 64)).hold = false ∧ P u) ws _ ⟨hold, hs⟩ ?_).2
  exact fun u hu w hw => ⟨sliceWriteLine_hold hu.1, hstep w hw u hu.1 hu.2⟩

theorem lineSplit_foldl_outside {fuel off a : Nat} {bs : List Byte} {s : State} (hold : (getTile s (key / 64)).hold = false)
    (ha : a < off ∨ off + bs.length ≤ a) :
    tget 0 (getSlice ((lineSplit fuel off bs).foldl (sliceWriteLine key) s) key).data a = tget 0 (getSlice s key).data a := by
  refine foldl_sliceWriteLine (P := fun u => tget 0 (getSlice u key).data a = tget 0 (getSlice s key).data a) hold rfl fun w hw u hu hP => ?_
  have hin := lineSplit_within hw
  exact (sliceWriteLine_outside hu (by omega)).trans hP

/-- A range that meets a line replaces it whole. -/
def MeetsWhole (off n l : Nat) : Prop := 128 * l + 128 ≤ off ∨ off + n ≤ 128 * l ∨ (off ≤ 128 * l ∧ 128 * l + 128 ≤ off + n)

/-- A write that replaces whole each uncorrectable line it meets leaves its bytes, line by line. -/
theorem lineSplit_foldl_at {fuel off i : Nat} {bs : List Byte} {s : State} (hold : (getTile s (key / 64)).hold = false)
    (hfuel : bs.length < fuel) (hbad : ∀ l, lineBad s key l = true → MeetsWhole off bs.length l) (h : i < bs.length) :
    tget 0 (getSlice ((lineSplit fuel off bs).foldl (sliceWriteLine key) s) key).data (off + i) = bs[i] := by
  induction fuel generalizing off bs s i with
  | zero => omega
  | succ fuel ih =>
    have hb : bs ≠ [] := List.ne_nil_of_length_pos (by omega)
    rw [lineSplit_succ hb, List.foldl_cons]
    generalize hn : 128 - off % 128 = n
    have hhold := sliceWriteLine_hold (w := (off, bs.take n)) hold
    by_cases hi : i < n
    · have hwhole : lineBad s key (off / 128) = true → 128 ≤ (bs.take n).length := fun hl => by
        have hsp : MeetsWhole off bs.length (off / 128) := hbad _ hl
        simp only [MeetsWhole, List.length_take] at hsp ⊢
        omega
      rw [lineSplit_foldl_outside hhold (.inl (by omega)), sliceWriteLine_stored hold hwhole, getSlice_modSlice]
      have hlen : i < (bs.take n).length := by
        simp only [List.length_take]
        omega
      exact (Laws.memWrite_at (bs.take n) _ off i hlen).trans List.getElem_take
    · have hrest : ∀ l, lineBad (sliceWriteLine key s (off, bs.take n)) key l = true → MeetsWhole (off + n) (bs.drop n).length l := fun l hl => by
        have hsp : MeetsWhole off bs.length l := hbad l (lineBad_of_sliceWriteLine hold hl)
        simp only [MeetsWhole, List.length_drop] at hsp ⊢
        omega
      have hat := ih (off := off + n) (bs := bs.drop n) (i := i - n) hhold (by rw [List.length_drop]; omega) hrest
        (by rw [List.length_drop]; omega)
      have hi' : n + (i - n) = i := by omega
      rw [Nat.add_assoc, hi'] at hat
      simpa [hi'] using hat

end SliceWrite

/-- Settles O8, from what one line write leaves in its slice and the lines that a write consists of. -/
theorem sliceMemory : Obligations.SliceMemory := by
  intro key off bs s hold
  refine ⟨fun hbad i h => ?_, fun a ha => ?_, fun k hk => ?_, fun l ho hn => ?_, fun hl hfit hn => ?_⟩
  · exact lineSplit_foldl_at hold (Nat.lt_succ_self _) hbad h
  · exact lineSplit_foldl_outside hold ha
  · exact foldl_sliceWriteLine (P := fun u => getSlice u k = getSlice s k) hold rfl fun w _ u hu hP => (sliceWriteLine_other hu hk).trans hP
  · have hb : bs ≠ [] := List.ne_nil_of_length_pos (by omega)
    rw [sliceWrite, lineSplit_single hb (by omega), List.foldl_cons, List.foldl_nil,
      sliceWriteLine_stored hold fun _ => hn.ge, getSlice_modSlice]
    split
    · next hlo => simp [lineStored, hn, hlo]
    · next hlo => simp [lineStored, hn, Laws.tget_tdel_other _ _ hlo]
  · by_cases hb : bs = []
    · rw [sliceWrite, hb, lineSplit_nil, List.foldl_nil]
      exact ⟨rfl, rfl⟩
    · rw [sliceWrite, lineSplit_single hb hfit, List.foldl_cons, List.foldl_nil, sliceWriteLine_refused hn hl]
      simp [sliceAccess]

end Sys2Proof.Proofs

namespace Sys2Proof.Proofs

open Sys2Proof Sys2Proof.Machine Sys2Proof.Spec

/-! ## What a read finds of a line (R158, R162, R163) -/

section Decode

variable {key line : Nat} {errs : SymbolErrors} {s u : State}

/-- From `s` to `u` nothing changes that decides how a line of a slice is read. -/
structure SameLines (key : Nat) (s u : State) : Prop where
  bad : (getSlice u key).bad = (getSlice s key).bad
  held : (getSlice u key).heldWrites = (getSlice s key).heldWrites
  erased : (getSlice u key).erased = (getSlice s key).erased

theorem sameLines_touched (key : Nat) (s : State) : SameLines key s (touched s key) := by
  constructor <;> simp [touched]

theorem SameLines.hardErrors (h : SameLines key s u) : hardErrors u key errs = hardErrors s key errs := by
  rw [Spec.hardErrors, h.erased]
  rfl

theorem SameLines.queued (h : SameLines key s u) : lineQueued u key line = lineQueued s key line := lineQueued_congr h.held line

theorem SameLines.correctable (h : SameLines key s u) : Correctable u key line errs ↔ Correctable s key line errs := by
  rw [Correctable, h.queued, h.bad, h.hardErrors, h.erased]
  rfl

/-- Without an error in its symbols a line reads unless it is marked uncorrectable. -/
theorem correctable_nil (h : tget false (getSlice s key).bad line = false) : Correctable s key line [] := by
  have hnone : (hardErrors s key []).length = 0 := rfl
  refine .inr ⟨h, ?_⟩
  rw [hnone]
  split <;> omega

/-- A line that the cells or the queue give as it stands is delivered with no bookkeeping. -/
theorem decodeLine_delivers (hc : Correctable s key line errs) (h : hardErrors s key errs = [] ∨ lineQueued s key line = true) :
    decodeLine key line errs s = (true, false, s) := by
  by_cases hq : lineQueued s key line = true
  · rw [decodeLine, if_pos hq]
  · have he := h.resolve_right hq
    obtain ⟨hbad, hroom⟩ := hc.resolve_left hq
    rw [hardErrors] at he
    rw [hardErrors, he] at hroom
    rw [decodeLine, if_neg hq, he, if_neg (by simpa [lineBad, hbad] using hroom)]
    rfl

theorem decodeLine_corrects (hc : Correctable s key line errs) (he : hardErrors s key errs ≠ []) (hq : lineQueued s key line = false) :
    decodeLine key line errs s = (true, true,
      correctedAccess key line ((if (getSlice s key).erased.isSome then 10 else 0) != 0) (hardErrors s key errs) s) := by
  have hq' : ¬lineQueued s key line = true := by simp [hq]
  obtain ⟨hbad, hroom⟩ := hc.resolve_left hq'
  rw [hardErrors] at he hroom
  rw [decodeLine, if_neg hq', if_neg (by simpa [lineBad, hbad] using hroom), if_neg (by simpa using he)]
  rfl

theorem decodeLine_fails (hc : ¬Correctable s key line errs) : decodeLine key line errs s = (false, false, lineFailed key s line) := by
  have hq : ¬lineQueued s key line = true := fun hq => hc (.inl hq)
  have hq' : lineQueued s key line = false := Bool.eq_false_iff.2 hq
  rw [decodeLine, if_neg hq, if_pos]
  rw [Bool.or_eq_true, decide_eq_true_eq, lineBad, hq', Bool.not_false, Bool.and_true]
  by_cases hbad : tget false (getSlice s key).bad line = true
  · exact .inl hbad
  · exact .inr (Nat.not_le.1 fun hroom => hc (.inr ⟨Bool.eq_false_iff.2 hbad, hroom⟩))

end Decode

end Sys2Proof.Proofs

namespace Sys2Proof.Proofs

open Sys2Proof Sys2Proof.Machine Sys2Proof.Spec

/-! ## The bookkeeping of a corrected access (Table 5.3, R164, R165) -/

section Corrected

variable {key line : Nat} {s u v : State}

/-- From `s` to `u` a slice keeps its bytes, its uncorrectable marks and its error log. -/
structure CellsKept (key : Nat) (s u : State) : Prop where
  data : (getSlice u key).data = (getSlice s key).data
  bad : (getSlice u key).bad = (getSlice s key).bad
  errLog : (getSlice u key).errLog = (getSlice s key).errLog

theorem CellsKept.refl (key : Nat) (s : State) : CellsKept key s s := ⟨rfl, rfl, rfl⟩

theorem CellsKept.trans (h : CellsKept key s u) (g : CellsKept key u v) : CellsKept key s v :=
  ⟨g.data.trans h.data, g.bad.trans h.bad, g.errLog.trans h.errLog⟩

theorem cellsKept_of_slices (h : u.slices = s.slices) : CellsKept key s u := by
  constructor <;> rw [getSlice_of_slices h]

theorem cellsKept_modSlice {f : Slice → Slice} (hd : (f (getSlice s key)).data = (getSlice s key).data)
    (hb : (f (getSlice s key)).bad = (getSlice s key).bad) (he : (f (getSlice s key)).errLog = (getSlice s key).errLog) :
    CellsKept key s (modSlice s key f) := by
  constructor <;> rw [getSlice_modSlice] <;> assumption

theorem cellsKept_foldl {α : Type} {f : State → α → State} (hf : ∀ s a, CellsKept key s (f s a)) (l : List α) (s : State) :
    CellsKept key s (l.foldl f s) :=
  List.foldlRecOn (motive := fun u => CellsKept key s u) l f (.refl key s) fun u hu a _ => hu.trans (hf u a)

theorem leaseAsk_slices (act tile unit_ : Nat) (a : LeaseAct) (auto : Bool) (s : State) : (leaseAsk act tile unit_ a auto s).2.slices = s.slices := by
  have hconflict : (countHearth 11 1 s).slices = s.slices := (logged_count _ _ _).slices
  unfold leaseAsk
  dsimp only
  split
  · split
    · cases auto <;> rfl
    · rfl
  · cases auto <;> rfl
  · split
    · cases auto <;> rfl
    · rfl
  · cases auto <;> exact hconflict

theorem cellsKept_enterEvacuate (layer cause : Nat) (s : State) : CellsKept key s (enterEvacuate key layer cause s) := by
  unfold enterEvacuate
  dsimp only
  split
  · exact .refl key s
  · have hstate : CellsKept key s (modSlice s key (fun x => { x with state := 4 })) := cellsKept_modSlice rfl rfl rfl
    exact hstate.trans (cellsKept_of_slices ((leaseAsk_slices _ _ _ _ _ _).trans (sliceFault_slices _ _ _ _ _ _ _)))

theorem cellsKept_eraseLayer (layer cause : Nat) (s : State) : CellsKept key s (eraseLayer key layer cause s) := by
  unfold eraseLayer
  split
  · have hmark : CellsKept key s (modSlice s key (fun x => { x with erased := some layer })) := cellsKept_modSlice rfl rfl rfl
    exact hmark.trans (cellsKept_of_slices (sliceFault_slices _ _ _ _ _ _ _))
  · split
    · exact .refl key s
    · exact cellsKept_enterEvacuate layer cause s

theorem cellsKept_laneFailed (layer lane : Nat) (s : State) : CellsKept key s (laneFailed key layer lane s) := by
  unfold laneFailed
  dsimp only
  have hforget : CellsKept key s (modSlice s key (fun x =>
      { x with laneErr := x.laneErr.filter (fun e => !(e.1 == layer && e.2.1 == lane)) })) := cellsKept_modSlice rfl rfl rfl
  refine hforget.trans ?_
  generalize modSlice s key _ = u
  have hask : (leaseAsk 2 (key / 64) (key % 64) (.laneSpare key layer lane true) true u).2.slices = u.slices := leaseAsk_slices _ _ _ _ _ _
  split
  · split
    · exact .refl key u
    · split <;> rename_i heq <;> rw [heq] at hask
      · exact (cellsKept_of_slices hask).trans (cellsKept_modSlice rfl rfl rfl)
      · exact cellsKept_of_slices hask
  · exact cellsKept_eraseLayer layer 1 u

/-- The SLICE_ERR_LOG word that a corrected access writes (Table 5.3). -/
def correctedLog (line : Nat) (erasure : Bool) (syms : List (Nat × Byte)) : Word :=
  pack [(40, line), (31, 1), (29, b2n erasure), (24, syms.length), (20, symLayer (syms.foldl (fun m e => min m e.1) 159))]

/-- A corrected access leaves the cells and writes its word of SLICE_ERR_LOG, whatever its lanes and layers come to. -/
theorem cellsKept_correctedAccess (erasure : Bool) (syms : List (Nat × Byte)) (s : State) :
    CellsKept key (modSlice s key (fun x => { x with errLog := correctedLog line erasure syms })) (correctedAccess key line erasure syms s) := by
  unfold correctedAccess
  dsimp only
  refine CellsKept.trans (u := countSlice key 0 1 (countSlice key 1 syms.length (modSlice s key _))) ?_
    ((cellsKept_foldl (fun s e => ?_) _ _).trans (cellsKept_foldl (fun s l => ?_) _ _))
  · constructor <;> simp [correctedLog]
  · split
    · split
      · refine CellsKept.trans ?_ (cellsKept_laneFailed _ _ _)
        exact cellsKept_modSlice rfl rfl rfl
      · exact cellsKept_modSlice rfl rfl rfl
    · exact .refl key s
  · split
    · exact cellsKept_eraseLayer l 2 s
    · exact .refl key s

end Corrected

end Sys2Proof.Proofs

namespace Sys2Proof.Proofs

open Sys2Proof Sys2Proof.Machine Sys2Proof.Spec

/-! ## Slice accesses (O46) -/

section Access

variable {key line : Nat} {op : SliceOp} {errs : SymbolErrors} {cmd : CommandLanes} {s u : State}

theorem not_sparesTables_read : ¬¬SparesTables s key line .read := not_not.2 (.inl rfl)

theorem sparesTables_writeLine {data : List Byte} :
    SparesTables s key line (.writeLine data) ↔ ¬touchesTables s key (128 * line) 128 = true := by
  simp [SparesTables, writtenBytes]

theorem sparesTables_writePart {off : Fin 128} {data : List Byte} :
    SparesTables s key line (.writePart off data) ↔ ¬touchesTables s key (128 * line + off.val) (data.take (128 - off.val)).length = true := by
  simp [SparesTables, writtenBytes, Nat.min_comm]

/-- A slice that serves takes an access: it is trained and does not train (R167). -/
theorem serves_taken (h : Serves s key) :
    ¬((getSlice s key).state = 0 || (getSlice s key).state = 2 || (getSlice s key).trainBusy.isSome) = true := by
  obtain ⟨hstate, hbusy⟩ := h
  rw [hbusy]
  rcases hstate with h | h | h <;> simp [h]

theorem serves_inService (h : Serves s key) : (getSlice s key).state ≠ 5 := by
  rcases h.1 with h | h | h <;> simp [h]

/-- A stack that holds no writes makes none wait. -/
theorem not_held (hold : (getTile s (key / 64)).hold = false) :
    ¬((getTile (touched s key) (key / 64)).hold && !holdRoom (touched s key) key 1) = true := by
  rw [touched, getTile_modSlice, hold, Bool.false_and]
  exact Bool.false_ne_true

/-- A slice out of service ends every access that spares the tables with POISONED. -/
theorem sliceAccessOp_outOfService (h5 : (getSlice s key).state = 5) (hb : (getSlice s key).trainBusy = none) (ht : SparesTables s key line op) :
    sliceAccessOp key line op errs cmd s = ends .poisoned s := by
  have htaken : ¬((getSlice s key).state = 0 || (getSlice s key).state = 2 || (getSlice s key).trainBusy.isSome) = true := by
    simp [h5, hb]
  cases op with
  | read => rw [sliceAccessOp, if_neg htaken, Option.any_none, if_neg Bool.false_ne_true, if_pos h5]
  | writeLine data => rw [sliceAccessOp, if_neg htaken, Option.any_some, if_neg (sparesTables_writeLine.1 ht), if_pos h5]
  | writePart off data => rw [sliceAccessOp, if_neg htaken, Option.any_some, if_neg (sparesTables_writePart.1 ht), if_pos h5]

section Serves

variable (hs : Serves s key)
include hs

theorem sliceAccessOp_keyFault (ht : ¬SparesTables s key line op) : sliceAccessOp key line op errs cmd s = ends .keyFault s := by
  cases op with
  | read => exact absurd ht not_sparesTables_read
  | writeLine data =>
    rw [sparesTables_writeLine, not_not] at ht
    rw [sliceAccessOp, if_neg (serves_taken hs), Option.any_some, if_pos ht]
  | writePart off data =>
    rw [sparesTables_writePart, not_not] at ht
    rw [sliceAccessOp, if_neg (serves_taken hs), Option.any_some, if_pos ht]

/-- A read whose command word goes on ends as the decode of its line ends. -/
theorem sliceAccessOp_read (hc : commandWord key cmd (touched s key) = (true, u)) : sliceAccessOp key line .read errs cmd s =
    ends (if (decodeLine key line errs u).1 then .ok else .poisoned) (decodeLine key line errs u).2.2 := by
  have hc' : commandWord key cmd (sliceTouch key s) = (true, u) := hc
  rw [sliceAccessOp, if_neg (serves_taken hs), Option.any_none, if_neg Bool.false_ne_true, if_neg (serves_inService hs), hc']

theorem sliceAccessOp_commandFault (ht : SparesTables s key line op) (hc : commandWord key cmd (touched s key) = (false, u)) :
    sliceAccessOp key line op errs cmd s = ends .poisoned u := by
  have hc' : commandWord key cmd (sliceTouch key s) = (false, u) := hc
  cases op with
  | read => rw [sliceAccessOp, if_neg (serves_taken hs), Option.any_none, if_neg Bool.false_ne_true, if_neg (serves_inService hs), hc']
  | writeLine data =>
    rw [sliceAccessOp, if_neg (serves_taken hs), Option.any_some, if_neg (sparesTables_writeLine.1 ht), if_neg (serves_inService hs), hc']
  | writePart off data =>
    rw [sliceAccessOp, if_neg (serves_taken hs), Option.any_some, if_neg (sparesTables_writePart.1 ht), if_neg (serves_inService hs), hc']

theorem sliceAccessOp_evacuates (h4 : (getSlice s key).state = 4) (hop : op ≠ .read) (ht : SparesTables s key line op) :
    sliceAccessOp key line op errs [] s = ends .rejected (touched s key) := by
  cases op with
  | read => exact absurd rfl hop
  | writeLine data =>
    rw [sliceAccessOp, if_neg (serves_taken hs), Option.any_some, if_neg (sparesTables_writeLine.1 ht), if_neg (serves_inService hs)]
    exact if_pos h4
  | writePart off data =>
    rw [sliceAccessOp, if_neg (serves_taken hs), Option.any_some, if_neg (sparesTables_writePart.1 ht), if_neg (serves_inService hs)]
    exact if_pos h4

variable (h4 : (getSlice s key).state ≠ 4) (hold : (getTile s (key / 64)).hold = false)
include h4 hold

theorem sliceAccessOp_writeLine {data : List Byte} (hlen : data.length = 128) (ht : SparesTables s key line (.writeLine data)) :
    sliceAccessOp key line (.writeLine data) errs [] s = ends .ok (sliceWrite key (128 * line) data (touched s key)) := by
  have hall : (data ++ List.replicate 128 0).take 128 = data := List.take_left' hlen
  rw [sliceAccessOp, if_neg (serves_taken hs), Option.any_some, if_neg (sparesTables_writeLine.1 ht), if_neg (serves_inService hs), hall]
  exact (if_neg h4).trans (if_neg (not_held hold))

theorem sliceAccessOp_writePart {off : Fin 128} {data : List Byte} (hlen : off.val + data.length ≤ 128)
    (ht : SparesTables s key line (.writePart off data)) (hd : decodeLine key line errs (touched s key) = (true, false, touched s key)) :
    sliceAccessOp key line (.writePart off data) errs [] s = ends .ok (sliceWrite key (128 * line + off.val) data (touched s key)) := by
  have hall : data.take (128 - off.val) = data := List.take_of_length_le (by omega)
  have htouch := sparesTables_writePart.1 ht
  have hd' : decodeLine key line errs (sliceTouch key s) = (true, false, touched s key) := hd
  rw [hall] at htouch
  rw [sliceAccessOp, hall, if_neg (serves_taken hs), Option.any_some, if_neg htouch, if_neg (serves_inService hs)]
  refine (if_neg h4).trans ((if_neg (not_held hold)).trans ?_)
  rw [hd']

end Serves

end Access

/-! ### Reads of a slice that serves -/

section Read

variable {key line : Nat} {errs : SymbolErrors} {s : State}

theorem decodeLine_touched_delivers (hc : Correctable s key line errs) (h : hardErrors s key errs = [] ∨ lineQueued s key line = true) :
    decodeLine key line errs (touched s key) = (true, false, touched s key) := by
  have hsame := sameLines_touched key s
  refine decodeLine_delivers (hsame.correctable.2 hc) ?_
  rwa [hsame.hardErrors, hsame.queued]

/-- What a read that the code corrects leaves: the cells as they were and its word of SLICE_ERR_LOG. -/
theorem decodeLine_touched_corrects (hc : Correctable s key line errs) (he : hardErrors s key errs ≠ []) (hq : lineQueued s key line = false) :
    ∃ u, decodeLine key line errs (touched s key) = (true, true, u) ∧
      (getSlice u key).data = (getSlice s key).data ∧ (getSlice u key).bad = (getSlice s key).bad ∧
      (getSlice u key).errLog = correctedLog line (getSlice s key).erased.isSome (hardErrors s key errs) := by
  have hsame := sameLines_touched key s
  have hdec := decodeLine_corrects (hsame.correctable.2 hc) (by rwa [hsame.hardErrors]) (by rwa [hsame.queued])
  rw [hsame.hardErrors, hsame.erased] at hdec
  have hkept := cellsKept_correctedAccess (key := key) (line := line)
    ((if (getSlice s key).erased.isSome then 10 else 0) != 0) (hardErrors s key errs) (touched s key)
  refine ⟨_, hdec, ?_, ?_, ?_⟩
  · simpa [touched] using hkept.data
  · simpa [touched] using hkept.bad
  · refine hkept.errLog.trans ?_
    rw [getSlice_modSlice]
    cases (getSlice s key).erased <;> rfl

/-- The slice after a read that the code cannot correct (Table 5.3). -/
theorem lineFailed_touched (key line : Nat) (s : State) : lineFailed key (touched s key) line =
    sliceFault key 0x0203 5 (evSlice key 0 line) 0 .poisoned (countSlice key 2 1 (modSlice (touched s key) key (fun x => { x with
      bad := tput x.bad line true
      errLog := pack [(40, line), (31, 1), (30, 1), (29, if (getSlice s key).erased.isSome then 1 else 0)] }))) := by
  have herased : (getSlice (touched s key) key).erased = (getSlice s key).erased := (sameLines_touched key s).erased
  rw [lineFailed]
  simp only [modSlice, herased, b2n]

end Read

theorem lineAccesses : Sys2Proof.Spec.LineAccesses := by
  intro t n line errs s hon
  generalize hkey : ck t.val n.val = key
  have hdo {op : SliceOp} {u : State} (h : sliceAccessOp key line.toNat op errs [] s = u) : Does (.sliceAccess t n line op errs []) s u :=
    does_onMain rfl hon (hkey ▸ h)
  have htile : key / 64 = t.val := hkey ▸ ck_tile t.val n
  refine ⟨fun h5 hb op ht => hdo (sliceAccessOp_outOfService h5 hb ht), fun hs => ⟨fun op ht => hdo (sliceAccessOp_keyFault hs ht), fun hc => ?_, fun hc => ?_,
    fun h4 op hop ht => hdo (sliceAccessOp_evacuates hs h4 hop ht), fun h4 hold => ⟨fun data hlen ht => ?_, fun off data hlen ht hc hclean => ?_⟩⟩⟩
  · have hread := sliceAccessOp_read (line := line.toNat) (errs := errs) (cmd := []) hs rfl
    by_cases hclean : hardErrors s key errs = [] ∨ lineQueued s key line.toNat = true
    · rw [decodeLine_touched_delivers hc hclean] at hread
      have hsame := sameLines_touched key s
      exact ⟨touched s key, hdo hread, by simp [touched], hsame.bad, fun _ => rfl,
        fun he hq => absurd hclean (by simp [he, hq])⟩
    · obtain ⟨he, hq⟩ := not_or.1 hclean
      obtain ⟨u, hdec, hdata, hbad, hlog⟩ := decodeLine_touched_corrects hc he (Bool.eq_false_iff.2 hq)
      rw [hdec] at hread
      exact ⟨u, hdo hread, hdata, hbad, fun h => absurd h hclean, fun _ _ => hlog⟩
  · have hread := sliceAccessOp_read (line := line.toNat) (errs := errs) (cmd := []) hs rfl
    rw [decodeLine_fails fun h => hc ((sameLines_touched key s).correctable.1 h), lineFailed_touched] at hread
    exact hdo hread
  · exact hdo (sliceAccessOp_writeLine hs h4 (htile ▸ hold) hlen ht)
  · exact hdo (sliceAccessOp_writePart hs h4 (htile ▸ hold) hlen ht (decodeLine_touched_delivers hc hclean))

/-! ### Errors in the command word (R156) -/

section CommandWord

variable {key : Nat} {s : State}

@[simp] theorem getSlice_withdrawCore (key k : Nat) (s : State) : getSlice (withdrawCore key s) k = getSlice s k := rfl

theorem withdrawCore_withdrawn (key : Nat) (s : State) : (getCore (withdrawCore key s) key).withdrawn = true := by
  rw [withdrawCore, modCore, Laws.getCore_putCore_same]
  split
  · assumption
  · rfl

theorem sliceFault_cores (key type level : Nat) (w2 w3 : Word) (code : Code) (s : State) :
    (sliceFault key type level w2 w3 code s).cores = s.cores := raise_cores _ _

/-- Several lanes in error: the slice leaves service with its cells as they were, and its core is withdrawn. -/
theorem commandWord_several {l : CommandLanes} (hl : 1 < l.length) : ∃ u, commandWord key l (touched s key) = (false, u) ∧
    (getSlice u key).state = 5 ∧ (getCore u key).withdrawn = true ∧ (getSlice u key).data = (getSlice s key).data := by
  obtain ⟨a, b, r, rfl⟩ : ∃ a b r, l = a :: b :: r := by
    match l, hl with
    | a :: b :: r, _ => exact ⟨a, b, r, rfl⟩
  refine ⟨_, rfl, ?_, ?_, ?_⟩
  · simp
  · simp [getCore_of_cores (sliceFault_cores _ _ _ _ _ _ _), withdrawCore_withdrawn]
  · simp [touched]

/-- One lane in error: the access counts, and its lane is kept. -/
def laneKept (key : Nat) (a : Fin 64) (s : State) : State :=
  countSlice key 3 1 (modSlice s key (fun x => { x with caFault := true, caLane := a.val }))

theorem commandWord_one (a : Fin 64) : ∃ u, commandWord key [a] s = (true, u) ∧ u.slices = (laneKept key a s).slices ∧
    ((getSlice s key).caFault = true → u = laneKept key a s) := by
  by_cases h : (getSlice s key).caFault = true
  · exact ⟨laneKept key a s, by simp [commandWord, h, laneKept], rfl, fun _ => rfl⟩
  · exact ⟨_, by simp only [commandWord, h]; rfl, sliceFault_slices _ _ _ _ _ _ _, fun hf => absurd hf h⟩

end CommandWord

theorem commandWordErrors : Sys2Proof.Spec.CommandWordErrors := by
  intro t n line op s a l hon hs hl ht
  generalize hkey : ck t.val n.val = key at *
  refine ⟨?_, fun hc => ?_⟩
  · obtain ⟨u, hcmd, hstate, hcore, hdata⟩ := commandWord_several (key := key) (s := s) hl
    exact ⟨u, does_onMain rfl hon (hkey ▸ sliceAccessOp_commandFault hs ht hcmd), hstate, hcore, hdata⟩
  · obtain ⟨u, hcmd, hslices, hfirst⟩ := commandWord_one (key := key) (s := touched s key) a
    have hslice : getSlice u key = { getSlice (touched s key) key with caFault := true, caLane := a.val } := by
      rw [getSlice_of_slices hslices, laneKept, getSlice_countSlice, getSlice_modSlice]
    have hsame : SameLines key s u := by
      constructor <;> simp [hslice, touched]
    have hread := sliceAccessOp_read (line := line.toNat) (errs := []) hs hcmd
    rw [decodeLine_delivers (hsame.correctable.2 hc) (.inl rfl)] at hread
    refine ⟨u, does_onMain rfl hon (hkey ▸ hread), by rw [hslice], by rw [hslice], fun h => hfirst ?_⟩
    simpa [touched] using h

/-- Settles O46, from the decode of a read and the outcome of its command word. -/
theorem sliceAccesses : Obligations.SliceAccesses := ⟨lineAccesses, commandWordErrors⟩

end Sys2Proof.Proofs

namespace Sys2Proof.Proofs

open Sys2Proof Sys2Proof.Machine Sys2Proof.Spec

/-! ## Refresh, self-refresh and scrubbing (O47) -/

section Refresh

variable {key : Nat} {s : State}

theorem refreshCommandOp_counts (h : (getSlice s key).state ≠ 0) {i t : Nat} (hi : i = 4000000 / 2 ^ (getTile s (key / 64)).refreshMult)
    (ht : t = nextRefreshAt (key % 64) i (max ((getSlice s key).nextRefresh + 1) (1024 * s.now))) :
    refreshCommandOp key s = countSlice key 5 1 (modSlice { s with now := max s.now (t / 1024) } key
      (fun x => { x with nextRefresh := t, refreshInterval := i })) := by
  subst ht hi
  rw [refreshCommandOp, if_neg h]
  rfl

theorem selfRefreshEntryOp_enters (h1 : (getSlice s key).state = 1) (hb : (getSlice s key).trainBusy = none) (hc : coreAsleep s key = true) :
    selfRefreshEntryOp key s = modSlice { s with now := max s.now ((getSlice s key).lastAccess + 10000) } key (fun x => { x with state := 3 }) := by
  rw [selfRefreshEntryOp, if_neg (by simp [h1, hb, hc])]

/-- The slice as a scrub read takes its line: the next line of the pass is due (R175). -/
def scrubAdvanced (s : State) (key : Nat) : State :=
  countSlice key 7 1 (modSlice (touched s key) key (fun x => { x with
    scrubNext := (x.scrubNext + 1) % 2 ^ 24
    scrubPasses := if x.scrubNext + 1 = 2 ^ 24 then x.scrubPasses + 1 else x.scrubPasses }))

theorem sameLines_scrubAdvanced (key : Nat) (s : State) : SameLines key s (scrubAdvanced s key) := by
  constructor <;> simp [scrubAdvanced, touched]

theorem scrubReadOp_clean (he : (getSlice s key).scrubEn = true) (hs : Serves s key)
    (hbad : tget false (getSlice s key).bad (getSlice s key).scrubNext = false) : scrubReadOp key [] s = scrubAdvanced s key := by
  have htaken : ¬(!(getSlice s key).scrubEn || !((getSlice s key).state == 1 || (getSlice s key).state == 3 || (getSlice s key).state == 4) ||
      (getSlice s key).trainBusy.isSome) = true := by
    rcases hs.1 with h | h | h <;> simp [he, hs.2, h]
  have hdec : decodeLine key (getSlice s key).scrubNext [] (scrubAdvanced s key) = (true, false, scrubAdvanced s key) :=
    decodeLine_delivers ((sameLines_scrubAdvanced key s).correctable.2 (correctable_nil hbad)) (.inl rfl)
  have hnext : (getSlice (touched s key) key).scrubNext = (getSlice s key).scrubNext := by simp [touched]
  have hadvance : countSlice key 7 1 (modSlice (sliceTouch key s) key (fun x => { x with
      scrubNext := ((getSlice s key).scrubNext + 1) % 2 ^ 24
      scrubPasses := if (getSlice s key).scrubNext + 1 = 2 ^ 24 then x.scrubPasses + 1 else x.scrubPasses })) = scrubAdvanced s key := by
    rw [scrubAdvanced, modSlice, modSlice, hnext]
    rfl
  rw [scrubReadOp, if_neg htaken]
  dsimp only
  rw [hadvance, hdec]
  rfl

theorem scrubWritebackOp_runs {line : Nat} (hp : (getSlice s key).scrubPending = some line) (hb : (getSlice s key).trainBusy = none)
    (h2 : (getSlice s key).state ≠ 2) : scrubWritebackOp key s =
      if (getTile s (key / 64)).hold then countSlice key 8 1 (modSlice s key (fun x => { x with scrubPending := none }))
      else touched (modSlice s key (fun x => { x with scrubPending := none })) key := by
  rw [scrubWritebackOp, if_neg (by simp [hp, hb, h2])]
  rfl

end Refresh

theorem refreshCommands : Sys2Proof.Spec.RefreshCommands := by
  intro t n s hon
  have htile : ck t.val n.val / 64 = t.val := ck_tile t.val n
  have hcore : ck t.val n.val % 64 = n.val := ck_core t.val n
  refine ⟨fun h i at_ hi hat => does_onMain rfl hon (refreshCommandOp_counts h (by rw [htile]; exact hi) (by rw [hcore]; exact hat)),
    fun h1 hb hc => does_onMain rfl hon (selfRefreshEntryOp_enters h1 hb hc),
    fun he hs hbad => does_onMain rfl hon (scrubReadOp_clean he hs hbad), fun line hp hb h2 => does_onMain rfl hon ?_⟩
  rw [scrubWritebackOp_runs hp hb h2, htile]

/-! ### The schedule of refresh (R168) -/

section Schedule

variable {i : Nat} (hi : 0 < i)
include hi

theorem le_cdiv_mul (d : Nat) : d ≤ cdiv d i * i := by
  have h := Nat.div_add_mod (d + i - 1) i
  have hmod := Nat.mod_lt (d + i - 1) hi
  rw [Nat.mul_comm] at h
  unfold cdiv
  omega

theorem cdiv_mul_lt (d : Nat) : cdiv d i * i < d + i := by
  have h := Nat.div_mul_le_self (d + i - 1) i
  unfold cdiv
  omega

/-- The rounded quotient is the least multiple that reaches its number. -/
theorem cdiv_le {d m : Nat} (h : d ≤ m * i) : cdiv d i ≤ m := by
  refine Nat.le_of_lt_succ (Nat.div_lt_of_lt_mul ?_)
  rw [Nat.mul_succ, Nat.mul_comm i m]
  omega

end Schedule

theorem refreshSchedule : Sys2Proof.Spec.RefreshSchedule := by
  intro n i t hi
  unfold nextRefreshAt
  generalize n * i / 64 = phase
  dsimp only
  split
  · next h => exact ⟨h, by omega, ⟨0, by omega⟩, fun m _ => Nat.le_add_right _ _⟩
  · next h =>
    have hle := le_cdiv_mul hi (t - phase)
    have hlt := cdiv_mul_lt hi (t - phase)
    refine ⟨by omega, by omega, ⟨cdiv (t - phase) i, Nat.add_comm _ _⟩, fun m hm => ?_⟩
    have hleast := Nat.mul_le_mul_right i (cdiv_le hi (d := t - phase) (m := m) (by omega))
    omega

/-- Settles O47, from what each command of the slice's controller leaves and the least multiple of the interval that reaches an instant. -/
theorem refreshAndScrub : Obligations.RefreshAndScrub := ⟨refreshCommands, refreshSchedule⟩

end Sys2Proof.Proofs

namespace Sys2Proof.Proofs

open Sys2Proof Sys2Proof.Machine Sys2Proof.Spec

/-! ## The training of slices (O48) -/

section Lease

variable {act tile unit_ : Nat} {a : LeaseAct} {s : State}

theorem leaseAsk_grants {auto : Bool} (h : leaseDecide s act tile unit_ = .grant) (hroom : s.topo.leases.length < 256) :
    leaseAsk act tile unit_ a auto s = (.granted, leaseAdd act tile unit_ a 0 s) := by
  rw [leaseAsk, h]
  exact if_neg (by simpa using hroom)

theorem leaseAsk_conflicts (h : leaseDecide s act tile unit_ = .conflict) :
    leaseAsk act tile unit_ a false s = (.conflict, countHearth 11 1 s) := by
  rw [leaseAsk, h]
  rfl

end Lease

section Training

variable {rq : Requester} {key layer lane : Nat} {s : State}

theorem fullRetrainingOp_keyFault (he : expertOk rq 1 s = false) : fullRetrainingOp rq key s = ends .keyFault s :=
  if_neg (by simp [he])

theorem spareSwitchInOp_keyFault (he : expertOk rq 1 s = false) : spareSwitchInOp rq key layer lane s = ends .keyFault s :=
  if_neg (by simp [he])

section Expert

variable (he : expertOk rq 1 s = true) (hb : trainRuns s key = false)
include he hb

theorem fullRetrainingOp_starts (hw : coreWithdrawnOrOff s key = true) (hd : leaseDecide s 1 (key / 64) (key % 64) = .grant)
    (hroom : s.topo.leases.length < 256) : fullRetrainingOp rq key s =
      ends .ok (retrainStart key (leaseAdd 1 (key / 64) (key % 64) (.sliceRetrain key) 0 s)) := by
  rw [fullRetrainingOp, withExpert_ok _ he, if_neg (by simp [hb]), if_neg (by simp [hw]), leaseAsk_grants hd hroom]

theorem fullRetrainingOp_refused (hw : coreWithdrawnOrOff s key = false) (hd : leaseDecide s 1 (key / 64) (key % 64) ≠ .conflict) :
    fullRetrainingOp rq key s = trainRefuse key .rejected s := by
  rw [fullRetrainingOp, withExpert_ok _ he, if_neg (by simp [hb]), if_pos (by simp [hw, hd])]

theorem fullRetrainingOp_conflicts (hd : leaseDecide s 1 (key / 64) (key % 64) = .conflict) :
    fullRetrainingOp rq key s = trainRefuse key .conflict (countHearth 11 1 s) := by
  rw [fullRetrainingOp, withExpert_ok _ he, if_neg (by simp [hb]), if_neg (by simp [hd]), leaseAsk_conflicts hd]

theorem spareSwitchInOp_starts (hl : lane < 80) (hs : sparesUsed (tget 0 (getSlice s key).laneMap layer) < 2)
    (hd : leaseDecide s 2 (key / 64) (key % 64) = .grant) (hroom : s.topo.leases.length < 256) : spareSwitchInOp rq key layer lane s =
      ends .ok (modSlice (leaseAdd 2 (key / 64) (key % 64) (.laneSpare key layer lane false) 0 s) key (fun x => { x with
        trainBusy := some 2, trainLayer := layer, trainLane := lane, switchLayer := layer, switchLane := lane })) := by
  rw [spareSwitchInOp, withExpert_ok _ he]
  dsimp only
  rw [if_neg (by simp [Nat.not_le.2 hl]), if_neg (by simp [hb]),
    if_neg fun h => Nat.not_le.2 hs (of_decide_eq_true (Bool.and_eq_true_iff.1 h).2), leaseAsk_grants hd hroom]
  dsimp only
  rw [spareStart, modSlice_modSlice]

theorem spareSwitchInOp_conflicts (hd : leaseDecide s 2 (key / 64) (key % 64) = .conflict) :
    spareSwitchInOp rq key layer lane s = trainRefuse key .conflict (countHearth 11 1 s) := by
  rw [spareSwitchInOp, withExpert_ok _ he]
  dsimp only
  rw [if_neg (by simp [hb, hd]), if_neg (by simp [hb]), if_neg (by simp [hd]), leaseAsk_conflicts hd]

end Expert

theorem sliceRetrainDoneOp_switched (h : (getSlice s key).trainBusy = some 2) (r : RetrainResult) : sliceRetrainDoneOp key r s =
    countSlice key 4 1 (leaseRelease 2 (key / 64) (key % 64) (modSlice s key (fun x => { x with
      trainBusy := none
      trainResult := .ok
      laneMap := tput x.laneMap x.switchLayer (spareIn (tget 0 x.laneMap x.switchLayer) x.switchLane) }))) := by
  rw [sliceRetrainDoneOp]
  simp only [h]

theorem laneMapLoad_none (key : Nat) (s : State) : laneMapLoad key [] s = modSlice s key (fun x => { x with laneMap := [] }) := rfl

theorem sliceRetrainDoneOp_retrained (h : (getSlice s key).trainBusy = some 1) (ok : Bool) : sliceRetrainDoneOp key ⟨[], ok⟩ s =
    leaseRelease 1 (key / 64) (key % 64) (modSlice s key (fun x => { x with
      trainBusy := none
      trainResult := .ok
      state := x.prevState
      laneMap := []
      erased := if ok then none else x.erased })) := by
  have hover : overLayers [] = [] := rfl
  rw [sliceRetrainDoneOp]
  simp only [h, List.map_nil, List.filter_nil, hover, List.foldl_nil, laneMapLoad_none, modSlice_modSlice]

end Training

theorem sliceTraining : Sys2Proof.Spec.SliceTraining := by
  intro rq t n layer lane s
  have htile : ck t.val n.val / 64 = t.val := ck_tile t.val n
  have hcore : ck t.val n.val % 64 = n.val := ck_core t.val n
  refine ⟨fun hon he => ⟨does_onMain rfl hon (fullRetrainingOp_keyFault he), does_onMain rfl hon (spareSwitchInOp_keyFault he)⟩,
    fun hx hb hroom => ⟨fun hw hd => does_onMain rfl hx.on ?_, fun hw hd => does_onMain rfl hx.on ?_, fun hl hs hd => does_onMain rfl hx.on ?_,
      fun hd => does_onMain rfl hx.on ?_, fun hd => does_onMain rfl hx.on ?_⟩,
    fun hon h r => does_onMain rfl hon ?_, fun hon h ok => does_onMain rfl hon ?_⟩
  · rw [fullRetrainingOp_starts hx.level hb hw (by rwa [htile, hcore]) hroom, htile, hcore]
    rfl
  · exact fullRetrainingOp_refused hx.level hb hw (by rwa [htile, hcore])
  · rw [spareSwitchInOp_starts hx.level hb hl hs (by rwa [htile, hcore]) hroom, htile, hcore]
  · exact fullRetrainingOp_conflicts hx.level hb (by rwa [htile, hcore])
  · exact spareSwitchInOp_conflicts hx.level hb (by rwa [htile, hcore])
  · rw [sliceRetrainDoneOp_switched h, htile, hcore]
  · rw [sliceRetrainDoneOp_retrained h, htile, hcore]

/-! ## STACK_CTRL and the held writes (O48) -/

section StackCtrl

variable {rq : Requester} {t : Nat} {v : Word} {s : State} (he : expertOk rq 1 s = true)
include he

theorem stackCtrlWriteOp_conflicts (hless : fld v 11 8 < fld (getTile s t).stackCtrl 11 8) (hserves : tileServes s t = true) :
    stackCtrlWriteOp rq t v s = ends .conflict s := by
  rw [stackCtrlWriteOp, withExpert_ok _ he]
  exact if_pos (by simp [hless, hserves])

variable (hfree : fld (getTile s t).stackCtrl 11 8 ≤ fld v 11 8 ∨ tileServes s t = false)
include hfree

theorem stackCtrlWriteOp_free : stackCtrlWriteOp rq t v s =
    if fld v 11 8 + fld v 7 4 + fld v 3 0 != 16 || decide (fld v 11 8 < 8) then ends .rejected s
    else ends .ok (modTile s t (fun x => { x with stackCtrl := v &&& 0xFFF })) := by
  rw [stackCtrlWriteOp, withExpert_ok _ he]
  refine if_neg ?_
  rcases hfree with h | h
  · simp [Nat.not_lt.2 h]
  · simp [h]

theorem stackCtrlWriteOp_takes (hsum : fld v 11 8 + fld v 7 4 + fld v 3 0 = 16) (hown : 8 ≤ fld v 11 8) :
    stackCtrlWriteOp rq t v s = ends .ok (modTile s t (fun x => { x with stackCtrl := v &&& 0xFFF })) := by
  rw [stackCtrlWriteOp_free he hfree, if_neg (by simp [hsum, hown])]

theorem stackCtrlWriteOp_rejects (hshares : fld v 11 8 + fld v 7 4 + fld v 3 0 ≠ 16 ∨ fld v 11 8 < 8) :
    stackCtrlWriteOp rq t v s = ends .rejected s := by
  rw [stackCtrlWriteOp_free he hfree, if_pos (by simpa using hshares)]

end StackCtrl

theorem stackControl : Sys2Proof.Spec.StackControl := by
  refine ⟨fun rq t v s hx => ⟨fun hsum hown hfree => ?_, fun hless hserves => ?_, fun hshares hfree => ?_⟩, fun t n s w hon hw => ?_⟩
  · exact does_onMain rfl hx.on (stackCtrlWriteOp_takes hx.level hfree hsum hown)
  · exact does_onMain rfl hx.on (stackCtrlWriteOp_conflicts hx.level hless hserves)
  · exact does_onMain rfl hx.on (stackCtrlWriteOp_rejects hx.level hfree hshares)
  · refine does_onMain rfl hon ?_
    rw [heldWriteTimeoutOp, ck_tile, ck_core, waitTimeout_first hw]
    rfl

/-- Settles O48, from the lease that each request meets and the shares that STACK_CTRL takes. -/
theorem sliceControl : Obligations.SliceControl := ⟨sliceTraining, stackControl⟩

end Sys2Proof.Proofs

namespace Sys2Proof.Proofs

open Sys2Proof Sys2Proof.Machine Sys2Proof.Spec

/-! ## The descriptor of a residency command (Table 6.8) -/

theorem setOp_toNat (x : Word) (op : Nat) : (setFld x 63 56 op).toNat = 2 ^ 56 * (op % 256) + x.toNat % 2 ^ 56 := by
  have hx := x.isLt
  simp only [setFld, nbits, BitVec.toNat_ofNat, Nat.shiftRight_eq_div_pow, Nat.shiftLeft_eq]
  omega

theorem testBit_setOp (x : Word) (op : Nat) {i : Nat} (h : i < 56) : (setFld x 63 56 op).toNat.testBit i = x.toNat.testBit i := by
  rw [setOp_toNat, Nat.testBit_two_pow_mul_add _ (Nat.mod_lt _ (by decide)), if_pos h, Nat.testBit_mod_two_pow, decide_eq_true h, Bool.true_and]

theorem fld_setOp (x : Word) (op : Nat) {hi : Nat} (lo : Nat) (h : hi < 56) : fld (setFld x 63 56 op) hi lo = fld x hi lo := by
  refine Nat.eq_of_testBit_eq fun i => ?_
  simp only [fld, nbits, Nat.testBit_mod_two_pow, Nat.testBit_shiftRight]
  by_cases hi' : i < hi + 1 - lo
  · rw [testBit_setOp x op (by omega)]
  · simp [hi']

section
variable (op : Nat) (d : CmdDesc)

theorem bit_resDesc {i : Nat} (h : i < 56) : bit (resDesc op d).w0 i = bit d.w0 i := testBit_setOp d.w0 op h

theorem fld_resDesc {hi : Nat} (lo : Nat) (h : hi < 56) : fld (resDesc op d).w0 hi lo = fld d.w0 hi lo := fld_setOp d.w0 op lo h

theorem rOp_resDesc (h : op < 256) : rOp (resDesc op d) = op := by
  have hx := d.w0.isLt
  have hn := setOp_toNat d.w0 op
  simp only [rOp, resDesc, fld, nbits, Nat.shiftRight_eq_div_pow]
  omega

@[simp] theorem w0_tag_resDesc : fld (resDesc op d).w0 15 0 = fld d.w0 15 0 := fld_resDesc op d 0 (by decide)
@[simp] theorem w3_resDesc : (resDesc op d).w3 = d.w3 := by simp only [resDesc]
@[simp] theorem w5_resDesc : (resDesc op d).w5 = d.w5 := by simp only [resDesc]
@[simp] theorem rSpace_resDesc : rSpace (resDesc op d) = rSpace d := fld_resDesc op d 20 (by decide)
@[simp] theorem rPlace_resDesc : rPlace (resDesc op d) = rPlace d := fld_resDesc op d 52 (by decide)
@[simp] theorem rFill_resDesc : rFill (resDesc op d) = rFill d := fld_resDesc op d 45 (by decide)
@[simp] theorem rBig_resDesc : rBig (resDesc op d) = rBig d := bit_resDesc op d (by decide)
@[simp] theorem rVpn_resDesc : rVpn (resDesc op d) = rVpn d := by simp only [rVpn, resDesc]
@[simp] theorem rCount_resDesc : rCount (resDesc op d) = rCount d := by simp only [rCount, resDesc]
@[simp] theorem rSet_resDesc : rSet (resDesc op d) = rSet d := by simp only [rSet, resDesc]
@[simp] theorem rK_resDesc : rK (resDesc op d) = rK d := by simp only [rK, resDesc]
@[simp] theorem rM_resDesc : rM (resDesc op d) = rM d := by simp only [rM, resDesc]
@[simp] theorem rSegment_resDesc : rSegment (resDesc op d) = rSegment d := by simp only [rSegment, resDesc]
@[simp] theorem rUnit_resDesc : rUnit (resDesc op d) = rUnit d := by rw [rUnit, rBig_resDesc, rUnit]
@[simp] theorem rPages_resDesc : rPages (resDesc op d) = rPages d := by rw [rPages, rUnit_resDesc, rCount_resDesc, rPages]
@[simp] theorem rRange_resDesc : rRange (resDesc op d) = rRange d := by rw [rRange, rUnit_resDesc, rCount_resDesc, rVpn_resDesc, rRange]
@[simp] theorem encodeLoad_resDesc (s : State) : encodeLoad s (resDesc op d) = encodeLoad s d := by
  simp only [encodeLoad, rK_resDesc, rM_resDesc, w5_resDesc]

end

/-! ## The residency manager of a tile -/

@[simp] theorem getRes_modRes (s : State) (t : Nat) (f : ResTile → ResTile) : getRes (modRes s t f) t = f (getRes s t) :=
  Laws.tget_tput_same _ _ _ _

@[simp] theorem getRes_ends (k : Code) (s : State) (t : Nat) : getRes (ends k s) t = getRes s t := rfl

theorem modRes_modRes (s : State) (t : Nat) (f g : ResTile → ResTile) : modRes (modRes s t f) t g = modRes s t (fun r => g (f r)) := by
  rw [modRes, getRes_modRes]
  simp [modRes, putRes]

/-- The state in which the queue of tile `t` holds the command `c` alone. -/
def holding (t : Nat) (c : ResCmd) (s : State) : State := ends .ok (modRes s t (fun r => { r with queue := [c] }))

/-- The state in which tile `t` has completed the command `c`, its only one. -/
def cmdDone (t : Nat) (c : ResCmd) (s : State) : State :=
  ends .ok (modRes s t (fun r => { r with queue := [], statTag := BitVec.ofNat 16 c.tag, statCode := c.code, statSeq := r.statSeq + 1 }))

section
variable {t : Nat} {c c' : ResCmd} {s : State}

theorem queue_holding : (getRes (holding t c s) t).queue = [c] := by simp [holding]

theorem findCmd_holding : findCmd (holding t c s) t c.id = some c := by simp [findCmd, queue_holding]

theorem findCmd_cmdDone (id : Nat) : findCmd (cmdDone t c s) t id = none := by
  have hq : (getRes (cmdDone t c s) t).queue = [] := by simp [cmdDone]
  simp [findCmd, hq]

theorem setCmd_holding (h : c.id = c'.id) : setCmd t c' (holding t c s) = holding t c' s := by
  have hm : setCmd t c' (holding t c s) = ends .ok (modRes (modRes s t (fun r => { r with queue := [c] })) t (fun r => { r with
    queue := r.queue.map (fun q => if q.id = c'.id then c' else q) })) := rfl
  rw [hm, modRes_modRes]
  simp [holding, h]

theorem completeCmd_holding (h : c.id = c'.id) (ha : c'.admin = none) : completeCmd t c' (holding t c s) = cmdDone t c' s := by
  have hm : completeCmd t c' (holding t c s) = ends .ok (modRes (modRes s t (fun r => { r with queue := [c] })) t (fun r => { r with
      queue := r.queue.filter (fun q => q.id != c'.id), statTag := BitVec.ofNat 16 c'.tag, statCode := c'.code, statSeq := r.statSeq + 1 })) :=
    if_neg (by simp [ha])
  rw [hm, modRes_modRes]
  simp [cmdDone, h]

/-- The queue that `cmdDone` empties was empty before. -/
theorem cmdDone_of_empty (h : (getRes s t).queue = []) : cmdDone t c s = ends .ok (modRes s t (fun r => { r with
    statTag := BitVec.ofNat 16 c.tag, statCode := c.code, statSeq := r.statSeq + 1 })) := by
  rw [cmdDone, modRes, modRes, ← h]

end


/-! ## A command that can run at once (R203, R204) -/

/-- A command as its tile takes it, under the next number of the module. -/
def submitted (rq : Requester) (d : CmdDesc) (s : State) : ResCmd := ⟨s.nextId, fld d.w0 15 0, d, rq, .ok, [], [], 0, [], [], 0, none⟩

/-- The state that has given out one more number. -/
def numbered (s : State) : State := { s with nextId := s.nextId + 1 }

section
variable {rq : Requester} {t : Nat} {d : CmdDesc} {s u : State}

theorem resSubmit_keyFault (h0 : rSpace d = 0) (hq : ∀ x y, rq ≠ .systemKernel x y) (he : expertOk rq 2 s = false) :
    resSubmit rq t d s = ends .keyFault s := by
  unfold resSubmit
  refine if_pos ?_
  cases rq with
  | systemKernel x y => exact absurd rfl (hq x y)
  | _ => simp [h0, he]

/-- What lets a requester name the space of its command (R203). -/
def MayName (rq : Requester) (d : CmdDesc) (s : State) : Prop := rSpace d ≠ 0 ∨ (∃ x y, rq = .systemKernel x y) ∨ expertOk rq 2 s = true

theorem resSubmit_named (h : MayName rq d s) : resSubmit rq t d s =
    if 64 ≤ ((getRes s t).queue.filter (fun q => q.admin.isNone)).length then ends .retryLater s
    else stepCmd t s.nextId (ends .ok (modRes (numbered s) t (fun r => { r with queue := r.queue ++ [submitted rq d s] }))) := by
  unfold resSubmit
  refine if_neg ?_
  rcases h with h | ⟨x, y, rfl⟩ | h
  · simp [h]
  · simp
  · simp [h]

theorem resSubmit_full (h : MayName rq d s) (hf : 64 ≤ ((getRes s t).queue.filter (fun q => q.admin.isNone)).length) :
    resSubmit rq t d s = ends .retryLater s :=
  (resSubmit_named h).trans (if_pos hf)

theorem resSubmit_takes (h : MayName rq d s) (hq : (getRes s t).queue = []) :
    resSubmit rq t d s = stepCmd t s.nextId (holding t (submitted rq d s) (numbered s)) := by
  rw [resSubmit_named h, if_neg (by rw [hq]; decide), holding, modRes, modRes, show (getRes (numbered s) t).queue = [] from hq]
  rfl

end

end Sys2Proof.Proofs

namespace Sys2Proof.Proofs

open Sys2Proof Sys2Proof.Machine Sys2Proof.Spec

/-! ## Reads of bytes do not depend on the residency managers -/

/-- The state with other residency managers, next number and code. -/
def managed (res : Tab ResTile) (n : Nat) (k : Code) (s : State) : State := { s with res := res, nextId := n, lastCode := k }

section
variable (res : Tab ResTile) (n : Nat) (k : Code)

theorem counterBump_managed (key i : Nat) (s : State) :
    counterBump (managed res n k s) key i = (managed res n k (counterBump s key i).1, (counterBump s key i).2) := by
  unfold counterBump
  dsimp only
  split <;> rename_i h
  · rw [if_pos (show (getCounter s key).value.toNat + i < 2 ^ 48 from h)]
    rfl
  · rw [if_neg (show ¬ (getCounter s key).value.toNat + i < 2 ^ 48 from h)]
    rfl

theorem stageRaw_managed (e : EvRec) (s : State) : stageRaw (managed res n k s) e = managed res n k (stageRaw s e) := by
  have hadd (u : State) (e : EvRec) : stageAdd (managed res n k u) e = managed res n k (stageAdd u e) := rfl
  unfold stageRaw
  rw [show stageTakes (managed res n k s) e = stageTakes s e from rfl, hadd, counterBump_managed]
  split
  · rfl
  · rcases counterBump (stageAdd s e) (droppedKey e.srcTile) 1 with ⟨u, b⟩
    cases b <;> rfl

theorem count_managed (key i : Nat) (s : State) : count key i (managed res n k s) = managed res n k (count key i s) := by
  unfold count
  rw [counterBump_managed]
  split
  · rfl
  · rcases counterBump s key i with ⟨u, b⟩
    cases b
    · rfl
    · exact stageRaw_managed res n k _ u

theorem raise_managed (e : EvRec) (s : State) : raise e (managed res n k s) = managed res n k (raise e s) := by
  have hm (u : State) : markFault e.srcTile (managed res n k u) = managed res n k (markFault e.srcTile u) := rfl
  unfold raise
  dsimp only
  rw [stageRaw_managed]
  split
  · exact hm _
  · rfl

theorem lineFailed_managed (key line : Nat) (s : State) : lineFailed key (managed res n k s) line = managed res n k (lineFailed key s line) := by
  unfold lineFailed sliceFault countSlice
  dsimp only
  rw [← raise_managed, ← count_managed]
  rfl

/-- A fold whose every step leaves the managers alone does so as a whole. -/
theorem foldl_managed {α : Type} {f : State → α → State} (hf : ∀ s x, f (managed res n k s) x = managed res n k (f s x)) (l : List α) (s : State) :
    l.foldl f (managed res n k s) = managed res n k (l.foldl f s) := by
  induction l generalizing s with
  | nil => rfl
  | cons x l ih => rw [List.foldl_cons, hf, ih, List.foldl_cons]

theorem sliceLoad_managed (key off m : Nat) (s : State) : sliceLoad key off m (managed res n k s) =
    ((sliceLoad key off m s).1, (sliceLoad key off m s).2.1, managed res n k (sliceLoad key off m s).2.2) := by
  have hfold := foldl_managed res n k (fun u l => lineFailed_managed res n k key l u) (badLines s key off m) (sliceAccess key (cdiv (off % 128 + m) 128) s)
  rw [sliceLoad, sliceLoad, ← hfold]
  rfl

theorem benchLoad_managed (key off m : Nat) (s : State) :
    benchLoad key off m (managed res n k s) = ((benchLoad key off m s).1, managed res n k (benchLoad key off m s).2) := by
  have hfail (i : Nat) (u : State) : benchFail key i (managed res n k u) = managed res n k (benchFail key i u) := by
    unfold benchFail
    dsimp only
    rw [← raise_managed]
    rfl
  have hscan : benchScan key off m (managed res n k s) = ((benchScan key off m s).1, managed res n k (benchScan key off m s).2) := by
    unfold benchScan countCore
    dsimp only
    rw [show getCore (managed res n k s) key = getCore s key from rfl, count_managed]
    split
    · rfl
    · rw [hfail]
  unfold benchLoad
  rw [hscan]
  rcases benchScan key off m s with ⟨b, u⟩
  cases b <;> rfl

theorem gpaLoad_managed (a m : Nat) (s : State) : gpaLoad a m (managed res n k s) = ((gpaLoad a m s).1, managed res n k (gpaLoad a m s).2) := by
  unfold gpaLoad
  dsimp only
  rw [show (managed res n k s).myModule = s.myModule from rfl, show ∀ key, sliceOut (managed res n k s) key = sliceOut s key from fun _ => rfl,
    sliceLoad_managed, benchLoad_managed]
  repeat' split
  all_goals rfl

theorem encodeLoad_managed (s : State) (d : CmdDesc) : encodeLoad (managed res n k s) d = ((encodeLoad s d).1, managed res n k (encodeLoad s d).2) := by
  rw [encodeLoad, gpaLoad_managed]
  rfl

theorem resRejects_managed (s : State) (d : CmdDesc) : resRejects (managed res n k s) d = resRejects s d := by
  have hlist : encodeList (managed res n k s) d = encodeList s d := by rw [encodeList, encodeLoad_managed, encodeList]
  unfold resRejects
  rw [hlist]
  rfl

end

theorem encodeLoad_res (s : State) (d : CmdDesc) : (encodeLoad s d).2.res = s.res :=
  congrArg (fun r => r.2.res) (encodeLoad_managed s.res s.nextId s.lastCode s d)

theorem encodeLoad_nextId (s : State) (d : CmdDesc) : (encodeLoad s d).2.nextId = s.nextId :=
  congrArg (fun r => r.2.nextId) (encodeLoad_managed s.res s.nextId s.lastCode s d)

theorem encodeLoad_lastCode (s : State) (d : CmdDesc) : (encodeLoad s d).2.lastCode = s.lastCode :=
  congrArg (fun r => r.2.lastCode) (encodeLoad_managed s.res s.nextId s.lastCode s d)

end Sys2Proof.Proofs

namespace Sys2Proof.Proofs

open Sys2Proof Sys2Proof.Machine Sys2Proof.Spec

/-! ## The first step of a command that its tile holds alone (Table 6.9) -/

/-- Nothing keeps a command from its checks: its space is not being destroyed, and no slice that it reads its LIST from trains. -/
structure Startable (c : ResCmd) (s : State) : Prop where
  stays : ∀ r, getSpace s (rSpace c.desc) = some r → r.withdrawn = false
  reads : rOp c.desc = 0xD → gpaTrains s c.desc.w5.toNat = false

section
variable {t : Nat} {c : ResCmd} {s : State}

theorem resRejects_holding (d : CmdDesc) : resRejects (holding t c s) d = resRejects s d := resRejects_managed _ _ _ s d

theorem encodeLoad_holding (d : CmdDesc) : encodeLoad (holding t c s) d = ((encodeLoad s d).1, holding t c (encodeLoad s d).2) := by
  have hm (u : State) : holding t c u = managed (tput u.res t { tget resInit u.res t with queue := [c] }) u.nextId .ok u := rfl
  rw [hm s, encodeLoad_managed, hm (encodeLoad s d).2, encodeLoad_res, encodeLoad_nextId]

theorem Startable.not_withdrawn (h : Startable c s) :
    ¬ (match getSpace (holding t c s) (rSpace c.desc) with | some r => r.withdrawn | none => false) = true := by
  rw [show getSpace (holding t c s) (rSpace c.desc) = getSpace s (rSpace c.desc) from rfl]
  cases hr : getSpace s (rSpace c.desc) with
  | none => simp
  | some r => simp [h.stays r hr]

theorem Startable.not_waiting (h : Startable c s) :
    ¬ (rOp c.desc == 0xD && !resReserved c.desc && gpaTrains (holding t c s) c.desc.w5.toNat) = true := by
  rw [show gpaTrains (holding t c s) c.desc.w5.toNat = gpaTrains s c.desc.w5.toNat from rfl]
  by_cases h13 : rOp c.desc = 0xD
  · simp [h.reads h13]
  · simp [h13]

theorem startCmd_rejects (h : Startable c s) (hr : resRejects s c.desc = true) (ha : c.admin = none) :
    startCmd t c (holding t c s) = cmdDone t { c with code := .rejected } (if rOp c.desc = 0xD then (encodeLoad s c.desc).2 else s) := by
  unfold startCmd
  refine (if_neg h.not_withdrawn).trans ((if_neg h.not_waiting).trans ((if_pos ((resRejects_holding _).trans hr)).trans ?_))
  split
  · rw [encodeLoad_holding]
    exact completeCmd_holding (c' := { c with code := .rejected }) rfl ha
  · exact completeCmd_holding (c' := { c with code := .rejected }) rfl ha

variable (h : Startable c s) (hr : resRejects s c.desc = false)
include h hr

theorem startCmd_creates (h1 : rOp c.desc = 1) (ha : c.admin = none) {key off : Nat} {u : State}
    (hp : tabPlace t 0 (rSpace c.desc) 0 8192 (holding t c s) = (.got key off, holding t c u)) : startCmd t c (holding t c s) =
      cmdDone t c { u with spaces := tput u.spaces (rSpace c.desc) ⟨min (rCount c.desc) (2 ^ 21 - 1), [], 0, false⟩ } := by
  unfold startCmd
  refine (if_neg h.not_withdrawn).trans ((if_neg h.not_waiting).trans ((if_neg (by simp [resRejects_holding, hr])).trans ?_))
  simp only [h1, hp]
  exact completeCmd_holding (s := { u with spaces := tput u.spaces (rSpace c.desc) ⟨min (rCount c.desc) (2 ^ 21 - 1), [], 0, false⟩ }) rfl ha

theorem startCmd_setsQuota (h3 : rOp c.desc = 3) (ha : c.admin = none) : startCmd t c (holding t c s) =
    cmdDone t c (spaceSet s (rSpace c.desc) (fun r => { r with quota := min (rCount c.desc) (2 ^ 21 - 1) })) := by
  unfold startCmd
  refine (if_neg h.not_withdrawn).trans ((if_neg h.not_waiting).trans ((if_neg (by simp [resRejects_holding, hr])).trans ?_))
  simp only [h3]
  exact completeCmd_holding (s := spaceSet s (rSpace c.desc) (fun r => { r with quota := min (rCount c.desc) (2 ^ 21 - 1) })) rfl ha

theorem startCmd_grants (hC : rOp c.desc = 0xC) (hon : bit c.desc.w3 38 = true) (ha : c.admin = none) : startCmd t c (holding t c s) =
    cmdDone t c (spaceSet s (rSpace c.desc) (fun r => { r with grants := r.grants ||| BitVec.twoPow 256 (rSegment c.desc) })) := by
  unfold startCmd
  refine (if_neg h.not_withdrawn).trans ((if_neg h.not_waiting).trans ((if_neg (by simp [resRejects_holding, hr])).trans ?_))
  simp only [hC, hon, if_true]
  exact completeCmd_holding (s := spaceSet s (rSpace c.desc) (fun r => { r with grants := r.grants ||| BitVec.twoPow 256 (rSegment c.desc) })) rfl ha

/-- The space of a MAP with FILL 1 takes its binding as the command starts. -/
def bound (d : CmdDesc) (s : State) : State :=
  if rOp d = 4 ∧ rFill d = 1 then spaceSet s (rSpace d) (fun r => { r with bindings := r.bindings ++ [⟨rVpn d, rPages d, rSet d⟩] }) else s

theorem startCmd_pages (hop : rOp c.desc ∈ [4, 7, 8]) :
    startCmd t c (holding t c s) = holding t { c with stage := 1, todo := rRange c.desc } (bound c.desc s) := by
  unfold startCmd
  refine (if_neg h.not_withdrawn).trans ((if_neg h.not_waiting).trans ((if_neg (by simp [resRejects_holding, hr])).trans ?_))
  have hset (u : State) : setCmd t { c with stage := 1, todo := rRange c.desc } (holding t c u) =
      holding t { c with stage := 1, todo := rRange c.desc } u := setCmd_holding rfl
  rw [bound]
  simp only [List.mem_cons, List.not_mem_nil, or_false] at hop
  rcases hop with hop | hop | hop <;> simp only [hop]
  · split
    · exact hset (spaceSet s (rSpace c.desc) (fun r => { r with bindings := r.bindings ++ [⟨rVpn c.desc, rPages c.desc, rSet c.desc⟩] }))
    · exact hset s
  · exact hset s
  · exact hset s

end

/-! ## The steps of a command that its tile holds alone -/

section
variable {t : Nat} {c c' : ResCmd} {s u v : State}

/-- A command alone in its queue waits neither for the withdrawal of a tin nor for an earlier command. -/
theorem not_delayed (h0 : c.stage = 0) (hd : rOp c.desc ≠ 2 ∨ resRejects s c.desc = true) :
    ¬ (c.stage = 0 && rOp c.desc = 2 && (holding t c s).tins.any (fun p => p.1 == rSpace c.desc && p.2.state != .free) &&
      !resRejects (holding t c s) c.desc) = true ∧
    ¬ (c.stage = 100 || (c.stage = 0 && ((getRes (holding t c s) t).queue.takeWhile (fun q => q.id != c.id)).any (fun q =>
      q.stage != 100 && cmdsOverlap q.desc c.desc))) = true := by
  rw [resRejects_holding, queue_holding]
  refine ⟨?_, by simp [h0]⟩
  rcases hd with hd | hd <;> simp [hd]

/-- A command that completes as it starts leaves no more to do. -/
theorem stepCmd_completes (h0 : c.stage = 0) (hd : rOp c.desc ≠ 2 ∨ resRejects s c.desc = true)
    (hs : startCmd t c (holding t c s) = cmdDone t c' u) : stepCmd t c.id (holding t c s) = cmdDone t c' u := by
  obtain ⟨htin, hearlier⟩ := not_delayed (t := t) h0 hd
  rw [stepCmd, findCmd_holding]
  refine (if_neg htin).trans ((if_neg hearlier).trans ?_)
  rw [if_pos h0, hs]
  simp only [findCmd_cmdDone]

/-- A command that works through its pages at once, and needs no round, completes. -/
theorem stepCmd_worksThrough {e : ResCmd} (h0 : c.stage = 0) (hop : rOp c.desc ∈ [4, 7, 8]) (ha : c.admin = none) (hw : c.waiting = [])
    (hr : c.rounds = 0) (hc : c' = { c with stage := 1, todo := rRange c.desc }) (he : e = { c with stage := 1, todo := [] })
    (hs : startCmd t c (holding t c s) = holding t c' u)
    (hp : runPages t (c'.todo.length + 1) c' (holding t c' u) = (e, holding t c' v)) :
    stepCmd t c.id (holding t c s) = cmdDone t e v := by
  have hne : rOp c.desc ≠ 2 ∧ rOp c.desc ≠ 5 ∧ rOp c.desc ≠ 6 ∧ rOp c.desc ≠ 0xA ∧ rOp c.desc ≠ 0xC ∧ rOp c.desc ≠ 0xD := by
    simp only [List.mem_cons, List.not_mem_nil, or_false] at hop
    omega
  obtain ⟨h2, h5, h6, hA, hC, hD⟩ := hne
  obtain ⟨htin, hearlier⟩ := not_delayed (t := t) (s := s) h0 (.inl h2)
  obtain ⟨hid, hdesc, hstage⟩ : c.id = c'.id ∧ c'.desc = c.desc ∧ c'.stage = 1 := by rw [hc]; exact ⟨rfl, rfl, rfl⟩
  obtain ⟨heid, hedesc, hestage, headmin, hetodo, hewait, herounds⟩ : c'.id = e.id ∧ e.desc = c.desc ∧ e.stage = 1 ∧ e.admin = none ∧ e.todo = [] ∧
      e.waiting = [] ∧ e.rounds = 0 := by
    rw [hc, he]
    exact ⟨rfl, rfl, rfl, ha, rfl, hw, hr⟩
  have hadvance : advanceCmd t e (holding t e v) = cmdDone t e v := by
    simp only [advanceCmd, hestage, hedesc, h2, h5, h6, hA, hC, hD, if_true, if_false, or_self]
    exact completeCmd_holding rfl headmin
  rw [stepCmd, findCmd_holding]
  refine (if_neg htin).trans ((if_neg hearlier).trans ?_)
  rw [if_pos h0, hs, hid]
  dsimp only
  rw [findCmd_holding]
  simp [hstage, hdesc, hD, hp, setCmd_holding heid, hadvance, hetodo, hewait, herounds]

end

/-! ## The pages of a command -/

section
variable {t : Nat} {c c' : ResCmd} {s u : State}

theorem runPages_one {v : Nat} (hv : c.todo = [v]) (hp : cmdPage t c v s = (c, .done, u)) :
    runPages t (c.todo.length + 1) c s = ({ c with todo := [] }, u) := by
  simp only [hv, List.length_singleton, runPages, hp]

theorem rRange_one {d : CmdDesc} (h : rCount d = 1) : rRange d = [rVpn d] := by
  simp [rRange, h, upto]

theorem cmdPage_maps {v : Nat} {a b : Nat} (h4 : rOp c.desc = 4) (ht : tabsMake t (rSpace c.desc) v (rBig c.desc) s = (.got a b, u)) :
    cmdPage t c v s = (c, .done, { u with pages := tput u.pages (pkey (rSpace c.desc) v (rBig c.desc)) (mapPte c.desc) }) := by
  unfold cmdPage
  simp only [h4, if_true, ht]

theorem tabsMake_present {sp v : Nat} {big : Bool} (h : tabsMissing s sp v big = []) : tabsMake t sp v big s = (.got 0 0, s) := by
  rw [tabsMake, h]
  rfl

/-- MAP works through pages whose tables exist. -/
theorem runPages_maps (h4 : rOp c.desc = 4) (l : List Nat) (s : State)
    (h : ∀ v ∈ l, tabsMissing s (rSpace c.desc) v (rBig c.desc) = []) :
    runPages t (l.length + 1) { c with todo := l } (holding t c' s) = ({ c with todo := [] }, holding t c' { s with
      pages := l.foldl (fun m v => tput m (pkey (rSpace c.desc) v (rBig c.desc)) (mapPte c.desc)) s.pages }) := by
  induction l generalizing s with
  | nil => rfl
  | cons v l ih =>
    have hpage := cmdPage_maps (t := t) (c := { c with todo := v :: l }) (v := v) h4 (tabsMake_present (s := holding t c' s) (h v (by simp)))
    rw [List.length_cons, runPages]
    simp only [hpage]
    exact ih { s with pages := tput s.pages (pkey (rSpace c.desc) v (rBig c.desc)) (mapPte c.desc) } (fun w hw => h w (by simp [hw]))

/-- A command of one page finds no entry of another size there, and its page is resident. -/
structure OnResident (c : ResCmd) (v : Nat) (s : State) : Prop where
  alone : ∀ q ∈ mappedIn s (rSpace c.desc) v (rUnit c.desc), q.1 = pkey (rSpace c.desc) v (rBig c.desc)
  resident : Resident (getPte s (pkey (rSpace c.desc) v (rBig c.desc)))

theorem OnResident.no_other {v : Nat} (h : OnResident c v s) :
    (mappedIn s (rSpace c.desc) v (rUnit c.desc)).any (fun q => q.1 != pkey (rSpace c.desc) v (rBig c.desc)) = false := by
  simpa using h.alone

theorem cmdPage_pins {v : Nat} (h : OnResident c v s) (h7 : rOp c.desc = 7) :
    cmdPage t c v s = (c, .done, modPte s (pkey (rSpace c.desc) v (rBig c.desc)) (fun p => { p with pinned := true })) := by
  unfold cmdPage
  rcases h.resident with hp | hp <;> simp [h7, h.no_other, hp]

theorem cmdPage_unpins {v : Nat} (h : OnResident c v s) (h8 : rOp c.desc = 8) :
    cmdPage t c v s = (c, .done, modPte s (pkey (rSpace c.desc) v (rBig c.desc)) (fun p => { p with pinned := false })) := by
  unfold cmdPage
  rcases h.resident with hp | hp <;> simp [h8, h.no_other, hp]

end

end Sys2Proof.Proofs

namespace Sys2Proof.Proofs

open Sys2Proof Sys2Proof.Machine Sys2Proof.Spec

/-! ## A place for a table (R187, R199) -/

/-- From `s` to `u` at most the marks of frames differ. -/
def Framed (s u : State) : Prop := u = { s with frames := u.frames }

theorem framed_markTable (key f n : Nat) (s : State) : Framed s (markTable key f n s) := by
  unfold markTable
  exact foldl_related (R := Framed) (fun _ => rfl) (fun h g => by rw [Framed, g, h]) (fun _ _ => by rfl) _ _

section
variable {t level space pre bytes : Nat} {s u : State}

theorem allocTile_free {core n key f : Nat} {evict : Bool} (hq : quotaOk s space t n = true) (hf : freeInTile s t core n = some (key, f)) :
    allocTile t core space n evict s = (.got key f, s) := by
  unfold allocTile
  rw [if_neg (by simp [hq])]
  simp only [hf]

/-- A frame that the picked tile gives is taken there. -/
theorem allocate_got {key n k f : Nat} {evict : Bool} (h : allocTile (key / 64) (key % 64) space n evict s = (.got k f, u)) :
    allocate key space n evict s = (.got k f, u) := by
  have hrest (l : List Nat) : l.foldl (fun (r : Alloc × State) t => match r.1 with
      | .none_ | .noRun => allocTile t (key % 64) space n evict r.2
      | _ => r) (.got k f, u) = (.got k f, u) := by
    induction l with
    | nil => rfl
    | cons x l ih => exact ih
  unfold allocate
  dsimp only
  rw [List.foldl_cons]
  simp only [h]
  erw [hrest]

/-- What a tile that has room for a structure makes of the state as it places it. -/
def Placed (s u : State) (l : TabLoc) : Prop := ∃ frames, u = { s with tables := s.tables ++ [l], frames := frames }

theorem tabPlace_slot {key off : Nat} (hb : bytes < 65536) (h : tabSlot s bytes = some (key, off)) : tabPlace t level space pre bytes s =
    (.got key off, { s with tables := s.tables ++ [⟨level, space, pre, key / 64, key % 64, off, bytes⟩] }) := by
  unfold tabPlace
  simp only [hb, if_true, h]

theorem tabPlace_room (h : TableRoom s t bytes) : ∃ key a off u, tabPlace t level space pre bytes s = (.got key a, u) ∧
    Placed s u ⟨level, space, pre, key / 64, key % 64, off, bytes⟩ := by
  rcases h with ⟨hb, hs⟩ | ⟨hs, hq, hf⟩
  · obtain ⟨⟨key, off⟩, hslot⟩ := Option.isSome_iff_exists.1 hs
    exact ⟨key, off, off, _, tabPlace_slot hb hslot, s.frames, rfl⟩
  · obtain ⟨⟨key, f⟩, hfree⟩ := Option.isSome_iff_exists.1 hf
    have htile : ck t 0 / 64 = t := ck_tile t 0
    have hcore : ck t 0 % 64 = 0 := ck_core t 0
    have halloc : allocate (ck t 0) 0 (cdiv bytes 65536) true s = (.got key f, s) :=
      allocate_got (by rw [htile, hcore]; exact allocTile_free hq hfree)
    have hnone : (if bytes < 65536 then tabSlot s bytes else none) = none := by
      split
      · next hb => exact hs hb
      · rfl
    have hmark := framed_markTable key f (cdiv bytes 65536) s
    refine ⟨key, f, f * 65536, { markTable key f (cdiv bytes 65536) s with
      tables := (markTable key f (cdiv bytes 65536) s).tables ++ [⟨level, space, pre, key / 64, key % 64, f * 65536, bytes⟩] }, ?_,
      (markTable key f (cdiv bytes 65536) s).frames, by rw [hmark]⟩
    unfold tabPlace
    simp only [hnone, halloc]

theorem tabsMake_one {v key off : Nat} {big : Bool} {l : Nat × Nat × Nat} (hm : tabsMissing s space v big = [l])
    (h : tabSlot s l.2.2 = some (key, off)) : tabsMake t space v big s =
      (.got key off, { s with tables := s.tables ++ [⟨l.1, space, l.2.1, key / 64, key % 64, off, l.2.2⟩] }) := by
  have hl : l ∈ [(1, v / 2 ^ 23, 4096), (2, v / 2 ^ 14, 4096)] ++ (if big then [] else [(3, v / 32, 256)]) :=
    List.mem_of_mem_filter (hm ▸ List.mem_singleton_self l : l ∈ tabsMissing s space v big)
  have hb : l.2.2 < 65536 := by
    cases big <;> simp at hl <;> rcases hl with rfl | rfl | rfl <;> simp
  rw [tabsMake, hm]
  exact tabPlace_slot hb h

end

/-! ## Residency commands on records (O49) -/

section
variable {rq : Requester} {t : Fin 24} {d : CmdDesc} {s u : State} {op : Nat} {c : Instr}

theorem does_resRow (hc : exec c s = resRow op rq t d s) (hm : mainOn s = true) (hw : rq ≠ .firmware)
    (hu : resSubmit rq t.val (resDesc op d) s = u) : Does c s u :=
  does_onMain hc hm ((if_neg hw).trans hu)

theorem mayName_of_runs (h : ResRuns rq t d s) : MayName rq d s := h.level.imp_right Or.inr

theorem does_resRuns (h : ResRuns rq t (resDesc op d) s) (hc : exec c s = resRow op rq t d s)
    (hu : stepCmd t.val s.nextId (holding t.val (submitted rq (resDesc op d) s) (numbered s)) = u) : Does c s u :=
  does_resRow hc h.on h.writer ((resSubmit_takes (mayName_of_runs h) h.empty).trans hu)

theorem startable_of_runs (h : ResRuns rq t (resDesc op d) s) (ho : rOp (resDesc op d) ≠ 0xD) :
    Startable (submitted rq (resDesc op d) s) (numbered s) :=
  ⟨h.stays, fun hD => absurd hD ho⟩

theorem valid_numbered_of_runs (h : ResRuns rq t (resDesc op d) s) : resRejects (numbered s) (resDesc op d) = false :=
  (resRejects_managed s.res (s.nextId + 1) s.lastCode s _).trans h.valid

theorem cmdDone_numbered {x : ResCmd} {t : Nat} (h : (getRes s t).queue = []) (hx : x.tag = fld d.w0 15 0) :
    cmdDone t x (numbered s) = ends .ok (modRes { s with nextId := s.nextId + 1 } t (fun r => { r with
      statTag := BitVec.ofNat 16 (fld d.w0 15 0), statCode := x.code, statSeq := r.statSeq + 1 })) := by
  rw [cmdDone_of_empty (s := numbered s) h, hx]
  rfl

theorem resDone_of_cmdDone {x : ResCmd} (h : (getRes s t.val).queue = []) (hx : x.tag = fld d.w0 15 0) (hk : x.code = .ok) :
    cmdDone t.val x (numbered s) = resDone s t d := by
  rw [cmdDone_numbered h hx, hk]
  rfl

theorem submitted_tag : (submitted rq (resDesc op d) s).tag = fld d.w0 15 0 := w0_tag_resDesc op d

section
variable {q x e : ResCmd} {v : State}

/-- A command that has just been taken, by a requester that no stream of admission stands behind. -/
structure Fresh (q : ResCmd) : Prop where
  stage : q.stage = 0
  admin : q.admin = none
  waiting : q.waiting = []
  rounds : q.rounds = 0

theorem fresh_submitted (D : CmdDesc) : Fresh (submitted rq D s) := ⟨rfl, rfl, rfl, rfl⟩

theorem desc_submitted (D : CmdDesc) : (submitted rq D s).desc = D := rfl

/-- A command of pages that can start completes once it has worked through them. -/
theorem stepCmd_pages {t : Nat} (hf : Fresh q) (hs : Startable q s) (hr : resRejects s q.desc = false) (hop : rOp q.desc ∈ [4, 7, 8])
    (hx : x = { q with stage := 1, todo := rRange q.desc }) (he : e = { q with stage := 1, todo := [] })
    (hp : runPages t (x.todo.length + 1) x (holding t x (bound q.desc s)) = (e, holding t x v)) :
    stepCmd t q.id (holding t q s) = cmdDone t e v :=
  stepCmd_worksThrough hf.stage hop hf.admin hf.waiting hf.rounds hx he (hx ▸ startCmd_pages hs hr hop) hp

end

/-- A command of pages taken with the descriptor `D`, with the pages `l` still to work through. -/
def paging (D : CmdDesc) (rq : Requester) (s : State) (l : List Nat) : ResCmd := { submitted rq D s with stage := 1, todo := l }

theorem paging_tag (l : List Nat) (D : CmdDesc) : (paging D rq s l).tag = fld D.w0 15 0 := rfl

theorem paging_code (l : List Nat) (D : CmdDesc) : (paging D rq s l).code = .ok := rfl

theorem paging_desc (l : List Nat) (D : CmdDesc) : (paging D rq s l).desc = D := rfl

/-- A command of pages that can run at once completes once it has worked through them. -/
theorem does_pages {v : State} (h : ResRuns rq t (resDesc op d) s) (hc : exec c s = resRow op rq t d s) (hop : op ∈ [4, 7, 8])
    (hp : runPages t.val ((rRange d).length + 1) (paging (resDesc op d) rq s (rRange d))
      (holding t.val (paging (resDesc op d) rq s (rRange d)) (bound (resDesc op d) (numbered s))) =
      (paging (resDesc op d) rq s [], holding t.val (paging (resDesc op d) rq s (rRange d)) (numbered v)))
    (hq : v.res = s.res) : Does c s (resDone v t d) := by
  have hrop : rOp (resDesc op d) = op := rOp_resDesc op d (by simp only [List.mem_cons, List.not_mem_nil, or_false] at hop; omega)
  have hne : rOp (resDesc op d) ≠ 0xD := by
    rw [hrop]
    simp only [List.mem_cons, List.not_mem_nil, or_false] at hop
    omega
  have hstart := startable_of_runs h hne
  have hr := valid_numbered_of_runs h
  have hrange := rRange_resDesc op d
  have htag := w0_tag_resDesc op d
  refine does_resRuns h hc ?_
  generalize resDesc op d = D at *
  rw [← hrange] at hp
  have hstep := stepCmd_pages (t := t.val) (v := numbered v) (x := paging D rq s (rRange D)) (e := paging D rq s []) (fresh_submitted D) hstart hr (hrop ▸ hop) rfl rfl hp
  refine hstep.trans (resDone_of_cmdDone ?_ htag rfl)
  rw [getRes, hq]
  exact h.empty

end

end Sys2Proof.Proofs

namespace Sys2Proof.Proofs

open Sys2Proof Sys2Proof.Machine Sys2Proof.Spec

section
variable {rq : Requester} {t : Fin 24} {d : CmdDesc} {s u v : State} {op : Nat} {c : Instr}

/-- A command that completes as it starts leaves the state that its start makes. -/
theorem does_atOnce (h : ResRuns rq t (resDesc op d) s) (hc : exec c s = resRow op rq t d s) (hop : op ∈ [1, 3, 0xC])
    (hs : startCmd t.val (submitted rq (resDesc op d) s) (holding t.val (submitted rq (resDesc op d) s) (numbered s)) =
      cmdDone t.val (submitted rq (resDesc op d) s) (numbered v)) (hq : v.res = s.res) : Does c s (resDone v t d) := by
  have hrop : rOp (resDesc op d) = op := rOp_resDesc op d (by simp only [List.mem_cons, List.not_mem_nil, or_false] at hop; omega)
  have hne : rOp (resDesc op d) ≠ 2 := by
    rw [hrop]
    simp only [List.mem_cons, List.not_mem_nil, or_false] at hop
    omega
  have htag := w0_tag_resDesc op d
  refine does_resRuns h hc ?_
  generalize resDesc op d = D at *
  refine (stepCmd_completes (fresh_submitted D).stage (.inl hne) hs).trans (resDone_of_cmdDone ?_ htag rfl)
  rw [getRes, hq]
  exact h.empty

theorem resDone_getRes : getRes (resDone s t d) t.val =
    { getRes s t.val with statTag := BitVec.ofNat 16 (fld d.w0 15 0), statCode := .ok, statSeq := (getRes s t.val).statSeq + 1 } := by
  rw [resDone, getRes_ends, getRes_modRes]
  rfl

theorem resDone_statTag : (getRes (resDone s t d) t.val).statTag = BitVec.ofNat 16 (fld d.w0 15 0) := by
  rw [resDone_getRes]

theorem resDone_statCode : (getRes (resDone s t d) t.val).statCode = .ok := by
  rw [resDone_getRes]

theorem resDone_spaces : (resDone s t d).spaces = s.spaces := rfl

theorem resDone_tables : (resDone s t d).tables = s.tables := rfl

theorem resDone_pages : (resDone s t d).pages = s.pages := rfl

theorem does_ends_resDone (h : Does c s (resDone v t d)) : Does c s (ends .ok (resDone v t d)) := h

/-- CREATE_SPACE makes a record with its quota in the place found for it. -/
theorem does_createSpace (h : ResRuns rq t (resDesc 1 d) s) (hroom : TableRoom s t.val 8192) :
    ∃ u key off, Does (.resCreateSpace rq t d) s (ends .ok u) ∧
      u.spaces = tput s.spaces (rSpace d) ⟨min (rCount d) (2 ^ 21 - 1), [], 0, false⟩ ∧
      u.tables = s.tables ++ [⟨0, rSpace d, 0, key / 64, key % 64, off, 8192⟩] ∧ u.pages = s.pages ∧
      (getRes u t.val).statTag = BitVec.ofNat 16 (fld d.w0 15 0) ∧ (getRes u t.val).statCode = .ok := by
  have hrop := rOp_resDesc 1 d (by decide)
  have hroom' (x : ResCmd) : TableRoom (holding t.val x (numbered s)) t.val 8192 := hroom
  obtain ⟨key, a, off, w, hplace, frames, hw⟩ := tabPlace_room (level := 0) (space := rSpace d) (pre := 0) (hroom' (submitted rq (resDesc 1 d) s))
  have hplaced : w = holding t.val (submitted rq (resDesc 1 d) s) (numbered { s with
      tables := s.tables ++ [⟨0, rSpace d, 0, key / 64, key % 64, off, 8192⟩], frames := frames }) := by
    rw [hw]
    generalize resDesc 1 d = D
    rfl
  rw [hplaced, ← rSpace_resDesc 1 d] at hplace
  have hstart := startCmd_creates (startable_of_runs h (by omega)) (valid_numbered_of_runs h) hrop rfl hplace
  rw [desc_submitted, rSpace_resDesc, rCount_resDesc] at hstart
  have hdoes := does_atOnce (c := .resCreateSpace rq t d) (v := { s with
    tables := s.tables ++ [⟨0, rSpace d, 0, key / 64, key % 64, off, 8192⟩], frames := frames
    spaces := tput s.spaces (rSpace d) ⟨min (rCount d) (2 ^ 21 - 1), [], 0, false⟩ }) h rfl (by decide) hstart rfl
  exact ⟨_, key, off, does_ends_resDone hdoes, resDone_spaces, resDone_tables, resDone_pages, resDone_statTag, resDone_statCode⟩

theorem does_setQuota (h : ResRuns rq t (resDesc 3 d) s) : Does (.resSetQuota rq t d) s
    (resDone (spaceSet s (rSpace d) (fun r => { r with quota := min (rCount d) (2 ^ 21 - 1) })) t d) := by
  have hrop := rOp_resDesc 3 d (by decide)
  have hstart := startCmd_setsQuota (t := t.val) (startable_of_runs h (by omega)) (valid_numbered_of_runs h) hrop rfl
  rw [desc_submitted, rSpace_resDesc, rCount_resDesc] at hstart
  exact does_atOnce h rfl (by decide) hstart rfl

theorem does_grant (h : ResRuns rq t (resDesc 0xC d) s) (hon : bit d.w3 38 = true) : Does (.resGrant rq t d) s
    (resDone (spaceSet s (rSpace d) (fun r => { r with grants := r.grants ||| BitVec.twoPow 256 (rSegment d) })) t d) := by
  have hrop := rOp_resDesc 0xC d (by decide)
  have hstart := startCmd_grants (t := t.val) (startable_of_runs h (by omega)) (valid_numbered_of_runs h) hrop
    (by rw [desc_submitted, w3_resDesc]; exact hon) rfl
  rw [desc_submitted, rSpace_resDesc, rSegment_resDesc] at hstart
  exact does_atOnce h rfl (by decide) hstart rfl

/-! ### Commands of pages -/

theorem bound_of_ne {D : CmdDesc} (h : ¬ (rOp D = 4 ∧ rFill D = 1)) : bound D s = s := if_neg h

/-- The pages that MAP makes. -/
def mappedPages (d : CmdDesc) (s : State) : State :=
  { s with pages := (rRange d).foldl (fun m v => tput m (pkey (rSpace d) v (rBig d)) (mapPte (resDesc 4 d))) s.pages }

/-- MAP, where the tables of its pages exist, makes the pages of the state that its start leaves. -/
theorem does_map (h : ResRuns rq t (resDesc 4 d) s) (hb : bound (resDesc 4 d) (numbered s) = numbered u) (hq : u.res = s.res) (hu : u.tables = s.tables)
    (ht : ∀ v ∈ rRange d, tabsMissing s (rSpace d) v (rBig d) = []) : Does (.resMap rq t d) s (resDone (mappedPages d u) t d) := by
  have hrop := rOp_resDesc 4 d (by decide)
  have hmissing (v : Nat) : tabsMissing (numbered u) (rSpace d) v (rBig d) = tabsMissing s (rSpace d) v (rBig d) := by
    simp only [tabsMissing, findTab, numbered, hu]
  refine does_pages h rfl (by decide) ?_ hq
  rw [hb]
  have hrun := runPages_maps (t := t.val) (c := paging (resDesc 4 d) rq s (rRange d)) (c' := paging (resDesc 4 d) rq s (rRange d)) hrop (rRange d)
    (numbered u) (by rw [paging_desc, rSpace_resDesc, rBig_resDesc]; exact fun v hv => (hmissing v).trans (ht v hv))
  rw [paging_desc, rSpace_resDesc, rBig_resDesc] at hrun
  exact hrun

/-- MAP makes the one table that its page lacks, and then its page. -/
theorem does_mapTable {l : Nat × Nat × Nat} {key off : Nat} (h : ResRuns rq t (resDesc 4 d) s) (hf : rFill d = 0) (hn : rCount d = 1)
    (hl : tabsMissing s (rSpace d) (rVpn d) (rBig d) = [l]) (hs : tabSlot s l.2.2 = some (key, off)) :
    ∃ u, Does (.resMap rq t d) s (ends .ok u) ∧ u.pages = tput s.pages (firstKey d) (mapPte (resDesc 4 d)) ∧
      u.tables = s.tables ++ [⟨l.1, rSpace d, l.2.1, key / 64, key % 64, off, l.2.2⟩] ∧ u.spaces = s.spaces := by
  have hrop := rOp_resDesc 4 d (by decide)
  have hfill : ¬ (rOp (resDesc 4 d) = 4 ∧ rFill (resDesc 4 d) = 1) := by rw [rFill_resDesc]; omega
  have hmake (x : ResCmd) := tabsMake_one (t := t.val) (s := holding t.val x (numbered s)) hl hs
  have hdoes : Does (.resMap rq t d) s (resDone { s with
      tables := s.tables ++ [⟨l.1, rSpace d, l.2.1, key / 64, key % 64, off, l.2.2⟩]
      pages := tput s.pages (firstKey d) (mapPte (resDesc 4 d)) } t d) := by
    refine does_pages h rfl (by decide) ?_ rfl
    rw [bound_of_ne hfill, rRange_one hn]
    have hone := cmdPage_maps (t := t.val) (c := paging (resDesc 4 d) rq s [rVpn d]) (v := rVpn d) hrop
      (by rw [paging_desc, rSpace_resDesc, rBig_resDesc]; exact hmake (paging (resDesc 4 d) rq s [rVpn d]))
    rw [paging_desc, rSpace_resDesc, rBig_resDesc] at hone
    exact runPages_one rfl hone
  exact ⟨_, does_ends_resDone hdoes, resDone_pages, resDone_tables, resDone_spaces⟩

theorem onResident_paging (hl : Lone s d) (hr : Resident (getPte s (firstKey d))) (x : ResCmd) (l : List Nat) :
    OnResident (paging (resDesc op d) rq s l) (rVpn d) (holding t.val x (numbered s)) := by
  constructor <;> rw [paging_desc, rSpace_resDesc, rBig_resDesc]
  · rw [rUnit_resDesc]
    exact hl.2
  · exact hr

theorem does_pin (h : ResRuns rq t (resDesc 7 d) s) (hl : Lone s d) (hr : Resident (getPte s (firstKey d))) :
    Does (.resPin rq t d) s (resDone (modPte s (firstKey d) (fun p => { p with pinned := true })) t d) := by
  have hrop := rOp_resDesc 7 d (by decide)
  refine does_pages h rfl (by decide) ?_ rfl
  rw [bound_of_ne (by omega), rRange_one hl.1]
  have hone := cmdPage_pins (t := t.val) (onResident_paging (t := t) (rq := rq) (op := 7) hl hr (paging (resDesc 7 d) rq s [rVpn d]) [rVpn d]) hrop
  rw [paging_desc, rSpace_resDesc, rBig_resDesc] at hone
  exact runPages_one rfl hone

theorem does_unpin (h : ResRuns rq t (resDesc 8 d) s) (hl : Lone s d) (hr : Resident (getPte s (firstKey d))) :
    Does (.resUnpin rq t d) s (resDone (modPte s (firstKey d) (fun p => { p with pinned := false })) t d) := by
  have hrop := rOp_resDesc 8 d (by decide)
  refine does_pages h rfl (by decide) ?_ rfl
  rw [bound_of_ne (by omega), rRange_one hl.1]
  have hone := cmdPage_unpins (t := t.val) (onResident_paging (t := t) (rq := rq) (op := 8) hl hr (paging (resDesc 8 d) rq s [rVpn d]) [rVpn d]) hrop
  rw [paging_desc, rSpace_resDesc, rBig_resDesc] at hone
  exact runPages_one rfl hone

end

/-- The residency commands on records, each from its descriptor to its answer. -/
theorem recordCommands : RecordCommands := by
  intro rq t d s
  refine ⟨does_createSpace, does_setQuota, does_grant, fun h hf ht => ?_, fun l key off h hf hn hl hs => does_mapTable h hf hn hl hs,
    fun h hf ht => ?_, does_pin, does_unpin⟩
  · exact does_map (u := s) h (bound_of_ne (by rw [rFill_resDesc]; omega)) rfl rfl ht
  · refine does_map (u := spaceSet s (rSpace d) (fun r => { r with bindings := r.bindings ++ [⟨rVpn d, rPages d, rSet d⟩] })) h ?_ rfl rfl ht
    rw [bound, if_pos ⟨rOp_resDesc 4 d (by decide), by rw [rFill_resDesc, hf]⟩, rSpace_resDesc, rVpn_resDesc, rPages_resDesc, rSet_resDesc]
    rfl

end Sys2Proof.Proofs

namespace Sys2Proof.Proofs

open Sys2Proof Sys2Proof.Machine Sys2Proof.Spec

/-! ## Residency commands refused (R203, R204) -/

/-- A residency command is its row, with its own OP. -/
theorem exec_residency {rq : Requester} {t : Fin 24} {d : CmdDesc} {s : State} {c : Instr} {op : Nat}
    (h : (c, op) ∈ [(Instr.resCreateSpace rq t d, 1), (.resDestroySpace rq t d, 2), (.resSetQuota rq t d, 3),
      (.resMap rq t d, 4), (.resUnmap rq t d, 5), (.resProtect rq t d, 6), (.resPin rq t d, 7), (.resUnpin rq t d, 8),
      (.resPrefetch rq t d, 9), (.resEvict rq t d, 10), (.resMigrate rq t d, 11), (.resGrant rq t d, 12), (.resEncode rq t d, 13),
      (.resRebuild rq t d, 14), (.resVerify rq t d, 15)]) : exec c s = resRow op rq t d s ∧ op < 16 := by
  simp only [List.mem_cons, List.not_mem_nil, or_false, Prod.mk.injEq] at h
  obtain ⟨rfl, rfl⟩ | ⟨rfl, rfl⟩ | ⟨rfl, rfl⟩ | ⟨rfl, rfl⟩ | ⟨rfl, rfl⟩ | ⟨rfl, rfl⟩ | ⟨rfl, rfl⟩ | ⟨rfl, rfl⟩ | ⟨rfl, rfl⟩ | ⟨rfl, rfl⟩ | ⟨rfl, rfl⟩ |
    ⟨rfl, rfl⟩ | ⟨rfl, rfl⟩ | ⟨rfl, rfl⟩ | ⟨rfl, rfl⟩ := h <;> exact ⟨rfl, by decide⟩

section
variable {rq : Requester} {t : Fin 24} {d : CmdDesc} {s v : State} {op : Nat} {c : Instr}

theorem mayName_resDesc : MayName rq (resDesc op d) s ↔ MayName rq d s := by
  rw [MayName, MayName, rSpace_resDesc]

theorem does_firmware (hc : exec c s = resRow op .firmware t d s) (hm : mainOn s = true) : Does c s (ends .keyFault s) :=
  does_onMain hc hm (if_pos rfl)

/-- The state in which a command that had taken its number ended with REJECTED. -/
def refused (v s : State) (t : Fin 24) (d : CmdDesc) : State :=
  ends .ok (modRes { v with nextId := s.nextId + 1 } t.val (fun r => { r with
    statTag := BitVec.ofNat 16 (fld d.w0 15 0), statCode := .rejected, statSeq := r.statSeq + 1 }))

theorem cmdDone_refused {x : ResCmd} (h : (getRes s t.val).queue = []) (hres : v.res = s.res) (hx : x.tag = fld d.w0 15 0) (hk : x.code = .rejected) :
    cmdDone t.val x { v with nextId := s.nextId + 1 } = refused v s t d := by
  rw [cmdDone_of_empty (by rw [getRes, hres]; exact h), hx, hk]
  rfl

/-- The read of a LIST leaves the count of numbers as it was. -/
theorem encodeLoad_numbered (D : CmdDesc) : (encodeLoad (numbered s) D).2 = { (encodeLoad s D).2 with nextId := s.nextId + 1 } := by
  have hm := congrArg Prod.snd (encodeLoad_managed s.res (s.nextId + 1) s.lastCode s D)
  have hres := encodeLoad_res s D
  have hcode := encodeLoad_lastCode s D
  calc (encodeLoad (numbered s) D).2 = managed s.res (s.nextId + 1) s.lastCode (encodeLoad s D).2 := hm
    _ = managed (encodeLoad s D).2.res (s.nextId + 1) (encodeLoad s D).2.lastCode (encodeLoad s D).2 := by rw [hres, hcode]
    _ = { (encodeLoad s D).2 with nextId := s.nextId + 1 } := rfl

theorem does_rejected (hc : exec c s = resRow op rq t d s) (hm : mainOn s = true) (hop : op < 16) (hw : rq ≠ .firmware)
    (he : (getRes s t.val).queue = []) (hn : rSpace d ≠ 0 ∨ expertOk rq 2 s = true) (hr : resRejects s (resDesc op d) = true)
    (hs : ∀ r, getSpace s (rSpace d) = some r → r.withdrawn = false) (hl : op = 13 → gpaTrains s d.w5.toNat = false)
    (hv : v = if op = 13 then (encodeLoad s d).2 else s) : Does c s (refused v s t d) := by
  have hrop : rOp (resDesc op d) = op := rOp_resDesc op d (by omega)
  have htag := w0_tag_resDesc op d
  have hname : MayName rq (resDesc op d) s := mayName_resDesc.2 (hn.imp_right Or.inr)
  have hstart : Startable (submitted rq (resDesc op d) s) (numbered s) := by
    constructor <;> rw [desc_submitted]
    · rw [rSpace_resDesc]
      exact hs
    · rw [hrop, w5_resDesc]
      exact hl
  have hload := encodeLoad_resDesc op d s
  refine does_resRow hc hm hw ((resSubmit_takes hname he).trans ?_)
  generalize resDesc op d = D at *
  have hrej : resRejects (numbered s) D = true := (resRejects_managed s.res (s.nextId + 1) s.lastCode s D).trans hr
  refine (stepCmd_completes (fresh_submitted D).stage (.inr hrej) (startCmd_rejects hstart hrej rfl)).trans ?_
  rw [desc_submitted, hrop]
  split
  · next h13 =>
    rw [if_pos h13] at hv
    rw [encodeLoad_numbered, hload, ← hv]
    exact cmdDone_refused he (by rw [hv, encodeLoad_res]) htag rfl
  · next h13 =>
    rw [if_neg h13] at hv
    rw [hv]
    exact cmdDone_refused he rfl htag rfl

end

theorem residencyRefusals : ResidencyRefusals := by
  intro rq t d s hm c op hc
  obtain ⟨hexec, hop⟩ := exec_residency hc
  refine ⟨?_, fun hw hfull hn => ?_, fun hw hk h0 he => ?_, fun hw hempty hn hr hs hl v hv => ?_⟩
  · rintro rfl
    exact does_firmware hexec hm
  · exact does_resRow hexec hm hw (resSubmit_full (mayName_resDesc.2 hn) hfull)
  · exact does_resRow hexec hm hw (resSubmit_keyFault ((rSpace_resDesc op d).trans h0) hk he)
  · exact does_rejected hexec hm hop hw hempty hn hr hs hl hv

/-- Settles O49: what each command does as its tile holds it alone, for the commands that change records, and the four refusals
that stand before it. -/
theorem residencyRecords : Obligations.ResidencyRecords := ⟨recordCommands, residencyRefusals⟩

end Sys2Proof.Proofs

namespace Sys2Proof.Proofs

open Sys2Proof Sys2Proof.Machine Sys2Proof.Spec

/-! ## What settles after a command and what it never does

A command's effect is followed by `settle`. Whatever state it starts from, `settle` adds no hint to a tile's queue and takes none but all of
them away, and it shortens no stripe of a shard set and lengthens none; a set that it makes has a generation other than 0. One lemma per
function that `settle` reaches says so, in the order in which the model defines them. -/

/-- What is watched: the hints of a tile, if `hints` is not empty, and the first `shards` shards of a stripe of a set. -/
structure Watch where
  tile : Nat
  hints : List Hint
  set : Nat
  stripe : Nat
  shards : Nat

/-- No tile's hints are those watched, and a watched stripe of a set of generation 0 has the watched shards. -/
structure AvoidsIn (w : Watch) (r : Tab ResTile) (x : Tab ShardSet) : Prop where
  hints : w.hints ≠ [] → (tget resInit r w.tile).hints ≠ w.hints
  sets : ∀ st, (x.find? (fun p => p.1 == w.set)).map (·.2) = some st → st.generation = 0 → w.shards ≤ (stripeOf st w.stripe).length

/-- A state that never shows what is watched; an abbreviation, since most functions leave both tables as they are. -/
abbrev Avoids (w : Watch) (s : State) : Prop := AvoidsIn w s.res s.sets

section
variable {w : Watch}

/-- The hints of a tile may be emptied, and nothing else than its hints is watched. -/
theorem AvoidsIn.put_res {r : Tab ResTile} {x : Tab ShardSet} {t : Nat} {v : ResTile} (h : AvoidsIn w r x)
    (hv : v.hints = (tget resInit r t).hints ∨ v.hints = []) : AvoidsIn w (tput r t v) x := by
  refine ⟨fun hw => ?_, h.sets⟩
  by_cases ht : w.tile = t
  · subst ht
    rw [Laws.tget_tput_same]
    rcases hv with hv | hv <;> rw [hv]
    · exact h.hints hw
    · exact hw.symm
  · rw [Laws.tget_tput_other _ _ _ ht]
    exact h.hints hw

/-- A set that is changed where it stands keeps its generation and the lengths of its stripes. -/
def KeepsShape (f : ShardSet → ShardSet) : Prop :=
  ∀ x, (f x).generation = x.generation ∧ ∀ n, (stripeOf (f x) n).length = (stripeOf x n).length

theorem keepsShape_state (n : Nat) : KeepsShape (fun x => { x with state := n }) := fun _ => ⟨rfl, fun _ => rfl⟩

theorem keepsShape_setRefresh : KeepsShape setRefresh := fun _ => ⟨rfl, fun _ => rfl⟩

theorem keepsShape_shard (n j : Nat) (g : Shard → Shard) :
    KeepsShape (fun x => { x with stripes := x.stripes.modify n (fun l => l.modify j g) }) := by
  refine fun x => ⟨rfl, fun m => ?_⟩
  simp only [stripeOf, List.getD_eq_getElem?_getD, List.getElem?_modify]
  cases x.stripes[m]? with
  | none => rfl
  | some l => by_cases h : n = m <;> simp [h]

theorem KeepsShape.comp {f g : ShardSet → ShardSet} (hg : KeepsShape g) (hf : KeepsShape f) : KeepsShape (fun x => g (f x)) :=
  fun x => ⟨(hg (f x)).1.trans (hf x).1, fun n => ((hg (f x)).2 n).trans ((hf x).2 n)⟩

theorem find_map_set (x : Tab ShardSet) (i k : Nat) (f : ShardSet → ShardSet) :
    ((x.map (fun p => if p.1 = i then (p.1, f p.2) else p)).find? (fun p => p.1 == k)).map (·.2) =
      ((x.find? (fun p => p.1 == k)).map (·.2)).map (fun v => if k = i then f v else v) := by
  induction x with
  | nil => rfl
  | cons p x ih =>
    have hp : (if p.1 = i then (p.1, f p.2) else p).1 = p.1 := by split <;> rfl
    rw [List.map_cons, List.find?_cons, List.find?_cons, hp]
    by_cases hk : p.1 = k
    · simp only [hk, beq_self_eq_true, Option.map_some]
      split <;> rfl
    · simp only [beq_eq_false_iff_ne.2 hk]
      exact ih

theorem AvoidsIn.map_set {r : Tab ResTile} {x : Tab ShardSet} {i : Nat} {f : ShardSet → ShardSet} (h : AvoidsIn w r x) (hf : KeepsShape f) :
    AvoidsIn w r (x.map (fun p => if p.1 = i then (p.1, f p.2) else p)) := by
  refine ⟨h.hints, fun st hst hg => ?_⟩
  rw [find_map_set, Option.map_eq_some_iff] at hst
  obtain ⟨v, hv, rfl⟩ := hst
  by_cases hi : w.set = i
  · rw [if_pos hi, (hf v).1] at hg
    rw [if_pos hi, (hf v).2]
    exact h.sets v hv hg
  · rw [if_neg hi] at hg ⊢
    exact h.sets v hv hg

theorem AvoidsIn.del_set {r : Tab ResTile} {x : Tab ShardSet} {i : Nat} (h : AvoidsIn w r x) : AvoidsIn w r (tdel x i) := by
  refine ⟨h.hints, fun st hst hg => ?_⟩
  rw [tdel, List.find?_filter] at hst
  by_cases hi : w.set = i
  · simp [hi, List.find?_eq_none.2] at hst
  · refine h.sets st ?_ hg
    rw [← hst]
    congr 2
    funext p
    by_cases hp : p.1 = w.set <;> simp [hp, hi]

theorem find_tput_set (x : Tab ShardSet) (i k : Nat) (v : ShardSet) : (((tput x i v).find? (fun p => p.1 == k)).map (·.2)) =
    if k = i then some v else (x.find? (fun p => p.1 == k)).map (·.2) := by
  induction x with
  | nil => simp only [tput, List.find?_cons, List.find?_nil, Option.map_none]; grind
  | cons p x ih =>
    rw [tput]
    grind

theorem AvoidsIn.put_set {r : Tab ResTile} {x : Tab ShardSet} {i : Nat} {v : ShardSet} (h : AvoidsIn w r x) (hv : v.generation ≠ 0) :
    AvoidsIn w r (tput x i v) := by
  refine ⟨h.hints, fun st hst hg => ?_⟩
  rw [find_tput_set] at hst
  split at hst
  · cases hst
    exact absurd hg hv
  · exact h.sets st hst hg

theorem avoids_foldl {α : Type} {f : State → α → State} (hf : ∀ s a, Avoids w s → Avoids w (f s a)) {s : State} {l : List α}
    (h : Avoids w s) : Avoids w (l.foldl f s) := by
  induction l generalizing s with
  | nil => exact h
  | cons a l ih => exact ih (hf s a h)

theorem avoids_foldl_fst {α β : Type} {f : State × β → α → State × β} (hf : ∀ r a, Avoids w r.1 → Avoids w (f r a).1) {r : State × β} {l : List α}
    (h : Avoids w r.1) :
    Avoids w (l.foldl f r).1 := by
  induction l generalizing r with
  | nil => exact h
  | cons a l ih => exact ih (hf r a h)

theorem avoids_foldl_snd {α β : Type} {f : β × State → α → β × State} (hf : ∀ r a, Avoids w r.2 → Avoids w (f r a).2) {r : β × State} {l : List α}
    (h : Avoids w r.2) :
    Avoids w (l.foldl f r).2 := by
  induction l generalizing r with
  | nil => exact h
  | cons a l ih => exact ih (hf r a h)

theorem avoids_foldl_trd {α β γ : Type} {f : β × γ × State → α → β × γ × State} (hf : ∀ r a, Avoids w r.2.2 → Avoids w (f r a).2.2)
    {r : β × γ × State} {l : List α} (h : Avoids w r.2.2) : Avoids w (l.foldl f r).2.2 := by
  induction l generalizing r with
  | nil => exact h
  | cons a l ih => exact ih (hf r a h)

/-- What an answer of a state watches is its state, if it has one. -/
theorem avoids_foldl_option {α β : Type} {f : Option (β × State) → α → Option (β × State)}
    (hf : ∀ r a b u, (∀ c v, r = some (c, v) → Avoids w v) → f r a = some (b, u) → Avoids w u) {r : Option (β × State)} {l : List α} {b : β} {u : State}
    (he : l.foldl f r = some (b, u)) (h : ∀ c v, r = some (c, v) → Avoids w v) : Avoids w u := by
  induction l generalizing r with
  | nil => exact h b u he
  | cons a l ih => exact ih he (fun c v hv => hf r a c v h hv)

end

end Sys2Proof.Proofs

namespace Sys2Proof.Proofs

open Sys2Proof Sys2Proof.Machine Sys2Proof.Spec

/-! ### Messages, events and counters -/

section
variable {w : Watch}

theorem avoids_putPort {s t p} (h : Avoids w s) : Avoids w (putPort s t p) := by
  grind [putPort]

theorem avoids_modPort {s t f} (h : Avoids w s) : Avoids w (modPort s t f) := by
  grind [modPort, avoids_putPort]

theorem avoids_counterBump {s k n} (h : Avoids w s) : Avoids w (counterBump s k n).1 := by
  grind [counterBump]

theorem avoids_stageAdd {s e} (h : Avoids w s) : Avoids w (stageAdd s e) := by
  grind [stageAdd]

theorem avoids_stageRaw {s e} (h : Avoids w s) : Avoids w (stageRaw s e) := by
  grind [stageRaw, avoids_counterBump, avoids_stageAdd]

theorem avoids_count {k n s} (h : Avoids w s) : Avoids w (count k n s) := by
  grind [count, avoids_stageRaw, avoids_counterBump]

theorem avoids_countTile {t i n s} (h : Avoids w s) : Avoids w (countTile t i n s) := by
  grind [countTile, avoids_count]

theorem avoids_countPort {t i n s} (h : Avoids w s) : Avoids w (countPort t i n s) := by
  grind [countPort, avoids_countTile]

theorem avoids_pickOne {α : Type} {l : List α} {s} (h : Avoids w s) : Avoids w (pickOne l s).2 := by
  unfold pickOne
  split <;> exact h

theorem avoids_modLane {s k f} (h : Avoids w s) : Avoids w (modLane s k f) := by
  grind [modLane]

theorem avoids_putStrand {s st x} (h : Avoids w s) : Avoids w (putStrand s st x) := by
  grind [putStrand]

theorem avoids_modStrand {s st f} (h : Avoids w s) : Avoids w (modStrand s st f) := by
  grind [modStrand, avoids_putStrand]

theorem avoids_egressStart {st s} (h : Avoids w s) : Avoids w (egressStart st s) := by
  grind [egressStart, avoids_putStrand]

theorem avoids_egressPush {st p s} (h : Avoids w s) : Avoids w (egressPush st p s) := by
  grind [egressPush, avoids_modStrand, avoids_egressStart]

theorem avoids_dieTake {u q s} (h : Avoids w s) : Avoids w (dieTake u q s) := by
  grind [dieTake, avoids_egressPush]

theorem avoids_d2dSend {u dests exit p s} (h : Avoids w s) : Avoids w (d2dSend u dests exit p s) := by
  grind [d2dSend, avoids_modLane, avoids_dieTake, avoids_foldl, avoids_foldl_fst, avoids_foldl_snd, avoids_foldl_trd]

theorem avoids_strandSend {u st p s} (h : Avoids w s) : Avoids w (strandSend u st p s) := by
  grind [strandSend, avoids_d2dSend]

theorem avoids_sendRouted {t p s} (h : Avoids w s) : Avoids w (sendRouted t p s).2 := by
  grind [sendRouted, avoids_pickOne, avoids_strandSend, avoids_d2dSend]

theorem avoids_sendCopies {t p hall rack s} (h : Avoids w s) : Avoids w (sendCopies t p hall rack s).2 := by
  grind [sendCopies, avoids_strandSend, avoids_pickOne]

theorem avoids_sendMcast {t p s} (h : Avoids w s) : Avoids w (sendMcast t p s).2 := by
  grind [sendMcast, avoids_d2dSend, avoids_sendCopies]

theorem avoids_pumpOne {t st q} (h : Avoids w st.1) : Avoids w (pumpOne t st q).1 := by
  grind [pumpOne, avoids_modPort, avoids_countPort, avoids_sendRouted, avoids_sendMcast]

theorem avoids_pump {t s} (h : Avoids w s) : Avoids w (pump t s) := by
  grind [pump, avoids_modPort, avoids_pumpOne, avoids_foldl, avoids_foldl_fst, avoids_foldl_snd, avoids_foldl_trd]

theorem avoids_sendFlow {t p s} (h : Avoids w s) : Avoids w (sendFlow t p s) := by
  grind [sendFlow, avoids_modPort, avoids_pump]

theorem avoids_sendMsg {t dstModule dstTile type w3 w4 w5 w6 bs s}
    (h : Avoids w s) : Avoids w (sendMsg t dstModule dstTile type w3 w4 w5 w6 bs s) := by
  grind [sendMsg, avoids_modPort, avoids_sendFlow]

theorem avoids_igSend {who b s} (h : Avoids w s) : Avoids w (igSend who b s) := by
  cases who with
  | fabric m t => exact avoids_sendMsg (s := s) h
  | _ => exact h

theorem avoids_ends {c s} (h : Avoids w s) : Avoids w (ends c s) := by
  grind [ends]

theorem avoids_markFault {t s} (h : Avoids w s) : Avoids w (markFault t s) := by
  grind [markFault]

theorem avoids_raise {e s} (h : Avoids w s) : Avoids w (raise e s) := by
  grind [raise, avoids_markFault, avoids_stageRaw]

theorem avoids_stampStuck {s} (h : Avoids w s) : Avoids w (stampStuck s) := by
  grind [stampStuck, avoids_raise]

theorem avoids_stampNext {s} (h : Avoids w s) : Avoids w (stampNext s).2 := by
  grind [stampNext, avoids_stampStuck]

theorem avoids_igReply {who h0 c key body s} (h : Avoids w s) : Avoids w (igReply who h0 c key body s) := by
  grind [igReply, avoids_igSend, avoids_ends, avoids_stampNext]

theorem avoids_putGroup {s t g c} (h : Avoids w s) : Avoids w (putGroup s t g c) := by
  grind [putGroup]

theorem avoids_wakeGroup {t g s} (h : Avoids w s) : Avoids w (wakeGroup t g s) := by
  grind [wakeGroup, avoids_putGroup]

theorem avoids_modGroup {s t g f} (h : Avoids w s) : Avoids w (modGroup s t g f) := by
  grind [modGroup, avoids_putGroup]

theorem avoids_groupBusy {t g s} (h : Avoids w s) : Avoids w (groupBusy t g s) := by
  grind [groupBusy, avoids_modGroup]

theorem avoids_regWake {a s} (h : Avoids w s) : Avoids w (regWake a s) := by
  grind [regWake, avoids_wakeGroup, avoids_groupBusy]

theorem avoids_countersClear {block tile core level off s} (h : Avoids w s) : Avoids w (countersClear block tile core level off s) := by
  grind [countersClear, avoids_raise]

theorem avoids_tileCountersClear {t s} (h : Avoids w s) : Avoids w (tileCountersClear t s) := by
  grind [tileCountersClear, avoids_countersClear]

theorem avoids_withExpert {rq fn s f} (hf : ∀ s, Avoids w s → Avoids w (f s)) (h : Avoids w s) : Avoids w (withExpert rq fn s f) := by
  grind [withExpert, avoids_ends]

theorem avoids_cntClearWrite {rq v clear s} (hf : ∀ s, Avoids w s → Avoids w (clear s)) (h : Avoids w s) : Avoids w (cntClearWrite rq v clear s) := by
  grind [cntClearWrite, avoids_ends, avoids_withExpert]

end

end Sys2Proof.Proofs

namespace Sys2Proof.Proofs

open Sys2Proof Sys2Proof.Machine Sys2Proof.Spec

/-! ### Cores, crumb rounds and link adders -/

section
variable {w : Watch}

theorem avoids_modTP {s t f} (h : Avoids w s) : Avoids w (modTP s t f) := by
  grind [modTP]

theorem avoids_stateCtrlWrite {rq t v s} (h : Avoids w s) : Avoids w (stateCtrlWrite rq t v s) := by
  grind [stateCtrlWrite, avoids_modTP, avoids_ends, avoids_withExpert]

theorem avoids_modLink {t g f s} (h : Avoids w s) : Avoids w (modLink t g f s) := by
  grind [modLink]

theorem avoids_modColl {g f s} (h : Avoids w s) : Avoids w (modColl g f s) := by
  grind [modColl]

theorem avoids_crumbSend {p s} (h : Avoids w s) : Avoids w (crumbSend p s) := by
  grind [crumbSend, avoids_strandSend, avoids_pickOne, avoids_modPort]

theorem avoids_sendValue {g kind r hall dst s} (h : Avoids w s) : Avoids w (sendValue g kind r hall dst s) := by
  grind [sendValue, avoids_crumbSend]

theorem avoids_formModule {g kind num s} (h : Avoids w s) : Avoids w (formModule g kind num s) := by
  grind [formModule, avoids_modColl, avoids_sendValue, avoids_foldl, avoids_foldl_fst, avoids_foldl_snd, avoids_foldl_trd]

theorem avoids_formRack {g kind num s} (h : Avoids w s) : Avoids w (formRack g kind num s) := by
  grind [formRack, avoids_modColl, avoids_sendValue, avoids_foldl, avoids_foldl_fst, avoids_foldl_snd, avoids_foldl_trd]

theorem avoids_putCore {s key c} (h : Avoids w s) : Avoids w (putCore s key c) := by
  grind [putCore]

theorem avoids_modCore {s key f} (h : Avoids w s) : Avoids w (modCore s key f) := by
  grind [modCore, avoids_putCore]

theorem avoids_crumbEnd {g i code v s} (h : Avoids w s) : Avoids w (crumbEnd g i code v s) := by
  grind [crumbEnd, avoids_raise, avoids_modCore]

theorem avoids_modRound {g kind num f s} (h : Avoids w s) : Avoids w (modRound g kind num f s) := by
  grind [modRound, avoids_modColl]

theorem avoids_endRound {g kind num code s} (h : Avoids w s) : Avoids w (endRound g kind num code s) := by
  grind [endRound, avoids_crumbEnd, avoids_modColl, avoids_modRound, avoids_foldl, avoids_foldl_fst, avoids_foldl_snd, avoids_foldl_trd]

theorem avoids_countHearth {i n s} (h : Avoids w s) : Avoids w (countHearth i n s) := by
  grind [countHearth, avoids_count]

theorem avoids_markSuspects {l s} (h : Avoids w s) : Avoids w (markSuspects l s) := by
  grind [markSuspects, avoids_countHearth, avoids_raise, avoids_foldl, avoids_foldl_fst, avoids_foldl_snd, avoids_foldl_trd]

theorem avoids_noteLate {g r s} (h : Avoids w s) : Avoids w (noteLate g r s) := by
  grind [noteLate, avoids_markSuspects]

theorem avoids_finishRound {g kind num s} (h : Avoids w s) : Avoids w (finishRound g kind num s) := by
  grind [finishRound, avoids_endRound, avoids_noteLate, avoids_countHearth]

theorem avoids_sendAborts {g kind r code got s} (h : Avoids w s) : Avoids w (sendAborts g kind r code got s) := by
  grind [sendAborts, avoids_crumbSend, avoids_foldl, avoids_foldl_fst, avoids_foldl_snd, avoids_foldl_trd]

theorem avoids_markFailed {g kind num s} (h : Avoids w s) : Avoids w (markFailed g kind num s) := by
  grind [markFailed, avoids_modColl]

theorem avoids_mismatchRound {g kind num origin s} (h : Avoids w s) : Avoids w (mismatchRound g kind num origin s) := by
  grind [mismatchRound, avoids_sendAborts, avoids_endRound, avoids_markFailed, avoids_countHearth, avoids_raise]

theorem avoids_roundStep {g kind num s} (h : Avoids w s) : Avoids w (roundStep g kind num s) := by
  grind [roundStep, avoids_formModule, avoids_formRack, avoids_finishRound, avoids_mismatchRound]

theorem avoids_contribute {g kind i s} (h : Avoids w s) : Avoids w (contribute g kind i s) := by
  grind [contribute, avoids_roundStep, avoids_modColl, avoids_crumbEnd]

theorem avoids_linkCrumb {t gi op v s} (h : Avoids w s) : Avoids w (linkCrumb t gi op v s) := by
  grind [linkCrumb, avoids_contribute, avoids_modLink]

theorem avoids_linkCommit {t gi s} (h : Avoids w s) : Avoids w (linkCommit t gi s) := by
  grind [linkCommit, avoids_modLink, avoids_linkCrumb]

theorem avoids_benchPut {key off bs s} (h : Avoids w s) : Avoids w (benchPut key off bs s) := by
  grind [benchPut, avoids_modCore]

theorem avoids_rawRestore {o s} (h : Avoids w s) : Avoids w (rawRestore o s) := by
  grind [rawRestore, avoids_benchPut]

theorem avoids_linkUnlock {o work s} (h : Avoids w s) : Avoids w (linkUnlock o work s) := by
  grind [linkUnlock, avoids_modCore]

theorem avoids_linkTell {o code s} (h : Avoids w s) : Avoids w (linkTell o code s) := by
  grind [linkTell, avoids_modCore, avoids_raise, avoids_countTile]

theorem avoids_conditionEvents {tile core level l s} (h : Avoids w s) : Avoids w (conditionEvents tile core level l s) := by
  grind [conditionEvents, avoids_raise, avoids_foldl, avoids_foldl_fst, avoids_foldl_snd, avoids_foldl_trd]

theorem avoids_benchFail {key i s} (h : Avoids w s) : Avoids w (benchFail key i s) := by
  grind [benchFail, avoids_raise, avoids_modCore]

theorem avoids_countCore {key i n s} (h : Avoids w s) : Avoids w (countCore key i n s) := by
  grind [countCore, avoids_count]

theorem avoids_benchScan {key o n s} (h : Avoids w s) : Avoids w (benchScan key o n s).2 := by
  grind [benchScan, avoids_benchFail, avoids_countCore]

theorem avoids_linkDeliver {o s} (h : Avoids w s) : Avoids w (linkDeliver o s).1 := by
  grind [linkDeliver, avoids_benchPut, avoids_benchScan, avoids_foldl, avoids_foldl_fst, avoids_foldl_snd, avoids_foldl_trd]

theorem avoids_dropLink {t g s} (h : Avoids w s) : Avoids w (dropLink t g s) := by
  grind [dropLink]

theorem avoids_linkFinish {o s} (h : Avoids w s) : Avoids w (linkFinish o s) := by
  grind [linkFinish, avoids_conditionEvents, avoids_linkTell, avoids_linkDeliver, avoids_rawRestore, avoids_linkUnlock, avoids_dropLink]

theorem avoids_linkAbandon {o code s} (h : Avoids w s) : Avoids w (linkAbandon o code s) := by
  grind [linkAbandon, avoids_linkCommit, avoids_rawRestore, avoids_modLink, avoids_linkUnlock, avoids_linkTell, avoids_linkFinish]

theorem avoids_linkAdderWithdrawOp {rq t s} (h : Avoids w s) : Avoids w (linkAdderWithdrawOp rq t s) := by
  grind [linkAdderWithdrawOp, avoids_linkAbandon, avoids_ends, avoids_withExpert, avoids_foldl, avoids_foldl_fst, avoids_foldl_snd, avoids_foldl_trd]

theorem avoids_linkCtrlWrite {rq t v s} (h : Avoids w s) : Avoids w (linkCtrlWrite rq t v s) := by
  grind [linkCtrlWrite, avoids_ends, avoids_linkAdderWithdrawOp, avoids_withExpert]

theorem avoids_exportFrames {ks s} (h : Avoids w s) : Avoids w (exportFrames ks s) := by
  grind [exportFrames]

theorem avoids_regionDone {t tag c s} (h : Avoids w s) : Avoids w (regionDone t tag c s) := by
  grind [regionDone, avoids_modPort]

end

end Sys2Proof.Proofs

namespace Sys2Proof.Proofs

open Sys2Proof Sys2Proof.Machine Sys2Proof.Spec

/-! ### Regions, register blocks and the parts of page transfers -/

section
variable {w : Watch}

theorem avoids_regionRun {t d s} (h : Avoids w s) : Avoids w (regionRun t d s) := by
  grind [regionRun, avoids_modPort, avoids_exportFrames, avoids_regionDone]

theorem avoids_regionSubmit {rq t d s} (h : Avoids w s) : Avoids w (regionSubmit rq t d s) := by
  grind [regionSubmit, avoids_regionRun, avoids_modPort, avoids_ends, avoids_withExpert]

theorem avoids_stagePut {rq win i v s} (h : Avoids w s) : Avoids w (stagePut rq win i v s) := by
  grind [stagePut]

theorem avoids_stageTake {rq win i v s} (h : Avoids w s) : Avoids w (stageTake rq win i v s).2 := by
  grind [stageTake]

theorem avoids_windowWrite {last submit rq win i v s} (hf : ∀ d s, Avoids w s → Avoids w (submit d s))
    (h : Avoids w s) : Avoids w (windowWrite last submit rq win i v s) := by
  grind [windowWrite, avoids_stagePut, avoids_ends, avoids_stageTake]

theorem avoids_circuitWriteOp {rq t i v s} (h : Avoids w s) : Avoids w (circuitWriteOp rq t i v s) := by
  grind [circuitWriteOp, avoids_modPort, avoids_ends, avoids_withExpert]

theorem avoids_fabCtrlWrite {rq t v s} (h : Avoids w s) : Avoids w (fabCtrlWrite rq t v s) := by
  grind [fabCtrlWrite, avoids_modPort, avoids_ends, avoids_withExpert]

theorem avoids_fabricBlockWrite {rq t off v s} (h : Avoids w s) : Avoids w (fabricBlockWrite rq t off v s) := by
  grind [fabricBlockWrite, avoids_regionSubmit, avoids_windowWrite, avoids_circuitWriteOp, avoids_modPort, avoids_ends, avoids_withExpert,
      avoids_fabCtrlWrite]

theorem avoids_putTile {s t c} (h : Avoids w s) : Avoids w (putTile s t c) := by
  grind [putTile]

theorem avoids_modTile {s t f} (h : Avoids w s) : Avoids w (modTile s t f) := by
  grind [modTile, avoids_putTile]

theorem avoids_dispCtrlWriteOp {rq t v s} (h : Avoids w s) : Avoids w (dispCtrlWriteOp rq t v s) := by
  grind [dispCtrlWriteOp, avoids_modTile, avoids_ends, avoids_withExpert]

/-- A manager takes the place of another with the same hints. -/
theorem avoids_putRes {s t r} (hr : r.hints = (getRes s t).hints) (h : Avoids w s) : Avoids w (putRes s t r) := h.put_res (.inl hr)

theorem avoids_modRes {s t f} (hf : ∀ r, (f r).hints = r.hints) (h : Avoids w s) : Avoids w (modRes s t f) := avoids_putRes (hf _) h

theorem avoids_freeFrames {fs s} (h : Avoids w s) : Avoids w (freeFrames fs s) := by
  grind [freeFrames]

theorem avoids_tabDrop {f s} (h : Avoids w s) : Avoids w (tabDrop f s) := by
  grind [tabDrop, avoids_freeFrames]

theorem avoids_setCmd {t c s} (h : Avoids w s) : Avoids w (setCmd t c s) := by
  grind [setCmd, avoids_modRes]

theorem avoids_dropXfer {t id s} (h : Avoids w s) : Avoids w (dropXfer t id s) := by
  grind [dropXfer, avoids_modRes]

theorem avoids_setXfer {t x s} (h : Avoids w s) : Avoids w (setXfer t x s) := by
  grind [setXfer, avoids_modRes]

theorem avoids_stampSent {t s} (h : Avoids w s) : Avoids w (stampSent t s) := by
  grind [stampSent, avoids_modPort]

theorem avoids_remAdd {t mk s} (h : Avoids w s) : Avoids w (remAdd t mk s).2 := by
  grind [remAdd, avoids_modPort]

theorem avoids_bulkRead {t core kind operand compare a n region s} {x u} (he : bulkRead t core kind operand compare a n region s = some (x, u))
    (h : Avoids w s) : Avoids w u := by
  grind [bulkRead, avoids_sendMsg, avoids_stampSent, avoids_remAdd]

theorem avoids_gatherRemote {t id index p part s x u} (he : gatherRemote t id index p part s = some (x, u)) (h : Avoids w s) : Avoids w u := by
  refine avoids_foldl_option (fun r i b u hr hu => ?_) he (fun c v hv => by cases hv; exact h)
  cases r with
  | none => cases hu
  | some q =>
    obtain ⟨l, v⟩ := q
    simp only [Option.bind_some, Option.map_eq_some_iff] at hu
    obtain ⟨⟨n, v'⟩, hread, hu⟩ := hu
    cases hu
    exact avoids_bulkRead hread (hr l v rfl)

theorem avoids_addXfer {t x s} (h : Avoids w s) : Avoids w (addXfer t x s).2 := by
  grind [addXfer, avoids_modRes]

theorem avoids_encodeRead {t id place pk s x u} (h : Avoids w s)
    (he : (upto (pkPages pk)).foldl (fun q i => q.bind (fun (l, s) => (gatherRemote t id i place i s).map (fun u => (l ++ u.1, u.2))))
      (some (([] : List Nat), s)) = some (x, u)) : Avoids w u := by
  refine avoids_foldl_option (fun r i b u hr hu => ?_) he (fun c v hv => by cases hv; exact h)
  cases r with
  | none => cases hu
  | some q =>
    obtain ⟨l, v⟩ := q
    simp only [Option.bind_some, Option.map_eq_some_iff] at hu
    obtain ⟨⟨n, v'⟩, hread, hu⟩ := hu
    cases hu
    exact avoids_gatherRemote hread (hr l v rfl)

theorem avoids_encodeAsk {t c far s} (h : Avoids w s) : Avoids w (encodeAsk t c far s) := by
  refine avoids_setCmd (avoids_foldl_snd (fun r pk hr => ?_) h)
  have hadd := avoids_addXfer (t := t) (x := { xferBlank .encode (some pk) false (some c.id) with phase := 2 }) hr
  dsimp only
  split
  · next l u he =>
    have hread := avoids_encodeRead hadd he
    split
    · exact avoids_setXfer hread
    · exact hread
  · exact avoids_dropXfer hadd

theorem avoids_resLog {t kind space va c s} (h : Avoids w s) : Avoids w (resLog t kind space va c s) := by
  grind [resLog, avoids_modRes]

theorem avoids_noFrame {t space va s} (h : Avoids w s) : Avoids w (noFrame t space va s) := by
  grind [noFrame, avoids_resLog, avoids_raise]

theorem avoids_quotaRefused {t space va s} (h : Avoids w s) : Avoids w (quotaRefused t space va s) := by
  grind [quotaRefused, avoids_resLog, avoids_raise]

theorem avoids_askFrames {t module op id n i core at_ s} (h : Avoids w s) : Avoids w (askFrames t module op id n i core at_ s) := avoids_sendMsg h

theorem avoids_encodeShard {t c modules n j page s} (h : Avoids w s) : Avoids w (encodeShard t c modules n j page s).2 := by
  grind [encodeShard, avoids_askFrames, avoids_addXfer]

theorem avoids_countSlice {key i n s} (h : Avoids w s) : Avoids w (countSlice key i n s) := by
  grind [countSlice, avoids_count]

theorem avoids_sliceFault {key type level w2 w3 code s} (h : Avoids w s) : Avoids w (sliceFault key type level w2 w3 code s) := by
  grind [sliceFault, avoids_raise]

theorem avoids_putSlice {s key c} (h : Avoids w s) : Avoids w (putSlice s key c) := by
  grind [putSlice]

theorem avoids_modSlice {s key f} (h : Avoids w s) : Avoids w (modSlice s key f) := by
  grind [modSlice, avoids_putSlice]

theorem avoids_lineFailed {key s line} (h : Avoids w s) : Avoids w (lineFailed key s line) := by
  grind [lineFailed, avoids_countSlice, avoids_sliceFault, avoids_modSlice]

theorem avoids_sliceAccess {key n s} (h : Avoids w s) : Avoids w (sliceAccess key n s) := by
  grind [sliceAccess, avoids_modSlice]

theorem avoids_pageLoad {key frame s} (h : Avoids w s) : Avoids w (pageLoad key frame s).2 := by
  grind [pageLoad, avoids_lineFailed, avoids_sliceAccess, avoids_foldl, avoids_foldl_fst, avoids_foldl_snd, avoids_foldl_trd]

theorem avoids_encodePage {t c i s} (h : Avoids w s) : Avoids w (encodePage t c i s).2 := by
  grind [encodePage, avoids_pageLoad]

theorem avoids_encodePages {t c n s} (h : Avoids w s) : Avoids w (encodePages t c n s).2 := by
  grind [encodePages, avoids_encodePage, avoids_foldl, avoids_foldl_fst, avoids_foldl_snd, avoids_foldl_trd]

theorem avoids_markTable {key f n s} (h : Avoids w s) : Avoids w (markTable key f n s) := by
  grind [markTable, avoids_foldl, avoids_foldl_fst, avoids_foldl_snd, avoids_foldl_trd]

theorem avoids_modPte {s k f} (h : Avoids w s) : Avoids w (modPte s k f) := by
  grind [modPte]

end

end Sys2Proof.Proofs

namespace Sys2Proof.Proofs

open Sys2Proof Sys2Proof.Machine Sys2Proof.Spec

/-! ### Rounds, allocation and the work of the page mover -/

section
variable {w : Watch}

theorem avoids_tlbDrop {space vpn pages s} (h : Avoids w s) : Avoids w (tlbDrop space vpn pages s) := by
  grind [tlbDrop]

theorem avoids_startRound {t space vpn pages frees remote cmd s} (h : Avoids w s) : Avoids w (startRound t space vpn pages frees remote cmd s) := by
  grind [startRound, avoids_modRes, avoids_tlbDrop, avoids_countTile]

theorem avoids_evictPage {t pk cmd s} (h : Avoids w s) : Avoids w (evictPage t pk cmd s) := by
  grind [evictPage, avoids_modPte, avoids_countTile, avoids_startRound]

theorem avoids_clockSweep {l s} (h : Avoids w s) : Avoids w (clockSweep l s).2 := by
  induction l generalizing s with
  | nil => exact h
  | cons p l ih => grind [clockSweep, avoids_modPte]

theorem avoids_evictOne {t s} (h : Avoids w s) : Avoids w (evictOne t s).2 := by
  grind [evictOne, avoids_modRes, avoids_evictPage, avoids_clockSweep]

theorem avoids_compactSlice {t key s} (h : Avoids w s) : Avoids w (compactSlice t key s).2 := by
  grind [compactSlice, avoids_addXfer, avoids_foldl, avoids_foldl_fst, avoids_foldl_snd, avoids_foldl_trd]

theorem avoids_allocTile {t core space n evict s} (h : Avoids w s) : Avoids w (allocTile t core space n evict s).2 := by
  grind [allocTile, avoids_evictOne, avoids_compactSlice, avoids_foldl, avoids_foldl_fst, avoids_foldl_snd, avoids_foldl_trd]

theorem avoids_allocate {key space n evict s} (h : Avoids w s) : Avoids w (allocate key space n evict s).2 := by
  grind [allocate, avoids_allocTile, avoids_foldl, avoids_foldl_fst, avoids_foldl_snd, avoids_foldl_trd]

theorem avoids_tabPlace {t level space prefix_ bytes s} (h : Avoids w s) : Avoids w (tabPlace t level space prefix_ bytes s).2 := by
  grind [tabPlace, avoids_markTable, avoids_allocate]

theorem avoids_benchLoad {key o n s} (h : Avoids w s) : Avoids w (benchLoad key o n s).2 := by
  grind [benchLoad, avoids_benchScan]

theorem avoids_sliceLoad {key off n s} (h : Avoids w s) : Avoids w (sliceLoad key off n s).2.2 := by
  grind [sliceLoad, avoids_sliceAccess, avoids_lineFailed, avoids_foldl, avoids_foldl_fst, avoids_foldl_snd, avoids_foldl_trd]

theorem avoids_gpaLoad {a n s} (h : Avoids w s) : Avoids w (gpaLoad a n s).2 := by
  grind [gpaLoad, avoids_benchLoad, avoids_sliceLoad]

theorem avoids_encodeLoad {s d} (h : Avoids w s) : Avoids w (encodeLoad s d).2 := by
  grind [encodeLoad, avoids_gpaLoad]

theorem avoids_encodeShards {t c modules s} {pages : List (List (Tab Byte))}
    (h : Avoids w s) : Avoids w (pages.zipIdx.foldl (fun r l => l.1.zipIdx.foldl (fun (r : List Nat × State) p =>
    ((r.1 ++ [(encodeShard t c modules l.2 p.2 p.1 r.2).1]), (encodeShard t c modules l.2 p.2 p.1 r.2).2)) r) ([], s)).2 :=
  avoids_foldl_snd (fun _ l hr => avoids_foldl_snd (fun q p hq => (avoids_encodeShard hq : Avoids w (encodeShard t c modules l.2 p.2 p.1 q.2).2)) hr) h

theorem avoids_encodeStart {t c s} (h : Avoids w s) : Avoids w (encodeStart t c s) := by
  have hload := avoids_encodeLoad (d := c.desc) h
  unfold encodeStart
  dsimp only
  split
  · exact h
  · split <;> rename_i he <;> rw [he] at hload <;> dsimp only at hload
    · exact avoids_setCmd hload
    · split
      · exact hload
      · have hplace := avoids_tabPlace (t := t) (level := 4) (space := rSet c.desc) (prefix_ := 0)
          (bytes := descBytes (rK c.desc + rM c.desc) (cdiv (rPages c.desc) (rK c.desc))) hload
        split <;> rename_i hp <;> rw [hp] at hplace <;> dsimp only at hplace
        · exact hplace
        · have hpages := avoids_encodePages (t := t) (c := c) (n := cdiv (rPages c.desc) (rK c.desc) * rK c.desc) hplace
          split <;> rename_i hg <;> rw [hg] at hpages <;> dsimp only at hpages
          · exact avoids_setCmd hpages
          · refine avoids_setCmd (avoids_encodeShards (avoids_modRes (fun _ => by rfl) ?_))
            refine hpages.put_set ?_
            dsimp only
            split
            · exact Nat.succ_ne_zero _
            · exact Nat.one_ne_zero
        · exact avoids_setCmd (avoids_quotaRefused hplace)
        · exact avoids_setCmd (avoids_noFrame hplace)

theorem avoids_completeCmd {t c s} (h : Avoids w s) : Avoids w (completeCmd t c s) := by
  grind [completeCmd, avoids_modRes, avoids_setCmd]

theorem avoids_unimportEverywhere {module tile region s} (h : Avoids w s) : Avoids w (unimportEverywhere module tile region s) := by
  grind [unimportEverywhere, avoids_modPort, avoids_foldl, avoids_foldl_fst, avoids_foldl_snd, avoids_foldl_trd]

theorem avoids_returnFrames {t p s} (h : Avoids w s) : Avoids w (returnFrames t p s) := by
  grind [returnFrames, avoids_unimportEverywhere, avoids_sendMsg]

theorem avoids_releaseSet {t i s} (h : Avoids w s) : Avoids w (releaseSet t i s) := by
  unfold releaseSet
  split
  · exact avoids_tabDrop h
  · next x hx =>
    have hfree : Avoids w (x.stripes.foldl (fun s l => l.foldl (fun s h =>
        if h.frame = 0 then s
        else if h.module = s.myModule then freeFrames [fkey (ck h.tile h.core) h.frame] s
        else returnFrames t ⟨h.module, h.tile, h.core, h.frame⟩ s) s) s) := by
      refine avoids_foldl (fun s l hs => avoids_foldl (fun s g hs => ?_) hs) h
      split
      · exact hs
      · split
        · exact avoids_freeFrames hs
        · exact avoids_returnFrames hs
    exact avoids_tabDrop hfree.del_set

theorem avoids_modSet {s i f} (hf : KeepsShape f) (h : Avoids w s) : Avoids w (modSet s i f) := h.map_set hf

theorem avoids_encodeEnd {t c s} (h : Avoids w s) : Avoids w (encodeEnd t c s) := by
  unfold encodeEnd
  refine avoids_completeCmd ?_
  have hpages (g : Nat → State → Pte → Pte) {u : State} (hu : Avoids w u) :
      Avoids w ((rRange c.desc).foldl (fun s v => modPte s (pkey (rSpace c.desc) v (rBig c.desc)) (g v u)) u) :=
    avoids_foldl (fun _ _ hs => avoids_modPte hs) hu
  have hres : Avoids w (modRes s t (fun r => { r with xfers := r.xfers.filter (fun x => !(x.kind == .encode && x.key.isSome && x.cmd == some c.id)) })) :=
    avoids_modRes (fun _ => by rfl) h
  dsimp only
  split
  · refine avoids_foldl (fun _ _ hs => avoids_releaseSet hs) ?_
    exact avoids_modSet keepsShape_setRefresh (avoids_foldl (fun _ _ hs => avoids_modPte hs) hres)
  · exact avoids_resLog (avoids_releaseSet (avoids_foldl (fun _ _ hs => avoids_modPte hs) hres))

theorem avoids_advanceCmd {t c s} (h : Avoids w s) : Avoids w (advanceCmd t c s) := by
  grind [advanceCmd, avoids_tabDrop, avoids_encodeAsk, avoids_encodeStart, avoids_completeCmd, avoids_encodeEnd, avoids_setCmd, avoids_startRound]

theorem avoids_queueMove {t pk key kind module i cmd s} (h : Avoids w s) : Avoids w (queueMove t pk key kind module i cmd s).2 := by
  grind [queueMove, avoids_addXfer]

theorem avoids_tabsMake {t space vpn big s} (h : Avoids w s) : Avoids w (tabsMake t space vpn big s).2 := by
  grind [tabsMake, avoids_tabPlace, avoids_foldl, avoids_foldl_fst, avoids_foldl_snd, avoids_foldl_trd]

theorem avoids_setLost {t pk s} (h : Avoids w s) : Avoids w (setLost t pk s) := by
  grind [setLost, avoids_modPte, avoids_resLog, avoids_countTile]

theorem avoids_cmdNote {t x code s} (h : Avoids w s) : Avoids w (cmdNote t x code s) := by
  grind [cmdNote, avoids_modRes]

theorem avoids_evacuateLost {t x pk s} (h : Avoids w s) : Avoids w (evacuateLost t x pk s) :=
  avoids_dropXfer (avoids_cmdNote (avoids_startRound (avoids_raise (avoids_setLost (avoids_freeFrames h)))))

theorem avoids_failWaiters {pk code s} (h : Avoids w s) : Avoids w (failWaiters pk code s) := by
  grind [failWaiters]

theorem avoids_releaseNew {t x s} (h : Avoids w s) : Avoids w (releaseNew t x s) := by
  grind [releaseNew, avoids_returnFrames, avoids_freeFrames]

theorem avoids_rebuildOver {x s} (h : Avoids w s) : Avoids w (rebuildOver x s) := by
  unfold rebuildOver
  split
  · exact avoids_modSet (keepsShape_setRefresh.comp (keepsShape_shard x.stripe x.shard _)) h
  · exact h

theorem avoids_abandon {t x code s} (h : Avoids w s) : Avoids w (abandon t x code s) := by
  grind [abandon, avoids_cmdNote, avoids_dropXfer, avoids_failWaiters, avoids_modPte, avoids_releaseNew, avoids_rebuildOver]

theorem avoids_xferLost {t x s} (h : Avoids w s) : Avoids w (xferLost t x s) := by
  grind [xferLost, avoids_setLost, avoids_cmdNote, avoids_dropXfer, avoids_freeFrames, avoids_evacuateLost, avoids_abandon]

theorem avoids_stripeLost {t i n s} (h : Avoids w s) : Avoids w (stripeLost t i n s) := by
  unfold stripeLost
  split
  · exact h
  · exact avoids_raise (avoids_resLog (avoids_foldl (fun _ _ hs => avoids_setLost hs) (avoids_modSet (keepsShape_state 4) h)))

theorem avoids_shardInvalid {t i n j s} (h : Avoids w s) : Avoids w (shardInvalid t i n j s) := by
  unfold shardInvalid
  split
  · exact h
  · split
    · exact h
    · have hset := avoids_modSet (i := i) (keepsShape_setRefresh.comp (keepsShape_shard n j (fun h => { h with valid := false }))) h
      have hraise := avoids_raise (e := mkEv 0x0306 clsNotice 1 7 t 0 evW2 (pack [(48, i), (32, j), (0, n)])) hset
      dsimp only
      split
      · split
        · exact avoids_stripeLost hraise
        · exact hraise
      · exact hraise

theorem avoids_gatherOne {t l x j s} (h : Avoids w s) : Avoids w (gatherOne t l x j s).2 := by
  grind [gatherOne, avoids_gatherRemote, avoids_pageLoad]

theorem avoids_gatherShards {fuel t x s} (h : Avoids w s) : Avoids w (gatherShards fuel t x s).2 := by
  induction fuel generalizing x s with
  | zero => exact h
  | succ fuel ih => grind [gatherShards, avoids_gatherOne, avoids_shardInvalid, avoids_foldl, avoids_foldl_trd]

theorem avoids_gather {t x s} (h : Avoids w s) : Avoids w (gather t x s) := by
  grind [gather, avoids_xferLost, avoids_setXfer, avoids_gatherShards]

theorem avoids_gatherFill {t x s} (h : Avoids w s) : Avoids w (gatherFill t x s) := by
  grind [gatherFill, avoids_xferLost, avoids_gather, avoids_setXfer]

theorem avoids_markFrames {key f n space vpn shard exported s} (h : Avoids w s) : Avoids w (markFrames key f n space vpn shard exported s) := by
  grind [markFrames, avoids_foldl, avoids_foldl_fst, avoids_foldl_snd, avoids_foldl_trd]

theorem avoids_makeResident {t pk core kind cmd evict pl s} (h : Avoids w s) : Avoids w (makeResident t pk core kind cmd evict pl s).2 := by
  unfold makeResident
  dsimp only
  split
  · dsimp only
    exact avoids_askFrames (avoids_addXfer (avoids_modPte h))
  · split
    · exact avoids_noFrame h
    · next key hkey =>
      have halloc := avoids_allocate (key := key) (space := pkSpace pk) (n := pkPages pk) (evict := evict) h
      split <;> rename_i he <;> rw [he] at halloc <;> dsimp only at halloc ⊢
      · exact halloc
      · exact avoids_quotaRefused halloc
      · exact halloc
      · exact avoids_noFrame halloc
      · exact avoids_gatherFill (avoids_addXfer (avoids_modPte (avoids_markFrames halloc)))

theorem avoids_cmdPage {t c vpn s} (h : Avoids w s) : Avoids w (cmdPage t c vpn s).2.2 := by
  obtain hop | hop | hop | hop | hop | hop : rOp c.desc = 4 ∨ rOp c.desc = 5 ∨ (rOp c.desc = 6 ∨ rOp c.desc = 8) ∨ rOp c.desc = 0xA ∨ rOp c.desc = 0xB ∨
      (rOp c.desc ≠ 4 ∧ rOp c.desc ≠ 5 ∧ rOp c.desc ≠ 6 ∧ rOp c.desc ≠ 8 ∧ rOp c.desc ≠ 0xA ∧ rOp c.desc ≠ 0xB) := by omega
  · grind [cmdPage, avoids_tabsMake, avoids_quotaRefused, avoids_noFrame]
  · grind [cmdPage]
  · grind [cmdPage, avoids_modPte]
  · simp only [cmdPage, hop, Nat.reduceEqDiff, if_true, if_false]
    split
    · exact h
    · split
      · exact h
      · split
        · exact h
        · split
          · exact avoids_countTile (avoids_modPte h)
          · exact h
  · simp only [cmdPage, hop, Nat.reduceEqDiff, if_true, if_false]
    grind [avoids_queueMove]
  · grind [cmdPage, avoids_makeResident, avoids_modPte]

end

end Sys2Proof.Proofs

namespace Sys2Proof.Proofs

open Sys2Proof Sys2Proof.Machine Sys2Proof.Spec

/-! ### Residency commands, leases and withdrawal -/

section
variable {w : Watch}

theorem avoids_runPages {t fuel c s} (h : Avoids w s) : Avoids w (runPages t fuel c s).2 := by
  induction fuel generalizing c s with
  | zero => exact h
  | succ fuel ih => grind [runPages, avoids_cmdPage]

theorem avoids_verifyStart {t c s} (h : Avoids w s) : Avoids w (verifyStart t c s) := by
  grind [verifyStart, avoids_setCmd, avoids_gather, avoids_addXfer, avoids_completeCmd, avoids_foldl, avoids_foldl_fst, avoids_foldl_snd,
      avoids_foldl_trd]

theorem avoids_rebuildStart {t c s} (h : Avoids w s) : Avoids w (rebuildStart t c s) := by
  have hset {u : State} (hu : Avoids w u) : Avoids w (modSet u (rSet c.desc) (fun st => setRefresh
      { st with stripes := st.stripes.modify (fld c.desc.w4 39 8) (fun l => l.modify (fld c.desc.w4 7 3) (fun h => { h with rebuilding := true })) })) :=
    avoids_modSet (keepsShape_setRefresh.comp (keepsShape_shard _ _ _)) hu
  grind [rebuildStart, avoids_askFrames, avoids_gather, avoids_setCmd, avoids_addXfer, avoids_markTable, avoids_completeCmd]

theorem avoids_startCmd {t c s} (h : Avoids w s) : Avoids w (startCmd t c s) := by
  grind [startCmd, avoids_verifyStart, avoids_rebuildStart, avoids_setCmd, avoids_noFrame, avoids_quotaRefused, avoids_tabPlace, avoids_encodeLoad,
      avoids_completeCmd]

theorem avoids_stepCmd {t id s} (h : Avoids w s) : Avoids w (stepCmd t id s) := by
  have hgo (q : ResCmd × State) (hq : Avoids w q.2) :
      Avoids w (if q.1.todo.isEmpty && q.1.waiting.isEmpty && q.1.rounds = 0 then advanceCmd t q.1 (setCmd t q.1 q.2) else setCmd t q.1 q.2) := by
    split
    · exact avoids_advanceCmd (avoids_setCmd hq)
    · exact avoids_setCmd hq
  have hstart (c : ResCmd) : Avoids w (if c.stage = 0 then startCmd t c s else s) := by
    split
    · exact avoids_startCmd h
    · exact h
  unfold stepCmd
  split
  · exact h
  · next c hc =>
    dsimp only
    split
    · exact h
    · split
      · exact h
      · split
        · exact hstart c
        · next c' hc' =>
          split
          · exact hstart c
          · refine hgo _ ?_
            split
            · exact hstart c
            · exact avoids_runPages (hstart c)

theorem avoids_resSubmit {rq t d s} (h : Avoids w s) : Avoids w (resSubmit rq t d s) := by
  have htake (c : ResCmd) : Avoids w (ends .ok (modRes { s with nextId := s.nextId + 1 } t (fun r => { r with queue := r.queue ++ [c] }))) :=
    avoids_ends (avoids_modRes (s := { s with nextId := s.nextId + 1 }) (fun _ => by rfl) h)
  have hrest (c : ResCmd) : Avoids w (if 64 ≤ ((getRes s t).queue.filter (fun q => q.admin.isNone)).length then ends .retryLater s
      else stepCmd t s.nextId (ends .ok (modRes { s with nextId := s.nextId + 1 } t (fun r => { r with queue := r.queue ++ [c] })))) := by
    split
    · exact avoids_ends h
    · exact avoids_stepCmd (htake c)
  unfold resSubmit
  dsimp only
  split <;> split
  · exact avoids_ends h
  · exact hrest _
  · exact avoids_ends h
  · exact hrest _

theorem avoids_resBlockWrite {rq t off v s} (h : Avoids w s) : Avoids w (resBlockWrite rq t off v s) := by
  grind [resBlockWrite, avoids_modRes, avoids_ends, avoids_withExpert, avoids_resSubmit, avoids_windowWrite]

theorem avoids_withdrawCore {key s} (h : Avoids w s) : Avoids w (withdrawCore key s) := by
  grind [withdrawCore, avoids_modCore]

theorem avoids_spareEnd {t code s} (h : Avoids w s) : Avoids w (spareEnd t code s) := by
  grind [spareEnd, avoids_modTile]

theorem avoids_leaseEnd {f s} (h : Avoids w s) : Avoids w (leaseEnd f s) := by
  grind [leaseEnd]

theorem avoids_leaseRelease {act tile unit_ s} (h : Avoids w s) : Avoids w (leaseRelease act tile unit_ s) := by
  grind [leaseRelease, avoids_leaseEnd]

theorem avoids_coreStateRun {key ret s} (h : Avoids w s) : Avoids w (coreStateRun key ret s) := by
  grind [coreStateRun, avoids_withdrawCore, avoids_putCore, avoids_spareEnd, avoids_leaseRelease]

theorem avoids_leaseAdd {act tile unit_ a time s} (h : Avoids w s) : Avoids w (leaseAdd act tile unit_ a time s) := by
  grind [leaseAdd]

theorem avoids_leaseAsk {act tile unit_ a auto s} (h : Avoids w s) : Avoids w (leaseAsk act tile unit_ a auto s).2 := by
  grind [leaseAsk, avoids_countHearth, avoids_leaseAdd]

theorem avoids_spareCmd {rq act t g a bad run s} (hf : ∀ s, Avoids w s → Avoids w (run s))
    (h : Avoids w s) : Avoids w (spareCmd rq act t g a bad run s) := by
  grind [spareCmd, avoids_modTile, avoids_spareEnd, avoids_leaseAsk, avoids_ends, avoids_withExpert]

theorem avoids_returnCoreOp {rq key s} (h : Avoids w s) : Avoids w (returnCoreOp rq key s) := by
  grind [returnCoreOp, avoids_coreStateRun, avoids_spareCmd]

theorem avoids_withdrawCoreOp {rq key s} (h : Avoids w s) : Avoids w (withdrawCoreOp rq key s) := by
  grind [withdrawCoreOp, avoids_coreStateRun, avoids_spareCmd]

theorem avoids_countGroup {t g i n s} (h : Avoids w s) : Avoids w (countGroup t g i n s) := by
  grind [countGroup, avoids_count]

theorem avoids_bakeAbandon {t g s} (h : Avoids w s) : Avoids w (bakeAbandon t g s) := by
  grind [bakeAbandon, avoids_modGroup, avoids_countGroup]

theorem avoids_shiftEvent {t g p cause s} (h : Avoids w s) : Avoids w (shiftEvent t g p cause s) := by
  grind [shiftEvent, avoids_raise]

theorem avoids_countReissues {key n s} (h : Avoids w s) : Avoids w (countReissues key n s) := by
  grind [countReissues, avoids_markFault, avoids_countCore]

theorem avoids_stopActive {key a s} (h : Avoids w s) : Avoids w (stopActive key a s) := by
  grind [stopActive, avoids_putCore, avoids_countReissues]

theorem avoids_shiftStart {t g cause p restore byCmd s} (h : Avoids w s) : Avoids w (shiftStart t g cause p restore byCmd s) := by
  grind [shiftStart, avoids_modGroup, avoids_stopActive, avoids_modCore, avoids_benchFail, avoids_wakeGroup, avoids_bakeAbandon, avoids_foldl,
      avoids_foldl_fst, avoids_foldl_snd, avoids_foldl_trd]

theorem avoids_setOff {t g p v s} (h : Avoids w s) : Avoids w (setOff t g p v s) := by
  grind [setOff, avoids_modGroup]

theorem avoids_sparingMark {s} (h : Avoids w s) : Avoids w (sparingMark s) := by
  grind [sparingMark]

theorem avoids_shiftRun {t g cause p restore byCmd s} (h : Avoids w s) : Avoids w (shiftRun t g cause p restore byCmd s) := by
  grind [shiftRun, avoids_withdrawCore, avoids_bakeAbandon, avoids_shiftEvent, avoids_shiftStart, avoids_setOff, avoids_modGroup,
      avoids_sparingMark, avoids_spareEnd, avoids_leaseRelease]

theorem avoids_restoreOp {rq t g p s} (h : Avoids w s) : Avoids w (restoreOp rq t g p s) := by
  grind [restoreOp, avoids_shiftRun, avoids_spareCmd, avoids_ends, avoids_withExpert]

theorem avoids_retireOp {rq t g p s} (h : Avoids w s) : Avoids w (retireOp rq t g p s) := by
  grind [retireOp, avoids_shiftRun, avoids_spareCmd, avoids_ends, avoids_withExpert]

theorem avoids_spareCmdWrite {rq t v s} (h : Avoids w s) : Avoids w (spareCmdWrite rq t v s) := by
  grind [spareCmdWrite, avoids_returnCoreOp, avoids_ends, avoids_withdrawCoreOp, avoids_restoreOp, avoids_retireOp, avoids_withExpert]

theorem avoids_groupBlockWrite {rq t off v s} (h : Avoids w s) : Avoids w (groupBlockWrite rq t off v s) := by
  grind [groupBlockWrite, avoids_modGroup, avoids_modTile, avoids_ends, avoids_withExpert, avoids_spareCmdWrite]

theorem avoids_spareStart {key layer lane s} (h : Avoids w s) : Avoids w (spareStart key layer lane s) := by
  grind [spareStart, avoids_modSlice]

theorem avoids_trainRefuse {key c s} (h : Avoids w s) : Avoids w (trainRefuse key c s) := by
  grind [trainRefuse, avoids_modSlice, avoids_ends]

theorem avoids_spareSwitchInOp {rq key layer lane s} (h : Avoids w s) : Avoids w (spareSwitchInOp rq key layer lane s) := by
  grind [spareSwitchInOp, avoids_modSlice, avoids_spareStart, avoids_leaseAsk, avoids_trainRefuse, avoids_ends, avoids_withExpert]

theorem avoids_retrainStart {key s} (h : Avoids w s) : Avoids w (retrainStart key s) := by
  grind [retrainStart, avoids_modSlice]

theorem avoids_fullRetrainingOp {rq key s} (h : Avoids w s) : Avoids w (fullRetrainingOp rq key s) := by
  grind [fullRetrainingOp, avoids_retrainStart, avoids_leaseAsk, avoids_trainRefuse, avoids_ends, avoids_withExpert]

theorem avoids_trainCtrlWrite {rq key v s} (h : Avoids w s) : Avoids w (trainCtrlWrite rq key v s) := by
  grind [trainCtrlWrite, avoids_spareSwitchInOp, avoids_fullRetrainingOp, avoids_modSlice, avoids_ends, avoids_withExpert]

theorem avoids_stackCtrlWriteOp {rq t v s} (h : Avoids w s) : Avoids w (stackCtrlWriteOp rq t v s) := by
  grind [stackCtrlWriteOp, avoids_modTile, avoids_ends, avoids_withExpert]

theorem avoids_sliceBlockWrite {rq t off v s} (h : Avoids w s) : Avoids w (sliceBlockWrite rq t off v s) := by
  grind [sliceBlockWrite, avoids_withExpert, avoids_modSlice, avoids_trainCtrlWrite, avoids_ends, avoids_stackCtrlWriteOp]

theorem avoids_tileRegWrite {rq t off v s} (h : Avoids w s) : Avoids w (tileRegWrite rq t off v s) := by
  grind [tileRegWrite, avoids_tileCountersClear, avoids_cntClearWrite, avoids_stateCtrlWrite, avoids_linkCtrlWrite, avoids_fabricBlockWrite,
      avoids_dispCtrlWriteOp, avoids_resBlockWrite, avoids_groupBlockWrite, avoids_sliceBlockWrite, avoids_ends]

theorem avoids_coreCountersClear {key s} (h : Avoids w s) : Avoids w (coreCountersClear key s) := by
  grind [coreCountersClear, avoids_countersClear]

end

end Sys2Proof.Proofs

namespace Sys2Proof.Proofs

open Sys2Proof Sys2Proof.Machine Sys2Proof.Spec

/-! ### Register writes of arrays, strands and engines -/

section
variable {w : Watch}

theorem avoids_arrayOut {key a byWrite s} (h : Avoids w s) : Avoids w (arrayOut key a byWrite s) := by
  grind [arrayOut, avoids_countReissues, avoids_putCore, avoids_modTile]

theorem avoids_throttleEffect {t g s} (h : Avoids w s) : Avoids w (throttleEffect t g s) := by
  grind [throttleEffect, avoids_putGroup]

theorem avoids_arrayDisableOp {key a s} (h : Avoids w s) : Avoids w (arrayDisableOp key a s) := by
  grind [arrayDisableOp, avoids_arrayOut, avoids_throttleEffect]

theorem avoids_arrayEnableOp {key a s} (h : Avoids w s) : Avoids w (arrayEnableOp key a s) := by
  grind [arrayEnableOp, avoids_modTile, avoids_putCore]

theorem avoids_passStopOp {key a s} (h : Avoids w s) : Avoids w (passStopOp key a s) := by
  grind [passStopOp, avoids_stopActive, avoids_throttleEffect]

theorem avoids_passFlushOp {key a s} (h : Avoids w s) : Avoids w (passFlushOp key a s) := by
  grind [passFlushOp, avoids_putCore, avoids_throttleEffect]

theorem avoids_passCtrlWrite {rq key v s} (h : Avoids w s) : Avoids w (passCtrlWrite rq key v s) := by
  grind [passCtrlWrite, avoids_arrayDisableOp, avoids_arrayEnableOp, avoids_passStopOp, avoids_passFlushOp, avoids_ends, avoids_withExpert,
      avoids_foldl, avoids_foldl_fst, avoids_foldl_snd, avoids_foldl_trd]

theorem avoids_passSubmit {key a d s} (h : Avoids w s) : Avoids w (passSubmit key a d s).1 := by
  grind [passSubmit, avoids_putCore]

theorem avoids_passDescWrite {rq key a i v s} (h : Avoids w s) : Avoids w (passDescWrite rq key a i v s) := by
  grind [passDescWrite, avoids_ends, avoids_passSubmit, avoids_windowWrite]

theorem avoids_amaxCfgWriteOp {key tr v s} (h : Avoids w s) : Avoids w (amaxCfgWriteOp key tr v s) := by
  grind [amaxCfgWriteOp, avoids_modCore, avoids_ends]

theorem avoids_trackerWrite {rq key off v s} (h : Avoids w s) : Avoids w (trackerWrite rq key off v s) := by
  grind [trackerWrite, avoids_modCore, avoids_ends, avoids_amaxCfgWriteOp]

theorem avoids_scaleWrite {key n v s} {u} (he : scaleWrite key n v s = some u) (h : Avoids w s) : Avoids w u := by
  grind [scaleWrite, avoids_modCore, avoids_ends]

theorem avoids_coreRegWrite {rq key off v s} {u} (he : coreRegWrite rq key off v s = some u) (h : Avoids w s) : Avoids w u := by
  grind [coreRegWrite, avoids_coreCountersClear, avoids_cntClearWrite, avoids_passCtrlWrite, avoids_passDescWrite, avoids_trackerWrite,
      avoids_scaleWrite, avoids_modCore, avoids_ends, avoids_withExpert]

theorem avoids_bankWrite {rq bankB off v s} (h : Avoids w s) : Avoids w (bankWrite rq bankB off v s) := by
  grind [bankWrite, avoids_ends, avoids_withExpert]

theorem avoids_groupWithdrawOp {rq g s} (h : Avoids w s) : Avoids w (groupWithdrawOp rq g s) := by
  grind [groupWithdrawOp, avoids_ends, avoids_withExpert]

theorem avoids_routeSwapOp {rq s} (h : Avoids w s) : Avoids w (routeSwapOp rq s) := by
  grind [routeSwapOp, avoids_modPort, avoids_leaseAsk, avoids_ends, avoids_withExpert, avoids_foldl, avoids_foldl_fst, avoids_foldl_snd,
      avoids_foldl_trd]

theorem avoids_routingBlockWrite {rq off v s} (h : Avoids w s) : Avoids w (routingBlockWrite rq off v s) := by
  grind [routingBlockWrite, avoids_bankWrite, avoids_groupWithdrawOp, avoids_ends, avoids_routeSwapOp, avoids_withExpert]

theorem avoids_hearthCountersClear {s} (h : Avoids w s) : Avoids w (hearthCountersClear s) := by
  grind [hearthCountersClear, avoids_countersClear]

theorem avoids_alertClearOp {mask s} (h : Avoids w s) : Avoids w (alertClearOp mask s) := by
  grind [alertClearOp, avoids_ends]

theorem avoids_eventBlockWrite {rq off v s} (h : Avoids w s) : Avoids w (eventBlockWrite rq off v s) := by
  grind [eventBlockWrite, avoids_hearthCountersClear, avoids_cntClearWrite, avoids_alertClearOp, avoids_ends, avoids_withExpert]

theorem avoids_govCtrlWriteOp {rq v s} (h : Avoids w s) : Avoids w (govCtrlWriteOp rq v s) := by
  grind [govCtrlWriteOp, avoids_ends, avoids_withExpert]

theorem avoids_failCircuits {st s} (h : Avoids w s) : Avoids w (failCircuits st s) := by
  grind [failCircuits, avoids_modPort, avoids_raise, avoids_foldl, avoids_foldl_fst, avoids_foldl_snd, avoids_foldl_trd]

theorem avoids_putEngine {s e x} (h : Avoids w s) : Avoids w (putEngine s e x) := by
  grind [putEngine]

theorem avoids_rxLight {e s} (h : Avoids w s) : Avoids w (rxLight e s) := by
  grind [rxLight, avoids_putEngine]

theorem avoids_strandLeave {st x s} (h : Avoids w s) : Avoids w (strandLeave st x s) := by
  grind [strandLeave, avoids_failCircuits, avoids_modStrand, avoids_rxLight]

theorem avoids_strandTrain {st s} (h : Avoids w s) : Avoids w (strandTrain st s) := by
  grind [strandTrain, avoids_strandLeave, avoids_modStrand]

theorem avoids_strandLease {st a s} (h : Avoids w s) : Avoids w (strandLease st a s).2 := by
  grind [strandLease, avoids_ends, avoids_leaseAsk]

theorem avoids_strandRetrainOp {rq st s} (h : Avoids w s) : Avoids w (strandRetrainOp rq st s) := by
  grind [strandRetrainOp, avoids_strandTrain, avoids_modStrand, avoids_strandLease, avoids_ends, avoids_withExpert]

theorem avoids_strandWithdrawOp {rq st s} (h : Avoids w s) : Avoids w (strandWithdrawOp rq st s) := by
  grind [strandWithdrawOp, avoids_strandLeave, avoids_modStrand, avoids_strandLease, avoids_ends, avoids_withExpert]

theorem avoids_strandEnableOp {rq st s} (h : Avoids w s) : Avoids w (strandEnableOp rq st s) := by
  grind [strandEnableOp, avoids_leaseRelease, avoids_strandTrain, avoids_modStrand, avoids_strandLease, avoids_ends, avoids_withExpert]

theorem avoids_strandCtrlWrite {rq st v s} (h : Avoids w s) : Avoids w (strandCtrlWrite rq st v s) := by
  grind [strandCtrlWrite, avoids_modStrand, avoids_ends, avoids_strandRetrainOp, avoids_strandWithdrawOp, avoids_strandEnableOp, avoids_withExpert]

theorem avoids_engineRelease {e s} (h : Avoids w s) : Avoids w (engineRelease e s) := by
  grind [engineRelease, avoids_leaseRelease, avoids_foldl, avoids_foldl_fst, avoids_foldl_snd, avoids_foldl_trd]

theorem avoids_engineTrain {e s} (h : Avoids w s) : Avoids w (engineTrain e s) := by
  grind [engineTrain, avoids_leaseRelease, avoids_strandTrain, avoids_modStrand, avoids_putEngine, avoids_engineRelease, avoids_foldl,
      avoids_foldl_fst, avoids_foldl_snd, avoids_foldl_trd]

theorem avoids_engineLease {e a auto s} (h : Avoids w s) : Avoids w (engineLease e a auto s).2 := by
  grind [engineLease, avoids_leaseAdd, avoids_countHearth, avoids_ends, avoids_foldl, avoids_foldl_fst, avoids_foldl_snd, avoids_foldl_trd]

theorem avoids_engineRetrainOp {rq e s} (h : Avoids w s) : Avoids w (engineRetrainOp rq e s) := by
  grind [engineRetrainOp, avoids_engineTrain, avoids_engineLease, avoids_ends, avoids_withExpert]

theorem avoids_engineWithdrawOp {rq e s} (h : Avoids w s) : Avoids w (engineWithdrawOp rq e s) := by
  have hleave {u : State} (st : Nat) (f : Strand → Strand) (hu : Avoids w u) : Avoids w (modStrand (strandLeave st .withdrawn u) st f) :=
    avoids_modStrand (avoids_strandLeave hu)
  grind [engineWithdrawOp, avoids_putEngine, avoids_engineLease, avoids_ends, avoids_withExpert, avoids_foldl]

theorem avoids_engineEnableOp {rq e s} (h : Avoids w s) : Avoids w (engineEnableOp rq e s) := by
  grind [engineEnableOp, avoids_engineTrain, avoids_engineLease, avoids_ends, avoids_withExpert]

theorem avoids_engineCtrlWrite {rq e v s} (h : Avoids w s) : Avoids w (engineCtrlWrite rq e v s) := by
  grind [engineCtrlWrite, avoids_ends, avoids_engineRetrainOp, avoids_engineWithdrawOp, avoids_engineEnableOp, avoids_withExpert]

theorem avoids_crustBlockWrite {rq off v s} (h : Avoids w s) : Avoids w (crustBlockWrite rq off v s) := by
  grind [crustBlockWrite, avoids_strandCtrlWrite, avoids_withExpert, avoids_engineCtrlWrite, avoids_ends]

theorem avoids_suspectClearOp {w0 mask s} (h : Avoids w s) : Avoids w (suspectClearOp w0 mask s) := by
  grind [suspectClearOp, avoids_ends]

end

end Sys2Proof.Proofs

namespace Sys2Proof.Proofs

open Sys2Proof Sys2Proof.Machine Sys2Proof.Spec

/-! ### Admission, streams and jobs -/

section
variable {w : Watch}

theorem avoids_groupWordWrite {g i v s} (h : Avoids w s) : Avoids w (groupWordWrite g i v s) := by
  grind [groupWordWrite, avoids_modColl, avoids_ends]

theorem avoids_memberList {a n s} (h : Avoids w s) : Avoids w (memberList a n s).2 := by
  grind [memberList, avoids_gpaLoad]

theorem avoids_groupEntryWriteOp {rq g v s} (h : Avoids w s) : Avoids w (groupEntryWriteOp rq g v s) := by
  refine avoids_withExpert (fun s hs => ?_) h
  dsimp only
  split
  · exact avoids_ends hs
  · have hlist := avoids_memberList (a := (getColl s g).w2.toNat) (n := 2 * (cgT (getColl s g) * cgU (getColl s g) * cgV (getColl s g))) hs
    split
    · exact avoids_ends (avoids_memberList hs)
    · split
      · exact avoids_ends (avoids_memberList hs)
      · exact avoids_ends (avoids_modColl (avoids_memberList hs))

theorem avoids_crumbBlockWrite {rq off v s} (h : Avoids w s) : Avoids w (crumbBlockWrite rq off v s) := by
  grind [crumbBlockWrite, avoids_suspectClearOp, avoids_groupWordWrite, avoids_groupEntryWriteOp, avoids_markSuspects, avoids_ends, avoids_withExpert]

theorem avoids_resInternal {t d adm s} (h : Avoids w s) : Avoids w (resInternal t d adm s) := by
  grind [resInternal, avoids_modRes, avoids_stepCmd]

theorem avoids_pinPages {tile op mark pks s} (h : Avoids w s) : Avoids w (pinPages tile op mark pks s) := by
  grind [pinPages, avoids_resInternal, avoids_foldl, avoids_foldl_fst, avoids_foldl_snd, avoids_foldl_trd]

theorem avoids_adapterPin {t pin tile s} (h : Avoids w s) : Avoids w (adapterPin t pin tile s) := by
  grind [adapterPin, avoids_pinPages]

theorem avoids_modTin {s t f} (h : Avoids w s) : Avoids w (modTin s t f) := by
  grind [modTin]

theorem avoids_admDone {tag code s} (h : Avoids w s) : Avoids w (admDone tag code s) := by
  grind [admDone]

theorem avoids_admFinish {id code s} (h : Avoids w s) : Avoids w (admFinish id code s) := by
  grind [admFinish, avoids_admDone]

theorem avoids_admReply {m t type code stream hint reqId due s} (h : Avoids w s) : Avoids w (admReply m t type code stream hint reqId due s) := by
  grind [admReply, avoids_sendMsg]

theorem avoids_freeWord {s} (h : Avoids w s) : Avoids w (freeWord s).2 := by
  grind [freeWord]

theorem avoids_freeStream {e s} (h : Avoids w s) : Avoids w (freeStream e s) := by
  grind [freeStream, avoids_adapterPin, avoids_modTin, avoids_admFinish, avoids_admReply, avoids_freeWord, avoids_foldl, avoids_foldl_fst,
      avoids_foldl_snd, avoids_foldl_trd]

theorem avoids_modAdmCmd {id f s} (h : Avoids w s) : Avoids w (modAdmCmd id f s) := by
  grind [modAdmCmd]

theorem avoids_modStream {s e f} (h : Avoids w s) : Avoids w (modStream s e f) := by
  grind [modStream]

theorem avoids_closeStreamCmd {c s} (h : Avoids w s) : Avoids w (closeStreamCmd c s) := by
  grind [closeStreamCmd, avoids_freeStream, avoids_modAdmCmd, avoids_modStream, avoids_admFinish]

theorem avoids_admUnpinCmd {d s} (h : Avoids w s) : Avoids w (admUnpinCmd d s).2 := by
  grind [admUnpinCmd, avoids_modTin]

theorem avoids_calStart {m s} (h : Avoids w s) : Avoids w (calStart m s) := by
  grind [calStart, avoids_modTile, avoids_foldl, avoids_foldl_fst, avoids_foldl_snd, avoids_foldl_trd]

theorem avoids_missPage {core pk s} (h : Avoids w s) : Avoids w (missPage core pk s).2 := by
  grind [missPage, avoids_countTile, avoids_makeResident, avoids_foldl, avoids_foldl_fst, avoids_foldl_snd, avoids_foldl_trd]

theorem avoids_calGrow {tin n s} (h : Avoids w s) : Avoids w (calGrow tin n s) := by
  grind [calGrow, avoids_missPage, avoids_foldl, avoids_foldl_fst, avoids_foldl_snd, avoids_foldl_trd]

theorem avoids_sliceWriteLine {key s w0} (h : Avoids w s) : Avoids w (sliceWriteLine key s w0) := by
  grind [sliceWriteLine, avoids_modSlice, avoids_modTile, avoids_countSlice, avoids_sliceAccess]

theorem avoids_sliceWrite {key off bs s} (h : Avoids w s) : Avoids w (sliceWrite key off bs s) := by
  grind [sliceWrite, avoids_sliceWriteLine, avoids_foldl, avoids_foldl_fst, avoids_foldl_snd, avoids_foldl_trd]

theorem avoids_sliceStore {key off bs s} (h : Avoids w s) : Avoids w (sliceStore key off bs s).2 := by
  grind [sliceStore, avoids_sliceAccess, avoids_lineFailed, avoids_sliceWrite, avoids_foldl, avoids_foldl_fst, avoids_foldl_snd, avoids_foldl_trd]

theorem avoids_modJob {s num f} (h : Avoids w s) : Avoids w (modJob s num f) := by
  grind [modJob]

theorem avoids_bulkWrite {t core kind a bs region s} {x u} (he : bulkWrite t core kind a bs region s = some (x, u))
    (h : Avoids w s) : Avoids w u := by
  grind [bulkWrite, avoids_sendMsg, avoids_stampSent, avoids_remAdd]

theorem avoids_batchSend {num t gpa bs region s x u} (he : batchSend num t gpa bs region s = some (x, u)) (h : Avoids w s) : Avoids w u := by
  refine avoids_foldl_option (fun r i b u hr hu => ?_) he (fun c v hv => by cases hv; exact h)
  cases r with
  | none => cases hu
  | some q =>
    obtain ⟨l, v⟩ := q
    simp only [Option.bind_some, Option.map_eq_some_iff] at hu
    obtain ⟨⟨n, v'⟩, hwrite, hu⟩ := hu
    cases hu
    exact avoids_bulkWrite hwrite (hr l v rfl)

theorem avoids_touchPte {k write s} (h : Avoids w s) : Avoids w (touchPte k write s) := by
  grind [touchPte, avoids_modPte]

theorem avoids_stepTokens {st s} (h : Avoids w s) : Avoids w (stepTokens st s).2 := by
  grind [stepTokens, avoids_freeWord]

theorem avoids_batchStream {j p s} (h : Avoids w s) : Avoids w (batchStream j p s).2 := by
  grind [batchStream, avoids_freeWord]

theorem avoids_batchEntry {j p s} (h : Avoids w s) : Avoids w (batchEntry j p s).2 := by
  grind [batchEntry, avoids_stepTokens, avoids_batchStream]

theorem avoids_batchBytes {j s} (h : Avoids w s) : Avoids w (batchBytes j s).2 := by
  grind [batchBytes, avoids_batchEntry, avoids_foldl, avoids_foldl_fst, avoids_foldl_snd, avoids_foldl_trd]

theorem avoids_walkPoisoned {tile space va s} (h : Avoids w s) : Avoids w (walkPoisoned tile space va s) := by
  unfold walkPoisoned
  refine avoids_raise (AvoidsIn.put_res (avoids_foldl (fun u l hu => ?_) h) (.inl (by rfl)))
  split
  · exact hu
  · exact avoids_lineFailed hu

theorem avoids_failBatch {num code s} (h : Avoids w s) : Avoids w (failBatch num code s) := by
  grind [failBatch, avoids_modJob]

theorem avoids_writeBatch {num s} (h : Avoids w s) : Avoids w (writeBatch num s) := by
  unfold writeBatch
  split
  · exact h
  · next j hj =>
    dsimp only
    split
    · exact h
    · split
      · exact avoids_failBatch h
      · exact avoids_failBatch (avoids_walkPoisoned h)
      · exact avoids_missPage h
      · exact h
      · next pk m t c off region he => grind [avoids_batchBytes, avoids_touchPte, avoids_batchSend, avoids_failBatch, avoids_modJob, avoids_sliceStore]

theorem avoids_chargeTin {layer t s} (h : Avoids w s) : Avoids w (chargeTin layer t s) := by
  grind [chargeTin, avoids_modTin]

theorem avoids_chargeRun {j layer trips s} (h : Avoids w s) : Avoids w (chargeRun j layer trips s) := by
  grind [chargeRun, avoids_countTile, avoids_chargeTin, avoids_foldl, avoids_foldl_fst, avoids_foldl_snd, avoids_foldl_trd]

theorem avoids_actTrips {num i s} (h : Avoids w s) : Avoids w (actTrips num i s) := by
  unfold actTrips
  split
  · exact h
  · dsimp only
    split
    · exact h
    · split
      · refine avoids_modJob (avoids_foldl (fun u k hu => ?_) h)
        split
        · exact avoids_chargeRun hu
        · exact hu
      · refine avoids_chargeRun (avoids_modJob (avoids_modJob (avoids_foldl (fun u k hu => ?_) h)))
        split
        · exact avoids_chargeRun hu
        · exact hu

theorem avoids_handleRuns {num fuel s} (h : Avoids w s) : Avoids w (handleRuns num fuel s) := by
  induction fuel generalizing s with
  | zero => exact h
  | succ fuel ih => grind [handleRuns, avoids_modJob, avoids_actTrips]

theorem avoids_advanceTile {num t fuel s} (h : Avoids w s) : Avoids w (advanceTile num t fuel s) := by
  induction fuel generalizing s with
  | zero => exact h
  | succ fuel ih => grind [advanceTile, avoids_modJob]

theorem avoids_advanceJob {num s} (h : Avoids w s) : Avoids w (advanceJob num s) := by
  grind [advanceJob, avoids_handleRuns, avoids_advanceTile, avoids_foldl, avoids_foldl_fst, avoids_foldl_snd, avoids_foldl_trd]

end

end Sys2Proof.Proofs

namespace Sys2Proof.Proofs

open Sys2Proof Sys2Proof.Machine Sys2Proof.Spec

/-! ### Models, tins and register writes -/

section
variable {w : Watch}

theorem avoids_addJob {j s} (h : Avoids w s) : Avoids w (addJob j s) := by
  grind [addJob, avoids_writeBatch, avoids_advanceJob]

theorem avoids_calRelease {c s} (h : Avoids w s) : Avoids w (calRelease c s) := by
  grind [calRelease, avoids_calGrow, avoids_addJob]

theorem avoids_modModel {s m f} (h : Avoids w s) : Avoids w (modModel s m f) := by
  grind [modModel]

theorem avoids_measureCmd {c s} (h : Avoids w s) : Avoids w (measureCmd c s) := by
  grind [measureCmd, avoids_modAdmCmd, avoids_calStart, avoids_calRelease, avoids_modModel, avoids_admFinish]

theorem avoids_loadRowCmd {d s} (h : Avoids w s) : Avoids w (loadRowCmd d s).2 := by
  grind [loadRowCmd, avoids_modModel]

theorem avoids_unloadModelCmd {d s} (h : Avoids w s) : Avoids w (unloadModelCmd d s).2 := by
  grind [unloadModelCmd]

theorem avoids_vaSeen {tile space va n s} (h : Avoids w s) : Avoids w (vaSeen tile space va n s) := by
  grind [vaSeen, avoids_walkPoisoned, avoids_sliceLoad, avoids_foldl, avoids_foldl_fst, avoids_foldl_snd, avoids_foldl_trd]

theorem avoids_loadModel {c s} (h : Avoids w s) : Avoids w (loadModel c s) := by
  have hpages (pks : List Nat) {u : State} (hu : Avoids w u) : Avoids w (pks.foldl (fun s pk => (missPage (ownCore s) pk s).2) u) :=
    avoids_foldl (fun _ _ hs => avoids_missPage hs) hu
  show Avoids w (if _ then _ else _)
  -- With a number in its place the kernel would run the read of the plan's first bytes.
  obtain ⟨n, hn⟩ : ∃ n, n = 16 := ⟨16, rfl⟩
  rw [← hn]
  split
  · exact avoids_admFinish h
  · split
    · exact avoids_admFinish (avoids_vaSeen h)
    · exact hpages _ h
    · show Avoids w (if _ then _ else _)
      split
      · exact avoids_admFinish (avoids_vaSeen h)
      · show Avoids w (match readSpace _ _ _ _ with | .fails _ => _ | .missing pks => _ | .ready b => _)
        split
        · exact avoids_admFinish (avoids_vaSeen (avoids_vaSeen h))
        · exact hpages _ (avoids_vaSeen h)
        · show Avoids w (if _ then _ else _)
          split
          · exact avoids_admFinish (avoids_vaSeen (avoids_vaSeen h))
          · exact avoids_admFinish (avoids_vaSeen (avoids_vaSeen h))

theorem avoids_registerStart {c s} (h : Avoids w s) : Avoids w (registerStart c s) := by
  grind [registerStart, avoids_modAdmCmd, avoids_pinPages, avoids_missPage, avoids_vaSeen, avoids_admFinish, avoids_foldl, avoids_foldl_fst,
      avoids_foldl_snd, avoids_foldl_trd]

theorem avoids_resultBytes {st s} (h : Avoids w s) : Avoids w (resultBytes st s).2 := by
  grind [resultBytes, avoids_freeWord, avoids_vaSeen, avoids_foldl, avoids_foldl_fst, avoids_foldl_snd, avoids_foldl_trd]

theorem avoids_sendCompletion {e code s} (h : Avoids w s) : Avoids w (sendCompletion e code s) := by
  grind [sendCompletion, avoids_sendMsg, avoids_resultBytes]

theorem avoids_deadlineMiss {e code cause s} (h : Avoids w s) : Avoids w (deadlineMiss e code cause s) :=
  avoids_raise (avoids_countHearth h)

theorem avoids_finishStep {e code ends s} (h : Avoids w s) : Avoids w (finishStep e code ends s) := by
  grind [finishStep, avoids_freeStream, avoids_modStream, avoids_sendCompletion, avoids_deadlineMiss, avoids_conditionEvents]

theorem avoids_commitDeferred {key s} (h : Avoids w s) : Avoids w (commitDeferred key s) := by
  grind [commitDeferred, avoids_putCore]

theorem avoids_kwriteEvent {key k s} (h : Avoids w s) : Avoids w (kwriteEvent key k s) := by
  grind [kwriteEvent, avoids_raise]

theorem avoids_dropSaved {key slot s} (h : Avoids w s) : Avoids w (dropSaved key slot s) := by
  grind [dropSaved, avoids_modCore, avoids_commitDeferred, avoids_kwriteEvent, avoids_foldl, avoids_foldl_fst, avoids_foldl_snd, avoids_foldl_trd]

theorem avoids_modTileRun {num t f s} (h : Avoids w s) : Avoids w (modTileRun num t f s) := by
  grind [modTileRun, avoids_modJob]

theorem avoids_addCodes {num l s} (h : Avoids w s) : Avoids w (addCodes num l s) := by
  grind [addCodes, avoids_modJob]

theorem avoids_addCode {num code s} (h : Avoids w s) : Avoids w (addCode num code s) := by
  grind [addCode, avoids_addCodes]

theorem avoids_dropRun {key x s} (h : Avoids w s) : Avoids w (dropRun key x s) := by
  grind [dropRun, avoids_dropSaved, avoids_modTileRun, avoids_addCode]

theorem avoids_withdrawKernel {key s} (h : Avoids w s) : Avoids w (withdrawKernel key s) := by
  grind [withdrawKernel, avoids_putCore]

theorem avoids_killJob {num s} (h : Avoids w s) : Avoids w (killJob num s) := by
  grind [killJob, avoids_dropRun, avoids_withdrawKernel, avoids_modJob, avoids_foldl, avoids_foldl_fst, avoids_foldl_snd, avoids_foldl_trd]

theorem avoids_splitTune {j t s} (h : Avoids w s) : Avoids w (splitTune j t s) := by
  grind [splitTune, avoids_modJob, avoids_killJob, avoids_modStream, avoids_foldl, avoids_foldl_fst, avoids_foldl_snd, avoids_foldl_trd]

theorem avoids_withdrawTin {t s} (h : Avoids w s) : Avoids w (withdrawTin t s) := by
  grind [withdrawTin, avoids_modStream, avoids_finishStep, avoids_killJob, avoids_modJob, avoids_splitTune, avoids_modTin, avoids_foldl,
      avoids_foldl_fst, avoids_foldl_snd, avoids_foldl_trd]

theorem avoids_withdrawTinCmd {c s} (h : Avoids w s) : Avoids w (withdrawTinCmd c s) := by
  grind [withdrawTinCmd, avoids_withdrawTin, avoids_admFinish, avoids_modAdmCmd, avoids_modTin]

theorem avoids_setTinCmd {d s} (h : Avoids w s) : Avoids w (setTinCmd d s).2 := by
  grind [setTinCmd, avoids_modTin]

theorem avoids_runAdm {c s} (h : Avoids w s) : Avoids w (runAdm c s) := by
  grind [runAdm, avoids_closeStreamCmd, avoids_admUnpinCmd, avoids_measureCmd, avoids_loadRowCmd, avoids_unloadModelCmd, avoids_loadModel,
      avoids_registerStart, avoids_withdrawTinCmd, avoids_setTinCmd, avoids_admFinish]

theorem avoids_admSubmit {rq d found s} (h : Avoids w s) : Avoids w (admSubmit rq d found s) := by
  grind [admSubmit, avoids_runAdm, avoids_ends]

theorem avoids_freeFound {s} (h : Avoids w s) : Avoids w (freeFound s).2 := by
  grind [freeFound, avoids_freeWord]

theorem avoids_admRegSubmit {rq d s} (h : Avoids w s) : Avoids w (admRegSubmit rq d s) := by
  grind [admRegSubmit, avoids_admSubmit, avoids_freeFound]

theorem avoids_admCtrlWriteOp {rq v s} (h : Avoids w s) : Avoids w (admCtrlWriteOp rq v s) := by
  grind [admCtrlWriteOp, avoids_ends, avoids_withExpert]

theorem avoids_admBlockWrite {rq off v s} (h : Avoids w s) : Avoids w (admBlockWrite rq off v s) := by
  grind [admBlockWrite, avoids_admRegSubmit, avoids_windowWrite, avoids_ends, avoids_admCtrlWriteOp]

theorem avoids_hearthRegWrite {rq off v s} (h : Avoids w s) : Avoids w (hearthRegWrite rq off v s) := by
  grind [hearthRegWrite, avoids_routingBlockWrite, avoids_eventBlockWrite, avoids_govCtrlWriteOp, avoids_crustBlockWrite, avoids_crumbBlockWrite,
      avoids_admBlockWrite, avoids_ends]

theorem avoids_regWrite {s rq a v u} (he : regWrite s rq a v = some u) (h : Avoids w s) : Avoids w u := by
  unfold regWrite at he
  split at he
  · cases he
    exact avoids_ends h
  · split at he
    · split at he
      · cases he
      · cases he
        exact avoids_hearthRegWrite h
    · split at he
      · split at he
        · cases he
        · obtain ⟨v, hv, rfl⟩ := Option.map_eq_some_iff.1 he
          exact avoids_regWake (avoids_coreRegWrite hv h)
      · cases he
        exact avoids_tileRegWrite h

theorem avoids_benchPathWrite {s rq a v} {u} (he : benchPathWrite s rq a v = some u) (h : Avoids w s) : Avoids w u := by
  grind [benchPathWrite, avoids_modCore, avoids_regWake, avoids_ends]

theorem avoids_pathWrite {s rq a v} {u} (he : pathWrite s rq a v = some u) (h : Avoids w s) : Avoids w u := by
  grind [pathWrite, avoids_regWrite, avoids_benchPathWrite]

theorem avoids_workRun {fuel v s} (h : Avoids w s) : Avoids w (workRun fuel v s).2 := by
  induction fuel generalizing v s with
  | zero => exact h
  | succ fuel ih => grind [workRun, avoids_pathWrite, avoids_regWake]

theorem avoids_workSettle {w0 s} (h : Avoids w s) : Avoids w (workSettle w0 s) := by
  grind [workSettle, avoids_igReply, avoids_ends, avoids_workRun]

theorem avoids_worksRetry {s} (h : Avoids w s) : Avoids w (worksRetry s) := by
  grind [worksRetry, avoids_workSettle, avoids_foldl, avoids_foldl_fst, avoids_foldl_snd, avoids_foldl_trd]

theorem avoids_fwAnswer {c l s} (h : Avoids w s) : Avoids w (fwAnswer c l s) := by
  grind [fwAnswer, avoids_ends]

end

end Sys2Proof.Proofs

namespace Sys2Proof.Proofs

open Sys2Proof Sys2Proof.Machine Sys2Proof.Spec

/-! ### Register reads and Igrin's requests -/

section
variable {w : Watch}

theorem avoids_regRead {s rq a} (h : Avoids w s) : Avoids w (regRead s rq a).2 := by
  grind [regRead, avoids_regWake, avoids_ends]

theorem avoids_benchPathRead {s rq a} {x u} (he : benchPathRead s rq a = some (x, u)) (h : Avoids w s) : Avoids w u := by
  grind [benchPathRead, avoids_regWake, avoids_benchLoad, avoids_ends]

theorem avoids_pathRead {s rq a} {x u} (he : pathRead s rq a = some (x, u)) (h : Avoids w s) : Avoids w u := by
  grind [pathRead, avoids_regRead, avoids_benchPathRead]

theorem avoids_readOne {s who a} {x u} (he : readOne s who a = some (x, u)) (h : Avoids w s) : Avoids w u := by
  grind [readOne, avoids_regRead, avoids_ends, avoids_pathRead]

theorem avoids_readRun {fuel v s} (h : Avoids w s) : Avoids w (readRun fuel v s).2 := by
  induction fuel generalizing v s with
  | zero => exact h
  | succ fuel ih => grind [readRun, avoids_readOne, avoids_regWake]

theorem avoids_readSettle {w0 s} (h : Avoids w s) : Avoids w (readSettle w0 s) := by
  grind [readSettle, avoids_igReply, avoids_fwAnswer, avoids_readRun]

theorem avoids_readsRetry {s} (h : Avoids w s) : Avoids w (readsRetry s) := by
  grind [readsRetry, avoids_readSettle, avoids_foldl, avoids_foldl_fst, avoids_foldl_snd, avoids_foldl_trd]

theorem avoids_loadsReply {s} (h : Avoids w s) : Avoids w (loadsReply s) := by
  grind [loadsReply, avoids_igReply, avoids_foldl, avoids_foldl_fst, avoids_foldl_snd, avoids_foldl_trd]

theorem avoids_igCodeOnly {c s} (h : Avoids w s) : Avoids w (igCodeOnly c s).2 := by
  grind [igCodeOnly]

theorem avoids_modSlot {s k f} (h : Avoids w s) : Avoids w (modSlot s k f) := by
  grind [modSlot]

theorem avoids_igProvision {who m s} (h : Avoids w s) : Avoids w (igProvision who m s).2 := by
  grind [igProvision, avoids_modSlot, avoids_igCodeOnly]

theorem avoids_counterProgram {s} (h : Avoids w s) : Avoids w (counterProgram s) := by
  grind [counterProgram, avoids_countHearth]

theorem avoids_counterWrite {s} (h : Avoids w s) : Avoids w (counterWrite s) := by
  grind [counterWrite, avoids_countHearth, avoids_counterProgram]

theorem avoids_expertEnd {cause s p} (h : Avoids w s) : Avoids w (expertEnd cause s p) := by
  grind [expertEnd, avoids_raise]

theorem avoids_expertEndAll {cause f s} (h : Avoids w s) : Avoids w (expertEndAll cause f s) := by
  grind [expertEndAll, avoids_expertEnd, avoids_foldl, avoids_foldl_fst, avoids_foldl_snd, avoids_foldl_trd]

theorem avoids_igRollover {k m s} (h : Avoids w s) : Avoids w (igRollover k m s).2 := by
  grind [igRollover, avoids_counterWrite, avoids_expertEndAll, avoids_modSlot, avoids_igCodeOnly]

theorem avoids_igSystemLoad {who m s} (h : Avoids w s) : Avoids w (igSystemLoad who m s).2 := by
  grind [igSystemLoad, avoids_admSubmit, avoids_igCodeOnly]

theorem avoids_sessionEnd {s} (h : Avoids w s) : Avoids w (sessionEnd s) := by
  grind [sessionEnd, avoids_leaseRelease]

theorem avoids_igStarterCommit {who s} (h : Avoids w s) : Avoids w (igStarterCommit who s).2 := by
  grind [igStarterCommit, avoids_sessionEnd, avoids_igCodeOnly]

theorem avoids_sessionCopy {s f} (h : Avoids w s) : Avoids w (sessionCopy s f) := by
  grind [sessionCopy]

theorem avoids_igStarterData {who m s} (h : Avoids w s) : Avoids w (igStarterData who m s).2 := by
  grind [igStarterData, avoids_sessionCopy, avoids_countHearth, avoids_igCodeOnly]

theorem avoids_igStarterBegin {who m s} (h : Avoids w s) : Avoids w (igStarterBegin who m s).2 := by
  grind [igStarterBegin, avoids_leaseAsk, avoids_countHearth, avoids_igCodeOnly]

theorem avoids_igExpertDisable {m s} (h : Avoids w s) : Avoids w (igExpertDisable m s).2 := by
  grind [igExpertDisable, avoids_expertEndAll, avoids_igCodeOnly]

theorem avoids_igExpertEnable {who k m s} (h : Avoids w s) : Avoids w (igExpertEnable who k m s).2 := by
  grind [igExpertEnable, avoids_raise, avoids_igCodeOnly]

theorem avoids_igLeaseRelease {m s} (h : Avoids w s) : Avoids w (igLeaseRelease m s).2 := by
  grind [igLeaseRelease, avoids_leaseEnd, avoids_igCodeOnly]

theorem avoids_leaseStart {secs s} (h : Avoids w s) : Avoids w (leaseStart secs s) := by
  grind [leaseStart]

theorem avoids_igLeaseTake {who m s} (h : Avoids w s) : Avoids w (igLeaseTake who m s).2 := by
  grind [igLeaseTake, avoids_leaseStart, avoids_leaseAsk, avoids_countHearth, avoids_igCodeOnly]

theorem avoids_igRegWrite {who m s} (h : Avoids w s) : Avoids w (igRegWrite who m s).2 := by
  grind [igRegWrite, avoids_workSettle, avoids_igCodeOnly]

theorem avoids_igRegRead {who m s} (h : Avoids w s) : Avoids w (igRegRead who m s).2 := by
  grind [igRegRead, avoids_readSettle, avoids_igCodeOnly]

theorem avoids_igIdentify {s} (h : Avoids w s) : Avoids w (igIdentify s).2 := by
  grind [igIdentify]

theorem avoids_igAct {who k m s} (h : Avoids w s) : Avoids w (igAct who k m s).2 := by
  grind [igAct, avoids_igCodeOnly, avoids_igProvision, avoids_igRollover, avoids_igSystemLoad, avoids_igStarterCommit, avoids_igStarterData,
      avoids_igStarterBegin, avoids_igExpertDisable, avoids_igExpertEnable, avoids_igLeaseRelease, avoids_igLeaseTake, avoids_igRegWrite,
      avoids_igRegRead, avoids_igIdentify]

theorem avoids_reset {s} (_ : Avoids w s) : Avoids w State.reset :=
  ⟨fun hw => hw.symm, fun _ hst => by cases hst⟩

theorem avoids_alwaysOn {s} (h : Avoids w s) : Avoids w (alwaysOn s) := avoids_reset h

theorem avoids_startAgain {s} (h : Avoids w s) : Avoids w (startAgain s) := by
  grind [startAgain, avoids_expertEndAll, avoids_alwaysOn]

theorem avoids_startCommitted {s} (h : Avoids w s) : Avoids w (startCommitted s) := by
  grind [startCommitted, avoids_startAgain]

theorem avoids_enterRecovery {s} (h : Avoids w s) : Avoids w (enterRecovery s) := by
  grind [enterRecovery, avoids_startAgain]

theorem avoids_resetModule {recovery s} (h : Avoids w s) : Avoids w (resetModule recovery s) := by
  grind [resetModule, avoids_startAgain, avoids_enterRecovery]

theorem avoids_igAfter {who m c s} (h : Avoids w s) : Avoids w (igAfter who m c s) := by
  unfold igAfter
  split
  · cases who with
    | fabric m t => exact h
    | _ => exact avoids_resetModule h
  · split
    · exact avoids_startCommitted h
    · exact h

theorem avoids_igAnswer {who m key r lock} (hf : ∀ s, Avoids w s → Avoids w (lock s)) (h : Avoids w r.2) : Avoids w (igAnswer who m key r lock) := by
  unfold igAnswer
  split
  · exact hf _ h
  · exact avoids_igAfter (hf _ (avoids_igReply h))

theorem avoids_slotLock {k cause s} (h : Avoids w s) : Avoids w (slotLock k cause s) := by
  grind [slotLock, avoids_modSlot, avoids_raise]

end

end Sys2Proof.Proofs

namespace Sys2Proof.Proofs

open Sys2Proof Sys2Proof.Machine Sys2Proof.Spec

/-! ### Igrin's intake, the network inside the module, and streams -/

section
variable {w : Watch}

theorem avoids_slotEnd {k counter s} (h : Avoids w s) : Avoids w (slotEnd k counter s) := by
  grind [slotEnd, avoids_slotLock]

theorem avoids_countSlot {k i n s} (h : Avoids w s) : Avoids w (countSlot k i n s) := by
  grind [countSlot, avoids_count]

theorem avoids_slotReserve {k counter s} (h : Avoids w s) : Avoids w (slotReserve k counter s) := by
  grind [slotReserve, avoids_counterProgram, avoids_modSlot, avoids_slotLock]

theorem avoids_slotFail {k s} (h : Avoids w s) : Avoids w (slotFail k s) := by
  grind [slotFail, avoids_modSlot, avoids_countSlot]

theorem avoids_criticalRefusal {m s} {x u} (he : criticalRefusal m s = some (x, u)) (h : Avoids w s) : Avoids w u := by
  grind [criticalRefusal, avoids_countHearth, avoids_slotFail]

theorem avoids_igCriticalTake {who m s} (h : Avoids w s) : Avoids w (igCriticalTake who m s) := by
  have hrest {u : State} (hu : Avoids w u) : Avoids w (if (getSlot u (plField m 3 1)).locked then igReply who (igHeader m) .lockedOut none [] u else
      igAnswer who m (some (currentKey s (plField m 3 1)))
        (igAct who (plField m 3 1) m (countSlot (plField m 3 1) 1 1 (modSlot u (plField m 3 1) (fun x => { x with last := plField m 0x10 8 }))))
        (slotEnd (plField m 3 1) (plField m 0x10 8))) := by
    split
    · exact avoids_igReply hu
    · exact avoids_igAnswer (fun _ hs => avoids_slotEnd hs) (avoids_igAct (avoids_countSlot (avoids_modSlot hu)))
  unfold igCriticalTake
  split
  · next c u he => exact avoids_igReply (avoids_criticalRefusal he h)
  · refine hrest ?_
    split
    · exact avoids_slotReserve h
    · exact h

theorem avoids_stampSeen {v s} (h : Avoids w s) : Avoids w (stampSeen v s) := by
  unfold stampSeen
  split
  · exact avoids_countHearth h
  · split
    · exact avoids_stampStuck (s := { s with log := { s.log with stamp := BitVec.ofNat 48 v } }) h
    · exact h

theorem avoids_igTake {who m len s} (h : Avoids w s) : Avoids w (igTake who m len s) := by
  grind [igTake, avoids_igAct, avoids_igAnswer, avoids_igCriticalTake, avoids_igReply, avoids_stampSeen]

theorem avoids_igPacketRun {p s} (h : Avoids w s) : Avoids w (igPacketRun p s) := by
  grind [igPacketRun, avoids_igTake]

theorem avoids_igPacketTake {p s} (h : Avoids w s) : Avoids w (igPacketTake p s) := by
  grind [igPacketTake, avoids_igPacketRun]

theorem avoids_inboxRun {s} (h : Avoids w s) : Avoids w (inboxRun s) := by
  grind [inboxRun, avoids_igPacketTake, avoids_foldl, avoids_foldl_fst, avoids_foldl_snd, avoids_foldl_trd]

theorem avoids_laneLeave {k c s} (h : Avoids w s) : Avoids w (laneLeave k c s) := by
  grind [laneLeave, avoids_modLane]

theorem avoids_laneLand {k v q s} (h : Avoids w s) : Avoids w (laneLand k v q s) := by
  grind [laneLand, avoids_dieTake, avoids_modLane]

theorem avoids_laneStep {u e s v} (he : laneStep u e s = some v) (h : Avoids w s) : Avoids w v := by
  grind [laneStep, avoids_modLane, avoids_laneLeave, avoids_laneLand]

theorem avoids_d2dTurn {s} (h : Avoids w s) : Avoids w (d2dTurn s).2 := by
  unfold d2dTurn
  generalize dies = l
  refine avoids_foldl_snd (fun r u hr => ?_) h
  generalize upto 4 = l
  refine avoids_foldl_snd (fun r e hr => ?_) hr
  split
  · next v hv => exact avoids_laneStep hv hr
  · exact hr

/-- A round of turns goes on while there is work and one of them moved something. -/
theorem avoids_d2dTurnsStep {c : Prop} [Decidable c] {f : State → State}
    {s : State} {r : Bool × State} (hf : ∀ s, Avoids w s → Avoids w (f s)) (hs : Avoids w s) :
    Avoids w r.2 → Avoids w (if c then s else match r with | (true, s) => f s | (false, s) => s) := by
  intro hr
  obtain ⟨b, u⟩ := r
  split
  · exact hs
  · cases b
    · exact hr
    · exact hf u hr

/-- The turn and the count of what waits are kept as names, or comparing two calls would run them over all dies. -/
theorem avoids_d2dTurns {n s} (h : Avoids w s) : Avoids w (d2dTurns n s) := by
  have hturn := @avoids_d2dTurn w
  delta d2dTurns d2dTurns._f
  revert hturn
  generalize d2dTurn = turn
  generalize d2dWaiting = waiting
  intro hturn
  induction n generalizing s with
  | zero => exact h
  | succ n ih => exact avoids_d2dTurnsStep (c := waiting s = 0) (fun s hs => ih hs) h (hturn h)

theorem avoids_d2dRun {s} (h : Avoids w s) : Avoids w (d2dRun s) := by
  grind [d2dRun, avoids_d2dTurns]

theorem avoids_endHalts {s} (h : Avoids w s) : Avoids w (endHalts s) := by
  grind [endHalts]

theorem avoids_releaseJob {m cls l deadline s} (h : Avoids w s) : Avoids w (releaseJob m cls l deadline s) := by
  grind [releaseJob, avoids_modStream, avoids_addJob, avoids_foldl, avoids_foldl_fst, avoids_foldl_snd, avoids_foldl_trd]

theorem avoids_earlyRelease {m s} (h : Avoids w s) : Avoids w (earlyRelease m s) := by
  grind [earlyRelease, avoids_modModel, avoids_releaseJob]

theorem avoids_releaseRest {m s} (h : Avoids w s) : Avoids w (releaseRest m s) := by
  grind [releaseRest, avoids_releaseJob, avoids_foldl, avoids_foldl_fst, avoids_foldl_snd, avoids_foldl_trd]

theorem avoids_tinDrained {t s} (h : Avoids w s) : Avoids w (tinDrained t s) := by
  grind [tinDrained, avoids_admFinish, avoids_freeStream, avoids_adapterPin, avoids_foldl, avoids_foldl_fst, avoids_foldl_snd, avoids_foldl_trd]

theorem avoids_withdrawJob {j s} (h : Avoids w s) : Avoids w (withdrawJob j s) := by
  grind [withdrawJob, avoids_addCode, avoids_modJob]

theorem avoids_mapJobs {f s} (h : Avoids w s) : Avoids w (mapJobs f s) := by
  grind [mapJobs]

theorem avoids_jobsSettle {s} (h : Avoids w s) : Avoids w (jobsSettle s) := by
  have hdown (l : List (Nat × Tin)) {u : State} (hu : Avoids w u) : Avoids w (l.foldl (fun s p => withdrawTin p.1 s) u) :=
    avoids_foldl (fun _ _ hs => avoids_withdrawTin hs) hu
  have hgone (l : List Job) {u : State} (hu : Avoids w u) : Avoids w (l.foldl (fun s j => withdrawJob j s) u) :=
    avoids_foldl (fun _ _ hs => avoids_withdrawJob hs) hu
  have hcal (l : List AdmCmd) {u : State} (hu : Avoids w u) : Avoids w (l.foldl (fun s c => calRelease c s) u) :=
    avoids_foldl (fun _ _ hs => avoids_calRelease hs) hu
  have hjobs (l : List Job) {u : State} (hu : Avoids w u) : Avoids w (l.foldl (fun s j => advanceJob j.num.toNat (writeBatch j.num.toNat s)) u) :=
    avoids_foldl (fun _ _ hs => avoids_advanceJob (avoids_writeBatch hs)) hu
  have hdrained (l : List (Nat × Tin)) {u : State} (hu : Avoids w u) : Avoids w (l.foldl (fun s p => tinDrained p.1 s) u) :=
    avoids_foldl (fun _ _ hs => avoids_tinDrained hs) hu
  unfold jobsSettle
  exact avoids_foldl (fun _ _ hs => avoids_releaseRest (avoids_earlyRelease hs))
    (hdrained _ (hjobs _ (avoids_mapJobs (hcal _ (hgone _ (avoids_mapJobs (hdown _ h)))))))

theorem avoids_registerFail {c code s} (h : Avoids w s) : Avoids w (registerFail c code s) := by
  grind [registerFail, avoids_pinPages, avoids_admFinish]

theorem avoids_registerEnd {c code s} (h : Avoids w s) : Avoids w (registerEnd c code s) := by
  have hmade (i : KernelImage) {u : State} (hu : Avoids w u) : Avoids w (admFinish c.id .ok { u with kernels := u.kernels ++ [i] }) :=
    avoids_admFinish (s := { u with kernels := u.kernels ++ [i] }) hu
  unfold registerEnd
  -- With a number in its place the kernel would run the read of the image's header.
  obtain ⟨n, hn⟩ : ∃ n, n = 128 := ⟨128, rfl⟩
  rw [← hn]
  dsimp only
  split
  · exact avoids_registerFail h
  · split
    · exact h
    · split
      · exact avoids_registerFail (avoids_vaSeen h)
      · split
        · exact h
        · split
          · exact avoids_registerFail (avoids_vaSeen h)
          · split
            · exact avoids_registerFail (avoids_vaSeen h)
            · exact hmade _ (avoids_vaSeen h)

theorem avoids_registerPinned {c code s} (h : Avoids w s) : Avoids w (registerPinned c code s) := by
  grind [registerPinned, avoids_registerEnd, avoids_modAdmCmd]

theorem avoids_adapterPinned {t code s} (h : Avoids w s) : Avoids w (adapterPinned t code s) := by
  grind [adapterPinned, avoids_mapJobs, avoids_modStream, avoids_finishStep, avoids_modTin]

theorem avoids_takeAdmin {s} (h : Avoids w s) : Avoids w (takeAdmin s) := by
  grind [takeAdmin, avoids_registerPinned, avoids_adapterPinned, avoids_modRes, avoids_foldl, avoids_foldl_fst, avoids_foldl_snd, avoids_foldl_trd]

theorem avoids_streamsSettle {s} (h : Avoids w s) : Avoids w (streamsSettle s) := by
  grind [streamsSettle, avoids_jobsSettle, avoids_registerEnd, avoids_runAdm, avoids_takeAdmin, avoids_foldl, avoids_foldl_fst, avoids_foldl_snd,
      avoids_foldl_trd]

theorem avoids_abandonEnding {s} (h : Avoids w s) : Avoids w (abandonEnding s) := by
  grind [abandonEnding, avoids_linkAbandon, avoids_foldl, avoids_foldl_fst, avoids_foldl_snd, avoids_foldl_trd]

theorem avoids_abandonDown {s} (h : Avoids w s) : Avoids w (abandonDown s) := by
  grind [abandonDown, avoids_linkAbandon, avoids_foldl, avoids_foldl_fst, avoids_foldl_snd, avoids_foldl_trd]

theorem avoids_rawPut {o k ws s} (h : Avoids w s) : Avoids w (rawPut o k ws s) := by
  grind [rawPut, avoids_benchPut]

theorem avoids_descDiffers {t gi phase s} (h : Avoids w s) : Avoids w (descDiffers t gi phase s) := by
  grind [descDiffers, avoids_modLink, avoids_linkCommit]

theorem avoids_collRawTake {t p s} (h : Avoids w s) : Avoids w (collRawTake t p s) := by
  unfold collRawTake
  split
  · exact h
  · dsimp only
    split
    · exact h
    · split
      · exact avoids_modLink h
      · split
        · exact avoids_descDiffers h
        · split
          · exact h
          · split
            · exact avoids_modLink h
            · split
              · exact h
              · grind [avoids_countTile, avoids_rawPut, avoids_modLink]

theorem avoids_adderMismatch {t gi b a s} (h : Avoids w s) : Avoids w (adderMismatch t gi b a s) := by
  grind [adderMismatch, avoids_modTile, avoids_raise, avoids_modLink, avoids_countTile]

theorem avoids_putWork {o b l s} (h : Avoids w s) : Avoids w (putWork o b l s) := by
  grind [putWork, avoids_benchPut]

theorem avoids_sendLoose {t p s} (h : Avoids w s) : Avoids w (sendLoose t p s) := by
  grind [sendLoose, avoids_sendRouted, avoids_modPort]

theorem avoids_residueFault {st t p gi b s} (h : Avoids w s) : Avoids w (residueFault st t p gi b s) := by
  grind [residueFault, avoids_raise, avoids_countTile]

end

end Sys2Proof.Proofs

namespace Sys2Proof.Proofs

open Sys2Proof Sys2Proof.Machine Sys2Proof.Spec

/-! ### Collectives, moves and the settling of a tile's residency -/

section
variable {w : Watch}

theorem avoids_takeBlock {st t wrong p i from_ k s} (h : Avoids w s) : Avoids w (takeBlock st t wrong p i from_ k s) := by
  unfold takeBlock
  split
  · exact h
  · next o ho =>
    dsimp only
    split
    · split
      · exact avoids_countTile h
      · exact h
    · split
      · have hfault (b : Nat) : Avoids w (residueFault st t p o.group b s) := avoids_residueFault h
        split
        · exact avoids_modLink (avoids_modLink (hfault _))
        · refine avoids_sendLoose (avoids_modLink ?_)
          split
          · exact avoids_linkUnlock (avoids_linkTell (avoids_modLink (hfault _)))
          · exact hfault _
      · split
        · exact avoids_modLink (avoids_modLink (avoids_putWork h))
        · have htook (o : LinkOp) (b k n : Nat) (g : State → List (BitVec 32)) : True := trivial
          split
          · split
            · exact avoids_adderMismatch (avoids_modLink (avoids_modLink (avoids_putWork (avoids_benchScan h))))
            · exact avoids_modLink (avoids_modLink (avoids_putWork (avoids_benchScan h)))
          · exact avoids_modLink (avoids_modLink (avoids_putWork (avoids_benchScan h)))

theorem avoids_collDataTake {st t wrong p s} (h : Avoids w s) : Avoids w (collDataTake st t wrong p s) := by
  have htake (n i from_ : Nat) : Avoids w ((upto n).foldl (fun s k => takeBlock st t wrong p i from_ k s) s) :=
    avoids_foldl (fun _ _ hs => avoids_takeBlock hs) h
  have hlast (c1 c2 c3 c4 : Bool) (g : Nat) (f : LinkOp → LinkOp) (n i from_ : Nat) : Avoids w (if !c1 then s else if c2 then countTile t 39 1 s else if c3 then s
      else if c4 then modLink t g f s else (upto n).foldl (fun s k => takeBlock st t wrong p i from_ k s) s) := by
    split
    · exact h
    · split
      · exact avoids_countTile h
      · split
        · exact h
        · split
          · exact avoids_modLink h
          · exact htake _ _ _
  unfold collDataTake
  split
  · exact h
  · dsimp only
    split
    · exact h
    · split
      · exact avoids_modLink h
      · split
        · split
          · exact h
          · exact avoids_descDiffers h
        · split
          · exact h
          · exact hlast _ _ _ _ _ _ _ _ _

theorem avoids_collTake {t q s} (h : Avoids w s) : Avoids w (collTake t q s) := by
  grind [collTake, avoids_collRawTake, avoids_collDataTake]

theorem avoids_sendWords {t g dst stage phase ring fuel first ws s}
    (h : Avoids w s) : Avoids w (sendWords t g dst stage phase ring fuel first ws s) := by
  induction fuel generalizing first ws s with
  | zero => exact h
  | succ fuel ih => grind [sendWords, avoids_sendLoose]

theorem avoids_sendBlocks {t g dst stage phase ring fuel lo hi s} (h : Avoids w s) : Avoids w (sendBlocks t g dst stage phase ring fuel lo hi s) := by
  induction fuel generalizing lo hi s with
  | zero => exact h
  | succ fuel ih => grind [sendBlocks, avoids_sendLoose, avoids_benchScan]

theorem avoids_linkSend {t gi x s} (h : Avoids w s) : Avoids w (linkSend t gi x s) := by
  grind [linkSend, avoids_benchScan, avoids_sendWords, avoids_sendBlocks, avoids_foldl, avoids_foldl_fst, avoids_foldl_snd, avoids_foldl_trd]

theorem avoids_linkGrow {o s} (h : Avoids w s) : Avoids w (linkGrow o s) := by
  grind [linkGrow, avoids_modCore]

theorem avoids_sourceScan {o s} (h : Avoids w s) : Avoids w (sourceScan o s) := by
  grind [sourceScan, avoids_benchScan]

theorem avoids_linkEncode {o s} (h : Avoids w s) : Avoids w (linkEncode o s) := by
  grind [linkEncode, avoids_countCore, avoids_countTile, avoids_modLink, avoids_putWork, avoids_sourceScan, avoids_foldl, avoids_foldl_fst,
      avoids_foldl_snd, avoids_foldl_trd]

theorem avoids_benchScans {key l s} (h : Avoids w s) : Avoids w (benchScans key l s) := by
  grind [benchScans, avoids_benchScan, avoids_foldl, avoids_foldl_fst, avoids_foldl_snd, avoids_foldl_trd]

theorem avoids_rawBegin {t gi s} (h : Avoids w s) : Avoids w (rawBegin t gi s) := by
  have hsend (g : CollGroup) (o : LinkOp) {u : State} (hu : Avoids w u) : Avoids w (match (linkXchs g o)[0]? with | some x => linkSend t gi x u | none => u) := by
    split
    · exact avoids_linkSend hu
    · exact hu
  unfold rawBegin
  split
  · exact h
  · next o ho =>
    dsimp only
    split
    · exact avoids_countTile (hsend _ _ (avoids_rawPut (avoids_modLink (avoids_benchScans (avoids_rawRestore h)))))
    · exact avoids_countTile (avoids_rawPut (hsend _ _ (avoids_modLink (avoids_benchScans (avoids_rawRestore h)))))

theorem avoids_linkBegin {t gi s} (h : Avoids w s) : Avoids w (linkBegin t gi s) := by
  grind [linkBegin, avoids_linkSend, avoids_linkEncode, avoids_rawBegin, avoids_modLink]

theorem avoids_linkDecide {t gi w0 s} (h : Avoids w s) : Avoids w (linkDecide t gi w0 s) := by
  grind [linkDecide, avoids_linkSend, avoids_linkGrow, avoids_countTile, avoids_linkBegin, avoids_modLink]

theorem avoids_linkLate {t gi s} (h : Avoids w s) : Avoids w (linkLate t gi s) := by
  grind [linkLate, avoids_countTile, avoids_raise, avoids_modLink, avoids_linkCommit, avoids_foldl, avoids_foldl_fst, avoids_foldl_snd,
      avoids_foldl_trd]

theorem avoids_linkMove {take t gi s} (hf : ∀ t p s, Avoids w s → Avoids w (take t p s)) (h : Avoids w s) : Avoids w (linkMove take t gi s).2 := by
  have hearly (l : List (Nat × Packet)) {u : State} (hu : Avoids w u) : Avoids w (l.foldl (fun s p => take t p s) u) :=
    avoids_foldl (fun _ _ hs => hf _ _ _ hs) hu
  unfold linkMove
  split
  · exact h
  · next o ho =>
    dsimp only
    split
    · split
      · exact h
      · split
        · exact avoids_modLink h
        · exact hearly _ (avoids_linkBegin (avoids_modLink h))
    · split
      · refine avoids_linkCommit ?_
        split
        · exact avoids_modLink h
        · exact h
      · grind [avoids_linkSend, avoids_modLink, avoids_linkLate]
    · grind [avoids_modLink, avoids_linkDecide]
    · grind [avoids_modLink, avoids_linkSend]
    · grind [avoids_linkFinish]
    · grind [avoids_dropLink, avoids_linkCommit, avoids_modLink]

theorem avoids_linkRun {take t gi fuel s} (hf : ∀ t p s, Avoids w s → Avoids w (take t p s))
    (h : Avoids w s) : Avoids w (linkRun take t gi fuel s) := by
  induction fuel generalizing s with
  | zero => exact h
  | succ fuel ih =>
    have hmove := avoids_linkMove (gi := gi) (t := t) hf h
    unfold linkRun
    split <;> rename_i he <;> rw [he] at hmove
    · exact ih hmove
    · exact hmove

theorem avoids_linkSettle {s} (h : Avoids w s) : Avoids w (linkSettle s) := by
  have hone (l : List LinkOp) {u : State} (hu : Avoids w u) : Avoids w (l.foldl (fun s o => linkRun collTake o.tile o.group 4096 s) u) :=
    avoids_foldl (fun _ _ hs => avoids_linkRun (fun _ _ _ hs => avoids_collTake hs) hs) hu
  have hreplay (l : List LinkOp) {u : State} (hu : Avoids w u) : Avoids w (l.foldl (fun s o =>
      if (o.phase = 3 || o.phase = 1) && !o.early.isEmpty then
        o.early.foldl (fun s p => collTake o.tile p s) (modLink o.tile o.group (fun o => { o with early := [] }) s)
      else s) u) := by
    refine avoids_foldl (fun v o hv => ?_) hu
    split
    · exact avoids_foldl (fun _ _ hs => avoids_collTake hs) (avoids_modLink hv)
    · exact hv
  exact hone _ (hreplay _ (hone _ (hone _ h)))

theorem avoids_collSettle {s} (h : Avoids w s) : Avoids w (collSettle s) := by
  grind [collSettle, avoids_abandonEnding, avoids_abandonDown, avoids_linkSettle]

theorem avoids_sliceTouch {key s} (h : Avoids w s) : Avoids w (sliceTouch key s) := by
  grind [sliceTouch, avoids_sliceAccess]

theorem avoids_translate {key space va a system again s} (h : Avoids w s) : Avoids w (Machine.translate key space va a system again s).2 := by
  have hlines (l : List (Nat × Nat)) {u : State} (hu : Avoids w u) :
      Avoids w (l.foldl (fun s l => if sliceOut s l.1 then s else sliceTouch l.1 s) (if again then u else countTile (key / 64) 3 1 u)) := by
    refine avoids_foldl (fun v l hv => ?_) ?_
    · split
      · exact hv
      · exact avoids_sliceTouch hv
    · split
      · exact hu
      · exact avoids_countTile hu
  unfold Machine.translate
  dsimp only
  split
  · refine avoids_touchPte ?_
    split
    · exact h
    · refine hlines _ ?_
      split
      · exact avoids_putCore h
      · exact h
  · exact avoids_walkPoisoned (hlines _ h)
  · dsimp only
    split
    · exact h
    · exact hlines _ h

theorem avoids_pieceFar {key k m again far s} (h : Avoids w s) : Avoids w (pieceFar key k m again far s).2 := by
  grind [pieceFar, avoids_missPage, avoids_translate]

theorem avoids_movePump {fuel key ticket s} (h : Avoids w s) : Avoids w (movePump fuel key ticket s) := by
  induction fuel generalizing s with
  | zero => exact h
  | succ fuel ih =>
    unfold movePump
    dsimp only
    split
    · next m k hm hk =>
      split
      · exact h
      · next far bench n rest htodo =>
        split
        · exact h
        · have hpiece := avoids_pieceFar (key := key) (k := k) (m := m) (again := true) (far := far) h
          split <;> rename_i hp <;> rw [hp] at hpiece <;> dsimp only at hpiece
          · exact hpiece
          · exact avoids_modCore hpiece
          · split
            · exact ih (avoids_modCore hpiece)
            · split
              · exact avoids_modCore h
              · next txn u he =>
                have hsent : Avoids w u := by
                  split at he
                  · exact avoids_bulkWrite he (avoids_benchLoad hpiece)
                  · exact avoids_bulkRead he hpiece
                split
                · exact avoids_modCore h
                · exact ih (avoids_modCore hsent)
    · exact h

theorem avoids_movePages {key k m again s} (h : Avoids w s) : Avoids w (movePages key k m again s).2.2 := by
  grind [movePages, avoids_pieceFar, avoids_foldl, avoids_foldl_fst, avoids_foldl_snd, avoids_foldl_trd]

theorem avoids_moveStart {key m s} (h : Avoids w s) : Avoids w (moveStart key m s) := by
  grind [moveStart, avoids_modCore, avoids_movePages]

theorem avoids_startMoves {key s} (h : Avoids w s) : Avoids w (startMoves key s) := by
  grind [startMoves, avoids_moveStart, avoids_foldl, avoids_foldl_fst, avoids_foldl_snd, avoids_foldl_trd]

theorem avoids_movesSettle {key s} (h : Avoids w s) : Avoids w (movesSettle key s) := by
  grind [movesSettle, avoids_movePump, avoids_startMoves, avoids_foldl, avoids_foldl_fst, avoids_foldl_snd, avoids_foldl_trd]

theorem avoids_tabEvacuate {key s} (h : Avoids w s) : Avoids w (tabEvacuate key s) := by
  grind [tabEvacuate, avoids_tabDrop, avoids_tabPlace, avoids_foldl, avoids_foldl_fst, avoids_foldl_snd, avoids_foldl_trd]

theorem avoids_putPage {key frame t s} (h : Avoids w s) : Avoids w (putPage key frame t s) := by
  grind [putPage, avoids_modSlice]

theorem avoids_shardEvacuate {key s} (h : Avoids w s) : Avoids w (shardEvacuate key s) := by
  refine avoids_foldl (fun u q hu => ?_) h
  have halloc := avoids_allocate (key := key) (space := 0) (n := 1) (evict := true) hu
  dsimp only
  split <;> rename_i he <;> rw [he] at halloc
  · split
    · exact hu
    · have hload := avoids_pageLoad (key := key) (frame := q.2.2.2.frame) halloc
      split <;> rename_i hp <;> rw [hp] at hload
      · exact avoids_modSet (keepsShape_shard _ _ _) (avoids_putPage (avoids_markTable (avoids_freeFrames hload)))
      · exact avoids_freeFrames (avoids_shardInvalid hload)
  · exact halloc

theorem avoids_evacuateStart {key s} (h : Avoids w s) : Avoids w (evacuateStart key s) := by
  grind [evacuateStart, avoids_tabEvacuate, avoids_shardEvacuate, avoids_queueMove, avoids_foldl, avoids_foldl_fst, avoids_foldl_snd,
      avoids_foldl_trd]

theorem avoids_openOwned {key frame n s r k u} (he : openOwned key frame n s = some (r, k, u)) (h : Avoids w s) : Avoids w u := by
  unfold openOwned at he
  dsimp only at he
  split at he
  · cases he
  · cases he
    exact h

theorem avoids_residencyTake {t p s} (h : Avoids w s) : Avoids w (residencyTake t p s) := by
  unfold residencyTake
  dsimp only
  split
  · split
    · exact h
    · split
      · exact h
      · exact h
  · split
    · exact avoids_sendMsg h
    · split
      · split
        · split
          · next he => exact avoids_sendMsg (avoids_openOwned he (avoids_markFrames h))
          · exact avoids_sendMsg h
        · exact avoids_sendMsg h
      · split
        · exact avoids_sendMsg (avoids_noFrame h)
        · next key hkey =>
          have halloc := avoids_allocate (key := key) (space := 0) (n := fld p.w4 39 32) (evict := true) h
          split <;> rename_i he <;> rw [he] at halloc <;> dsimp only at halloc
          · split
            · next ho => exact avoids_sendMsg (avoids_openOwned ho (avoids_markFrames halloc))
            · exact avoids_sendMsg halloc
          · exact avoids_modRes (fun _ => by rfl) halloc
          · exact avoids_sendMsg (avoids_quotaRefused halloc)
          · exact avoids_sendMsg halloc
          · exact avoids_sendMsg (avoids_noFrame halloc)

theorem avoids_residencyAgain {t s} (h : Avoids w s) : Avoids w (residencyAgain t s) := by
  grind [residencyAgain, avoids_modRes, avoids_residencyTake, avoids_foldl, avoids_foldl_fst, avoids_foldl_snd, avoids_foldl_trd]

theorem avoids_moveFrame {x pk s} (h : Avoids w s) : Avoids w (moveFrame x pk s).2 := by
  grind [moveFrame, avoids_allocate]

theorem avoids_dropQuiet {t x code s} (h : Avoids w s) : Avoids w (dropQuiet t x code s) := by
  grind [dropQuiet, avoids_cmdNote, avoids_dropXfer]

theorem avoids_xferStart {t x s} (h : Avoids w s) : Avoids w (xferStart t x s) := by
  have hquiet (c : Bool) (x : Xfer) (k : Code) {u v : State} (hu : Avoids w u) (hv : Avoids w v) : Avoids w (if c then v else dropQuiet t x k u) := by
    split
    · exact hv
    · exact avoids_dropQuiet hu
  unfold xferStart
  split
  · exact h
  · split
    · have halloc := avoids_allocate (key := x.core) (space := 0) (n := 1) (evict := true) h
      dsimp only
      split <;> rename_i he <;> rw [he] at halloc <;> dsimp only at halloc
      · exact halloc
      · exact avoids_setXfer (avoids_markTable halloc)
      · exact avoids_dropQuiet (avoids_quotaRefused halloc)
      · exact avoids_dropQuiet (avoids_noFrame halloc)
    · next pk hpk =>
      dsimp only
      split
      · exact hquiet _ _ _ h h
      · split
        · exact avoids_dropQuiet h
        · split
          · exact avoids_askFrames (avoids_setXfer h)
          · have hmove := avoids_moveFrame (x := { x with old := ptePlace (getPte s pk) }) (pk := pk) h
            split <;> rename_i he <;> rw [he] at hmove <;> dsimp only at hmove
            · exact hmove
            · exact avoids_startRound (avoids_setXfer (avoids_modPte (avoids_markFrames hmove)))
            · exact hquiet _ _ _ hmove hmove
            · exact hquiet _ _ _ hmove hmove
            · refine hquiet _ _ _ ?_ hmove
              split
              · exact avoids_noFrame hmove
              · exact hmove

theorem avoids_resSettle {t s} (h : Avoids w s) : Avoids w (resSettle t s) := by
  grind [resSettle, avoids_leaseRelease, avoids_evacuateStart, avoids_stepCmd, avoids_residencyAgain, avoids_gather, avoids_xferStart, avoids_foldl,
      avoids_foldl_fst, avoids_foldl_snd, avoids_foldl_trd]

theorem avoids_endOp {t o code v s} (h : Avoids w s) : Avoids w (endOp t o code v s) := by
  grind [endOp, avoids_countTile, avoids_modCore, avoids_modPort]

theorem avoids_homeReply {t p code v s} (h : Avoids w s) : Avoids w (homeReply t p code v s) := by
  grind [homeReply, avoids_sendMsg, avoids_endOp]

theorem avoids_notePart {t p code s} (h : Avoids w s) : Avoids w (notePart t p code s) := by
  grind [notePart, avoids_modPort, avoids_homeReply]

end

end Sys2Proof.Proofs

namespace Sys2Proof.Proofs

open Sys2Proof Sys2Proof.Machine Sys2Proof.Spec

/-! ### Remote operations, start-up, and what settles after a command -/

section
variable {w : Watch}

theorem avoids_homeWrite {key space off bs s} (h : Avoids w s) : Avoids w (homeWrite key space off bs s) := by
  grind [homeWrite, avoids_modCore, avoids_sliceWrite]

theorem avoids_bufferLine {t core line s} (h : Avoids w s) : Avoids w (bufferLine t core line s) := by
  grind [bufferLine, avoids_modPort]

theorem avoids_homeApply {t p bs s} (h : Avoids w s) : Avoids w (homeApply t p bs s) := by
  grind [homeApply, avoids_sendMsg, avoids_notePart, avoids_modPort, avoids_homeWrite, avoids_countTile, avoids_homeReply, avoids_bufferLine]

theorem avoids_homeRead {p s} (h : Avoids w s) : Avoids w (homeRead p s).2.2 := by
  grind [homeRead, avoids_sliceLoad, avoids_sliceAccess, avoids_lineFailed, avoids_benchScan, avoids_foldl, avoids_foldl_fst, avoids_foldl_snd,
      avoids_foldl_trd]

theorem avoids_homeRefuse {t p code s} (h : Avoids w s) : Avoids w (homeRefuse t p code s) := by
  grind [homeRefuse, avoids_homeReply, avoids_notePart, avoids_modPort]

theorem avoids_homeLast {t p s} (h : Avoids w s) : Avoids w (homeLast t p s) := by
  grind [homeLast, avoids_sendMsg, avoids_homeApply, avoids_homeRead, avoids_homeRefuse]

theorem avoids_arcPurge {t s} (h : Avoids w s) : Avoids w (arcPurge t s) := by
  grind [arcPurge, avoids_modPort]

theorem avoids_homeTake {t p s} (h : Avoids w s) : Avoids w (homeTake t p s) := by
  grind [homeTake, avoids_homeLast, avoids_wakeGroup, avoids_modPort, avoids_arcPurge, avoids_homeReply, avoids_notePart, avoids_countTile]

theorem avoids_remSend {t o key region s} (h : Avoids w s) : Avoids w (remSend t o key region s) := by
  grind [remSend, avoids_sendMsg, avoids_modPort, avoids_sendFlow, avoids_stampSent]

theorem avoids_opGo {t o m tl c off reg s} (h : Avoids w s) : Avoids w (opGo t o m tl c off reg s) := by
  grind [opGo, avoids_homeTake, avoids_modPort, avoids_remSend, avoids_endOp]

theorem avoids_of_snd {α : Type} {r : α × State} {a : α} {u : State} (he : r = (a, u)) (hr : Avoids w r.2) : Avoids w u := by
  rw [he] at hr
  exact hr

theorem avoids_opEnter {t o s} (h : Avoids w s) : Avoids w (opEnter t o s).2 := by
  unfold opEnter
  dsimp only
  split
  · exact avoids_endOp h
  · split
    · exact h
    · split
      · next he => exact avoids_endOp (avoids_of_snd he (avoids_translate h))
      · next he => exact avoids_endOp (avoids_of_snd he (avoids_translate h))
      · next he => exact avoids_opGo (avoids_of_snd he (avoids_translate h))
      · next he => exact avoids_modPort (avoids_of_snd he (avoids_translate h))
      · next he =>
        have hm := avoids_of_snd he (avoids_translate h)
        split
        · next hc => exact avoids_endOp (avoids_of_snd hc (avoids_missPage hm))
        · next hc => exact avoids_modPort (avoids_of_snd hc (avoids_missPage hm))

theorem avoids_enterOps {t s} (h : Avoids w s) : Avoids w (enterOps t s) := by
  grind [enterOps, avoids_opEnter, avoids_foldl, avoids_foldl_fst, avoids_foldl_snd, avoids_foldl_trd]

theorem avoids_retryWaits {t s} (h : Avoids w s) : Avoids w (retryWaits t s) := by
  grind [retryWaits, avoids_modPort, avoids_homeLast, avoids_foldl, avoids_foldl_fst, avoids_foldl_snd, avoids_foldl_trd]

theorem avoids_regionPump {t n s} (h : Avoids w s) : Avoids w (regionPump t n s) := by
  induction n generalizing s with
  | zero => exact h
  | succ n ih =>
    unfold regionPump
    split
    · exact h
    · split
      · exact h
      · exact ih (avoids_regionRun (avoids_modPort h))

theorem avoids_targetDead {t module tile s} (h : Avoids w s) : Avoids w (targetDead t module tile s) := by
  grind [targetDead, avoids_modPort, avoids_raise]

theorem avoids_batchSent {num code s} (h : Avoids w s) : Avoids w (batchSent num code s) := by
  grind [batchSent, avoids_failBatch, avoids_modJob]

theorem keepsShape_filled (i j : Nat) (g : Shard → Shard) :
    KeepsShape (fun st =>
      let st := { st with stripes := st.stripes.modify i (fun l => l.modify j g) }
      if st.state = 0 then st else setRefresh st) := by
  intro x
  dsimp only
  split
  · exact keepsShape_shard i j g x
  · exact keepsShape_setRefresh.comp (keepsShape_shard i j g) x

theorem avoids_xferEnd {t x s} (h : Avoids w s) : Avoids w (xferEnd t x s) := by
  unfold xferEnd
  split
  · exact avoids_dropXfer (avoids_cmdNote h)
  · exact avoids_setXfer (avoids_cmdNote h)
  · exact avoids_dropXfer (avoids_cmdNote (avoids_modSet (keepsShape_filled _ _ _) h))
  · dsimp only
    split
    · exact avoids_dropXfer (avoids_cmdNote (avoids_startRound (avoids_countTile (avoids_modPte h))))
    · exact avoids_dropXfer (avoids_cmdNote (avoids_modPte h))

theorem avoids_moveCopy {t x s} (h : Avoids w s) : Avoids w (moveCopy t x s) := by
  grind [moveCopy, avoids_abandon, avoids_gatherRemote, avoids_setXfer]

theorem avoids_partEnd {t x s} (h : Avoids w s) : Avoids w (partEnd t x s) := by
  grind [partEnd, avoids_xferEnd, avoids_gatherFill, avoids_moveCopy]

theorem avoids_xferDone {t id txn code s} (h : Avoids w s) : Avoids w (xferDone t id txn code s) := by
  grind [xferDone, avoids_setXfer, avoids_partEnd, avoids_abandon]

theorem avoids_moveUnreadable {t x pk s} (h : Avoids w s) : Avoids w (moveUnreadable t x pk s) := by
  grind [moveUnreadable, avoids_xferLost, avoids_gatherFill]

theorem avoids_xferFail {t x index code s} (h : Avoids w s) : Avoids w (xferFail t x index code s) := by
  grind [xferFail, avoids_moveUnreadable, avoids_shardInvalid, avoids_gather, avoids_abandon]

theorem avoids_xferData {t id txn off code bs s} (h : Avoids w s) : Avoids w (xferData t id txn off code bs s) := by
  grind [xferData, avoids_xferEnd, avoids_setXfer, avoids_xferFail]

theorem avoids_movePart {key ticket txn code bytes s} (h : Avoids w s) : Avoids w (movePart key ticket txn code bytes s) := by
  grind [movePart, avoids_putCore, avoids_movePump]

theorem avoids_bulkEnd {t o code bs s} (h : Avoids w s) : Avoids w (bulkEnd t o code bs s) := by
  grind [bulkEnd, avoids_batchSent, avoids_xferDone, avoids_xferData, avoids_movePart, avoids_modPort]

theorem avoids_memberAnswer {t o module code s} (h : Avoids w s) : Avoids w (memberAnswer t o module code s) := by
  grind [memberAnswer, avoids_modPort, avoids_endOp, avoids_raise]

theorem avoids_failedOne {t p code members s} (h : Avoids w s) : Avoids w (failedOne t p code members s) := by
  unfold failedOne
  split
  · split
    · exact h
    · split
      · exact h
      · exact avoids_abandon h
  · split
    · exact avoids_countHearth h
    · split
      · exact h
      · split
        · exact h
        · dsimp only
          split
          · refine avoids_foldl (fun s m hs => ?_) h
            split
            · exact avoids_memberAnswer hs
            · exact hs
          iterate 5 exact avoids_bulkEnd h
          · refine avoids_endOp ?_
            split
            · split
              · exact avoids_targetDead h
              · exact h
            · split
              · exact avoids_targetDead h
              · exact h
            · exact h

theorem avoids_drainFailed {s} (h : Avoids w s) : Avoids w (drainFailed s) := by
  grind [drainFailed, avoids_failedOne, avoids_foldl, avoids_foldl_fst, avoids_foldl_snd, avoids_foldl_trd]

theorem avoids_setPhase {p s} (h : Avoids w s) : Avoids w (setPhase p s) := by
  grind [setPhase]

theorem avoids_engineStart {s p} (h : Avoids w s) : Avoids w (engineStart s p) := by
  grind [engineStart, avoids_strandTrain, avoids_putEngine, avoids_raise, avoids_foldl, avoids_foldl_fst, avoids_foldl_snd, avoids_foldl_trd]

theorem avoids_startFail {phase cause s} (h : Avoids w s) : Avoids w (startFail phase cause s) := by
  grind [startFail, avoids_raise]

theorem avoids_linkMark {f u e s} (h : Avoids w s) : Avoids w (linkMark f u e s) := by
  grind [linkMark, avoids_modTile]

theorem avoids_linkReduced {s p} (h : Avoids w s) : Avoids w (linkReduced s p) := by
  grind [linkReduced, avoids_raise, avoids_linkMark, avoids_modLane]

theorem avoids_tileStart {e s t} (h : Avoids w s) : Avoids w (tileStart e s t) := by
  grind [tileStart, avoids_modSlice, avoids_modGroup, avoids_modTile, avoids_foldl, avoids_foldl_fst, avoids_foldl_snd, avoids_foldl_trd]

theorem avoids_startLinks {e s} (h : Avoids w s) : Avoids w (startLinks e s) := by
  grind [startLinks, avoids_setPhase, avoids_engineStart, avoids_startFail, avoids_linkReduced, avoids_tileStart, avoids_foldl, avoids_foldl_fst,
      avoids_foldl_snd, avoids_foldl_trd]

theorem avoids_startResume {s} (h : Avoids w s) : Avoids w (startResume s) := by
  grind [startResume, avoids_startLinks]

theorem avoids_settleOnce {s} (h : Avoids w s) : Avoids w (settleOnce s) := by
  unfold settleOnce
  refine avoids_d2dRun (avoids_inboxRun (avoids_loadsReply (avoids_readsRetry (avoids_worksRetry (avoids_collSettle (avoids_streamsSettle (avoids_endHalts
    (avoids_foldl (fun s k hs => avoids_movesSettle hs) (avoids_foldl (fun s t hs => avoids_resSettle hs) (avoids_foldl (fun s t hs => ?_)
      (avoids_startResume (avoids_drainFailed h))))))))))))
  split
  · exact avoids_regionPump (avoids_retryWaits (avoids_stampSent (avoids_enterOps hs)))
  · exact hs

theorem avoids_idleTrack {s} (h : Avoids w s) : Avoids w (idleTrack s) := by
  grind [idleTrack, avoids_putGroup, avoids_foldl, avoids_foldl_fst, avoids_foldl_snd, avoids_foldl_trd]

theorem avoids_resetRun {s} (h : Avoids w s) : Avoids w (resetRun s) := by
  grind [resetRun, avoids_resetModule]

theorem avoids_settle {s} (h : Avoids w s) : Avoids w (settle s) :=
  avoids_resetRun (avoids_idleTrack (avoids_settleOnce (avoids_settleOnce (avoids_settleOnce h))))

theorem avoids_kept {s u : State} (h : Avoids w u) : Avoids w (kept s u) := h

end

end Sys2Proof.Proofs

namespace Sys2Proof.Proofs
open Sys2Proof Sys2Proof.Machine Sys2Proof.Spec
/-! ## O50: a shard that the record of its set does not list -/

/-- A set of one data and one parity shard a stripe, whose record has lost the parity shard of its only stripe. -/
def shortSet : ShardSet := ⟨1, 1, 1, 1, 2, 1, 0, [[⟨0, 0, 0, 12, true, false, 0⟩]]⟩

/-- Tile 0 in service with two trained slices, and space 1 bound to that set. -/
def shortSetModule : State :=
  { State.reset with
    keeper := { Keeper.initial with phase := 7 }
    tiles := [(0, { tileInit with inService := true })]
    slices := [(0, { sliceInit with state := 1 }), (1, { sliceInit with state := 1 })]
    spaces := [(0, ⟨1000, [], 0, false⟩), (1, ⟨1000, [⟨2, 1, 3⟩], 0, false⟩)]
    sets := [(3, shortSet)] }

/-- REBUILD of shard 1 of stripe 0 of set 3 to frame 20 of slice 1. -/
def rebuildShard1 : CmdDesc := ⟨0x100007, 0x20000, 1, 0, 0x0003000000000008, 0x8014000000, 0, 0⟩

theorem resRuns_rebuildShard1 : ResRuns .servicePort 0 (resDesc 0xE rebuildShard1) shortSetModule where
  on := by decide +kernel
  writer := by decide
  empty := by decide +kernel
  level := by decide +kernel
  valid := by decide +kernel
  stays := by decide +kernel

/-- The generation of set 3 after a command, and the shards of its first stripe. -/
def shapeAfter (o : Out) : Option (Option (Nat × Nat)) :=
  match o with
  | .next v => some ((getSet? v 3).map (fun x => (x.generation, (stripeOf x 0).length)))
  | _ => none

theorem shapeAfter_next (v : State) : shapeAfter (.next v) = some ((getSet? v 3).map (fun x => (x.generation, (stripeOf x 0).length))) := rfl

theorem shapeAfter_resRebuild : shapeAfter (exec (.resRebuild .servicePort 0 rebuildShard1) shortSetModule) = some (some (0, 1)) := by decide +kernel

theorem pageReadable_shortSet : ∀ h ∈ stripeOf shortSet 0, h.valid = true → PageReadable shortSetModule ⟨h.module, h.tile, h.core, h.frame⟩ := by
  unfold PageReadable
  decide +kernel

/-- The first two shards of stripe 0 of set 3. -/
def watchShards : Watch := ⟨0, [], 3, 0, 2⟩

theorem avoids_watchShards_iff {u : State} :
    Avoids watchShards u ↔ ∀ x, getSet? u 3 = some x → x.generation = 0 → 2 ≤ (stripeOf x 0).length :=
  ⟨fun h => h.sets, fun h => ⟨fun hn => absurd rfl hn, h⟩⟩

/-- Refutes O50: REBUILD of a shard that its set's record does not list marks no shard, and what settles after a command adds none to a
stripe of a set of generation 0. No command makes such a record; the statement asks it of every state. -/
theorem not_residencyWork : ¬ Obligations.ResidencyWork := by
  unfold Obligations.ResidencyWork ResidencyTransfers
  rintro ⟨-, htransfers⟩
  obtain ⟨-, -, -, -, hrebuild, -⟩ := htransfers .servicePort 0 rebuildShard1 shortSetModule
  obtain ⟨u, hdoes, -, -, st, h, hst, hh, -⟩ := hrebuild resRuns_rebuildShard1 shortSet _ _ (by decide +kernel) rfl rfl (by decide +kernel)
    (by decide +kernel) (by decide +kernel) (by decide +kernel) (by decide +kernel) pageReadable_shortSet
  have hlong : 2 ≤ (stripeOf st 0).length := (List.getElem?_eq_some_iff.1 hh).1
  have hu : Avoids watchShards (ends .ok u) := avoids_watchShards_iff.2 (fun x hx _ => by cases hst.symm.trans hx; exact hlong)
  have hafter := shapeAfter_resRebuild
  rw [hdoes, shapeAfter_next, Option.some.injEq, Option.map_eq_some_iff] at hafter
  obtain ⟨x, hx, hshape⟩ := hafter
  obtain ⟨hgen, hlen⟩ := Prod.mk.inj hshape
  have := avoids_watchShards_iff.1 (avoids_kept (avoids_settle hu)) x hx hgen
  omega

end Sys2Proof.Proofs

namespace Sys2Proof.Proofs
open Sys2Proof Sys2Proof.Machine Sys2Proof.Spec

/-! ## O51: a hint that the keeper does not take -/

/-- The module under power, its firmware running and the first group of tile 0 asleep. -/
def sleepingModule : State :=
  { State.reset with
    keeper := { Keeper.initial with phase := 7, fw := { Keeper.initial.fw with running := true } }
    groups := [(0, { groupInit with pstate := .sleep })] }

/-- A hint of page 2 of space 1. -/
def evictHint : Hint := ⟨1, 2, 1, .evict⟩

/-- The firmware has asked for a register of core 0, whose group must wake first; tile 0 holds a hint. -/
def askingFirmware : State :=
  { sleepingModule with
    keeper := { sleepingModule.keeper with reads := [⟨.firmware, [], [2 ^ 37 + 0x8080], [], .ok⟩] }
    res := [(0, { resInit with hints := [evictHint] })] }

/-- The hints of tile 0 after a command. -/
def hintsAfter (o : Out) : Option (List Hint) :=
  match o with
  | .next v => some (getRes v 0).hints
  | _ => none

theorem hintsAfter_next (v : State) : hintsAfter (.next v) = some (getRes v 0).hints := rfl

theorem mainOn_askingFirmware : mainOn askingFirmware = true := by decide +kernel

theorem hintsAfter_submitHint : hintsAfter (exec (.submitHint 0 evictHint) askingFirmware) = some [evictHint] := by decide +kernel

/-- What `askingFirmware` holds for tile 0. -/
def watchHints : Watch := ⟨0, [evictHint], 0, 0, 0⟩

theorem avoids_watchHints_iff {u : State} : Avoids watchHints u ↔ (getRes u 0).hints ≠ [evictHint] :=
  ⟨fun h => h.hints (List.cons_ne_nil _ _), fun h => ⟨fun _ => h, fun _ _ _ => Nat.zero_le _⟩⟩

/-- Refutes O51: SUBMIT_HINT of running firmware whose earlier request still waits changes nothing, since the keeper serves one request
at a time; and a tile that holds two hints is not brought back to the first one by what settles after a command. -/
theorem not_pagesAndHints : ¬ Obligations.PagesAndHints := by
  unfold Obligations.PagesAndHints ResidencyTimers
  rintro ⟨-, -, -, -, -, hsubmit⟩
  obtain ⟨u, hdoes, hu⟩ := (hsubmit 0 evictHint askingFirmware mainOn_askingFirmware rfl).1 (by decide +kernel)
  have hu : (getRes u 0).hints = [evictHint, evictHint] := hu
  have hafter := hintsAfter_submitHint
  rw [hdoes, hintsAfter_next] at hafter
  exact avoids_watchHints_iff.1 (avoids_kept (avoids_settle (avoids_watchHints_iff.2 (by rw [hu]; decide)))) (Option.some.inj hafter)

end Sys2Proof.Proofs

namespace Sys2Proof.Proofs

open Sys2Proof Sys2Proof.Machine Sys2Proof.Spec

/-! ## Admission requests of a tenant (O9, O30) -/

section
variable {p : Packet} {f : FlowRx} {s s₀ : State} {c : Code}

theorem does_openTake (h : Comes 0x30 p 30 f s) (ho : plField (pBytes p) 0 1 = 1) :
    Does (.openStream p) s (followUp 30 (rxKey p) (openTake p (taken p 30 f s))) := by
  obtain ⟨-, hrequests, -⟩ := deliveries
  obtain ⟨hopen, -⟩ := hrequests p f s h
  exact hopen ho

theorem does_stepTake (h : Comes 0x30 p 30 f s) (ho : plField (pBytes p) 0 1 = 2) :
    Does (.stepStream p) s (followUp 30 (rxKey p) (stepTake p (taken p 30 f s))) := by
  obtain ⟨-, hrequests, -⟩ := deliveries
  obtain ⟨-, hstep, -⟩ := hrequests p f s h
  exact hstep ho

theorem does_closeTake (h : Comes 0x30 p 30 f s) (ho : plField (pBytes p) 0 1 = 3) :
    Does (.closeReq p) s (followUp 30 (rxKey p) (closeTake p (taken p 30 f s))) := by
  obtain ⟨-, hrequests, -⟩ := deliveries
  obtain ⟨-, -, hclose⟩ := hrequests p f s h
  exact hclose ho

theorem tinCheck_keyFault (h : rqTin p = 0 ∨ (getTin s (rqTin p)).state = .free ∨ plField (pBytes p) 4 4 ≠ (getTin s (rqTin p)).key.toNat) :
    tinCheck s (pBytes p) = some .keyFault := by
  refine if_pos ?_
  simpa [rqTin, or_assoc] using h

theorem openTake_refused (h : tinCheck s (pBytes p) = some c) : openTake p s = admRefuse p c none s := by simp only [openTake, h]

theorem stepTake_refused (h : tinCheck s (pBytes p) = some c) : stepTake p s = admRefuse p c none s := by simp only [stepTake, h]

theorem closeTake_refused (h : tinCheck s (pBytes p) = some c) : closeTake p s = admRefuse p c none s := by simp only [closeTake, h]

/-- A request that its tin turns away draws the code of R220 from each of the three rows. -/
theorem requests_refused (h : Comes 0x30 p 30 f s) (hc : tinCheck (taken p 30 f s) (pBytes p) = some c) :
    (plField (pBytes p) 0 1 = 1 → Does (.openStream p) s (followUp 30 (rxKey p) (admRefuse p c none (taken p 30 f s)))) ∧
    (plField (pBytes p) 0 1 = 2 → Does (.stepStream p) s (followUp 30 (rxKey p) (admRefuse p c none (taken p 30 f s)))) ∧
    (plField (pBytes p) 0 1 = 3 → Does (.closeReq p) s (followUp 30 (rxKey p) (admRefuse p c none (taken p 30 f s)))) :=
  ⟨fun ho => openTake_refused hc ▸ does_openTake h ho, fun ho => stepTake_refused hc ▸ does_stepTake h ho,
    fun ho => closeTake_refused hc ▸ does_closeTake h ho⟩

end

/-- Settles O30: the three causes of R220 are what `tinCheck` looks at first. -/
theorem requestKeyFault : Obligations.RequestKeyFault :=
  fun _ _ _ h hk => requests_refused h (tinCheck_keyFault hk)

/-! ## OPEN, STEP and CLOSE that are accepted -/

theorem Logged.streams {s u : State} (h : Logged s u) : u.streams = s.streams := by rw [h]
theorem Logged.tins {s u : State} (h : Logged s u) : u.tins = s.tins := by rw [h]

section
variable (s : State) (e : Nat)

@[simp] theorem getStream_countHearth (i n : Nat) : getStream (countHearth i n s) e = getStream s e := by
  rw [getStream, countHearth, (logged_count _ _ _).streams, getStream]

@[simp] theorem getTin_countHearth (i n : Nat) : getTin (countHearth i n s) e = getTin s e := by
  rw [getTin, countHearth, (logged_count _ _ _).tins, getTin]

theorem getStream_modStream (f : Stream → Stream) : getStream (modStream s e f) e = f (getStream s e) := by simp [getStream, modStream]

theorem modStream_congr {f g : Stream → Stream} (h : f (getStream s e) = g (getStream s e)) : modStream s e f = modStream s e g := by
  rw [modStream, h, modStream]

end

section
variable {p : Packet} {s : State} {e : Nat}

/-- What an OPEN asks for, as the admission test takes it (R239). -/
def openAsk (p : Packet) (cls : Nat) : Ask := ⟨rqSlot p, cls, rqDeadline p, rqTin p, cdiv (plField (pBytes p) 0x18 4) 512⟩

/-- An interactive OPEN that fits, or a tune OPEN, takes the lowest free entry. -/
theorem openTake_admitted (ht : tinCheck s (pBytes p) = none) (hr : openRejected s (pBytes p) = none) (he : nextEntry s = some e)
    (ha : rqClass p = 2 ∨ rqClass p = 0 ∧ admits s (openAsk p 0) = true) : openTake p s = openAccept p e s := by
  have hclass : plField (pBytes p) 1 1 = rqClass p := rfl
  have hfits : (decide (plField (pBytes p) 1 1 < 2) && !admits s (openAsk p (plField (pBytes p) 1 1))) = false := by
    rcases ha with h | ⟨h, hfits⟩
    · rw [hclass, h, decide_eq_false (by decide), Bool.false_and]
    · rw [hclass, h, hfits, Bool.not_true, Bool.and_false]
  have hroom : (decide (plField (pBytes p) 1 1 = 1) && decide (255 ≤ (prefillJobs s none (groupSlots s (rqSlot p))).length)) = false := by
    rcases ha with h | ⟨h, -⟩ <;> rw [hclass, h, decide_eq_false (by decide), Bool.false_and]
  simp only [openTake, ht, hr]
  refine (if_neg (fun h => absurd (hfits.symm.trans h) Bool.false_ne_true)).trans
    ((if_neg (fun h => absurd (hroom.symm.trans h) Bool.false_ne_true)).trans ?_)
  rw [he]

/-- What an accepted OPEN leaves besides its reply (R224, R239, R242): the entry is DUE at `due`, and its tin counts it. -/
structure Opened (p : Packet) (e due : Nat) (s u : State) : Prop where
  state : (getStream u e).state = .due
  cls : (getStream u e).cls = rqClass p
  tin : (getStream u e).tin = rqTin p
  model : (getStream u e).model = rqSlot p
  due : (getStream u e).dueUs = due
  deadline : (getStream u e).deadlineUs = rqDeadline p
  counted : (getTin u (rqTin p)).openStreams = (getTin s (rqTin p)).openStreams + 1
  others : ∀ f, f ≠ e → getStream u f = getStream s f

/-- A new entry `x` of `p` counts in its tin, whatever beat the slot has begun. -/
theorem opened_entry {v : State} {x : Stream} {due : Nat} (hv : v.streams = s.streams) (ht : v.tins = s.tins) (hs : x.state = .due)
    (hc : x.cls = rqClass p) (hx : x.tin = rqTin p) (hm : x.model = rqSlot p) (hd : x.dueUs = due) (hl : x.deadlineUs = rqDeadline p) :
    Opened p e due s (countHearth 0 1 (modTin { v with streams := tput v.streams e x } (rqTin p) (fun x => { x with openStreams := x.openStreams + 1 }))) := by
  have hself : getStream (modTin { v with streams := tput v.streams e x } (rqTin p) (fun x => { x with openStreams := x.openStreams + 1 })) e = x := by
    simp [getStream, modTin]
  constructor
  case counted =>
    rw [getTin_countHearth]
    simp [getTin, modTin, ht]
  case others =>
    intro f hf
    rw [getStream_countHearth]
    simp [getStream, modTin, hv, Laws.tget_tput_other _ _ _ hf]
  all_goals simpa only [getStream_countHearth, hself]

/-- The first promised stream of a tin pins its adapter; any other OPEN ends with its reply. -/
theorem openAccept_later (h : rqClass p = 2 ∨ rqClass p = 0 ∧ promised s (rqTin p) ≠ []) : ∃ u due,
    openAccept p e s = admReply (pSrcModule p) (pSrcTile p) 1 .ok e 0 (rqId p) due u ∧ Opened p e due s u ∧
      (rqClass p = 0 → nowUs s + rqDeadline p ≤ due) := by
  have hclass : plField (pBytes p) 1 1 = rqClass p := rfl
  have htin : plField (pBytes p) 2 2 % 4096 = rqTin p := rfl
  rcases h with h | ⟨h, hp⟩
  · simp only [openAccept, hclass, htin, h, Nat.lt_irrefl, decide_false, Bool.and_false, OfNat.ofNat_ne_zero, OfNat.ofNat_ne_one, if_false,
      Bool.false_and, Bool.false_eq_true]
    exact ⟨_, _, rfl, opened_entry (v := (freeWord s).2) rfl rfl rfl h.symm rfl rfl rfl rfl, False.elim⟩
  · have hfirst : (promised s (rqTin p)).isEmpty = false := by simpa using hp
    simp only [openAccept, hclass, htin, h, hfirst, decide_true, Bool.true_and, if_true, if_false, Bool.false_and,
      Bool.false_eq_true]
    refine ⟨_, _, rfl, opened_entry ?_ ?_ rfl h.symm rfl rfl rfl rfl, fun _ => le_max_left _ _⟩
    · split <;> rfl
    · split <;> rfl

variable {x : Stream}

theorem stepTake_open (ht : tinCheck s (pBytes p) = none) (hr : reqReserved (pBytes p) = false) (hn : namesStream s (pBytes p) = true)
    (hx : x = getStream s (rqStream p)) (hc : x.cls = 0) (ho : x.state = .open_) (hq : x.closeReq = []) (hd : x.closeCmd = []) :
    stepTake p s = admReply (pSrcModule p) (pSrcTile p) 2 .ok (rqStream p) 0 (rqId p) (nowUs s + x.deadlineUs)
      (modStream s (rqStream p) (fun x => { x with state := .due, dueUs := nowUs s + x.deadlineUs })) := by
  subst hx
  have he : plField (pBytes p) 8 2 = rqStream p := rfl
  simp only [stepTake, ht, hr, hn, he, hc, ho, hq, hd]
  rfl

/-- The stream that a CLOSE names has noted its sender. -/
def closeNoted (p : Packet) (s : State) : State :=
  modStream s (rqStream p) (fun x => { x with closeReq := x.closeReq ++ [(pSrcModule p, pSrcTile p, rqId p)] })

theorem closeNoted_first (h : (getStream s (rqStream p)).closeReq = []) :
    closeNoted p s = modStream s (rqStream p) (fun x => { x with closeReq := [(pSrcModule p, pSrcTile p, rqId p)] }) :=
  modStream_congr _ _ (by simp only [h, List.nil_append])

/-- The entry of a stream without an outstanding step becomes FREE at once. -/
theorem closeTake_named (ht : tinCheck s (pBytes p) = none) (hr : reqReserved (pBytes p) = false) (hn : namesStream s (pBytes p) = true) :
    closeTake p s = if (getStream s (rqStream p)).state = .open_ then freeStream (rqStream p) (closeNoted p s) else closeNoted p s := by
  have he : plField (pBytes p) 8 2 = rqStream p := rfl
  simp only [closeTake, ht, hr, hn, he, getStream_modStream]
  rfl

/-- The entry of a tune stream that one CLOSE has asked to end becomes FREE: a tune stream holds no adapter (R221). -/
theorem freeStream_tune {m t : Nat} {id : Word} (hx : x = getStream s e) (hc : x.cls = 2) (hq : x.closeReq = [(m, t, id)]) (hd : x.closeCmd = []) :
    ∃ u due, freeStream e s = modTin { u with streams := tdel u.streams e } x.tin (fun y => { y with
        openStreams := y.openStreams - 1, pinFor := if y.pinFor = some e then none else y.pinFor }) ∧
      u = admReply m t 3 .ok e 0 id due { s with free := s.free + 1 } := by
  subst hx
  refine ⟨admReply m t 3 .ok e 0 id (Config.free64 s.free).toNat { s with free := s.free + 1 }, (Config.free64 s.free).toNat, ?_, rfl⟩
  simp only [freeStream, hc, hq, hd, List.foldl_cons, List.foldl_nil, Nat.lt_irrefl, decide_false, Bool.false_and, Bool.false_eq_true, if_false]
  rfl

end

/-- Settles O9: the check of the tin comes first; then each request has its own course. -/
theorem streamRequests : Obligations.StreamRequests := by
  unfold Obligations.StreamRequests
  rintro p f s₀ s x op hcomes rfl rfl rfl
  refine ⟨fun c hc => requests_refused hcomes hc, tinCheck_keyFault, fun ho ht hr e he ha => ?_, fun ht hr hn => ⟨fun ho => ?_, fun ho hx => ?_, ?_⟩⟩
  · have htake := openTake_admitted ht hr he (ha.imp_right fun h => ⟨h.1, h.2.1⟩)
    obtain ⟨u, due, haccept, hopened, hdue⟩ := openAccept_later (e := e) (ha.imp_right fun h => ⟨h.1, h.2.2⟩)
    have hdoes := does_openTake hcomes ho
    rw [htake, haccept] at hdoes
    obtain ⟨hstate, hcls, htin, hmodel, hdue', hdeadline, hcounted, hothers⟩ := hopened
    exact ⟨u, due, hdoes, hstate, hcls, htin, hmodel, hdue', hdeadline, hcounted, hdue, hothers⟩
  · intro hc hs hq hd
    have hdoes := does_stepTake hcomes ho
    rw [stepTake_open ht hr hn rfl hc hs hq hd] at hdoes
    exact hdoes
  · have hdoes := does_closeTake hcomes ho
    rw [closeTake_named ht hr hn, if_neg hx] at hdoes
    exact hdoes
  · intro ho hx hc hq hd htin
    have hdoes := does_closeTake hcomes ho
    rw [closeTake_named ht hr hn, if_pos hx, closeNoted_first hq] at hdoes
    have hstream := getStream_modStream (taken p 30 f s₀) (rqStream p) (fun x => { x with closeReq := [(pSrcModule p, pSrcTile p, rqId p)] })
    obtain ⟨u, due, hfree, hu⟩ := freeStream_tune hstream.symm hc rfl hd
    rw [hfree] at hdoes
    simp only [htin] at hdoes
    exact ⟨u, due, hdoes, hu⟩

end Sys2Proof.Proofs

namespace Sys2Proof.Proofs

open Sys2Proof Sys2Proof.Machine Sys2Proof.Spec

/-! ## The descriptor and the queue of admission commands (R253, R254) -/

section
variable (op : Nat) (d : CmdDesc)

theorem aOp_admDesc (h : op < 256) : aOp (admDesc op d) = op := rOp_resDesc op d h

@[simp] theorem aTin_admDesc : aTin (admDesc op d) = aTin d := fld_setOp d.w0 op 32 (by decide)
@[simp] theorem aModel_admDesc : aModel (admDesc op d) = aModel d := fld_setOp d.w0 op 50 (by decide)
@[simp] theorem aRow_admDesc : aRow (admDesc op d) = aRow d := fld_setOp d.w0 op 46 (by decide)
@[simp] theorem tag_admDesc : fld (admDesc op d).w0 15 0 = fld d.w0 15 0 := fld_setOp d.w0 op 0 (by decide)

end

/-- The command that an admission descriptor becomes (R253). -/
def admCmd (rq : Requester) (d : CmdDesc) (found : MeasureFound) (s : State) : AdmCmd :=
  ⟨s.nextId, fld d.w0 15 0, d, rq, 0, 0, .ok, [], found, 0⟩

/-- The state in which command `c` has taken its number and is the controller's only one. -/
def admHeld (c : AdmCmd) (v : State) : State := ends .ok { v with nextId := v.nextId + 1, adm := { v.adm with queue := [c] } }

/-- What a requester needs to issue an admission command (R230, Table 7.15). -/
structure MayAdmit (rq : Requester) (d : CmdDesc) (s : State) : Prop where
  level : 4 ≤ aOp d → aOp d ≤ 7 → expertOk rq 3 s = true
  loader : aOp d = 3 → aTin d ≠ 0 ∨ rq = .keeper

section
variable {rq : Requester} {d : CmdDesc} {found : MeasureFound} {s v : State} {c : AdmCmd} {code : Code}

theorem admSubmit_keyFault (h4 : 4 ≤ aOp d) (h7 : aOp d ≤ 7) (hx : expertOk rq 3 s = false) : admSubmit rq d found s = ends .keyFault s := by
  refine if_pos ?_
  simp [admExpert, h4, h7, hx]

theorem MayAdmit.passes (h : MayAdmit rq d s) : ¬ ((admExpert d && !expertOk rq 3 s) || (aOp d == 3 && aTin d == 0 && !isLoader rq)) = true := by
  have hlevel : (admExpert d && !expertOk rq 3 s) = false := by
    simpa [admExpert] using h.level
  have hloader : (aOp d == 3 && aTin d == 0 && !isLoader rq) = false := by
    by_cases h3 : aOp d = 3
    · rcases h.loader h3 with h0 | rfl
      · simp [h0]
      · simp [isLoader]
    · simp [h3]
  simp [hlevel, hloader]

theorem admSubmit_full (h : MayAdmit rq d s) (hf : 64 ≤ s.adm.queue.length) : admSubmit rq d found s = ends .retryLater s :=
  (if_neg h.passes).trans (if_pos hf)

theorem admSubmit_takes (h : MayAdmit rq d s) (he : s.adm.queue = []) :
    admSubmit rq d found s = runAdm (admCmd rq d found s) (admHeld (admCmd rq d found s) s) := by
  refine (if_neg h.passes).trans ((if_neg (by simp [he])).trans ?_)
  rw [he]
  rfl

theorem mayAdmit_admDesc {op : Nat} (haop : aOp (admDesc op d) = op) (hx : 4 ≤ op → op ≤ 7 → expertOk rq 3 s = true)
    (ht : op = 3 → aTin d ≠ 0) : MayAdmit rq (admDesc op d) s := by
  constructor <;> rw [haop]
  · exact hx
  · rw [aTin_admDesc]
    exact fun h => .inl (ht h)

/-- A command that the controller holds alone posts its tag and code (R253). -/
theorem admFinish_held (he : v.adm.queue = []) (hl : ∀ l ∈ v.keeper.loads, l.id ≠ c.id) (ht : c.tag = fld d.w0 15 0) :
    admFinish c.id code (admHeld c v) = admEnded v d code := by
  have hloads : v.keeper.loads.map (fun (l : LoadWork) => if l.id = c.id then { l with done := some code } else l) = v.keeper.loads :=
    (List.map_congr_left fun l hm => if_neg (hl l hm)).trans (List.map_id' _)
  have hheld : (admHeld c v).adm.queue = [c] := rfl
  have hkeeper : (admHeld c v).keeper.loads = v.keeper.loads := rfl
  simp only [admFinish, hheld, hkeeper, List.find?_cons, beq_self_eq_true, hloads, ht]
  simp [admDone, admEnded, admHeld, ends, he]

/-- What turns a command away before REJECTED does not look at the controller's queue. -/
theorem admEarlier_held : admEarlier d (admHeld c v) = admEarlier d v := rfl

theorem runAdm_earlier (h : admEarlier c.desc v = some code) : runAdm c (admHeld c v) = admFinish c.id code (admHeld c v) := by
  simp only [runAdm, admEarlier_held, h]

theorem runAdm_reserved (h : admEarlier c.desc v = none) (hr : admReserved c.desc = true) :
    runAdm c (admHeld c v) = admFinish c.id .rejected (admHeld c v) := by
  simp only [runAdm, admEarlier_held, h, hr, if_true]

end

/-- An admission command is its row, with its own OP. -/
theorem exec_admission_row {rq : Requester} {d : CmdDesc} {found : MeasureFound} {c : Instr} {op : Nat}
    (h : (c, op) ∈ [(Instr.admSetTin rq d, 1), (.admWithdrawTin rq d, 2), (.admRegisterKernel rq d, 3), (.admLoadModel rq d, 4),
      (.admUnloadModel rq d, 5), (.admLoadRow rq d, 6), (.measure rq d found, 7), (.admUnpin rq d, 8), (.admCloseStream rq d, 9)]) :
    op < 10 ∧ ∃ x, ∀ s, exec c s = admRow op rq d x s := by
  simp only [List.mem_cons, List.not_mem_nil, or_false, Prod.mk.injEq] at h
  obtain ⟨rfl, rfl⟩ | ⟨rfl, rfl⟩ | ⟨rfl, rfl⟩ | ⟨rfl, rfl⟩ | ⟨rfl, rfl⟩ | ⟨rfl, rfl⟩ | ⟨rfl, rfl⟩ | ⟨rfl, rfl⟩ | ⟨rfl, rfl⟩ := h <;>
    exact ⟨by decide, _, fun _ => rfl⟩

section
variable {rq : Requester} {d : CmdDesc} {x : MeasureFound} {s u : State} {op : Nat} {c : Instr}

theorem does_admRow (hc : exec c s = admRow op rq d x s) (hm : mainOn s = true) (hw : rq ≠ .firmware)
    (hu : admSubmit rq (admDesc op d) x s = u) : Does c s u :=
  does_onMain hc hm ((if_neg hw).trans hu)

/-- A command that the controller takes at once answers what its first run makes. -/
theorem does_admTaken (hc : exec c s = admRow op rq d x s) (hm : mainOn s = true) (hw : rq ≠ .firmware) (hy : MayAdmit rq (admDesc op d) s)
    (he : s.adm.queue = []) (hu : runAdm (admCmd rq (admDesc op d) x s) (admHeld (admCmd rq (admDesc op d) x s) s) = u) : Does c s u :=
  does_admRow hc hm hw ((admSubmit_takes hy he).trans hu)

theorem admFinish_own {code : Code} {v : State} (he : v.adm.queue = []) (hl : ∀ l ∈ v.keeper.loads, l.id ≠ s.nextId) :
    admFinish (admCmd rq (admDesc op d) x s).id code (admHeld (admCmd rq (admDesc op d) x s) v) = admEnded v d code :=
  admFinish_held he hl (tag_admDesc op d)

end

section
variable {rq : Requester} {d : CmdDesc} {x : MeasureFound} {s : State} {op : Nat} {code : Code}

theorem runAdm_own_earlier (he : s.adm.queue = []) (hl : ∀ l ∈ s.keeper.loads, l.id ≠ s.nextId) (h : admEarlier (admDesc op d) s = some code) :
    runAdm (admCmd rq (admDesc op d) x s) (admHeld (admCmd rq (admDesc op d) x s) s) = admEnded s d code := by
  rw [runAdm_earlier (c := admCmd rq (admDesc op d) x s) (v := s) (code := code) h, admFinish_own he hl]

theorem runAdm_own_reserved (he : s.adm.queue = []) (hl : ∀ l ∈ s.keeper.loads, l.id ≠ s.nextId) (h : admEarlier (admDesc op d) s = none)
    (hr : admReserved (admDesc op d) = true) :
    runAdm (admCmd rq (admDesc op d) x s) (admHeld (admCmd rq (admDesc op d) x s) s) = admEnded s d .rejected := by
  rw [runAdm_reserved (c := admCmd rq (admDesc op d) x s) (v := s) h hr, admFinish_own he hl]

end

/-! ## ADM_CTRL, DISP_CTRL and commands turned away (O11) -/

section
variable {rq : Requester} {v : Word} {s : State}

theorem accepted_nil (h : ∀ p ∈ s.streams, p.2.state = .free) : accepted s = [] := by
  simpa [accepted] using h

/-- Without accepted streams no value takes a group above its load. -/
theorem admCtrlWriteOp_quiet (h : Expert rq 3 s) (hs : ∀ p ∈ s.streams, p.2.state = .free) : admCtrlWriteOp rq v s =
    if 500 < fld v 15 6 then ends .rejected s
    else ends .ok { s with adm := { s.adm with ctrl := pack [(22, fld v 31 22), (18, fld v 21 18), (6, fld v 15 6), (0, fld v 0 0)] } } := by
  rw [admCtrlWriteOp, withExpert_ok _ h.level]
  exact if_neg (by simp [accepted_nil hs])

theorem dispCtrlWriteOp_zero {t : Nat} (h : Expert rq 3 s) (h0 : fld v 1 0 = 0) : dispCtrlWriteOp rq t v s = ends .rejected s := by
  rw [dispCtrlWriteOp, withExpert_ok _ h.level]
  exact if_pos h0

theorem dispCtrlWriteOp_allowed {t : Nat} (h : Expert rq 3 s) (h0 : fld v 1 0 ≠ 0)
    (ha : fld v 1 0 ≤ fld (getTile s t).dispCtrl 1 0 ∨ ∀ p ∈ accepted s, 2 ≤ p.2.cls) :
    dispCtrlWriteOp rq t v s = ends .ok (modTile s t (fun x => { x with dispCtrl := BitVec.ofNat 64 (fld v 1 0) })) := by
  rw [dispCtrlWriteOp, withExpert_ok _ h.level]
  refine (if_neg h0).trans (if_neg ?_)
  rcases ha with ha | ha
  · simp [Nat.not_lt.2 ha]
  · intro h
    simp only [Bool.and_eq_true, decide_eq_true_eq, List.any_eq_true] at h
    obtain ⟨-, q, hq, hcls⟩ := h
    exact absurd hcls (Nat.not_lt.2 (ha q hq))

end

/-- Settles O11: a write is checked in the order of its conditions, and a command that is turned away ends as R21 orders the codes. -/
theorem admissionControls : Obligations.AdmissionControls := by
  unfold Obligations.AdmissionControls
  refine ⟨fun rq v s h => ⟨fun hv hs => ?_, fun hv hs => ?_, fun t => ⟨fun h0 => ?_, fun h0 ha => ?_⟩⟩, ?_⟩
  · exact does_onMain rfl h.on ((admCtrlWriteOp_quiet h hs).trans (if_neg (Nat.not_lt.2 hv)))
  · exact does_onMain rfl h.on ((admCtrlWriteOp_quiet h hs).trans (if_pos hv))
  · exact does_onMain rfl h.on (dispCtrlWriteOp_zero h h0)
  · exact does_onMain rfl h.on (dispCtrlWriteOp_allowed h h0 ha)
  · intro rq d found s hm hw c op hc
    obtain ⟨hop, x, hexec⟩ := exec_admission_row hc
    have haop := aOp_admDesc op d (by omega)
    have hmay (hx : 4 ≤ op → op ≤ 7 → expertOk rq 3 s = true) (ht : op = 3 → aTin d ≠ 0) : MayAdmit rq (admDesc op d) s :=
      mayAdmit_admDesc haop hx ht
    refine ⟨fun hf hx ht => ?_, fun h4 h7 hx => ?_, fun he hl hx ht => ⟨fun code hcode => ?_, fun hnone hr => ?_⟩⟩
    · exact does_admRow (hexec s) hm hw (admSubmit_full (hmay hx ht) hf)
    · exact does_admRow (hexec s) hm hw (admSubmit_keyFault (by rwa [haop]) (by rwa [haop]) hx)
    · exact does_admTaken (hexec s) hm hw (hmay hx ht) he (runAdm_own_earlier he hl hcode)
    · exact does_admTaken (hexec s) hm hw (hmay hx ht) he (runAdm_own_reserved he hl hnone hr)

end Sys2Proof.Proofs

namespace Sys2Proof.Proofs

open Sys2Proof Sys2Proof.Machine Sys2Proof.Spec

/-! ## What the residency managers and messages leave to the admission controller

Streams, models, jobs, the controller's registers and the tins stay as they are through every message, event and residency command; only the
fault mark of a job (R249) and the mark of a tin whose space is to be destroyed (R252) may be set. And the commands that a tile's manager holds
for the controller stay there until the controller takes them (R253). One lemma per function says so, in the order in which the model defines them. -/

/-- What is kept: streams, models, the controller, the last code, jobs and tins but for their marks; and, if `cmd` names one, that the tile's queue
holds commands and each serves that admission mark with a descriptor of that kind. -/
structure Shelf where
  streams : Tab Stream
  models : Tab Model
  adm : Adm
  code : Code
  jobs : List Job
  tins : Nat → Tin
  tile : Nat
  cmd : Option (Nat × (CmdDesc → Prop))

/-- A job without its fault mark. -/
def unmarked (j : Job) : Job := { j with fault := false }

/-- A tin without the mark that its space is to be destroyed. -/
def staying (x : Tin) : Tin := { x with thenDestroy := false }

/-- A residency command by its mark and descriptor serves the watched admission command, if one is watched. -/
def FitsIn (w : Shelf) (a : Option Nat) (d : CmdDesc) : Prop := ∀ x, w.cmd = some x → a = some x.1 ∧ x.2 d

abbrev Fits (w : Shelf) (c : ResCmd) : Prop := FitsIn w c.admin c.desc

/-- A command that has gone on serves what it served before. -/
def Serves (c q : ResCmd) : Prop := q.admin = c.admin ∧ q.desc = c.desc

theorem Serves.fits {w : Shelf} {c q : ResCmd} (h : Serves c q) (hc : Fits w c) : Fits w q := by
  rw [Fits, h.1, h.2]
  exact hc

structure KeepsIn (w : Shelf) (streams : Tab Stream) (models : Tab Model) (adm : Adm) (code : Code) (jobs : List Job) (tins : Tab Tin)
    (res : Tab ResTile) : Prop where
  streams : streams = w.streams
  models : models = w.models
  adm : adm = w.adm
  code : code = w.code
  jobs : jobs.map unmarked = w.jobs
  tins : ∀ t, staying (tget tinInit tins t) = w.tins t
  fits : ∀ q ∈ (tget resInit res w.tile).queue, Fits w q
  waits : w.cmd ≠ none → (tget resInit res w.tile).queue ≠ []

/-- An abbreviation, since most functions leave every field of the state that it names as it is. -/
abbrev Keeps (w : Shelf) (s : State) : Prop := KeepsIn w s.streams s.models s.adm s.lastCode s.jobs s.tins s.res

section
variable {w : Shelf}

/-- A manager whose queue changes only as the watched tile allows. -/
theorem KeepsIn.put_queue {streams models adm code jobs tins} {r : Tab ResTile} {t : Nat} {v : ResTile}
    (h : KeepsIn w streams models adm code jobs tins r)
    (hf : t = w.tile → ∀ q ∈ v.queue, Fits w q) (hn : t = w.tile → w.cmd ≠ none → v.queue ≠ []) :
    KeepsIn w streams models adm code jobs tins (tput r t v) := by
  refine { h with fits := ?_, waits := ?_ } <;> by_cases ht : w.tile = t
  · subst ht
    rw [Laws.tget_tput_same]
    exact hf rfl
  · rw [Laws.tget_tput_other _ _ _ ht]
    exact h.fits
  · subst ht
    rw [Laws.tget_tput_same]
    exact hn rfl
  · rw [Laws.tget_tput_other _ _ _ ht]
    exact h.waits

theorem KeepsIn.put_res {streams models adm code jobs tins} {r : Tab ResTile} {t : Nat} {v : ResTile}
    (h : KeepsIn w streams models adm code jobs tins r) (hv : v.queue = (tget resInit r t).queue) :
    KeepsIn w streams models adm code jobs tins (tput r t v) := by
  refine h.put_queue ?_ ?_ <;> rintro rfl <;> rw [hv]
  · exact h.fits
  · exact h.waits

theorem keeps_foldl {α : Type} {f : State → α → State} (hf : ∀ s a, Keeps w s → Keeps w (f s a)) {s : State} {l : List α}
    (h : Keeps w s) : Keeps w (l.foldl f s) := by
  induction l generalizing s with
  | nil => exact h
  | cons a l ih => exact ih (hf s a h)

theorem keeps_foldl_fst {α β : Type} {f : State × β → α → State × β} (hf : ∀ r a, Keeps w r.1 → Keeps w (f r a).1) {r : State × β} {l : List α}
    (h : Keeps w r.1) : Keeps w (l.foldl f r).1 := by
  induction l generalizing r with
  | nil => exact h
  | cons a l ih => exact ih (hf r a h)

theorem keeps_foldl_snd {α β : Type} {f : β × State → α → β × State} (hf : ∀ r a, Keeps w r.2 → Keeps w (f r a).2) {r : β × State} {l : List α}
    (h : Keeps w r.2) : Keeps w (l.foldl f r).2 := by
  induction l generalizing r with
  | nil => exact h
  | cons a l ih => exact ih (hf r a h)

theorem keeps_foldl_trd {α β γ : Type} {f : β × γ × State → α → β × γ × State} (hf : ∀ r a, Keeps w r.2.2 → Keeps w (f r a).2.2)
    {r : β × γ × State} {l : List α} (h : Keeps w r.2.2) : Keeps w (l.foldl f r).2.2 := by
  induction l generalizing r with
  | nil => exact h
  | cons a l ih => exact ih (hf r a h)

/-- A fold that may fail keeps what each of its steps keeps. -/
theorem keeps_foldl_option {α β : Type} {f : Option (β × State) → α → Option (β × State)}
    (hf : ∀ r a b u, (∀ c v, r = some (c, v) → Keeps w v) → f r a = some (b, u) → Keeps w u) {r : Option (β × State)} {l : List α} {b : β} {u : State}
    (he : l.foldl f r = some (b, u)) (h : ∀ c v, r = some (c, v) → Keeps w v) : Keeps w u := by
  induction l generalizing r with
  | nil => exact h b u he
  | cons a l ih => exact ih he (fun c v hv => hf r a c v h hv)

theorem keeps_of_sent {s u : State} (hs : Sent s u) (h : Keeps w s) : Keeps w u := by
  rw [hs]
  exact h

/-! ### Messages, events and counters -/

theorem keeps_putPort {s t p} (h : Keeps w s) : Keeps w (putPort s t p) := by
  grind [putPort]

theorem keeps_modPort {s t f} (h : Keeps w s) : Keeps w (modPort s t f) := by
  grind [modPort, keeps_putPort]

theorem keeps_counterBump {s k n} (h : Keeps w s) : Keeps w (counterBump s k n).1 := by
  grind [counterBump]

theorem keeps_stageAdd {s e} (h : Keeps w s) : Keeps w (stageAdd s e) := by
  grind [stageAdd]

theorem keeps_stageRaw {s e} (h : Keeps w s) : Keeps w (stageRaw s e) := by
  grind [stageRaw, keeps_counterBump, keeps_stageAdd]

theorem keeps_count {k n s} (h : Keeps w s) : Keeps w (count k n s) := by
  grind [count, keeps_stageRaw, keeps_counterBump]

theorem keeps_countTile {t i n s} (h : Keeps w s) : Keeps w (countTile t i n s) := by
  grind [countTile, keeps_count]

theorem keeps_countPort {t i n s} (h : Keeps w s) : Keeps w (countPort t i n s) := by
  grind [countPort, keeps_countTile]

theorem keeps_sendRouted {t p s} (h : Keeps w s) : Keeps w (sendRouted t p s).2 := keeps_of_sent (sent_sendRouted t p s) h

theorem keeps_sendMcast {t p s} (h : Keeps w s) : Keeps w (sendMcast t p s).2 := keeps_of_sent (sent_sendMcast t p s) h

theorem keeps_pumpOne {t st q} (h : Keeps w st.1) : Keeps w (pumpOne t st q).1 := by
  grind [pumpOne, keeps_modPort, keeps_countPort, keeps_sendRouted, keeps_sendMcast]

theorem keeps_pump {t s} (h : Keeps w s) : Keeps w (pump t s) := by
  grind [pump, keeps_modPort, keeps_pumpOne, keeps_foldl, keeps_foldl_fst, keeps_foldl_snd, keeps_foldl_trd]

theorem keeps_sendFlow {t p s} (h : Keeps w s) : Keeps w (sendFlow t p s) := by
  grind [sendFlow, keeps_modPort, keeps_pump]

theorem keeps_sendMsg {t dstModule dstTile type w3 w4 w5 w6 bs s}
    (h : Keeps w s) : Keeps w (sendMsg t dstModule dstTile type w3 w4 w5 w6 bs s) := by
  grind [sendMsg, keeps_modPort, keeps_sendFlow]

/-- A fault marks jobs and changes nothing else of them. -/
theorem keeps_markFault {t s} (h : Keeps w s) : Keeps w (markFault t s) := by
  refine { h with jobs := ?_ }
  rw [← h.jobs, markFault, List.map_map]
  refine List.map_congr_left fun j _ => ?_
  dsimp only [Function.comp]
  split <;> rfl

theorem keeps_raise {e s} (h : Keeps w s) : Keeps w (raise e s) := by
  grind [raise, keeps_markFault, keeps_stageRaw]

theorem keeps_putGroup {s t g c} (h : Keeps w s) : Keeps w (putGroup s t g c) := by
  grind [putGroup]

theorem keeps_wakeGroup {t g s} (h : Keeps w s) : Keeps w (wakeGroup t g s) := by
  grind [wakeGroup, keeps_putGroup]

theorem keeps_putCore {s key c} (h : Keeps w s) : Keeps w (putCore s key c) := by
  grind [putCore]

theorem keeps_modCore {s key f} (h : Keeps w s) : Keeps w (modCore s key f) := by
  grind [modCore, keeps_putCore]

theorem keeps_countHearth {i n s} (h : Keeps w s) : Keeps w (countHearth i n s) := by
  grind [countHearth, keeps_count]

theorem keeps_conditionEvents {tile core level l s} (h : Keeps w s) : Keeps w (conditionEvents tile core level l s) := by
  grind [conditionEvents, keeps_raise, keeps_foldl, keeps_foldl_fst, keeps_foldl_snd, keeps_foldl_trd]

theorem keeps_benchFail {key i s} (h : Keeps w s) : Keeps w (benchFail key i s) := by
  grind [benchFail, keeps_raise, keeps_modCore]

theorem keeps_countCore {key i n s} (h : Keeps w s) : Keeps w (countCore key i n s) := by
  grind [countCore, keeps_count]

theorem keeps_benchScan {key o n s} (h : Keeps w s) : Keeps w (benchScan key o n s).2 := by
  grind [benchScan, keeps_benchFail, keeps_countCore]

theorem keeps_putTile {s t c} (h : Keeps w s) : Keeps w (putTile s t c) := by
  grind [putTile]

theorem keeps_modTile {s t f} (h : Keeps w s) : Keeps w (modTile s t f) := by
  grind [modTile, keeps_putTile]

theorem keeps_putRes {s t r} (hr : r.queue = (getRes s t).queue) (h : Keeps w s) : Keeps w (putRes s t r) := h.put_res hr

theorem keeps_modRes {s t f} (hf : ∀ r, (f r).queue = r.queue) (h : Keeps w s) : Keeps w (modRes s t f) := keeps_putRes (hf _) h

theorem keeps_freeFrames {fs s} (h : Keeps w s) : Keeps w (freeFrames fs s) := by
  grind [freeFrames]

theorem keeps_tabDrop {f s} (h : Keeps w s) : Keeps w (tabDrop f s) := by
  grind [tabDrop, keeps_freeFrames]

/-- A command that fits takes the place of those of its number. -/
theorem keeps_setCmd {t c s} (hc : t = w.tile → Fits w c) (h : Keeps w s) : Keeps w (setCmd t c s) := by
  refine h.put_queue (fun ht q hq => ?_) (fun ht hw => ?_)
  · obtain ⟨q', hq', rfl⟩ := List.mem_map.1 hq
    split
    · exact hc ht
    · exact h.fits q' (ht ▸ hq')
  · rw [Ne, List.map_eq_nil_iff]
    exact ht ▸ h.waits hw

theorem keeps_dropXfer {t id s} (h : Keeps w s) : Keeps w (dropXfer t id s) := by
  grind [dropXfer, keeps_modRes]

theorem keeps_setXfer {t x s} (h : Keeps w s) : Keeps w (setXfer t x s) := by
  grind [setXfer, keeps_modRes]

theorem keeps_stampSent {t s} (h : Keeps w s) : Keeps w (stampSent t s) := by
  grind [stampSent, keeps_modPort]

theorem keeps_remAdd {t mk s} (h : Keeps w s) : Keeps w (remAdd t mk s).2 := by
  grind [remAdd, keeps_modPort]

theorem keeps_bulkRead {t core kind operand compare a n region s} {x u} (he : bulkRead t core kind operand compare a n region s = some (x, u))
    (h : Keeps w s) : Keeps w u := by
  grind [bulkRead, keeps_sendMsg, keeps_stampSent, keeps_remAdd]

theorem keeps_gatherRemote {t id index p part s x u} (he : gatherRemote t id index p part s = some (x, u)) (h : Keeps w s) : Keeps w u := by
  refine keeps_foldl_option (fun r i b u hr hu => ?_) he (fun c v hv => by cases hv; exact h)
  cases r with
  | none => cases hu
  | some q =>
    obtain ⟨l, v⟩ := q
    simp only [Option.bind_some, Option.map_eq_some_iff] at hu
    obtain ⟨⟨n, v'⟩, hread, hu⟩ := hu
    cases hu
    exact keeps_bulkRead hread (hr l v rfl)

theorem keeps_addXfer {t x s} (h : Keeps w s) : Keeps w (addXfer t x s).2 := by
  grind [addXfer, keeps_modRes]

theorem keeps_encodeRead {t id place pk s x u} (h : Keeps w s)
    (he : (upto (pkPages pk)).foldl (fun q i => q.bind (fun (l, s) => (gatherRemote t id i place i s).map (fun u => (l ++ u.1, u.2))))
      (some (([] : List Nat), s)) = some (x, u)) : Keeps w u := by
  refine keeps_foldl_option (fun r i b u hr hu => ?_) he (fun c v hv => by cases hv; exact h)
  cases r with
  | none => cases hu
  | some q =>
    obtain ⟨l, v⟩ := q
    simp only [Option.bind_some, Option.map_eq_some_iff] at hu
    obtain ⟨⟨n, v'⟩, hread, hu⟩ := hu
    cases hu
    exact keeps_gatherRemote hread (hr l v rfl)

theorem keeps_encodeAsk {t c far s} (hc : t = w.tile → Fits w c) (h : Keeps w s) : Keeps w (encodeAsk t c far s) := by
  refine keeps_setCmd (fun ht => Serves.fits ?_ (hc ht)) (keeps_foldl_snd (fun r pk hr => ?_) h)
  · refine List.foldlRecOn (motive := fun r : ResCmd × State => Serves c r.1) _ _ ⟨rfl, rfl⟩ (fun r hr pk _ => ?_)
    dsimp only
    split <;> exact hr
  have hadd := keeps_addXfer (t := t) (x := { xferBlank .encode (some pk) false (some c.id) with phase := 2 }) hr
  dsimp only
  split
  · next l u he =>
    have hread := keeps_encodeRead hadd he
    split
    · exact keeps_setXfer hread
    · exact hread
  · exact keeps_dropXfer hadd

theorem keeps_resLog {t kind space va c s} (h : Keeps w s) : Keeps w (resLog t kind space va c s) := by
  grind [resLog, keeps_modRes]

theorem keeps_noFrame {t space va s} (h : Keeps w s) : Keeps w (noFrame t space va s) := by
  grind [noFrame, keeps_resLog, keeps_raise]

theorem keeps_quotaRefused {t space va s} (h : Keeps w s) : Keeps w (quotaRefused t space va s) := by
  grind [quotaRefused, keeps_resLog, keeps_raise]

theorem keeps_askFrames {t module op id n i core at_ s} (h : Keeps w s) : Keeps w (askFrames t module op id n i core at_ s) := keeps_sendMsg h

theorem keeps_encodeShard {t c modules n j page s} (h : Keeps w s) : Keeps w (encodeShard t c modules n j page s).2 := by
  grind [encodeShard, keeps_askFrames, keeps_addXfer]

theorem keeps_countSlice {key i n s} (h : Keeps w s) : Keeps w (countSlice key i n s) := by
  grind [countSlice, keeps_count]

theorem keeps_sliceFault {key type level w2 w3 code s} (h : Keeps w s) : Keeps w (sliceFault key type level w2 w3 code s) := by
  grind [sliceFault, keeps_raise]

theorem keeps_putSlice {s key c} (h : Keeps w s) : Keeps w (putSlice s key c) := by
  grind [putSlice]

theorem keeps_modSlice {s key f} (h : Keeps w s) : Keeps w (modSlice s key f) := by
  grind [modSlice, keeps_putSlice]

theorem keeps_lineFailed {key s line} (h : Keeps w s) : Keeps w (lineFailed key s line) := by
  grind [lineFailed, keeps_countSlice, keeps_sliceFault, keeps_modSlice]

theorem keeps_sliceAccess {key n s} (h : Keeps w s) : Keeps w (sliceAccess key n s) := by
  grind [sliceAccess, keeps_modSlice]

theorem keeps_pageLoad {key frame s} (h : Keeps w s) : Keeps w (pageLoad key frame s).2 := by
  grind [pageLoad, keeps_lineFailed, keeps_sliceAccess, keeps_foldl, keeps_foldl_fst, keeps_foldl_snd, keeps_foldl_trd]

theorem keeps_encodePage {t c i s} (h : Keeps w s) : Keeps w (encodePage t c i s).2 := by
  grind [encodePage, keeps_pageLoad]

theorem keeps_encodePages {t c n s} (h : Keeps w s) : Keeps w (encodePages t c n s).2 := by
  grind [encodePages, keeps_encodePage, keeps_foldl, keeps_foldl_fst, keeps_foldl_snd, keeps_foldl_trd]

theorem keeps_markTable {key f n s} (h : Keeps w s) : Keeps w (markTable key f n s) := by
  grind [markTable, keeps_foldl, keeps_foldl_fst, keeps_foldl_snd, keeps_foldl_trd]

theorem keeps_modPte {s k f} (h : Keeps w s) : Keeps w (modPte s k f) := by
  grind [modPte]

theorem keeps_tlbDrop {space vpn pages s} (h : Keeps w s) : Keeps w (tlbDrop space vpn pages s) := by
  grind [tlbDrop]

theorem keeps_startRound {t space vpn pages frees remote cmd s} (h : Keeps w s) : Keeps w (startRound t space vpn pages frees remote cmd s) := by
  grind [startRound, keeps_modRes, keeps_tlbDrop, keeps_countTile]

theorem keeps_evictPage {t pk cmd s} (h : Keeps w s) : Keeps w (evictPage t pk cmd s) := by
  grind [evictPage, keeps_modPte, keeps_countTile, keeps_startRound]

theorem keeps_clockSweep {l s} (h : Keeps w s) : Keeps w (clockSweep l s).2 := by
  induction l generalizing s with
  | nil => exact h
  | cons p l ih => grind [clockSweep, keeps_modPte]

theorem keeps_evictOne {t s} (h : Keeps w s) : Keeps w (evictOne t s).2 := by
  grind [evictOne, keeps_modRes, keeps_evictPage, keeps_clockSweep]

theorem keeps_compactSlice {t key s} (h : Keeps w s) : Keeps w (compactSlice t key s).2 := by
  grind [compactSlice, keeps_addXfer, keeps_foldl, keeps_foldl_fst, keeps_foldl_snd, keeps_foldl_trd]

theorem keeps_allocTile {t core space n evict s} (h : Keeps w s) : Keeps w (allocTile t core space n evict s).2 := by
  grind [allocTile, keeps_evictOne, keeps_compactSlice, keeps_foldl, keeps_foldl_fst, keeps_foldl_snd, keeps_foldl_trd]

theorem keeps_allocate {key space n evict s} (h : Keeps w s) : Keeps w (allocate key space n evict s).2 := by
  grind [allocate, keeps_allocTile, keeps_foldl, keeps_foldl_fst, keeps_foldl_snd, keeps_foldl_trd]

theorem keeps_tabPlace {t level space prefix_ bytes s} (h : Keeps w s) : Keeps w (tabPlace t level space prefix_ bytes s).2 := by
  grind [tabPlace, keeps_markTable, keeps_allocate]

theorem keeps_benchLoad {key o n s} (h : Keeps w s) : Keeps w (benchLoad key o n s).2 := by
  grind [benchLoad, keeps_benchScan]

theorem keeps_sliceLoad {key off n s} (h : Keeps w s) : Keeps w (sliceLoad key off n s).2.2 := by
  grind [sliceLoad, keeps_sliceAccess, keeps_lineFailed, keeps_foldl, keeps_foldl_fst, keeps_foldl_snd, keeps_foldl_trd]

theorem keeps_gpaLoad {a n s} (h : Keeps w s) : Keeps w (gpaLoad a n s).2 := by
  grind [gpaLoad, keeps_benchLoad, keeps_sliceLoad]

theorem keeps_encodeLoad {s d} (h : Keeps w s) : Keeps w (encodeLoad s d).2 := by
  grind [encodeLoad, keeps_gpaLoad]

theorem keeps_encodeShards {t c modules s} {pages : List (List (Tab Byte))}
    (h : Keeps w s) : Keeps w (pages.zipIdx.foldl (fun r l => l.1.zipIdx.foldl (fun (r : List Nat × State) p =>
    ((r.1 ++ [(encodeShard t c modules l.2 p.2 p.1 r.2).1]), (encodeShard t c modules l.2 p.2 p.1 r.2).2)) r) ([], s)).2 :=
  keeps_foldl_snd (fun _ l hr => keeps_foldl_snd (fun q p hq => (keeps_encodeShard hq : Keeps w (encodeShard t c modules l.2 p.2 p.1 q.2).2)) hr) h

theorem keeps_encodeStart {t c s} (hc : t = w.tile → Fits w c) (h : Keeps w s) : Keeps w (encodeStart t c s) := by
  have hload := keeps_encodeLoad (d := c.desc) h
  unfold encodeStart
  dsimp only
  split
  · exact h
  · split <;> rename_i he <;> rw [he] at hload <;> dsimp only at hload
    · exact keeps_setCmd hc hload
    · split
      · exact hload
      · have hplace := keeps_tabPlace (t := t) (level := 4) (space := rSet c.desc) (prefix_ := 0)
          (bytes := descBytes (rK c.desc + rM c.desc) (cdiv (rPages c.desc) (rK c.desc))) hload
        split <;> rename_i hp <;> rw [hp] at hplace <;> dsimp only at hplace
        · exact hplace
        · have hpages := keeps_encodePages (t := t) (c := c) (n := cdiv (rPages c.desc) (rK c.desc) * rK c.desc) hplace
          split <;> rename_i hg <;> rw [hg] at hpages <;> dsimp only at hpages
          · exact keeps_setCmd hc hpages
          · exact keeps_setCmd hc (keeps_encodeShards (keeps_modRes (fun _ => by rfl) hpages))
        · exact keeps_setCmd hc (keeps_quotaRefused hplace)
        · exact keeps_setCmd hc (keeps_noFrame hplace)

/-- A command of the admission controller stays in the queue, with its code. -/
theorem keeps_completeCmd {t c s} (hc : t = w.tile → Fits w c) (h : Keeps w s) : Keeps w (completeCmd t c s) := by
  unfold completeCmd
  split
  · exact keeps_setCmd hc h
  · next ha =>
    refine h.put_queue (fun ht q hq => h.fits q (ht ▸ (List.mem_filter.1 hq).1)) (fun ht hw => ?_)
    obtain ⟨x, hx⟩ := Option.ne_none_iff_exists'.1 hw
    rw [(hc ht x hx).1] at ha
    exact absurd rfl ha

theorem keeps_unimportEverywhere {module tile region s} (h : Keeps w s) : Keeps w (unimportEverywhere module tile region s) := by
  grind [unimportEverywhere, keeps_modPort, keeps_foldl, keeps_foldl_fst, keeps_foldl_snd, keeps_foldl_trd]

theorem keeps_returnFrames {t p s} (h : Keeps w s) : Keeps w (returnFrames t p s) := by
  grind [returnFrames, keeps_unimportEverywhere, keeps_sendMsg]

theorem keeps_releaseSet {t i s} (h : Keeps w s) : Keeps w (releaseSet t i s) := by
  unfold releaseSet
  split
  · exact keeps_tabDrop h
  · next x hx =>
    have hfree : Keeps w (x.stripes.foldl (fun s l => l.foldl (fun s h =>
        if h.frame = 0 then s
        else if h.module = s.myModule then freeFrames [fkey (ck h.tile h.core) h.frame] s
        else returnFrames t ⟨h.module, h.tile, h.core, h.frame⟩ s) s) s) := by
      refine keeps_foldl (fun s l hs => keeps_foldl (fun s g hs => ?_) hs) h
      split
      · exact hs
      · split
        · exact keeps_freeFrames hs
        · exact keeps_returnFrames hs
    exact keeps_tabDrop hfree

theorem keeps_modSet {s i f} (h : Keeps w s) : Keeps w (modSet s i f) := by
  grind [modSet]

theorem keeps_encodeEnd {t c s} (hc : t = w.tile → Fits w c) (h : Keeps w s) : Keeps w (encodeEnd t c s) := by
  unfold encodeEnd
  refine keeps_completeCmd hc ?_
  have hres : Keeps w (modRes s t (fun r => { r with xfers := r.xfers.filter (fun x => !(x.kind == .encode && x.key.isSome && x.cmd == some c.id)) })) :=
    keeps_modRes (fun _ => by rfl) h
  dsimp only
  split
  · refine keeps_foldl (fun _ _ hs => keeps_releaseSet hs) ?_
    exact keeps_modSet (i := rSet c.desc) (f := setRefresh) (keeps_foldl (fun _ _ hs => keeps_modPte hs) hres)
  · exact keeps_resLog (keeps_releaseSet (keeps_foldl (fun _ _ hs => keeps_modPte hs) hres))

theorem keeps_advanceCmd {t c s} (hc : t = w.tile → Fits w c) (h : Keeps w s) : Keeps w (advanceCmd t c s) := by
  grind [advanceCmd, keeps_tabDrop, keeps_encodeAsk, keeps_encodeStart, keeps_completeCmd, keeps_encodeEnd, keeps_setCmd, keeps_startRound]

theorem keeps_queueMove {t pk key kind module i cmd s} (h : Keeps w s) : Keeps w (queueMove t pk key kind module i cmd s).2 := by
  grind [queueMove, keeps_addXfer]

theorem keeps_tabsMake {t space vpn big s} (h : Keeps w s) : Keeps w (tabsMake t space vpn big s).2 := by
  grind [tabsMake, keeps_tabPlace, keeps_foldl, keeps_foldl_fst, keeps_foldl_snd, keeps_foldl_trd]

theorem keeps_setLost {t pk s} (h : Keeps w s) : Keeps w (setLost t pk s) := by
  grind [setLost, keeps_modPte, keeps_resLog, keeps_countTile]

theorem keeps_cmdNote {t x code s} (h : Keeps w s) : Keeps w (cmdNote t x code s) := by
  unfold cmdNote
  split
  · exact h
  · refine h.put_queue (fun ht q hq => ?_) (fun ht hw => ?_)
    · obtain ⟨q', hq', rfl⟩ := List.mem_map.1 hq
      have hfit : Fits w q' := h.fits q' (ht ▸ hq')
      split
      · exact hfit
      · exact hfit
    · rw [Ne, List.map_eq_nil_iff]
      exact ht ▸ h.waits hw

theorem keeps_evacuateLost {t x pk s} (h : Keeps w s) : Keeps w (evacuateLost t x pk s) :=
  keeps_dropXfer (keeps_cmdNote (keeps_startRound (keeps_raise (keeps_setLost (keeps_freeFrames h)))))

theorem keeps_failWaiters {pk code s} (h : Keeps w s) : Keeps w (failWaiters pk code s) := by
  grind [failWaiters]

theorem keeps_releaseNew {t x s} (h : Keeps w s) : Keeps w (releaseNew t x s) := by
  grind [releaseNew, keeps_returnFrames, keeps_freeFrames]

theorem keeps_rebuildOver {x s} (h : Keeps w s) : Keeps w (rebuildOver x s) := by
  grind [rebuildOver, keeps_modSet]

theorem keeps_abandon {t x code s} (h : Keeps w s) : Keeps w (abandon t x code s) := by
  grind [abandon, keeps_cmdNote, keeps_dropXfer, keeps_failWaiters, keeps_modPte, keeps_releaseNew, keeps_rebuildOver]

theorem keeps_xferLost {t x s} (h : Keeps w s) : Keeps w (xferLost t x s) := by
  grind [xferLost, keeps_setLost, keeps_cmdNote, keeps_dropXfer, keeps_freeFrames, keeps_evacuateLost, keeps_abandon]

theorem keeps_stripeLost {t i n s} (h : Keeps w s) : Keeps w (stripeLost t i n s) := by
  grind [stripeLost, keeps_raise, keeps_resLog, keeps_setLost, keeps_modSet, keeps_foldl]

theorem keeps_shardInvalid {t i n j s} (h : Keeps w s) : Keeps w (shardInvalid t i n j s) := by
  grind [shardInvalid, keeps_raise, keeps_stripeLost, keeps_modSet]

theorem keeps_gatherOne {t l x j s} (h : Keeps w s) : Keeps w (gatherOne t l x j s).2 := by
  grind [gatherOne, keeps_gatherRemote, keeps_pageLoad]

theorem keeps_gatherShards {fuel t x s} (h : Keeps w s) : Keeps w (gatherShards fuel t x s).2 := by
  induction fuel generalizing x s with
  | zero => exact h
  | succ fuel ih => grind [gatherShards, keeps_gatherOne, keeps_shardInvalid, keeps_foldl, keeps_foldl_trd]

theorem keeps_gather {t x s} (h : Keeps w s) : Keeps w (gather t x s) := by
  grind [gather, keeps_xferLost, keeps_setXfer, keeps_gatherShards]

theorem keeps_gatherFill {t x s} (h : Keeps w s) : Keeps w (gatherFill t x s) := by
  grind [gatherFill, keeps_xferLost, keeps_gather, keeps_setXfer]

theorem keeps_markFrames {key f n space vpn shard exported s} (h : Keeps w s) : Keeps w (markFrames key f n space vpn shard exported s) := by
  grind [markFrames, keeps_foldl, keeps_foldl_fst, keeps_foldl_snd, keeps_foldl_trd]

theorem keeps_makeResident {t pk core kind cmd evict pl s} (h : Keeps w s) : Keeps w (makeResident t pk core kind cmd evict pl s).2 := by
  unfold makeResident
  dsimp only
  split
  · dsimp only
    exact keeps_askFrames (keeps_addXfer (keeps_modPte h))
  · split
    · exact keeps_noFrame h
    · next key hkey =>
      have halloc := keeps_allocate (key := key) (space := pkSpace pk) (n := pkPages pk) (evict := evict) h
      split <;> rename_i he <;> rw [he] at halloc <;> dsimp only at halloc ⊢
      · exact halloc
      · exact keeps_quotaRefused halloc
      · exact halloc
      · exact keeps_noFrame halloc
      · exact keeps_gatherFill (keeps_addXfer (keeps_modPte (keeps_markFrames halloc)))

theorem keeps_cmdPage {t c vpn s} (h : Keeps w s) : Keeps w (cmdPage t c vpn s).2.2 := by
  obtain hop | hop | hop | hop | hop | hop : rOp c.desc = 4 ∨ rOp c.desc = 5 ∨ (rOp c.desc = 6 ∨ rOp c.desc = 8) ∨ rOp c.desc = 0xA ∨ rOp c.desc = 0xB ∨
      (rOp c.desc ≠ 4 ∧ rOp c.desc ≠ 5 ∧ rOp c.desc ≠ 6 ∧ rOp c.desc ≠ 8 ∧ rOp c.desc ≠ 0xA ∧ rOp c.desc ≠ 0xB) := by omega
  · grind [cmdPage, keeps_tabsMake, keeps_quotaRefused, keeps_noFrame]
  · grind [cmdPage]
  · grind [cmdPage, keeps_modPte]
  · simp only [cmdPage, hop, Nat.reduceEqDiff, if_true, if_false]
    split
    · exact h
    · split
      · exact h
      · split
        · exact h
        · split
          · exact keeps_countTile (keeps_modPte h)
          · exact h
  · simp only [cmdPage, hop, Nat.reduceEqDiff, if_true, if_false]
    grind [keeps_queueMove]
  · grind [cmdPage, keeps_makeResident, keeps_modPte]

theorem serves_cmdPage (t : Nat) (c : ResCmd) (vpn : Nat) (s : State) : Serves c (cmdPage t c vpn s).1 := by
  have hfill (x : Miss × State) : Serves c (match x with
      | (.started id, s) => (c, PageRes.pend id, s)
      | (.wait, s) => (c, .wait, s)
      | (.failed code, s) => (c, .fail code, s)).1 := by
    rcases x with ⟨id | _ | code, s⟩ <;> exact ⟨rfl, rfl⟩
  have hif {b : Prop} [Decidable b] {x y : ResCmd × PageRes × State} (hx : Serves c x.1) (hy : Serves c y.1) :
      Serves c (if b then x else y).1 := by split <;> assumption
  have hc : Serves c c := ⟨rfl, rfl⟩
  unfold cmdPage
  dsimp only
  refine hif ?_ (hif hc (hif (hif hc (hif hc ⟨rfl, rfl⟩)) (hif hc (hif (hif hc hc) (hif (hif hc (hif hc (hif (hfill _) hc)))
    (hif hc (hif (hif (hfill _) (hif hc hc)) (hif (hif hc (hif ⟨rfl, rfl⟩ hc)) (hif (hif hc (hif hc (hif hc ?_)))
    (hif (hif hc (hif hc (hif (hfill _) hc))) hc))))))))))
  · split <;> exact hc
  · split
    · exact hc
    · exact hc

theorem serves_runPages (t fuel : Nat) (c : ResCmd) (s : State) : Serves c (runPages t fuel c s).1 := by
  induction fuel generalizing c s with
  | zero => exact ⟨rfl, rfl⟩
  | succ fuel ih =>
    unfold runPages
    split
    · exact ⟨rfl, rfl⟩
    · next v r hv =>
      have hpage := serves_cmdPage t c v s
      split <;> rename_i he <;> rw [he] at hpage
      · exact ⟨(ih _ _).1.trans hpage.1, (ih _ _).2.trans hpage.2⟩
      · exact ⟨(ih _ _).1.trans hpage.1, (ih _ _).2.trans hpage.2⟩
      · exact hpage
      · exact hpage

theorem keeps_runPages {t fuel c s} (h : Keeps w s) : Keeps w (runPages t fuel c s).2 := by
  induction fuel generalizing c s with
  | zero => exact h
  | succ fuel ih => grind [runPages, keeps_cmdPage]

theorem keeps_verifyStart {t c s} (hc : t = w.tile → Fits w c) (h : Keeps w s) : Keeps w (verifyStart t c s) := by
  grind [verifyStart, keeps_setCmd, keeps_gather, keeps_addXfer, keeps_completeCmd, keeps_foldl, keeps_foldl_fst, keeps_foldl_snd,
      keeps_foldl_trd]

theorem keeps_rebuildStart {t c s} (hc : t = w.tile → Fits w c) (h : Keeps w s) : Keeps w (rebuildStart t c s) := by
  grind [rebuildStart, keeps_askFrames, keeps_gather, keeps_setCmd, keeps_addXfer, keeps_markTable, keeps_completeCmd, keeps_modSet]

theorem keeps_startCmd {t c s} (hc : t = w.tile → Fits w c) (h : Keeps w s) : Keeps w (startCmd t c s) := by
  grind [startCmd, keeps_verifyStart, keeps_rebuildStart, keeps_setCmd, keeps_noFrame, keeps_quotaRefused, keeps_tabPlace, keeps_encodeLoad,
      keeps_completeCmd]

theorem staying_destroy (tins : Tab Tin) (a t : Nat) :
    staying (tget tinInit (tins.map (fun p => if p.1 = a then (p.1, { p.2 with thenDestroy := true }) else p)) t) = staying (tget tinInit tins t) := by
  induction tins with
  | nil => rfl
  | cons p tins ih =>
    have hp : (if p.1 = a then (p.1, { p.2 with thenDestroy := true }) else p).1 = p.1 := by split <;> rfl
    rw [List.map_cons, tget, tget, hp]
    split
    · split <;> rfl
    · exact ih

theorem keeps_destroyMark {a s} (h : Keeps w s) :
    Keeps w { s with tins := s.tins.map (fun p => if p.1 = a then (p.1, { p.2 with thenDestroy := true }) else p) } :=
  { h with tins := fun t => (staying_destroy s.tins a t).trans (h.tins t) }

theorem fits_findCmd {t id : Nat} {c : ResCmd} {s : State} (h : Keeps w s) (hc : findCmd s t id = some c) (ht : t = w.tile) : Fits w c :=
  h.fits c (ht ▸ List.mem_of_find?_eq_some hc)

theorem keeps_stepCmd {t id s} (h : Keeps w s) : Keeps w (stepCmd t id s) := by
  have hgo (q : ResCmd × State) (hf : t = w.tile → Fits w q.1) (hq : Keeps w q.2) :
      Keeps w (if q.1.todo.isEmpty && q.1.waiting.isEmpty && q.1.rounds = 0 then advanceCmd t q.1 (setCmd t q.1 q.2) else setCmd t q.1 q.2) := by
    split
    · exact keeps_advanceCmd hf (keeps_setCmd hf hq)
    · exact keeps_setCmd hf hq
  have hstart (c : ResCmd) (hf : t = w.tile → Fits w c) : Keeps w (if c.stage = 0 then startCmd t c s else s) := by
    split
    · exact keeps_startCmd hf h
    · exact h
  unfold stepCmd
  split
  · exact h
  · next c hc =>
    have hstart := hstart c (fits_findCmd h hc)
    dsimp only
    split
    · exact keeps_destroyMark h
    · split
      · exact h
      · split
        · exact hstart
        · next c' hc' =>
          have hfit := fits_findCmd hstart hc'
          split
          · exact hstart
          · refine hgo _ (fun ht => Serves.fits ?_ (hfit ht)) ?_
            · split
              · exact ⟨rfl, rfl⟩
              · exact serves_runPages _ _ _ _
            · split
              · exact hstart
              · exact keeps_runPages hstart

/-- A command of the admission controller enters the queue of a tile (R253). -/
theorem keeps_resInternal {t d adm s} (hd : t = w.tile → FitsIn w (some adm) d) (h : Keeps w s) : Keeps w (resInternal t d adm s) := by
  refine keeps_stepCmd (h.put_queue (fun ht q hq => ?_) (fun _ _ => List.append_ne_nil_of_right_ne_nil _ (List.cons_ne_nil _ _)))
  rcases List.mem_append.1 hq with hq | hq
  · exact h.fits q (ht ▸ hq)
  · cases List.mem_singleton.1 hq
    exact hd ht

/-- The descriptor of a PIN or UNPIN of one run of pages. -/
def runDesc (op : Nat) (r : Bool × Nat × Nat × Nat) : CmdDesc :=
  if r.1 then { pinDesc op r.2.1 (65536 * r.2.2.1) r.2.2.2 with w0 := setFld (pinDesc op r.2.1 (65536 * r.2.2.1) r.2.2.2).w0 48 48 1 }
  else pinDesc op r.2.1 (65536 * r.2.2.1) r.2.2.2

theorem pinPages_eq (tile op mark : Nat) (pks : List Nat) (s : State) :
    pinPages tile op mark pks s = (pageRuns pks).foldl (fun s r => resInternal tile (runDesc op r) mark s) s := rfl

theorem keeps_pinPages {tile op mark pks s} (h : Keeps w s) (hw : w.cmd = none) : Keeps w (pinPages tile op mark pks s) :=
  keeps_foldl (fun _ _ hs => keeps_resInternal (fun _ _ hx => absurd (hw.symm.trans hx) nofun) hs) h

theorem keeps_adapterPin {t pin tile s} (hw : w.cmd = none) (h : Keeps w s) : Keeps w (adapterPin t pin tile s) := by
  grind [adapterPin, keeps_pinPages]

theorem keeps_admReply {m t type code stream hint reqId due s} (h : Keeps w s) : Keeps w (admReply m t type code stream hint reqId due s) := by
  grind [admReply, keeps_sendMsg]

theorem keeps_freeWord {s} (h : Keeps w s) : Keeps w (freeWord s).2 := by
  grind [freeWord]

theorem keeps_missPage {core pk s} (h : Keeps w s) : Keeps w (missPage core pk s).2 := by
  grind [missPage, keeps_countTile, keeps_makeResident, keeps_foldl, keeps_foldl_fst, keeps_foldl_snd, keeps_foldl_trd]

theorem keeps_calGrow {tin n s} (h : Keeps w s) : Keeps w (calGrow tin n s) := by
  grind [calGrow, keeps_missPage, keeps_foldl, keeps_foldl_fst, keeps_foldl_snd, keeps_foldl_trd]

theorem keeps_sliceWriteLine {key s w0} (h : Keeps w s) : Keeps w (sliceWriteLine key s w0) := by
  grind [sliceWriteLine, keeps_modSlice, keeps_modTile, keeps_countSlice, keeps_sliceAccess]

theorem keeps_sliceWrite {key off bs s} (h : Keeps w s) : Keeps w (sliceWrite key off bs s) := by
  grind [sliceWrite, keeps_sliceWriteLine, keeps_foldl, keeps_foldl_fst, keeps_foldl_snd, keeps_foldl_trd]

theorem keeps_sliceStore {key off bs s} (h : Keeps w s) : Keeps w (sliceStore key off bs s).2 := by
  grind [sliceStore, keeps_sliceAccess, keeps_lineFailed, keeps_sliceWrite, keeps_foldl, keeps_foldl_fst, keeps_foldl_snd, keeps_foldl_trd]

theorem keeps_bulkWrite {t core kind a bs region s} {x u} (he : bulkWrite t core kind a bs region s = some (x, u))
    (h : Keeps w s) : Keeps w u := by
  grind [bulkWrite, keeps_sendMsg, keeps_stampSent, keeps_remAdd]

theorem keeps_batchSend {num t gpa bs region s x u} (he : batchSend num t gpa bs region s = some (x, u)) (h : Keeps w s) : Keeps w u := by
  refine keeps_foldl_option (fun r i b u hr hu => ?_) he (fun c v hv => by cases hv; exact h)
  cases r with
  | none => cases hu
  | some q =>
    obtain ⟨l, v⟩ := q
    simp only [Option.bind_some, Option.map_eq_some_iff] at hu
    obtain ⟨⟨n, v'⟩, hwrite, hu⟩ := hu
    cases hu
    exact keeps_bulkWrite hwrite (hr l v rfl)

theorem keeps_touchPte {k write s} (h : Keeps w s) : Keeps w (touchPte k write s) := by
  grind [touchPte, keeps_modPte]

theorem keeps_stepTokens {st s} (h : Keeps w s) : Keeps w (stepTokens st s).2 := by
  grind [stepTokens, keeps_freeWord]

theorem keeps_batchStream {j p s} (h : Keeps w s) : Keeps w (batchStream j p s).2 := by
  grind [batchStream, keeps_freeWord]

theorem keeps_batchEntry {j p s} (h : Keeps w s) : Keeps w (batchEntry j p s).2 := by
  grind [batchEntry, keeps_stepTokens, keeps_batchStream]

theorem keeps_batchBytes {j s} (h : Keeps w s) : Keeps w (batchBytes j s).2 := by
  grind [batchBytes, keeps_batchEntry, keeps_foldl, keeps_foldl_fst, keeps_foldl_snd, keeps_foldl_trd]

theorem keeps_walkPoisoned {tile space va s} (h : Keeps w s) : Keeps w (walkPoisoned tile space va s) := by
  unfold walkPoisoned
  refine keeps_raise (KeepsIn.put_res (keeps_foldl (fun u l hu => ?_) h) (by rfl))
  split
  · exact hu
  · exact keeps_lineFailed hu

theorem keeps_vaSeen {tile space va n s} (h : Keeps w s) : Keeps w (vaSeen tile space va n s) := by
  grind [vaSeen, keeps_walkPoisoned, keeps_sliceLoad, keeps_foldl, keeps_foldl_fst, keeps_foldl_snd, keeps_foldl_trd]

theorem keeps_resultBytes {st s} (h : Keeps w s) : Keeps w (resultBytes st s).2 := by
  grind [resultBytes, keeps_freeWord, keeps_vaSeen, keeps_foldl, keeps_foldl_fst, keeps_foldl_snd, keeps_foldl_trd]

theorem keeps_sendCompletion {e code s} (h : Keeps w s) : Keeps w (sendCompletion e code s) := by
  grind [sendCompletion, keeps_sendMsg, keeps_resultBytes]

theorem keeps_deadlineMiss {e code cause s} (h : Keeps w s) : Keeps w (deadlineMiss e code cause s) :=
  keeps_raise (keeps_countHearth h)

end

end Sys2Proof.Proofs

namespace Sys2Proof.Proofs

open Sys2Proof Sys2Proof.Machine Sys2Proof.Spec

/-! ## The release of a job (R232, R242, R244) -/

/-- What `s` itself puts on the shelf, with no residency command watched. -/
def shelfOf (s : State) : Shelf :=
  ⟨s.streams, s.models, s.adm, s.lastCode, s.jobs.map unmarked, fun t => staying (getTin s t), 0, none⟩

theorem keeps_self (s : State) : Keeps (shelfOf s) s :=
  ⟨rfl, rfl, rfl, rfl, rfl, fun _ => rfl, fun _ _ _ h => absurd h nofun, fun h => absurd rfl h⟩

/-- What a job was released for, which nothing that happens to it changes. -/
def brief (j : Job) : BitVec 32 × Nat × Nat × Option Nat × List JobPos × Option (Nat × Nat) :=
  (j.num, j.slot, j.cls, j.deadlineUs, j.positions, j.cal)

/-- From `s` to `u` jobs have gone on: streams, models and the controller are as they were, and so is what each job was released for. -/
structure Advanced (s u : State) : Prop where
  streams : u.streams = s.streams
  models : u.models = s.models
  adm : u.adm = s.adm
  jobs : u.jobs.map brief = s.jobs.map brief

section
variable {s u v : State}

theorem Advanced.refl (s : State) : Advanced s s := ⟨rfl, rfl, rfl, rfl⟩

theorem Advanced.trans (h : Advanced s u) (g : Advanced u v) : Advanced s v :=
  ⟨g.streams.trans h.streams, g.models.trans h.models, g.adm.trans h.adm, g.jobs.trans h.jobs⟩

theorem map_brief_of_unmarked {l r : List Job} (h : l.map unmarked = r.map unmarked) : l.map brief = r.map brief := by
  have hmap (l : List Job) : l.map brief = (l.map unmarked).map brief := by
    rw [List.map_map]
    exact List.map_congr_left fun _ _ => rfl
  rw [hmap, h, ← hmap]

theorem advanced_of_keeps (h : Keeps (shelfOf s) u) : Advanced s u :=
  ⟨h.streams, h.models, h.adm, map_brief_of_unmarked h.jobs⟩

theorem advanced_modJob {num : Nat} {f : Job → Job} (hf : ∀ j, brief (f j) = brief j) : Advanced s (modJob s num f) := by
  refine ⟨rfl, rfl, rfl, ?_⟩
  rw [modJob, List.map_map]
  refine List.map_congr_left fun j _ => ?_
  dsimp only [Function.comp]
  split
  · exact hf j
  · rfl

/-! ### The batch list -/

theorem advanced_failBatch (num : Nat) (code : Code) (s : State) : Advanced s (failBatch num code s) := advanced_modJob fun _ => by rfl

theorem advanced_writeBatch (num : Nat) (s : State) : Advanced s (writeBatch num s) := by
  have hself := keeps_self s
  unfold writeBatch
  split
  · exact .refl s
  · next j hj =>
    dsimp only
    split
    · exact .refl s
    · split
      · exact advanced_failBatch _ _ _
      · exact (advanced_of_keeps (keeps_walkPoisoned hself)).trans (advanced_failBatch _ _ _)
      · exact advanced_of_keeps (keeps_missPage hself)
      · exact .refl s
      · next pk m t c off region he =>
        have hbytes := keeps_batchBytes (j := j) (keeps_touchPte (k := pk) (write := true) hself)
        split
        · split
          · exact (advanced_of_keeps hbytes).trans (advanced_failBatch _ _ _)
          · next n u hsend => exact (advanced_of_keeps (keeps_batchSend hsend hbytes)).trans (advanced_modJob fun _ => by rfl)
        · split
          · exact advanced_failBatch _ _ _
          · split
            · exact advanced_failBatch _ _ _
            · split
              · exact .refl s
              · have hstore := keeps_sliceStore (key := ck t c) (off := off) (bs := (batchBytes j (touchPte pk true s)).1) hbytes
                split <;> rename_i heq <;> rw [heq] at hstore
                · exact (advanced_of_keeps hstore).trans (advanced_failBatch _ _ _)
                · exact (advanced_of_keeps hstore).trans (advanced_modJob fun _ => by rfl)

/-! ### Runs that end and tiles that go on -/

theorem advanced_modTin (t : Nat) (f : Tin → Tin) (s : State) : Advanced s (modTin s t f) := ⟨rfl, rfl, rfl, rfl⟩

theorem advanced_chargeRun (j : Job) (layer : Nat) (trips : List TripReport) (s : State) : Advanced s (chargeRun j layer trips s) :=
  (advanced_of_keeps (keeps_countTile (keeps_self s))).trans
    (foldl_related Advanced.refl Advanced.trans (fun _ _ => advanced_modTin _ _ _) _ _)

theorem brief_markWide (k : Nat) (j : Job) : brief (markWide k j) = brief j := by
  unfold markWide
  split
  · rfl
  · dsimp only
    split <;> rfl

theorem brief_markWides (l : List Nat) (j : Job) : brief (l.foldl (fun j k => markWide k j) j) = brief j :=
  foldl_related (R := fun j q => brief q = brief j) (fun _ => rfl) (fun h g => g.trans h) (fun j k => brief_markWide k j) l j

theorem advanced_actTrips (num i : Nat) (s : State) : Advanced s (actTrips num i s) := by
  unfold actTrips
  split
  · exact .refl s
  · next j hj =>
    dsimp only
    split
    · exact .refl s
    · next r hr =>
      have hcharge (rest : List TripReport) (l : List Nat) : Advanced s (l.foldl (fun s k => match j.seq[k]? with
          | some q => chargeRun j (runOp s j q).layer (rest.filter (fun t => consumerRun s j r t.layer == k)) s
          | none => s) s) := by
        refine foldl_related Advanced.refl Advanced.trans (fun u k => ?_) _ _
        split
        · exact advanced_chargeRun _ _ _ _
        · exact .refl u
      split
      · exact (hcharge _ _).trans (advanced_modJob (brief_markWides _))
      · exact ((hcharge _ _).trans (advanced_modJob (brief_markWides _))).trans ((advanced_modJob fun _ => by rfl).trans (advanced_chargeRun _ _ _ _))

theorem advanced_handleRuns (num fuel : Nat) (s : State) : Advanced s (handleRuns num fuel s) := by
  induction fuel generalizing s with
  | zero => exact .refl s
  | succ fuel ih =>
    unfold handleRuns
    split
    · exact .refl s
    · split
      · exact .refl s
      · split
        · exact .refl s
        · exact ((advanced_modJob fun _ => by rfl).trans (advanced_actTrips _ _ _)).trans (ih _)

theorem advanced_advanceTile (num t fuel : Nat) (s : State) : Advanced s (advanceTile num t fuel s) := by
  induction fuel generalizing s with
  | zero => exact .refl s
  | succ fuel ih =>
    unfold advanceTile
    split
    · exact .refl s
    · dsimp only
      split
      · exact .refl s
      · split
        · exact .refl s
        · exact (advanced_modJob fun _ => by rfl).trans (ih _)

theorem advanced_advanceJob (num : Nat) (s : State) : Advanced s (advanceJob num s) := by
  unfold advanceJob
  split
  · exact .refl s
  · next j hj =>
    have hone (u : State) : Advanced u (j.tiles.foldl (fun s p => advanceTile num p.1 2049 s) (handleRuns num 2049 u)) :=
      (advanced_handleRuns _ _ _).trans (foldl_related Advanced.refl Advanced.trans (fun _ _ => advanced_advanceTile _ _ _ _) _ _)
    dsimp only
    split
    · exact .refl s
    · exact (hone s).trans (hone _)

/-- What the release of a job leaves: its number is taken, and it stands last among the jobs. -/
structure Released (j : Job) (s u : State) : Prop where
  streams : u.streams = s.streams
  models : u.models = s.models
  adm : u.adm = { s.adm with nextJob := j.num + 1 }
  jobs : u.jobs.map brief = s.jobs.map brief ++ [brief j]

theorem released_addJob (j : Job) (s : State) : Released j s (addJob j s) := by
  have h : Advanced _ (addJob j s) := (advanced_writeBatch _ _).trans (advanced_advanceJob _ _)
  refine ⟨h.streams, h.models, h.adm, h.jobs.trans ?_⟩
  rw [List.map_append]
  rfl

theorem Released.mem {j : Job} (h : Released j s u) : ∃ q ∈ u.jobs, brief q = brief j := by
  rw [← List.mem_map, h.jobs]
  exact List.mem_append_right _ (List.mem_singleton_self _)

/-! ### The streams of a job -/

/-- The streams of a job's positions run, each at its place in the batch. -/
def runStreams (l : List (Nat × Nat)) (s : State) : State :=
  l.foldl (fun s p => modStream s p.1 (fun st => { st with state := .running, coldWait := false, batchPos := p.2 })) s

theorem runStreams_eq (l : List (Nat × Nat)) (s : State) : runStreams l s = { s with streams := (runStreams l s).streams } :=
  foldl_related (R := fun s u : State => u = { s with streams := u.streams }) (fun _ => rfl) (fun h g => by rw [g, h]) (fun _ _ => rfl) l s

theorem runStreams_adm (l : List (Nat × Nat)) (s : State) : (runStreams l s).adm = s.adm := by
  rw [runStreams_eq]

theorem runStreams_models (l : List (Nat × Nat)) (s : State) : (runStreams l s).models = s.models := by
  rw [runStreams_eq]

theorem getStream_modStream_other {e k : Nat} (f : Stream → Stream) (h : e ≠ k) : getStream (modStream s k f) e = getStream s e :=
  Laws.tget_tput_other _ _ _ h

theorem getStream_runStreams {l : List (Nat × Nat)} {e : Nat} (h : e ∈ l.map (·.1) ∨ (getStream s e).state = .running) :
    (getStream (runStreams l s) e).state = .running := by
  induction l generalizing s with
  | nil => exact h.resolve_left (List.not_mem_nil)
  | cons p l ih =>
    refine ih (s := modStream s p.1 _) ?_
    by_cases he : e = p.1
    · subst he
      exact .inr (by rw [getStream_modStream])
    · rw [getStream_modStream_other _ he]
      rcases h with h | h
      · exact .inl ((List.mem_cons.1 h).resolve_left he)
      · exact .inr h

/-- The job of a slot for the streams of a list, and the streams as it runs them. -/
theorem releaseJob_released (m cls : Nat) (l : List Nat) (deadline : Option Nat) (s : State) : ∃ j v, Released j v (releaseJob m cls l deadline s) ∧
    j.num = s.adm.nextJob ∧ j.slot = m ∧ j.cls = cls ∧ j.deadlineUs = deadline ∧ (∀ e, e ∈ j.positions.map (·.stream) ↔ e ∈ l) ∧
    v.adm = s.adm ∧ v.models = s.models ∧ ∀ e ∈ l, (getStream v e).state = .running := by
  have hperm := perm_sortBy (le := fun (a b : Nat) => decide ((getStream s a).tin < (getStream s b).tin) ||
    ((getStream s a).tin == (getStream s b).tin && decide (a ≤ b))) l
  refine ⟨_, runStreams _ s, released_addJob _ _, rfl, rfl, rfl, rfl, fun e => ?_, runStreams_adm _ _, runStreams_models _ _, fun e he => ?_⟩
  · rw [← hperm.mem_iff]
    simp [newJob]
  · refine getStream_runStreams (.inl ?_)
    rw [List.zipIdx_map_fst]
    exact hperm.mem_iff.2 he

end

/-! ## BEAT_BOUNDARY (O10) -/

section
variable {m : Nat} {s : State}

theorem beatBoundaryOp_quiet (hb : (getModel s m).beat ≠ 0) (hl : interOf s none m = []) : beatBoundaryOp m s =
    modModel { s with now := max s.now (1000 * (getModel s m).beatEndUs) } m (fun x => { x with beat := 0, beatEndUs := 0, beatUsed := false }) := by
  have hl' : interOf { s with now := max s.now (1000 * (getModel s m).beatEndUs) } none m = [] := hl
  simp only [beatBoundaryOp, hb, hl', if_false, List.isEmpty_nil, if_true]

/-- The state in which the beat that follows begins, its job taken. -/
def nextBeat (m : Nat) (s : State) : State :=
  modModel { s with now := max s.now (1000 * (getModel s m).beatEndUs) } m (fun x => { x with
    beat := slotBeat (interOf s none m), beatEndUs := (getModel s m).beatEndUs + slotBeat (interOf s none m), beatUsed := true })

theorem beatBoundaryOp_due (hb : (getModel s m).beat ≠ 0) (hl : interOf s none m ≠ []) (hd : dueStreams s m ≠ []) : beatBoundaryOp m s =
    releaseJob m 0 (dueStreams s m) (some ((getModel s m).beatEndUs + slotBeat (interOf s none m))) (nextBeat m s) := by
  have hl' : (interOf { s with now := max s.now (1000 * (getModel s m).beatEndUs) } none m).isEmpty = false := by
    rw [List.isEmpty_eq_false_iff]
    exact hl
  have hd' : (dueStreams { s with now := max s.now (1000 * (getModel s m).beatEndUs) } m).isEmpty = false := by
    rw [List.isEmpty_eq_false_iff]
    exact hd
  simp only [beatBoundaryOp, hb, hl', hd', if_false, Bool.false_eq_true, Bool.not_false]
  rfl

theorem beatBoundary_releases (hb : (getModel s m).beat ≠ 0) (hl : interOf s none m ≠ []) (hd : dueStreams s m ≠ []) :
    ∃ j ∈ (beatBoundaryOp m s).jobs, j.num = s.adm.nextJob ∧ j.slot = m ∧ j.cls = 0 ∧
      j.deadlineUs = some ((getModel s m).beatEndUs + slotBeat (interOf s none m)) ∧
      (∀ e, e ∈ j.positions.map (·.stream) ↔ e ∈ dueStreams s m) ∧ (beatBoundaryOp m s).adm.nextJob = s.adm.nextJob + 1 ∧
      (∀ e ∈ dueStreams s m, (getStream (beatBoundaryOp m s) e).state = .running) ∧ (getModel (beatBoundaryOp m s) m).beatUsed = true := by
  rw [beatBoundaryOp_due hb hl hd]
  obtain ⟨j, v, hrel, hnum, hslot, hcls, hdeadline, hpos, hadm, hmodels, hrun⟩ := releaseJob_released m 0 (dueStreams s m)
    (some ((getModel s m).beatEndUs + slotBeat (interOf s none m))) (nextBeat m s)
  obtain ⟨q, hq, hbrief⟩ := hrel.mem
  simp only [brief, Prod.mk.injEq] at hbrief
  obtain ⟨qnum, qslot, qcls, qdeadline, qpos, -⟩ := hbrief
  refine ⟨q, hq, qnum.trans hnum, qslot.trans hslot, qcls.trans hcls, qdeadline.trans hdeadline, fun e => qpos ▸ hpos e, ?_, fun e he => ?_, ?_⟩
  · rw [hrel.adm, hnum]
    rfl
  · rw [getStream, hrel.streams]
    exact hrun e he
  · rw [getModel, hrel.models, hmodels]
    simp [nextBeat, modModel]

end

end Sys2Proof.Proofs

namespace Sys2Proof.Proofs

open Sys2Proof Sys2Proof.Machine Sys2Proof.Spec

/-! ## JOB_END of an interactive job (R247, O10) -/

section
variable {s u v : State}

theorem exists_unmarked (h : Keeps (shelfOf s) u) {x : Job} (hx : x ∈ u.jobs) : ∃ y ∈ s.jobs, unmarked y = unmarked x := by
  rw [← List.mem_map, show s.jobs.map unmarked = u.jobs.map unmarked from h.jobs.symm]
  exact List.mem_map_of_mem hx

theorem num_of_unmarked {x y : Job} (h : unmarked y = unmarked x) : x.num = y.num := (congrArg Job.num h).symm

theorem getStream_of_keeps (h : Keeps (shelfOf s) u) (e : Nat) : getStream u e = getStream s e := by
  rw [getStream, h.streams]
  rfl

theorem staying_of_keeps (h : Keeps (shelfOf s) u) (t : Nat) : staying (getTin u t) = staying (getTin s t) := h.tins t

/-- What a stream's entry becomes does not depend on what is kept. -/
theorem keeps_modStream (h : Keeps (shelfOf s) u) (e : Nat) (f : Stream → Stream) : Keeps (shelfOf (modStream s e f)) (modStream u e f) := by
  refine ⟨?_, h.models, h.adm, h.code, h.jobs, h.tins, fun _ _ _ hx => absurd hx nofun, fun hx => absurd rfl hx⟩
  rw [modStream, getStream_of_keeps h, h.streams]
  rfl

/-- A stream whose step has completed: its record of the step is cleared. -/
def stepRecorded (code : Code) (x : Stream) : Stream :=
  { x with lastCode := code, merged := .ok, conds := [], slow := false, hurt := false, coldWait := false }

/-- A step of an interactive stream that ends in time, with nothing that asks for its close, leaves the entry OPEN. -/
theorem finishStep_inTime {e : Nat} {code : Code} (hc : (getStream s e).cls = 0) (hn : s.now ≤ 1000 * (getStream s e).dueUs)
    (hq : (getStream s e).closeReq = []) (hd : (getStream s e).closeCmd = []) : ∃ v b, Keeps (shelfOf (modStream s e (stepRecorded code))) v ∧
      finishStep e code false s = modStream v e (fun x => { x with state := if x.cls = 2 && b then .due else .open_ }) := by
  have hlate : ¬ 1000 * (getStream s e).dueUs < s.now := Nat.not_lt.2 hn
  let u := modStream (conditionEvents 30 0 7 ((getStream s e).conds ++ []) s) e (stepRecorded code)
  refine ⟨sendCompletion e code u, (getTin (sendCompletion e code u) (getStream s e).tin).state == .active,
    keeps_sendCompletion (keeps_modStream (keeps_conditionEvents (keeps_self s)) e (stepRecorded code)), ?_⟩
  simp only [finishStep, hlate, hc, hq, hd, Bool.false_eq_true, if_false, List.isEmpty_nil, Bool.not_true, Bool.or_false, Nat.zero_ne_one,
    decide_false, Bool.and_false, Bool.false_and]
  rfl

/-- What the end of a position does to its stream before the step completes (R226). -/
def positionEnded (j : Job) (base : Code) (p : JobPos) (n : Nat) (x : Stream) : Stream :=
  { x with
    step := x.step + 1, tokenPos := (x.tokenPos + n) % 2 ^ 32, chunksLeft := x.chunksLeft - 1, merged := codeMerge x.merged (codeMerge base p.code)
    lastCode := codeMerge base p.code, slow := x.slow || j.belowFloor, hurt := x.hurt || j.fault
    conds := x.conds ++ completedConds (j.codes ++ [p.code, if j.rerun then .wideRerun else .ok]) }

/-- The state in which a position of an interactive job has ended. -/
def positionCounted (j : Job) (base : Code) (p : JobPos) (s : State) : State :=
  modStream (modTin s p.tin (fun t => { t with windowSteps := t.windowSteps + 1 })) p.stream (positionEnded j base p 1)

theorem endPosition_decode {j : Job} {base : Code} {p : JobPos} (hj : j.cls = 0) (he : p.ends = false) (hc : (getStream s p.stream).cls = 0) :
    endPosition j base p s = finishStep p.stream (codeMerge (getStream s p.stream).merged (codeMerge base p.code)) false (positionCounted j base p s) := by
  have hc' : (getStream (modTin s p.tin (fun t => { t with windowSteps := t.windowSteps + 1 })) p.stream).cls = 0 := hc
  have hmerged : (getStream (positionCounted j base p s) p.stream).merged = codeMerge (getStream s p.stream).merged (codeMerge base p.code) := by
    rw [positionCounted, getStream_modStream]
    rfl
  rw [← hmerged]
  simp only [endPosition, stepTokens, hj, he, hc', Nat.zero_ne_one, decide_false, Bool.false_and, Bool.false_eq_true, if_false, if_true,
    OfNat.zero_ne_ofNat]
  rfl

/-- The end of a position of an interactive job whose step is not late and whose stream goes on. -/
theorem endPosition_inTime {j : Job} {base : Code} {p : JobPos} {st : Stream} (hj : j.cls = 0) (he : p.ends = false)
    (hst : st = getStream s p.stream) (hc : st.cls = 0) (hn : s.now ≤ 1000 * st.dueUs) (hq : st.closeReq = []) (hd : st.closeCmd = []) :
    (∀ x ∈ (endPosition j base p s).jobs, ∃ y ∈ s.jobs, x.num = y.num) ∧ (getStream (endPosition j base p s) p.stream).state = .open_ ∧
    (getStream (endPosition j base p s) p.stream).step = st.step + 1 ∧
    (getStream (endPosition j base p s) p.stream).lastCode = codeMerge st.merged (codeMerge base p.code) ∧
    (getTin (endPosition j base p s) p.tin).windowSteps = (getTin s p.tin).windowSteps + 1 := by
  subst hst
  have hcount : getStream (positionCounted j base p s) p.stream = positionEnded j base p 1 (getStream s p.stream) := by
    rw [positionCounted, getStream_modStream]
    rfl
  have hcls : (getStream (positionCounted j base p s) p.stream).cls = 0 := by rw [hcount]; exact hc
  obtain ⟨v, b, hkeeps, hfinish⟩ := finishStep_inTime (s := positionCounted j base p s) (e := p.stream)
    (code := codeMerge (getStream s p.stream).merged (codeMerge base p.code)) hcls (by rw [hcount]; exact hn) (by rw [hcount]; exact hq)
    (by rw [hcount]; exact hd)
  rw [endPosition_decode hj he hc, hfinish, getStream_modStream, getStream_of_keeps hkeeps, getStream_modStream, hcount]
  refine ⟨fun x hx => ?_, ?_, rfl, rfl, ?_⟩
  · obtain ⟨y, hy, hxy⟩ := exists_unmarked hkeeps hx
    exact ⟨y, hy, num_of_unmarked hxy⟩
  · have hrecorded : (stepRecorded (codeMerge (getStream s p.stream).merged (codeMerge base p.code))
        (positionEnded j base p 1 (getStream s p.stream))).cls = 0 := hc
    rw [hrecorded]
    rfl
  · refine (congrArg Tin.windowSteps (staying_of_keeps hkeeps p.tin)).trans ?_
    exact congrArg Tin.windowSteps (Laws.tget_tput_same tinInit s.tins p.tin _)

theorem getJob_num {n : Nat} {j : Job} (h : getJob s n = some j) : j.num.toNat = n := by
  simpa using List.find?_some h

/-- The tiles of a job that ends count it (R247). -/
theorem keeps_countTiles (l : Tab TileRun) (s : State) : Keeps (shelfOf s) (l.foldl (fun s p => countTile p.1 0 1 s) s) :=
  keeps_foldl (fun _ _ hs => keeps_countTile hs) (keeps_self s)

theorem now_countTiles (l : Tab TileRun) (s : State) : (l.foldl (fun s p => countTile p.1 0 1 s) s).now = s.now :=
  foldl_related (R := fun s u : State => u.now = s.now) (fun _ => rfl) (fun h g => g.trans h) (fun s _ => count_now _ _ s) l s

/-- The jobs without the one that has ended, its tiles having counted it. -/
def jobGone (j : Job) (s : State) : State :=
  j.tiles.foldl (fun s p => countTile p.1 0 1 s) { s with jobs := s.jobs.filter (fun q => q.num != j.num) }

theorem keeps_jobGone (j : Job) (s : State) : Keeps (shelfOf { s with jobs := s.jobs.filter (fun q => q.num != j.num) }) (jobGone j s) :=
  keeps_countTiles _ _

theorem jobGone_jobs {j : Job} {x : Job} (h : x ∈ (jobGone j s).jobs) : x.num ≠ j.num := by
  obtain ⟨y, hy, hxy⟩ := exists_unmarked (keeps_jobGone j s) h
  rw [num_of_unmarked hxy]
  simpa using (List.mem_filter.1 hy).2

/-- The code of a job's runs (R247). -/
def jobCode (j : Job) : Code := codeMerge (codeMergeAll j.codes) (if j.rerun then .wideRerun else .ok)

theorem jobEndOp_over {n : Nat} {j : Job} (hj : getJob s n = some j) (ho : jobOver j = true) (hc : j.cal = none)
    (ht : j.positions.any (ioTrains s) = false) :
    jobEndOp n s = j.positions.foldl (fun s p => endPosition j (jobCode j) p s) (jobGone j s) := by
  simp only [jobEndOp, hj, ho, hc, ht, Bool.not_true, Bool.and_false, Bool.or_false, Bool.false_eq_true, if_false]
  rfl

theorem jobEnd_completes {num : BitVec 32} {j : Job} {q : JobPos} {st : Stream} (hj : getJob s num.toNat = some j) (ho : jobOver j = true)
    (hc : j.cal = none) (hcls : j.cls = 0) (hp : j.positions = [q]) (he : q.ends = false) (hst : st = getStream s q.stream) (h0 : st.cls = 0)
    (hq : st.closeReq = []) (hd : st.closeCmd = []) (hn : s.now ≤ 1000 * st.dueUs) (ht : vaTrains s st.tin st.ioVa 48 = false) :
    (∀ x ∈ (jobEndOp num.toNat s).jobs, x.num ≠ num) ∧ (getStream (jobEndOp num.toNat s) q.stream).state = .open_ ∧
    (getStream (jobEndOp num.toNat s) q.stream).step = st.step + 1 ∧
    (getStream (jobEndOp num.toNat s) q.stream).lastCode = codeMerge st.merged (codeMerge (jobCode j) q.code) ∧
    (getTin (jobEndOp num.toNat s) q.tin).windowSteps = (getTin s q.tin).windowSteps + 1 := by
  have hnum : j.num = num := BitVec.eq_of_toNat_eq (getJob_num hj)
  have hkeeps := keeps_jobGone j s
  have htrains : j.positions.any (ioTrains s) = false := by simp [hp, ioTrains, ← hst, ht]
  have hgone : st = getStream (jobGone j s) q.stream := hst.trans (getStream_of_keeps hkeeps q.stream).symm
  have hnow : (jobGone j s).now = s.now := now_countTiles _ _
  obtain ⟨hjobs, hopen, hstep, hcode, hwindow⟩ := endPosition_inTime (s := jobGone j s) (base := jobCode j) hcls he hgone h0 (by rw [hnow]; exact hn) hq hd
  rw [jobEndOp_over hj ho hc htrains, hp, List.foldl_cons, List.foldl_nil]
  refine ⟨fun x hx => ?_, hopen, hstep, hcode, hwindow.trans (congrArg (· + 1) ?_)⟩
  · obtain ⟨y, hy, hxy⟩ := hjobs x hx
    rw [hxy, ← hnum]
    exact jobGone_jobs hy
  · exact congrArg Tin.windowSteps (a₁ := staying _) (a₂ := staying _) (staying_of_keeps hkeeps q.tin)

end

/-! ## TIN_DRAIN_TIMEOUT (R252, O10) -/

/-- From `s` to `u` no time passes, no tin changes and no job goes; one that was killed stays so. -/
structure JobsStay (s u : State) : Prop where
  now : u.now = s.now
  tins : u.tins = s.tins
  jobs : ∀ j ∈ s.jobs, ∃ q ∈ u.jobs, q.num = j.num ∧ (j.killed = true → q.killed = true)

section
variable {s u v : State}

theorem JobsStay.refl (s : State) : JobsStay s s := ⟨rfl, rfl, fun j hj => ⟨j, hj, rfl, id⟩⟩

theorem JobsStay.trans (h : JobsStay s u) (g : JobsStay u v) : JobsStay s v := by
  refine ⟨g.now.trans h.now, g.tins.trans h.tins, fun j hj => ?_⟩
  obtain ⟨q, hq, hnum, hkilled⟩ := h.jobs j hj
  obtain ⟨r, hr, hnum', hkilled'⟩ := g.jobs q hq
  exact ⟨r, hr, hnum'.trans hnum, hkilled' ∘ hkilled⟩

theorem jobsStay_same (hn : u.now = s.now) (ht : u.tins = s.tins) (hj : u.jobs = s.jobs) : JobsStay s u :=
  ⟨hn, ht, fun j hm => ⟨j, hj ▸ hm, rfl, id⟩⟩

theorem jobsStay_map {f : Job → Job} (hf : ∀ j, (f j).num = j.num ∧ (j.killed = true → (f j).killed = true)) :
    JobsStay s { s with jobs := s.jobs.map f } :=
  ⟨rfl, rfl, fun j hj => ⟨f j, List.mem_map_of_mem hj, hf j⟩⟩

theorem jobsStay_modJob {n : Nat} {f : Job → Job} (hf : ∀ j, (f j).num = j.num ∧ (j.killed = true → (f j).killed = true)) :
    JobsStay s (modJob s n f) := by
  refine jobsStay_map fun j => ?_
  split
  · exact hf j
  · exact ⟨rfl, id⟩

theorem jobsStay_raise (e : EvRec) (s : State) : JobsStay s (raise e s) := by
  refine ⟨raise_now e s, (logged_raise e s).tins, fun j hj => ?_⟩
  have hmap : s.jobs.map unmarked = (raise e s).jobs.map unmarked := (keeps_raise (keeps_self s)).jobs.symm
  obtain ⟨q, hq, hqj⟩ := List.mem_map.1 (hmap ▸ List.mem_map_of_mem (f := unmarked) hj)
  exact ⟨q, hq, congrArg Job.num (a₁ := unmarked q) (a₂ := unmarked j) hqj,
    fun hk => (congrArg Job.killed (a₁ := unmarked q) (a₂ := unmarked j) hqj).trans hk⟩

theorem jobsStay_withdrawKernel (key : Nat) (s : State) : JobsStay s (withdrawKernel key s) := by
  unfold withdrawKernel
  dsimp only
  split
  · exact .refl s
  · split <;> exact jobsStay_same rfl rfl rfl

theorem jobsStay_kwriteEvent (key : Nat) (k : Kernel) (s : State) : JobsStay s (kwriteEvent key k s) := by
  unfold kwriteEvent
  split
  · exact .refl s
  · exact jobsStay_raise _ _

theorem jobsStay_dropRun (key : Nat) (x : SavedKernel) (s : State) : JobsStay s (dropRun key x s) := by
  have hdrop : JobsStay s (dropSaved key x.slot s) :=
    (foldl_related JobsStay.refl JobsStay.trans (fun _ _ => jobsStay_kwriteEvent _ _ _) _ _).trans (jobsStay_same rfl rfl rfl)
  exact hdrop.trans ((jobsStay_modJob fun _ => by exact ⟨rfl, id⟩).trans (jobsStay_modJob fun _ => by exact ⟨rfl, id⟩))

/-- A job with its mark of R106 on every tile. -/
def jobKilled (j : Job) : Job := { j with killed := true, tiles := j.tiles.map (fun p => (p.1, { p.2 with pend := [] })) }

theorem killJob_some {n : Nat} {j : Job} (h : getJob s n = some j) : JobsStay (modJob s n jobKilled) (killJob n s) := by
  unfold killJob
  rw [h]
  dsimp only
  refine foldl_related JobsStay.refl JobsStay.trans (fun u p => ?_) _ _
  refine foldl_related JobsStay.refl JobsStay.trans (fun u core => ?_) _ _
  split
  · exact jobsStay_withdrawKernel _ _
  · exact foldl_related JobsStay.refl JobsStay.trans (fun _ _ => jobsStay_dropRun _ _ _) _ _

theorem jobsStay_killJob (n : Nat) (s : State) : JobsStay s (killJob n s) := by
  cases h : getJob s n with
  | none =>
    unfold killJob
    rw [h]
    exact .refl s
  | some j => exact (jobsStay_modJob fun _ => by exact ⟨rfl, fun _ => rfl⟩).trans (killJob_some h)

/-- A job that ends under R106 is killed. -/
theorem killJob_kills {n : Nat} {q : Job} (hq : q ∈ s.jobs) (hn : q.num.toNat = n) : ∃ r ∈ (killJob n s).jobs, r.num = q.num ∧ r.killed = true := by
  obtain ⟨j, hj⟩ : ∃ j, getJob s n = some j := by
    rw [← Option.isSome_iff_exists, getJob, List.find?_isSome]
    exact ⟨q, hq, by simp [hn]⟩
  have hmem : jobKilled q ∈ (modJob s n jobKilled).jobs := by
    refine List.mem_map.2 ⟨q, hq, if_pos hn⟩
  obtain ⟨r, hr, hnum, hkilled⟩ := (killJob_some hj).jobs _ hmem
  exact ⟨r, hr, hnum, hkilled rfl⟩

/-- A job's positions take WITHDRAWN and it ends under R106 (R252). -/
def drainJob (s : State) (j : Job) : State :=
  killJob j.num.toNat (modJob s j.num.toNat (fun j => { j with positions := j.positions.map (fun p => { p with code := .withdrawn }) }))

theorem jobsStay_drainJob (s : State) (j : Job) : JobsStay s (drainJob s j) :=
  (jobsStay_modJob fun _ => by exact ⟨rfl, id⟩).trans (jobsStay_killJob _ _)

theorem drainJobs_kills {l : List Job} {j : Job} (hj : j ∈ l) (hs : ∃ q ∈ s.jobs, q.num = j.num) :
    ∃ q ∈ (l.foldl drainJob s).jobs, q.num = j.num ∧ q.killed = true := by
  induction l generalizing s with
  | nil => exact absurd hj List.not_mem_nil
  | cons x l ih =>
    obtain ⟨q, hq, hnum⟩ := hs
    by_cases hx : x = j
    · subst hx
      obtain ⟨r, hr, hrnum, -⟩ := (jobsStay_modJob (n := x.num.toNat) (f := fun j => { j with
        positions := j.positions.map (fun p => { p with code := .withdrawn }) }) fun _ => by exact ⟨rfl, id⟩).jobs q hq
      obtain ⟨y, hy, hynum, hykilled⟩ := killJob_kills hr (congrArg BitVec.toNat (hrnum.trans hnum))
      obtain ⟨z, hz, hznum, hzkilled⟩ := (foldl_related JobsStay.refl JobsStay.trans jobsStay_drainJob l (drainJob s x)).jobs y hy
      exact ⟨z, hz, hznum.trans (hynum.trans (hrnum.trans hnum)), hzkilled hykilled⟩
    · obtain ⟨r, hr, hrnum, -⟩ := (jobsStay_drainJob s x).jobs q hq
      exact ih ((List.mem_cons.1 hj).resolve_left (Ne.symm hx)) ⟨r, hr, hrnum.trans hnum⟩

theorem tinDrainTimeoutOp_eq {t : Nat} (h : (getTin s t).state = .withdrawing) : tinDrainTimeoutOp t s =
    (s.jobs.filter (fun j => (jobTins j).contains t)).foldl drainJob { s with now := max s.now ((getTin s t).withdrawAt + 1500000000) } := by
  simp only [tinDrainTimeoutOp, h]
  rfl

theorem tinDrain_kills {t : Nat} (h : (getTin s t).state = .withdrawing) :
    (tinDrainTimeoutOp t s).now = max s.now ((getTin s t).withdrawAt + 1500000000) ∧
    ∀ j ∈ s.jobs, t ∈ jobTins j → ∃ q ∈ (tinDrainTimeoutOp t s).jobs, q.num = j.num ∧ q.killed = true := by
  rw [tinDrainTimeoutOp_eq h]
  refine ⟨(foldl_related JobsStay.refl JobsStay.trans jobsStay_drainJob _ _).now, fun j hj ht => drainJobs_kills ?_ ⟨j, hj, rfl⟩⟩
  exact List.mem_filter.2 ⟨hj, by simpa using ht⟩

end

end Sys2Proof.Proofs

namespace Sys2Proof.Proofs

open Sys2Proof Sys2Proof.Machine Sys2Proof.Spec

/-! ## What reads of slices leave unchanged -/

/-- From `s` to `u` slices were read: at most slices, managers but for their queues, counters, staged events and the marks of jobs differ. -/
structure Touched (s u : State) : Prop where
  eq : u = { s with counters := u.counters, stages := u.stages, jobs := u.jobs, slices := u.slices, res := u.res }
  queues : ∀ t, (getRes u t).queue = (getRes s t).queue

section
variable {s u v : State}

theorem Touched.refl (s : State) : Touched s s := ⟨rfl, fun _ => rfl⟩

theorem Touched.trans (h : Touched s u) (g : Touched u v) : Touched s v :=
  ⟨by rw [g.eq, h.eq], fun t => (g.queues t).trans (h.queues t)⟩

theorem Touched.cores (h : Touched s u) : u.cores = s.cores := by rw [h.eq]
theorem Touched.kernels (h : Touched s u) : u.kernels = s.kernels := by rw [h.eq]

theorem touched_of_logged (h : Logged s u) : Touched s u := by
  rw [h]
  exact ⟨rfl, fun _ => rfl⟩

theorem Touched.raise {e : EvRec} (h : Touched s u) : Touched s (raise e u) := h.trans (touched_of_logged (logged_raise e u))
theorem Touched.count {k n : Nat} (h : Touched s u) : Touched s (count k n u) := h.trans (touched_of_logged (logged_count k n u))

theorem touched_modSlice (key : Nat) (f : Slice → Slice) (s : State) : Touched s (modSlice s key f) := ⟨rfl, fun _ => rfl⟩

theorem touched_lineFailed (key line : Nat) (s : State) : Touched s (lineFailed key s line) := by
  unfold lineFailed sliceFault countSlice
  exact (touched_modSlice _ _ s).count.raise

theorem touched_linesFailed (key : Nat) (l : List Nat) (s : State) : Touched s (l.foldl (lineFailed key) s) :=
  foldl_related Touched.refl Touched.trans (fun u line => touched_lineFailed key line u) l s

theorem touched_sliceLoad (key off n : Nat) (s : State) : Touched s (sliceLoad key off n s).2.2 :=
  (touched_modSlice _ _ s).trans (touched_linesFailed _ _ _)

theorem sliceWriteLine_cores (key : Nat) (s : State) (w : Nat × List Byte) : (sliceWriteLine key s w).cores = s.cores := by
  unfold sliceWriteLine
  split
  · rfl
  · split
    · exact count_cores _ _ _
    · rfl

theorem sliceStore_cores (key off : Nat) (bs : List Byte) (s : State) : (sliceStore key off bs s).2.cores = s.cores :=
  (foldl_related (R := fun s u : State => u.cores = s.cores) (fun _ => rfl) (fun h g => g.trans h) (sliceWriteLine_cores key) _ _).trans
    (touched_linesFailed _ _ _).cores

theorem queue_putRes {k : Nat} {r : ResTile} (h : r.queue = (getRes s k).queue) (t : Nat) :
    (getRes { s with res := tput s.res k r } t).queue = (getRes s t).queue := by
  by_cases ht : t = k
  · subst ht
    rw [getRes, Laws.tget_tput_same, h]
  · rw [getRes, Laws.tget_tput_other _ _ _ ht, getRes]

theorem touched_walkPoisoned (tile space va : Nat) (s : State) : Touched s (walkPoisoned tile space va s) := by
  have hfold : Touched s ((walkBad s space va).foldl (fun s l => if sliceOut s l.1 then s else lineFailed l.1 s l.2) s) := by
    refine foldl_related Touched.refl Touched.trans (fun u l => ?_) _ _
    split
    · exact .refl u
    · exact touched_lineFailed _ _ _
  unfold walkPoisoned
  refine Touched.raise (hfold.trans ⟨rfl, fun t => ?_⟩)
  exact queue_putRes (by rfl) t

theorem touched_vaSeen (tile space va n : Nat) (s : State) : Touched s (vaSeen tile space va n s) := by
  have hfold : Touched s ((vaParts s space va n).foldl (fun s p => if sliceOut s p.1 then s else (sliceLoad p.1 p.2.1 p.2.2 s).2.2) s) := by
    refine foldl_related Touched.refl Touched.trans (fun u p => ?_) _ _
    split
    · exact .refl u
    · exact touched_sliceLoad _ _ _ _
  exact hfold.trans (foldl_related Touched.refl Touched.trans (fun u i => touched_walkPoisoned _ _ _ u) _ _)

end

/-! ## OPERATOR_START (R231, O10) -/

/-- The kernel is put on its core, whose group wakes, and its job's tile counts the run. -/
def startRun (t core num : Nat) (wide : Bool) (k : Kernel) (s : State) : State :=
  let s := modCore s (ck t core) (fun c => { c with kernel := some k })
  let s := if wide then countCore (ck t core) 9 1 s else s
  modTileRun num t (fun x => { x with pend := x.pend.filter (· != core), runs := x.runs ++ [core] }) (wakeGroup t (core / 16) s)

section
variable {t c : Nat} {s u : State} {j : Job} {r : OpRun} {i : KernelImage} {bs : List Byte}

theorem wakeGroup_cores (t g : Nat) (s : State) : (wakeGroup t g s).cores = s.cores := by
  unfold wakeGroup
  dsimp only
  split <;> rfl

theorem startRun_cores (t c num : Nat) (wide : Bool) (k : Kernel) (s : State) :
    (startRun t c num wide k s).cores = (modCore s (ck t c) (fun c => { c with kernel := some k })).cores := by
  refine (wakeGroup_cores _ _ _).trans ?_
  split
  · exact count_cores _ _ _
  · rfl

/-- No job wants a core after `u` that did not want it before, in `s`. -/
def WantsNoMore (s u : State) : Prop := ∀ q ∈ u.jobs, ∃ p ∈ s.jobs, ∀ c t x, jobWants c t x q = true → jobWants c t x p = true

theorem wantsNoMore_of_keeps (h : Keeps (shelfOf s) u) : WantsNoMore s u := by
  intro q hq
  obtain ⟨p, hp, hpq⟩ := exists_unmarked h hq
  refine ⟨p, hp, fun c t x hw => ?_⟩
  have hsame : jobWants c t x (unmarked q) = true := hw
  rwa [← hpq] at hsame

theorem WantsNoMore.trans {v : State} (h : WantsNoMore s u) (g : WantsNoMore u v) : WantsNoMore s v := by
  intro q hq
  obtain ⟨p, hp, hpq⟩ := g q hq
  obtain ⟨o, ho, hop⟩ := h p hp
  exact ⟨o, ho, fun c t x hw => hop c t x (hpq c t x hw)⟩

theorem jobTile_putJobTile (j : Job) (t x : Nat) (r : TileRun) : jobTile (putJobTile t r j) x = if x = t then r else jobTile j x := by
  split
  · next h => exact h ▸ Laws.tget_tput_same _ _ _ _
  · next h => exact Laws.tget_tput_other _ _ _ h

/-- A tile whose run has started somewhere waits for fewer cores. -/
theorem wantsNoMore_startTile (num t x : Nat) (s : State) :
    WantsNoMore s (modTileRun num t (fun r => { r with pend := r.pend.filter (· != x), runs := r.runs ++ [x] }) s) := by
  intro q hq
  obtain ⟨p, hp, rfl⟩ := List.mem_map.1 hq
  refine ⟨p, hp, fun c y n hw => ?_⟩
  dsimp only at hw
  split at hw
  · simp only [jobWants, jobTile_putJobTile, Bool.or_eq_true, Bool.and_eq_true] at hw ⊢
    refine hw.imp_left fun h => ⟨h.1, ?_⟩
    have hpend := h.2
    split at hpend
    · next hy =>
      subst hy
      exact List.contains_iff_mem.2 (List.mem_filter.1 (List.contains_iff_mem.1 hpend)).1
    · exact hpend
  · exact hw

theorem wantsNoMore_startRun (t c num : Nat) (wide : Bool) (k : Kernel) (s : State) : WantsNoMore s (startRun t c num wide k s) := by
  refine WantsNoMore.trans (wantsNoMore_of_keeps (keeps_wakeGroup ?_)) (wantsNoMore_startTile _ _ _ _)
  split
  · exact keeps_countCore (keeps_self s)
  · exact keeps_self s

/-- A kernel as the dispatcher places it. -/
structure PlacedFor (j : Job) (r : OpRun) (i : KernelImage) (bs : List Byte) (k : Kernel) : Prop where
  phase : k.phase = .placed
  image : k.image = i
  job : k.job = j.num.toNat
  pc : k.pc = i.entry
  wide : k.wide = r.wide
  preds : k.p = 1
  regs : k.g = []
  args : k.args.take bs.length = bs

theorem placeKernel_starts (t c : Nat) (j : Job) (r : OpRun) (i : KernelImage) (bs : List Byte) (s : State) :
    ∃ k v, placeKernel t c j r i bs s = startRun t c j.num.toNat r.wide k v ∧ PlacedFor j r i bs k ∧ v.cores = s.cores ∧ Keeps (shelfOf s) v := by
  have hargs (a b d : List Byte) : (bs ++ a ++ b ++ d).take bs.length = bs := by simp [List.append_assoc]
  have hstore (u : State) (hu : u.cores = s.cores) (l : List Byte) : (sliceStore (ck t c) (argBlock j) l u).2.cores = s.cores :=
    (sliceStore_cores _ _ _ u).trans hu
  unfold placeKernel
  split
  next due v hv =>
  have hkept : v.cores = s.cores ∧ Keeps (shelfOf s) v := by
    split at hv <;> cases hv
    · exact ⟨rfl, keeps_self s⟩
    · exact ⟨rfl, keeps_freeWord (keeps_self s)⟩
  exact ⟨_, _, rfl, ⟨rfl, rfl, rfl, rfl, rfl, rfl, rfl, hargs _ _ _⟩, hstore v hkept.1 _, keeps_sliceStore hkept.2⟩

theorem placeKernel_places (t c : Nat) (j : Job) (r : OpRun) (i : KernelImage) (bs : List Byte) (s : State) :
    (∃ k, (getCore (placeKernel t c j r i bs s) (ck t c)).kernel = some k ∧ PlacedFor j r i bs k) ∧
    (∀ x, x ≠ ck t c → getCore (placeKernel t c j r i bs s) x = getCore s x) ∧ WantsNoMore s (placeKernel t c j r i bs s) := by
  obtain ⟨k, v, hstart, hplaced, hcores, hkeeps⟩ := placeKernel_starts t c j r i bs s
  rw [hstart]
  refine ⟨⟨k, ?_, hplaced⟩, fun x hx => ?_, (wantsNoMore_of_keeps hkeeps).trans (wantsNoMore_startRun _ _ _ _ _ _)⟩
  · rw [getCore, startRun_cores]
    exact congrArg Core.kernel (Laws.getCore_putCore_same v _ _)
  · rw [getCore, startRun_cores, getCore, ← hcores]
    exact Laws.tget_tput_other _ _ _ hx

/-! ### The cores in turn -/

theorem jobOrder_subset (s : State) (t : Nat) {q : Job} (h : q ∈ jobOrder s t) : q ∈ s.jobs :=
  (List.mem_filter.1 ((perm_sortBy _).mem_iff.1 h)).1

theorem dispatchCore_idle (h : ∀ q ∈ s.jobs, jobWants (getCore s (ck t c)) t c q = false) : dispatchCore t s c = s := by
  have hnone : (jobOrder s t).find? (jobWants (getCore s (ck t c)) t c) = none :=
    List.find?_eq_none.2 fun q hq => by rw [h q (jobOrder_subset s t hq)]; exact Bool.false_ne_true
  simp only [dispatchCore, hnone]

theorem blockingSave_none (hr : runImage s j t = some (r, i)) (ho : savedOverlap (getCore s (ck t c)) i = false) :
    blockingSave s (getCore s (ck t c)) j t = none := by
  rw [savedOverlap, Bool.or_eq_false_iff] at ho
  rw [blockingSave, hr, Option.bind_some, List.find?_eq_none.2 (List.any_eq_false.1 ho.2)]
  rfl

/-- A core is free for the run of a job (R109, R167, R172, R246). -/
structure FreeFor (t c : Nat) (j : Job) (r : OpRun) (i : KernelImage) (s : State) : Prop where
  wants : (jobOrder s t).find? (jobWants (getCore s (ck t c)) t c) = some j
  kernel : (getCore s (ck t c)).kernel = none
  saved : (getCore s (ck t c)).saved = []
  resume : (getCore s (ck t c)).resumeReq = none
  works : (getCore s (ck t c)).withdrawn = false
  image : runImage s j t = some (r, i)
  apart : savedOverlap (getCore s (ck t c)) i = false
  slice : sliceOut s (ck t c) = false
  stays : sliceEvac s (ck t c) = false
  trained : sliceTrains s (ck t c) = false
  open_ : (getTile s (ck t c / 64)).hold = false

theorem dispatchCore_starts (h : FreeFor t c j r i s)
    (hb : readTemplate s (getModel s j.slot).space ((runOp s j r).argVa + 96 * (64 * t + c)) = .ready bs) :
    dispatchCore t s c = placeKernel t c j r i bs (vaSeen t (getModel s j.slot).space ((runOp s j r).argVa + 96 * (64 * t + c)) 96 s) := by
  simp only [dispatchCore, h.wants, h.kernel, h.saved, h.resume, blockingSave_none h.image h.apart, List.find?_nil, Option.isSome_none,
    Bool.false_eq_true, if_false, tryStart, h.works, h.image, h.apart, h.slice, h.stays, h.trained, writeRoom, h.open_, hb, Bool.not_false,
    Bool.true_or, Bool.not_true, Bool.or_false]

/-- A fold of which one step alone has an effect. -/
theorem foldl_single {α β : Type} {f : β → α → β} {l : List α} {a : α} {b : β} (hn : l.Nodup) (ha : a ∈ l) (h₁ : ∀ x ∈ l, x ≠ a → f b x = b)
    (h₂ : ∀ x ∈ l, x ≠ a → f (f b a) x = f b a) : l.foldl f b = f b a := by
  have hidle (m : List α) (b : β) (h : ∀ x ∈ m, f b x = b) : m.foldl f b = b := by
    induction m with
    | nil => rfl
    | cons x m ih =>
      rw [List.foldl_cons, h x List.mem_cons_self]
      exact ih fun y hy => h y (List.mem_cons_of_mem _ hy)
  obtain ⟨p, q, rfl⟩ := List.append_of_mem ha
  have hp : a ∉ p := fun hm => (List.nodup_append.1 hn).2.2 a hm a List.mem_cons_self rfl
  have hq : a ∉ q := (List.nodup_cons.1 (List.nodup_append.1 hn).2.1).1
  rw [List.foldl_append, List.foldl_cons, hidle p b fun x hx => h₁ x (List.mem_append_left _ hx) (by rintro rfl; exact hp hx)]
  exact hidle q _ fun x hx => h₂ x (List.mem_append_right _ (List.mem_cons_of_mem _ hx)) (by rintro rfl; exact hq hx)

theorem operatorStart_places (hc : c < 64) (hothers : ∀ x, x < 64 → x ≠ c → ∀ q ∈ s.jobs, jobWants (getCore s (ck t x)) t x q = false)
    (h : FreeFor t c j r i s)
    (hb : readTemplate s (getModel s j.slot).space ((runOp s j r).argVa + 96 * (64 * t + c)) = .ready bs) :
    ∃ k, (getCore (operatorStartOp t s) (ck t c)).kernel = some k ∧ PlacedFor j r i bs k := by
  have hstarts := dispatchCore_starts h hb
  obtain ⟨hk, hcores, hjobs⟩ := placeKernel_places t c j r i bs (vaSeen t (getModel s j.slot).space ((runOp s j r).argVa + 96 * (64 * t + c)) 96 s)
  have hseen : WantsNoMore s (dispatchCore t s c) := hstarts ▸ (wantsNoMore_of_keeps (keeps_vaSeen (keeps_self s))).trans hjobs
  have hop : operatorStartOp t s = dispatchCore t s c := by
    refine foldl_single List.nodup_range (List.mem_range.2 hc) (fun x hx hxc => dispatchCore_idle (hothers x (List.mem_range.1 hx) hxc))
      fun x hx hxc => dispatchCore_idle fun q hq => ?_
    have hkey : ck t x ≠ ck t c := fun he => hxc (by simpa [ck] using he)
    obtain ⟨p, hp, hpq⟩ := hseen q hq
    have hcore : getCore (dispatchCore t s c) (ck t x) = getCore s (ck t x) := by
      rw [hstarts, hcores _ hkey, getCore, (touched_vaSeen _ _ _ _ s).cores]
      rfl
    rw [hcore, ← Bool.not_eq_true]
    exact fun hw => absurd (hpq _ _ _ hw) (by rw [hothers x (List.mem_range.1 hx) hxc p hp]; exact Bool.false_ne_true)
  rw [hop, hstarts]
  exact hk

end

/-- Settles O10: the effects of the dispatcher's four events, each of whose operations is followed to its end. -/
theorem dispatchEvents : Obligations.DispatchEvents := by
  unfold Obligations.DispatchEvents
  refine ⟨fun m s hm hbeat => ⟨fun hl => ?_, fun hl hd => ?_⟩, ?_, ?_, fun tin s hm ht => ?_⟩
  · exact does_onMain rfl hm (beatBoundaryOp_quiet hbeat hl)
  · obtain ⟨j, hj⟩ := beatBoundary_releases hbeat hl hd
    exact ⟨_, j, does_onMain rfl hm rfl, hj⟩
  · intro t c s j r i bs hm hothers hwants hkernel hsaved hresume hworks himage hapart hout hevac htrains hhold hbytes
    obtain ⟨k, hk, hplaced⟩ := operatorStart_places c.isLt (fun x hx hxc => hothers ⟨x, hx⟩ fun h => hxc (congrArg Fin.val h))
      ⟨hwants, hkernel, hsaved, hresume, hworks, himage, hapart, hout, hevac, htrains, by rwa [ck_tile]⟩ hbytes
    exact ⟨_, k, does_onMain rfl hm rfl, hk, hplaced.phase, hplaced.image, hplaced.job, hplaced.pc, hplaced.wide, hplaced.preds, hplaced.regs,
      hplaced.args⟩
  · intro num s j q st hm hj ho hc hcls hp he hst h0 _ _ hq hd hn ht
    exact ⟨_, does_onMain rfl hm rfl, jobEnd_completes hj ho hc hcls hp he hst h0 hq hd hn ht⟩
  · exact ⟨_, does_onMain rfl hm rfl, tinDrain_kills ht⟩

end Sys2Proof.Proofs

namespace Sys2Proof.Proofs

open Sys2Proof Sys2Proof.Machine Sys2Proof.Spec

/-! ## A command that nothing turns away runs as its operation says (R253, Table 7.15) -/

section
variable {c : AdmCmd} {d : CmdDesc} {v : State} (hd : c.desc = d) (hn : admEarlier d v = none) (hr : admReserved d = false)
include hd hn hr

theorem runAdm_setTin (h : aOp d = 1) :
    runAdm c (admHeld c v) = admFinish c.id (setTinCmd c.desc (admHeld c v)).1 (setTinCmd c.desc (admHeld c v)).2 := by
  simp only [runAdm, admEarlier_held, hd, hn, hr, h, Bool.false_eq_true, if_false]

theorem runAdm_withdrawTin (h : aOp d = 2) : runAdm c (admHeld c v) = withdrawTinCmd c (admHeld c v) := by
  simp only [runAdm, admEarlier_held, hd, hn, hr, h, Bool.false_eq_true, if_false]

theorem runAdm_registerKernel (h : aOp d = 3) : runAdm c (admHeld c v) = registerStart c (admHeld c v) := by
  simp only [runAdm, admEarlier_held, hd, hn, hr, h, Bool.false_eq_true, if_false]

theorem runAdm_loadModel (h : aOp d = 4) : runAdm c (admHeld c v) = loadModel c (admHeld c v) := by
  simp only [runAdm, admEarlier_held, hd, hn, hr, h, Bool.false_eq_true, if_false]

theorem runAdm_unloadModel (h : aOp d = 5) :
    runAdm c (admHeld c v) = admFinish c.id (unloadModelCmd c.desc (admHeld c v)).1 (unloadModelCmd c.desc (admHeld c v)).2 := by
  simp only [runAdm, admEarlier_held, hd, hn, hr, h, Bool.false_eq_true, if_false]

theorem runAdm_loadRow (h : aOp d = 6) :
    runAdm c (admHeld c v) = admFinish c.id (loadRowCmd c.desc (admHeld c v)).1 (loadRowCmd c.desc (admHeld c v)).2 := by
  simp only [runAdm, admEarlier_held, hd, hn, hr, h, Bool.false_eq_true, if_false]

theorem runAdm_measure (h : aOp d = 7) : runAdm c (admHeld c v) = measureCmd c (admHeld c v) := by
  simp only [runAdm, admEarlier_held, hd, hn, hr, h, Bool.false_eq_true, if_false]

theorem runAdm_unpin (h : aOp d = 8) :
    runAdm c (admHeld c v) = admFinish c.id (admUnpinCmd c.desc (admHeld c v)).1 (admUnpinCmd c.desc (admHeld c v)).2 := by
  simp only [runAdm, admEarlier_held, hd, hn, hr, h, Bool.false_eq_true, if_false]

theorem runAdm_closeStream (h : aOp d = 9) : runAdm c (admHeld c v) = closeStreamCmd c (admHeld c v) := by
  simp only [runAdm, admEarlier_held, hd, hn, hr, h, Bool.false_eq_true, if_false]

end

@[simp] theorem w1_admDesc (op : Nat) (d : CmdDesc) : (admDesc op d).w1 = d.w1 := by
  unfold admDesc
  rfl
@[simp] theorem w2_admDesc (op : Nat) (d : CmdDesc) : (admDesc op d).w2 = d.w2 := by
  unfold admDesc
  rfl
@[simp] theorem w3_admDesc (op : Nat) (d : CmdDesc) : (admDesc op d).w3 = d.w3 := by
  unfold admDesc
  rfl

section
variable {rq : Requester} {d : CmdDesc} {x : MeasureFound} {s u : State} {op : Nat} {c : Instr}

theorem mayAdmit_of_runs (h : AdmRuns op rq d s) (hop : op < 256) (ht : op = 3 → aTin d ≠ 0 ∨ rq = .keeper) : MayAdmit rq (admDesc op d) s := by
  constructor <;> rw [aOp_admDesc op d hop]
  · exact h.level
  · rwa [aTin_admDesc]

/-- A command that runs at once answers what its operation makes. -/
theorem does_of_runs (h : AdmRuns op rq d s) (hc : exec c s = admRow op rq d x s) (hop : op < 256) (ht : op = 3 → aTin d ≠ 0 ∨ rq = .keeper)
    (hu : runAdm (admCmd rq (admDesc op d) x s) (admHeld (admCmd rq (admDesc op d) x s) s) = u) : Does c s u :=
  does_admTaken hc h.on h.writer (mayAdmit_of_runs h hop ht) h.empty hu

theorem admFinish_of_runs {code : Code} {v : State} (h : AdmRuns op rq d s) (ha : v.adm = s.adm) (hk : v.keeper = s.keeper) :
    admFinish (admCmd rq (admDesc op d) x s).id code (admHeld (admCmd rq (admDesc op d) x s) v) = admEnded v d code :=
  admFinish_own (ha ▸ h.empty) (hk ▸ h.loads)

theorem desc_admCmd (rq : Requester) (d : CmdDesc) (x : MeasureFound) (s : State) : (admCmd rq d x s).desc = d := by
  unfold admCmd
  rfl

/-- A command whose operation ends at once posts its code in the state that the operation makes. -/
theorem does_ended {f : CmdDesc → State → Code × State} {code : Code} {v : State} (h : AdmRuns op rq d s) (hc : exec c s = admRow op rq d x s)
    (hop : op < 256) (h3 : op ≠ 3) (hrun : ∀ e : AdmCmd, e.desc = admDesc op d →
      runAdm e (admHeld e s) = admFinish e.id (f e.desc (admHeld e s)).1 (f e.desc (admHeld e s)).2)
    (hf : ∀ e, f (admDesc op d) (admHeld e s) = (code, admHeld e v)) (ha : v.adm = s.adm) (hk : v.keeper = s.keeper) :
    Does c s (admEnded v d code) := by
  refine does_of_runs h hc hop (fun h => absurd h h3) ((hrun (admCmd rq (admDesc op d) x s) (desc_admCmd _ _ _ _)).trans ?_)
  rw [desc_admCmd, hf]
  exact admFinish_of_runs h ha hk

end

/-! ## The commands that end at once (R219, R229, R236, R243) -/

section
variable {rq : Requester} {d : CmdDesc} {s : State} {c : AdmCmd}

theorem setTinCmd_held (h0 : aTin d ≠ 0) (hs : (getSpace s (aTin d)).isSome = true) (hm : ∀ p ∈ s.models, p.2.state = 0 ∨ p.2.space ≠ aTin d)
    (ha : fld d.w1 47 0 % 65536 = 0) (hv : fld d.w1 47 0 < 2 ^ 38) : setTinCmd d (admHeld c s) =
    (.ok, admHeld c (modTin s (aTin d) (fun x => { x with
      state := .active, wideAllow := fld d.w3 23 16, key := BitVec.ofNat 32 (fld d.w2 63 32), adapterVa := fld d.w1 47 0
      adapterPages := fld d.w2 31 0, maxStreams := fld d.w3 15 0 }))) := by
  have hmodels : s.models.any (fun p => p.2.state != 0 && p.2.space == aTin d) = false := by
    rw [List.any_eq_false]
    intro p hp h
    simp only [Bool.and_eq_true, bne_iff_ne, beq_iff_eq] at h
    exact (hm p hp).elim h.1 (· h.2)
  refine if_neg ?_
  rw [show (getSpace (admHeld c s) (aTin d)).isNone = false by rw [← Option.not_isSome]; exact congrArg (!·) hs,
    show (admHeld c s).models.any (fun p => p.2.state != 0 && p.2.space == aTin d) = false from hmodels]
  simp [h0, ha, show fld d.w1 47 0 < 274877906944 from hv]

theorem admEarlier_setTin (hg : spaceGone s (aTin d) = false) (ho : (getTin s (aTin d)).openStreams = 0) : admEarlier (admDesc 1 d) s = none := by
  simp [admEarlier, aOp_admDesc, hg, ho]

theorem setTin_ends (h : AdmRuns 1 rq d s) (h0 : aTin d ≠ 0) (hs : (getSpace s (aTin d)).isSome = true)
    (hm : ∀ p ∈ s.models, p.2.state = 0 ∨ p.2.space ≠ aTin d) (ha : fld d.w1 47 0 % 65536 = 0) (hv : fld d.w1 47 0 < 2 ^ 38)
    (hg : spaceGone s (aTin d) = false) (ho : (getTin s (aTin d)).openStreams = 0) :
    Does (.admSetTin rq d) s (admEnded (modTin s (aTin d) (fun x => { x with
      state := .active, wideAllow := fld d.w3 23 16, key := BitVec.ofNat 32 (fld d.w2 63 32), adapterVa := fld d.w1 47 0
      adapterPages := fld d.w2 31 0, maxStreams := fld d.w3 15 0 })) d .ok) := by
  refine does_ended h rfl (by decide) (by decide)
    (fun e he => runAdm_setTin he (admEarlier_setTin hg ho) h.fields (aOp_admDesc 1 d (by decide))) (fun e => ?_) rfl rfl
  rw [setTinCmd_held (d := admDesc 1 d) (by rwa [aTin_admDesc]) (by rwa [aTin_admDesc]) (by rwa [aTin_admDesc]) (by rwa [w1_admDesc]) (by rwa [w1_admDesc]),
    aTin_admDesc, w1_admDesc, w2_admDesc, w3_admDesc]

theorem unloadModelCmd_held (hm : (getModel s (aModel d)).state ≠ 0) :
    unloadModelCmd d (admHeld c s) = (.ok, admHeld c { s with models := tdel s.models (aModel d) }) :=
  if_neg hm

/-- What turns LOAD_MODEL and UNLOAD_MODEL away: the slot's streams and jobs. -/
theorem admEarlier_slot {op : Nat} (h : op = 4 ∨ op = 5) (ha : ∀ p ∈ accepted s, p.2.model ≠ aModel d) (hj : ∀ j ∈ s.jobs, j.slot ≠ aModel d) :
    admEarlier (admDesc op d) s = none := by
  have hstreams : (accepted s).any (fun p => p.2.model == aModel d) = false := by simpa using ha
  have hjobs : s.jobs.any (fun j => j.slot == aModel d) = false := by simpa using hj
  rcases h with rfl | rfl <;> simp [admEarlier, aOp_admDesc, hstreams, hjobs]

theorem unloadModel_ends (h : AdmRuns 5 rq d s) (hm : (getModel s (aModel d)).state ≠ 0) (ha : ∀ p ∈ accepted s, p.2.model ≠ aModel d)
    (hj : ∀ j ∈ s.jobs, j.slot ≠ aModel d) :
    Does (.admUnloadModel rq d) s (admEnded { s with models := tdel s.models (aModel d) } d .ok) := by
  refine does_ended h rfl (by decide) (by decide)
    (fun e he => runAdm_unloadModel he (admEarlier_slot (.inr rfl) ha hj) h.fields (aOp_admDesc 5 d (by decide))) (fun e => ?_) rfl rfl
  rw [unloadModelCmd_held (d := admDesc 5 d) (by rwa [aModel_admDesc]), aModel_admDesc]

theorem loadRowCmd_held (hm : (getModel s (aModel d)).state = 1) (hrow : aRow d ≤ 9) (hns : fld d.w1 63 32 ≤ fld d.w2 31 0) :
    loadRowCmd d (admHeld c s) =
      (.ok, admHeld c (modModel s (aModel d) (fun x => { x with rows := tput x.rows (aRow d) { getRow x (aRow d) with
        stepNs := fld d.w1 63 32, rerunNs := fld d.w1 31 0, pinNs := fld d.w2 63 32, allWideNs := fld d.w2 31 0, missNs := fld d.w3 31 0
        loaded := true } }))) := by
  refine if_neg ?_
  rw [show (getModel (admHeld c s) (aModel d)).state = 1 from hm]
  simp [Nat.not_lt.2 hrow, Nat.not_lt.2 hns]

theorem loadRow_ends (h : AdmRuns 6 rq d s) (hm : (getModel s (aModel d)).state = 1) (hrow : aRow d ≤ 9) (hns : fld d.w1 63 32 ≤ fld d.w2 31 0) :
    Does (.admLoadRow rq d) s (admEnded (modModel s (aModel d) (fun x => { x with rows := tput x.rows (aRow d) { getRow x (aRow d) with
      stepNs := fld d.w1 63 32, rerunNs := fld d.w1 31 0, pinNs := fld d.w2 63 32, allWideNs := fld d.w2 31 0, missNs := fld d.w3 31 0
      loaded := true } })) d .ok) := by
  have hearlier : admEarlier (admDesc 6 d) s = none := by simp [admEarlier, aOp_admDesc]
  refine does_ended h rfl (by decide) (by decide)
    (fun e he => runAdm_loadRow he hearlier h.fields (aOp_admDesc 6 d (by decide))) (fun e => ?_) rfl rfl
  rw [loadRowCmd_held (d := admDesc 6 d) (by rwa [aModel_admDesc]) (by rwa [aRow_admDesc])
    (by rwa [w1_admDesc, w2_admDesc]), aModel_admDesc, aRow_admDesc, w1_admDesc, w2_admDesc, w3_admDesc]

theorem admUnpinCmd_held (ht : (getTin s (aTin d)).state ≠ .free) : admUnpinCmd d (admHeld c s) =
    (.ok, admHeld c (modTin s (aTin d) (fun x =>
      if bit d.w1 16 then { x with pins := [], pinAll := false } else { x with pins := x.pins.filter (· != fld d.w1 15 0) }))) :=
  if_neg ht

theorem admUnpin_ends (h : AdmRuns 8 rq d s) (ht : (getTin s (aTin d)).state ≠ .free) :
    Does (.admUnpin rq d) s (admEnded (modTin s (aTin d) (fun x =>
      if bit d.w1 16 then { x with pins := [], pinAll := false } else { x with pins := x.pins.filter (· != fld d.w1 15 0) })) d .ok) := by
  have hearlier : admEarlier (admDesc 8 d) s = none := by simp [admEarlier, aOp_admDesc]
  refine does_ended h rfl (by decide) (by decide)
    (fun e he => runAdm_unpin he hearlier h.fields (aOp_admDesc 8 d (by decide))) (fun e => ?_) rfl rfl
  rw [admUnpinCmd_held (d := admDesc 8 d) (by rwa [aTin_admDesc]), aTin_admDesc, w1_admDesc]

/-! ## CLOSE_STREAM with a step outstanding (R252) -/

/-- A stream's entry with one more command that waits for its end. -/
def closingFor (id : Nat) (x : Stream) : Stream := { x with closeCmd := x.closeCmd ++ [id] }

/-- The state in which the controller's only command, `c`, waits at a stage. -/
def admAt (n : Nat) (c : AdmCmd) (s : State) : State :=
  { s with nextId := s.nextId + 1, adm := { s.adm with queue := [{ c with stage := n }] } }

theorem admAt_eq (n : Nat) (c : AdmCmd) (s : State) : modAdmCmd c.id (fun c => { c with stage := n }) (admHeld c s) = ends .ok (admAt n c s) := by
  simp [modAdmCmd, admHeld, admAt, ends]

theorem closeStreamCmd_waits {e : Nat} (he : fld c.desc.w1 15 0 = e) (ht : (getStream s e).tin = aTin c.desc)
    (hst : (getStream s e).state = .due ∨ (getStream s e).state = .running) :
    closeStreamCmd c (admHeld c s) = ends .ok (modStream (admAt 2 c s) e (closingFor c.id)) := by
  have hheld : getStream (admHeld c s) e = getStream s e := rfl
  have htin : (aTin c.desc != aTin c.desc) = false := bne_self_eq_false _
  unfold closeStreamCmd
  rw [admAt_eq, he]
  rcases hst with hst | hst <;>
    simp only [hheld, hst, ht, htin, reduceCtorEq, decide_false, Bool.or_false, Bool.false_eq_true, if_false] <;> rfl

theorem admEarlier_closeStream (ha : (getTin s (aTin d)).state = .active) : admEarlier (admDesc 9 d) s = none := by
  simp [admEarlier, aOp_admDesc, ha]

theorem closeStream_waits {e : Nat} (he : fld d.w1 15 0 = e) (h : AdmRuns 9 rq d s) (ha : (getTin s (aTin d)).state = .active)
    (ht : (getStream s e).tin = aTin d) (hst : (getStream s e).state = .due ∨ (getStream s e).state = .running) :
    ∃ u, Does (.admCloseStream rq d) s (ends .ok u) ∧ (getStream u e).closeCmd = (getStream s e).closeCmd ++ [s.nextId] ∧
      (getStream u e).state = (getStream s e).state := by
  obtain ⟨c, hc⟩ : ∃ c, c = admCmd rq (admDesc 9 d) ⟨0, 0, 0⟩ s := ⟨_, rfl⟩
  have hdesc : c.desc = admDesc 9 d := by rw [hc, desc_admCmd]
  have hid : c.id = s.nextId := congrArg AdmCmd.id hc
  have hclose : closeStreamCmd c (admHeld c s) = ends .ok (modStream (admAt 2 c s) e (closingFor c.id)) :=
    closeStreamCmd_waits (by rwa [hdesc, w1_admDesc]) (by rwa [hdesc, aTin_admDesc]) hst
  have hown : getStream (modStream (admAt 2 c s) e (closingFor c.id)) e = closingFor s.nextId (getStream s e) := hid ▸ getStream_modStream _ _ _
  refine ⟨modStream (admAt 2 c s) e (closingFor c.id), does_of_runs h rfl (by decide) nofun (hc ▸ ?_), ?_⟩
  · exact (runAdm_closeStream hdesc (admEarlier_closeStream ha) h.fields (aOp_admDesc 9 d (by decide))).trans hclose
  · rw [hown]
    exact ⟨rfl, rfl⟩

/-! ## The end of a registration (R114, R230) -/

/-- An image that can be read and breaks no rule becomes runnable. -/
theorem registerEnd_ok {b h : List Byte} {i : KernelImage} {v : State} (hh : vaRead s (aTin c.desc) (fld c.desc.w1 47 0) 128 = some h)
    (hi : i = imageOf (aTin c.desc) (fld c.desc.w1 47 0) h) (hb : vaRead s (aTin c.desc) (fld c.desc.w1 47 0) i.imageBytes = some b)
    (hbad : imageBad (isLoader c.who) i b = false) (hk : ∀ k ∈ s.kernels, k.space = aTin c.desc → k.kernelId ≠ i.kernelId)
    (hn : (s.kernels.filter (fun k => k.space == aTin c.desc)).length < 1024) (ht : vaTrains s (aTin c.desc) (fld c.desc.w1 47 0) 128 = false)
    (ht' : vaTrains s (aTin c.desc) (fld c.desc.w1 47 0) i.imageBytes = false)
    (hv : v = vaSeen (ownCore s / 64) (aTin c.desc) (fld c.desc.w1 47 0) i.imageBytes s) :
    registerEnd c .ok s = admFinish c.id .ok { v with kernels := s.kernels ++ [i] } := by
  subst hi
  have hmine : (s.kernels.filter (fun k => k.space == aTin c.desc)).any
      (fun k => k.kernelId == (imageOf (aTin c.desc) (fld c.desc.w1 47 0) h).kernelId) = false := by
    rw [List.any_eq_false]
    intro k hm hid
    obtain ⟨hm, hspace⟩ := List.mem_filter.1 hm
    exact hk k hm (by simpa using hspace) (by simpa using hid)
  have hkernels : v.kernels = s.kernels := hv ▸ (touched_vaSeen _ _ _ _ s).kernels
  simp only [registerEnd, show codeFailed .ok = false from rfl, ht, hh, ht', hb, hbad, hmine, Nat.not_le.2 hn, ← hv, hkernels, Bool.false_eq_true,
    if_false, Bool.false_or, decide_false]

end

end Sys2Proof.Proofs

namespace Sys2Proof.Proofs

open Sys2Proof Sys2Proof.Machine Sys2Proof.Spec

/-! ## WITHDRAW_TIN (R252) -/

/-- What a tin's entry holds of its withdrawal: its state, when the withdrawal began, and the commands that wait for its end. -/
def withdrawal (x : Tin) : TinState × Nat × List Nat := (x.state, x.withdrawAt, x.withdrawCmd)

/-- From `s` to `u` no tin's withdrawal begins or ends. -/
def TinsStay (s u : State) : Prop := ∀ t, withdrawal (getTin u t) = withdrawal (getTin s t)

section
variable {s u v : State}

theorem TinsStay.refl (s : State) : TinsStay s s := fun _ => rfl

theorem TinsStay.trans (h : TinsStay s u) (g : TinsStay u v) : TinsStay s v := fun t => (g t).trans (h t)

theorem TinsStay.same (h : TinsStay s u) (ht : v.tins = u.tins) : TinsStay s v := fun t => by rw [getTin, ht, ← h t, getTin]

theorem TinsStay.kept (h : TinsStay s u) (g : Keeps (shelfOf u) v) : TinsStay s v := fun t =>
  (congrArg withdrawal (a₁ := staying (getTin v t)) (a₂ := staying (getTin u t)) (g.tins t)).trans (h t)

theorem TinsStay.modTin {t : Nat} {f : Tin → Tin} (h : TinsStay s u) (hf : ∀ x, withdrawal (f x) = withdrawal x) : TinsStay s (modTin u t f) := by
  intro k
  rw [← h k, Machine.modTin, getTin]
  by_cases hk : k = t
  · subst hk
    rw [Laws.tget_tput_same, hf]
  · rw [Laws.tget_tput_other _ _ _ hk, getTin]

theorem TinsStay.ite {p : Prop} [Decidable p] (h : TinsStay s u) (g : TinsStay s v) : TinsStay s (if p then u else v) := by
  split
  · exact h
  · exact g

theorem TinsStay.foldl {α : Type} {f : State → α → State} (hf : ∀ v a, TinsStay s v → TinsStay s (f v a)) {l : List α} (h : TinsStay s u) :
    TinsStay s (l.foldl f u) := by
  induction l generalizing u with
  | nil => exact h
  | cons a l ih => exact ih (hf u a h)

theorem TinsStay.modStream {e : Nat} {f : Stream → Stream} (h : TinsStay s u) : TinsStay s (modStream u e f) := h.same rfl

theorem TinsStay.modJob {n : Nat} {f : Job → Job} (h : TinsStay s u) : TinsStay s (modJob u n f) := h.same rfl

theorem TinsStay.killJob {n : Nat} (h : TinsStay s u) : TinsStay s (killJob n u) := h.same (jobsStay_killJob n u).tins

theorem TinsStay.admFinish {id : Nat} {code : Code} (h : TinsStay s u) : TinsStay s (admFinish id code u) := by
  unfold Machine.admFinish
  split
  · exact h
  · exact h.same rfl

theorem TinsStay.freeStream {e : Nat} (h : TinsStay s u) : TinsStay s (freeStream e u) := by
  have hreplied (v : State) (q : Nat × Nat × Word) (hv : TinsStay s v) : TinsStay s
      (admReply q.1 q.2.1 3 .ok e 0 q.2.2 (freeWord v).1.toNat (freeWord v).2) :=
    hv.kept (keeps_admReply (keeps_freeWord (keeps_self v)))
  unfold Machine.freeStream
  refine .ite (.kept ?_ (keeps_adapterPin rfl (keeps_self _))) ?_ <;>
    exact .modTin (.same (.foldl (fun _ _ => .admFinish) (.foldl hreplied h)) rfl) fun _ => by rfl

theorem TinsStay.finishStep {e : Nat} {code : Code} {b : Bool} (h : TinsStay s u) : TinsStay s (finishStep e code b u) := by
  unfold Machine.finishStep
  refine .ite (.freeStream ?_) ?_ <;>
    exact .modStream (.kept (.modStream (.ite (.kept (.kept h (keeps_conditionEvents (keeps_self u))) (keeps_deadlineMiss (keeps_self _)))
      (.kept h (keeps_conditionEvents (keeps_self u))))) (keeps_sendCompletion (keeps_self _)))

theorem TinsStay.splitTune {j : Job} {t : Nat} (h : TinsStay s u) : TinsStay s (splitTune j t u) := by
  unfold Machine.splitTune
  exact .killJob (.modJob (.foldl (fun _ _ hv => .modStream hv) h))

/-- After the tin's own mark, what a withdrawal does leaves every tin's withdrawal as it is. -/
theorem tinsStay_withdrawTin (t : Nat) (s : State) :
    TinsStay (modTin s t (fun x => { x with state := .withdrawing, withdrawAt := s.now })) (withdrawTin t s) := by
  unfold withdrawTin
  refine .foldl (fun v p hv => .finishStep (.modStream hv)) (.foldl (fun v j hv => ?_) (.refl _))
  exact .ite hv (.ite hv (.ite (.splitTune hv) (.ite (.killJob (.modJob hv)) (.modJob hv))))

theorem withdrawTin_marks (t : Nat) (s : State) : withdrawal (getTin (withdrawTin t s) t) = (.withdrawing, s.now, (getTin s t).withdrawCmd) := by
  rw [tinsStay_withdrawTin t s t, modTin, getTin, Laws.tget_tput_same]
  rfl

end

section
variable {rq : Requester} {d : CmdDesc} {s : State} {c : AdmCmd}

/-- A tin with one more command that waits for its drain. -/
def drainingFor (id : Nat) (x : Tin) : Tin := { x with withdrawCmd := x.withdrawCmd ++ [id] }

theorem withdrawTinCmd_active {t : Nat} (ht : aTin c.desc = t) (ha : (getTin s t).state = .active) :
    withdrawTinCmd c (admHeld c s) = withdrawTin t (modTin (ends .ok (admAt 2 c s)) t (drainingFor c.id)) := by
  have hheld : getTin (admHeld c s) t = getTin s t := rfl
  unfold withdrawTinCmd
  dsimp only
  rw [admAt_eq, ht, hheld, ha]
  rfl

theorem withdrawTin_begins {t : Nat} (ht : aTin d = t) (h : AdmRuns 2 rq d s) (ha : (getTin s t).state = .active) :
    ∃ u, Does (.admWithdrawTin rq d) s u ∧ (getTin u t).state = .withdrawing ∧ (getTin u t).withdrawAt = s.now ∧ s.nextId ∈ (getTin u t).withdrawCmd := by
  obtain ⟨c, hc⟩ : ∃ c, c = admCmd rq (admDesc 2 d) ⟨0, 0, 0⟩ s := ⟨_, rfl⟩
  have hdesc : c.desc = admDesc 2 d := by rw [hc, desc_admCmd]
  have hid : c.id = s.nextId := congrArg AdmCmd.id hc
  have hearlier : admEarlier (admDesc 2 d) s = none := by simp [admEarlier, aOp_admDesc]
  have hbegins : withdrawTinCmd c (admHeld c s) = withdrawTin t (modTin (ends .ok (admAt 2 c s)) t (drainingFor c.id)) :=
    withdrawTinCmd_active (by rwa [hdesc, aTin_admDesc]) ha
  have hmarks := withdrawTin_marks t (modTin (ends .ok (admAt 2 c s)) t (drainingFor c.id))
  have hown : getTin (modTin (ends .ok (admAt 2 c s)) t (drainingFor c.id)) t = drainingFor s.nextId (getTin s t) :=
    hid ▸ Laws.tget_tput_same _ _ _ _
  simp only [withdrawal, hown, Prod.mk.injEq] at hmarks
  obtain ⟨hstate, hat, hcmd⟩ := hmarks
  refine ⟨_, does_of_runs h rfl (by decide) nofun (hc ▸ ?_), hstate, hat, hcmd ▸ List.mem_append_right _ (List.mem_singleton_self _)⟩
  exact (runAdm_withdrawTin hdesc hearlier h.fields (aOp_admDesc 2 d (by decide))).trans hbegins

end

end Sys2Proof.Proofs

namespace Sys2Proof.Proofs

open Sys2Proof Sys2Proof.Machine Sys2Proof.Spec

/-! ## Reads of bytes do not depend on the controller's queue -/

section
variable (c : AdmCmd)

theorem counterBump_held (key i : Nat) (s : State) :
    counterBump (admHeld c s) key i = (admHeld c (counterBump s key i).1, (counterBump s key i).2) := by
  unfold counterBump
  dsimp only
  split <;> rename_i h
  · exact (if_pos (show (getCounter s key).value.toNat + i < 2 ^ 48 from h)).symm ▸ rfl
  · exact (if_neg (show ¬ (getCounter s key).value.toNat + i < 2 ^ 48 from h)).symm ▸ rfl

theorem stageRaw_held (e : EvRec) (s : State) : stageRaw (admHeld c s) e = admHeld c (stageRaw s e) := by
  have htakes : stageTakes (admHeld c s) e = stageTakes s e := rfl
  have hadd (u : State) (e : EvRec) : stageAdd (admHeld c u) e = admHeld c (stageAdd u e) := rfl
  unfold stageRaw
  rw [htakes, hadd, counterBump_held]
  split
  · rfl
  · rcases counterBump (stageAdd s e) (droppedKey e.srcTile) 1 with ⟨u, b⟩
    cases b <;> rfl

theorem count_held (key i : Nat) (s : State) : count key i (admHeld c s) = admHeld c (count key i s) := by
  unfold count
  rw [counterBump_held]
  split
  · rfl
  · rcases counterBump s key i with ⟨u, b⟩
    cases b
    · rfl
    · exact stageRaw_held c _ u

theorem raise_held (e : EvRec) (s : State) : raise e (admHeld c s) = admHeld c (raise e s) := by
  have hmark (u : State) : markFault e.srcTile (admHeld c u) = admHeld c (markFault e.srcTile u) := rfl
  unfold raise
  dsimp only
  rw [stageRaw_held]
  split
  · exact hmark _
  · rfl

theorem lineFailed_held (key line : Nat) (s : State) : lineFailed key (admHeld c s) line = admHeld c (lineFailed key s line) := by
  unfold lineFailed sliceFault countSlice
  dsimp only
  rw [← raise_held, ← count_held]
  rfl

/-- A fold of which every step leaves the controller's queue out of account does so as a whole. -/
theorem foldl_held {α : Type} {f : State → α → State} (hf : ∀ s x, f (admHeld c s) x = admHeld c (f s x)) (l : List α) (s : State) :
    l.foldl f (admHeld c s) = admHeld c (l.foldl f s) := by
  induction l generalizing s with
  | nil => rfl
  | cons x l ih => rw [List.foldl_cons, hf, ih, List.foldl_cons]

theorem sliceLoad_held (key off n : Nat) (s : State) : (sliceLoad key off n (admHeld c s)).2.2 = admHeld c (sliceLoad key off n s).2.2 :=
  foldl_held c (fun u l => lineFailed_held c key l u) (badLines s key off n) (sliceAccess key (cdiv (off % 128 + n) 128) s)

theorem walkPoisoned_held (tile space va : Nat) (s : State) :
    walkPoisoned tile space va (admHeld c s) = admHeld c (walkPoisoned tile space va s) := by
  have hline (u : State) (l : Nat × Nat) : (if sliceOut (admHeld c u) l.1 then admHeld c u else lineFailed l.1 (admHeld c u) l.2) =
      admHeld c (if sliceOut u l.1 then u else lineFailed l.1 u l.2) := by
    rw [lineFailed_held, show sliceOut (admHeld c u) l.1 = sliceOut u l.1 from rfl]
    split <;> rfl
  have hbad : walkBad (admHeld c s) space va = walkBad s space va := rfl
  unfold walkPoisoned
  dsimp only
  rw [hbad, foldl_held c hline, ← raise_held]
  rfl

theorem vaSeen_held (tile space va n : Nat) (s : State) : vaSeen tile space va n (admHeld c s) = admHeld c (vaSeen tile space va n s) := by
  have hpart (u : State) (p : Nat × Nat × Nat) : (if sliceOut (admHeld c u) p.1 then admHeld c u else (sliceLoad p.1 p.2.1 p.2.2 (admHeld c u)).2.2) =
      admHeld c (if sliceOut u p.1 then u else (sliceLoad p.1 p.2.1 p.2.2 u).2.2) := by
    rw [sliceLoad_held, show sliceOut (admHeld c u) p.1 = sliceOut u p.1 from rfl]
    split <;> rfl
  have hparts : vaParts (admHeld c s) space va n = vaParts s space va n := rfl
  have hwalk (u : State) (a : Nat) : walk (admHeld c u) space a .load true = walk u space a .load true := rfl
  unfold vaSeen
  dsimp only
  rw [hparts, foldl_held c hpart]
  simp only [hwalk]
  exact foldl_held c (fun u i => walkPoisoned_held c tile space _ u) _ _

theorem readSpace_held (space va n : Nat) (s : State) : readSpace (admHeld c s) space va n = readSpace s space va n := rfl

end

/-! ## LOAD_MODEL (R229, Tables 7.7, 7.8) -/

/-- A slot takes a model that serves from space `sp` on the tiles of `mask`, with its plan and its batch buffer at these addresses. -/
structure SlotTakes (m sp : Nat) (mask : BitVec 24) (plan batch : Nat) (s : State) : Prop where
  space : (getSpace s sp).isSome = true
  tin : (getTin s sp).state = .free
  tiles : mask ≠ 0
  plan : plan < 2 ^ 48
  batch : batch % 65536 = 0
  service : ∀ t : Fin 24, bit mask t.val = true → (getTile s t.val).inService = true
  apart : ∀ p ∈ s.models, p.2.state ≠ 0 → p.1 ≠ m → p.2.mask = mask ∨ p.2.mask &&& mask = 0

section
variable {m sp : Nat} {mask : BitVec 24} {plan batch : Nat} {s : State}

theorem SlotTakes.tilesServe (h : SlotTakes m sp mask plan batch s) : (upto 24).any (fun t => bit mask t && !(getTile s t).inService) = false := by
  rw [List.any_eq_false]
  intro t ht hbad
  simp only [Bool.and_eq_true, Bool.not_eq_true'] at hbad
  exact absurd (h.service ⟨t, List.mem_range.1 ht⟩ hbad.1) (by rw [hbad.2]; exact Bool.false_ne_true)

theorem SlotTakes.othersApart (h : SlotTakes m sp mask plan batch s) :
    (s.models.filter (fun p => p.2.state != 0 && p.1 != m)).any (fun p => p.2.mask != mask && p.2.mask &&& mask != 0) = false := by
  rw [List.any_eq_false]
  intro p hp hbad
  obtain ⟨hp, hother⟩ := List.mem_filter.1 hp
  simp only [Bool.and_eq_true, bne_iff_ne] at hbad hother
  exact (h.apart p hp hother.1 hother.2).elim hbad.1 hbad.2

theorem SlotTakes.passes (h : SlotTakes m sp mask plan batch s) : ((getSpace s sp).isNone || (getTin s sp).state != .free || mask == 0 ||
    decide (2 ^ 48 ≤ plan) || batch % 65536 != 0 || (upto 24).any (fun t => bit mask t && !(getTile s t).inService) ||
    (s.models.filter (fun p => p.2.state != 0 && p.1 != m)).any (fun p => p.2.mask != mask && p.2.mask &&& mask != 0)) = false := by
  have hspace : (getSpace s sp).isNone = false := by rw [← Option.not_isSome, h.space]; rfl
  have hmask : (mask == 0) = false := beq_eq_false_iff_ne.2 h.tiles
  rw [h.tilesServe, h.othersApart, hspace, h.tin, hmask, h.batch, decide_eq_false (Nat.not_le.2 h.plan)]
  rfl

/-- The model that a plan makes (Tables 7.7, 7.8). -/
def planModel (sp : Nat) (mask : BitVec 24) (plan batch : Nat) (b : List Byte) : Model :=
  { modelInit with
    state := 1, space := sp, mask := mask, planVa := plan, batchVa := batch
    ops := (upto (plField b 4 2)).map (fun i => planOpOf ((b.drop (16 + 32 * i)).take 32)), replyTile := plField b 6 1, replyCore := plField b 7 1 }

theorem Touched.planBad {u : State} (h : Touched s u) (b : List Byte) : planBad u sp mask b = planBad s sp mask b := by
  unfold Machine.planBad
  rw [h.kernels]

theorem loadModel_loads {c : AdmCmd} {d : CmdDesc} {h b : List Byte} {v w : State} (hd : c.desc = d)
    (ht : SlotTakes (aModel d) (fld d.w3 11 0) (BitVec.ofNat 24 (fld d.w3 63 40)) d.w1.toNat d.w2.toNat s)
    (hh : readSpace s (fld d.w3 11 0) d.w1.toNat 16 = .ready h) (h1 : 1 ≤ plField h 4 2) (h2 : plField h 4 2 ≤ 1024)
    (hv : v = vaSeen (ownCore s / 64) (fld d.w3 11 0) d.w1.toNat 16 s)
    (hw : w = vaSeen (ownCore v / 64) (fld d.w3 11 0) d.w1.toNat (16 + 32 * plField h 4 2) v)
    (hb : readSpace v (fld d.w3 11 0) d.w1.toNat (16 + 32 * plField h 4 2) = .ready b)
    (hp : planBad s (fld d.w3 11 0) (BitVec.ofNat 24 (fld d.w3 63 40)) b = false) :
    loadModel c (admHeld c s) = admFinish c.id .ok (admHeld c { w with
      models := tput w.models (aModel d) (planModel (fld d.w3 11 0) (BitVec.ofNat 24 (fld d.w3 63 40)) d.w1.toNat d.w2.toNat b) }) := by
  subst hd
  have htouched : Touched s w := hw ▸ (hv ▸ touched_vaSeen _ _ _ _ s : Touched s v).trans (touched_vaSeen _ _ _ _ v)
  have hown (u : State) : ownCore (admHeld c u) = ownCore u := rfl
  have hplan (u : State) (b : List Byte) : planBad (admHeld c u) (fld c.desc.w3 11 0) (BitVec.ofNat 24 (fld c.desc.w3 63 40)) b =
    planBad u (fld c.desc.w3 11 0) (BitVec.ofNat 24 (fld c.desc.w3 63 40)) b := rfl
  have hheld : SlotTakes (aModel c.desc) (fld c.desc.w3 11 0) (BitVec.ofNat 24 (fld c.desc.w3 63 40)) c.desc.w1.toNat c.desc.w2.toNat (admHeld c s) :=
    ⟨ht.space, ht.tin, ht.tiles, ht.plan, ht.batch, ht.service, ht.apart⟩
  simp only [loadModel]
  rw [if_neg (Bool.eq_false_iff.1 hheld.passes), readSpace_held, hh]
  simp only [Nat.ne_of_gt h1, Nat.not_lt.2 h2, hown, vaSeen_held, ← hv, if_false, decide_false, Bool.or_false, Bool.false_eq_true]
  rw [readSpace_held, hb]
  simp only [← hw, hplan, htouched.planBad, hp, Bool.false_eq_true, if_false]
  rfl

end

theorem loadModelCommand : Spec.LoadModel := by
  intro rq d s h b hruns haccepted hjobs hspace htin hmask hplan hbatch hservice hapart hh h1 h2 v w hv hw hb hp
  have htakes : SlotTakes (aModel d) (fld d.w3 11 0) (BitVec.ofNat 24 (fld d.w3 63 40)) d.w1.toNat d.w2.toNat s :=
    ⟨hspace, htin, hmask, hplan, hbatch, hservice, hapart⟩
  have htouched : Touched s w := hw ▸ (hv ▸ touched_vaSeen _ _ _ _ s : Touched s v).trans (touched_vaSeen _ _ _ _ v)
  have hkeeps : Keeps (shelfOf s) w := hw ▸ keeps_vaSeen (hv ▸ keeps_vaSeen (keeps_self s))
  have hmodels : w.models = s.models := hkeeps.models
  obtain ⟨c, hc⟩ : ∃ c, c = admCmd rq (admDesc 4 d) ⟨0, 0, 0⟩ s := ⟨_, rfl⟩
  have hdesc : c.desc = admDesc 4 d := by rw [hc, desc_admCmd]
  have hloads := loadModel_loads (c := c) hdesc (by simpa using htakes) (by simpa using hh) h1 h2 (by simpa using hv) (by simpa using hw) (by simpa using hb)
    (by simpa using hp)
  refine does_of_runs hruns rfl (by decide) nofun ?_
  rw [← hc]
  refine (runAdm_loadModel hdesc (admEarlier_slot (.inl rfl) haccepted hjobs) hruns.fields (aOp_admDesc 4 d (by decide))).trans (hloads.trans ?_)
  rw [hc, hmodels, aModel_admDesc, w1_admDesc, w2_admDesc, w3_admDesc]
  exact admFinish_of_runs hruns (hkeeps.adm) (by rw [htouched.eq])

end Sys2Proof.Proofs

namespace Sys2Proof.Proofs

open Sys2Proof Sys2Proof.Machine Sys2Proof.Spec

/-! ## The PINs of a range of pages (R195, R230) -/

section
variable {s : State} {space va n : Nat}

theorem pkSpace_pkey {sp vpn : Nat} (b : Bool) (h : vpn < 2 ^ 32) : pkSpace (pkey sp vpn b) = sp := by
  unfold pkSpace pkey b2n
  split <;> omega

theorem pkSpace_leafKey {a : Nat} (h : a < 2 ^ 48) : pkSpace (leafKey s space a) = spaceOf space a := by
  unfold leafKey
  dsimp only
  split <;> exact pkSpace_pkey _ (by omega)

/-- A page below the shared half stands under its own space, one in it under space 0. -/
theorem spaceOf_lt {a : Nat} (h : space < 4096) : spaceOf space a < 4096 := by
  unfold spaceOf
  split
  · decide
  · exact h

theorem spaceOf_below {a : Nat} (h : a < 2 ^ 47) : spaceOf space a = space := by
  rw [spaceOf, Nat.testBit_lt_two_pow h]
  rfl

theorem mem_rangePages {a : Nat} (h : a ∈ rangePages va n) : a < va + n := by
  obtain ⟨i, hi, rfl⟩ := List.mem_map.1 h
  have := List.mem_range.1 hi
  omega

theorem mem_rangeKeys {k : Nat} (h : k ∈ rangeKeys s space va n) : ∃ a ∈ rangePages va n, leafKey s space a = k := by
  have hsub (l : List Nat) (hk : k ∈ l.foldr (fun k l => if l.head? = some k then l else k :: l) []) : k ∈ l := by
    induction l with
    | nil => exact hk
    | cons x l ih =>
      rw [List.foldr_cons] at hk
      split at hk
      · exact List.mem_cons_of_mem _ (ih hk)
      · exact (List.mem_cons.1 hk).elim (fun h => h ▸ List.mem_cons_self) fun h => List.mem_cons_of_mem _ (ih h)
  exact List.mem_map.1 (hsub _ h)

theorem rangeKeys_ne_nil (h : 0 < n) : rangeKeys s space va n ≠ [] := by
  have hfold (l : List Nat) (hl : l ≠ []) : l.foldr (fun k l => if l.head? = some k then l else k :: l) [] ≠ [] := by
    obtain ⟨x, l, rfl⟩ := List.exists_cons_of_ne_nil hl
    rw [List.foldr_cons]
    split
    · next hx => exact List.ne_nil_of_mem (List.mem_of_mem_head? hx)
    · exact List.cons_ne_nil _ _
  refine hfold _ fun hnil => ?_
  have hlen : (va % 65536 + n + 65535) / 65536 = 0 := by simpa [rangePages, upto] using hnil
  omega

theorem pageRuns_ne_nil {l : List Nat} (h : l ≠ []) : pageRuns l ≠ [] := by
  obtain ⟨k, l, rfl⟩ := List.exists_cons_of_ne_nil h
  unfold pageRuns
  split
  · split <;> exact List.cons_ne_nil _ _
  · exact List.cons_ne_nil _ _

/-- A run of pages lies in the space of one of them. -/
theorem pageRuns_space {P : Nat → Prop} {l : List Nat} (h : ∀ k ∈ l, P (pkSpace k)) : ∀ r ∈ pageRuns l, P r.2.1 := by
  induction l with
  | nil => exact fun r hr => absurd hr List.not_mem_nil
  | cons k l ih =>
    have hk := h k List.mem_cons_self
    have hl := ih fun x hx => h x (List.mem_cons_of_mem _ hx)
    intro r hr
    unfold pageRuns at hr
    split at hr
    · next b sp v n m hruns =>
      rw [hruns] at hl
      split at hr <;> rcases List.mem_cons.1 hr with rfl | hr
      · exact hl (b, sp, v, n) List.mem_cons_self
      · exact hl r (List.mem_cons_of_mem _ hr)
      · exact hk
      · exact hl r hr
    · cases List.mem_singleton.1 hr
      exact hk

/-! ### The descriptor of a PIN -/

theorem w0_pinDesc {sp : Nat} (h : sp < 4096) (a p : Nat) : (pinDesc 7 sp a p).w0.toNat = 7 * 2 ^ 56 + sp * 2 ^ 20 := by
  have hsum : (0 + 7 * 2 ^ 56 + sp * 2 ^ 20) % 2 ^ 64 = 7 * 2 ^ 56 + sp * 2 ^ 20 := by omega
  rw [← hsum, ← Nat.shiftLeft_eq, ← Nat.shiftLeft_eq]
  exact BitVec.toNat_ofNat _ _

theorem w0_runDesc {r : Bool × Nat × Nat × Nat} (h : r.2.1 < 4096) :
    ∃ b, b < 2 ∧ (runDesc 7 r).w0.toNat = 7 * 2 ^ 56 + b * 2 ^ 48 + r.2.1 * 2 ^ 20 := by
  unfold runDesc
  split
  · refine ⟨1, by decide, ?_⟩
    simp only [setFld, nbits, w0_pinDesc h, BitVec.toNat_ofNat, Nat.shiftLeft_eq, Nat.shiftRight_eq_div_pow]
    omega
  · exact ⟨0, by decide, by rw [w0_pinDesc h]; omega⟩

theorem rOp_runDesc {r : Bool × Nat × Nat × Nat} (h : r.2.1 < 4096) : rOp (runDesc 7 r) = 7 := by
  obtain ⟨b, hb, hw⟩ := w0_runDesc h
  simp only [rOp, fld, nbits, hw, Nat.shiftRight_eq_div_pow]
  omega

theorem rSpace_runDesc {r : Bool × Nat × Nat × Nat} (h : r.2.1 < 4096) : rSpace (runDesc 7 r) = r.2.1 := by
  obtain ⟨b, hb, hw⟩ := w0_runDesc h
  simp only [rSpace, fld, nbits, hw, Nat.shiftRight_eq_div_pow]
  omega

/-- What a PIN of a range that ends at `e` asks for. -/
def PinsRange (space e : Nat) (d : CmdDesc) : Prop := rOp d = 7 ∧ (e ≤ 2 ^ 47 → rSpace d = space)

theorem pinsRange_runDesc (hs : space < 4096) (he : va + n ≤ 2 ^ 48) : ∀ r ∈ pageRuns (rangeKeys s space va n), PinsRange space (va + n) (runDesc 7 r) := by
  have hspaces : ∀ r ∈ pageRuns (rangeKeys s space va n), r.2.1 < 4096 ∧ (va + n ≤ 2 ^ 47 → r.2.1 = space) := by
    refine pageRuns_space (P := fun x => x < 4096 ∧ (va + n ≤ 2 ^ 47 → x = space)) fun k hk => ?_
    obtain ⟨a, ha, rfl⟩ := mem_rangeKeys hk
    have hlt := mem_rangePages ha
    rw [pkSpace_leafKey (by omega)]
    exact ⟨spaceOf_lt hs, fun h => spaceOf_below (by omega)⟩
  exact fun r hr => ⟨rOp_runDesc (hspaces r hr).1, fun h => (rSpace_runDesc (hspaces r hr).1).trans ((hspaces r hr).2 h)⟩

end

/-! ### PINs that find the queue of their tile empty -/

section
variable {w : Shelf} {s : State} {op mark : Nat}

/-- The first command of the controller in an empty queue. -/
theorem keeps_resInternal_first {d : CmdDesc} (hd : FitsIn w (some mark) d) (hq : (getRes s w.tile).queue = []) (h : Keeps { w with cmd := none } s) :
    Keeps w (resInternal w.tile d mark s) := by
  refine keeps_stepCmd ⟨h.streams, h.models, h.adm, h.code, h.jobs, h.tins, ?_, fun _ => ?_⟩ <;> rw [modRes, putRes, Laws.tget_tput_same]
  · intro q hm
    rw [show (getRes { s with nextId := s.nextId + 1 } w.tile).queue = [] from hq, List.nil_append] at hm
    cases List.mem_singleton.1 hm
    exact hd
  · exact List.append_ne_nil_of_right_ne_nil _ (List.cons_ne_nil _ _)

theorem keeps_pinPages_first {pks : List Nat} (hn : pks ≠ []) (hd : ∀ r ∈ pageRuns pks, FitsIn w (some mark) (runDesc op r))
    (hq : (getRes s w.tile).queue = []) (h : Keeps { w with cmd := none } s) : Keeps w (pinPages w.tile op mark pks s) := by
  rw [pinPages_eq]
  obtain ⟨r, l, hruns⟩ := List.exists_cons_of_ne_nil (pageRuns_ne_nil hn)
  rw [hruns] at hd ⊢
  have hrest (l : List (Bool × Nat × Nat × Nat)) (hl : ∀ r ∈ l, FitsIn w (some mark) (runDesc op r)) (u : State) (hu : Keeps w u) :
      Keeps w (l.foldl (fun s r => resInternal w.tile (runDesc op r) mark s) u) := by
    induction l generalizing u with
    | nil => exact hu
    | cons x l ih =>
      exact ih (fun y hy => hl y (List.mem_cons_of_mem _ hy)) _ (keeps_resInternal (fun _ => hl x List.mem_cons_self) hu)
  exact hrest l (fun x hx => hd x (List.mem_cons_of_mem _ hx)) _ (keeps_resInternal_first (hd r List.mem_cons_self) hq h)

end

/-! ### The command -/

section
variable {rq : Requester} {d : CmdDesc} {s v : State} {c : AdmCmd}

/-- The state in which the controller's only command, `c`, waits for its PINs. -/
def admPins (c : AdmCmd) (left : Nat) (fresh : List Nat) (s : State) : State :=
  { s with nextId := s.nextId + 1, adm := { s.adm with queue := [{ c with stage := 1, left := left, fresh := fresh }] } }

theorem admPins_eq (c : AdmCmd) (left : Nat) (fresh : List Nat) (s : State) :
    modAdmCmd c.id (fun c => { c with stage := 1, left := left, fresh := fresh }) (admHeld c s) = ends .ok (admPins c left fresh s) := by
  simp [modAdmCmd, admHeld, admPins, ends]

/-- An image whose header can be read and whose range lies in the address space has its pages pinned. -/
theorem registerStart_pins {b : List Byte} {space va n : Nat} (hspace : aTin c.desc = space) (hva : fld c.desc.w1 47 0 = va) (h0 : c.stage = 0)
    (hlow : va + 128 ≤ 2 ^ 48) (hb : readSpace s space va 128 = .ready b) (hn : n = (imageOf space va b).imageBytes) (hmin : 128 ≤ n)
    (hmax : va + n ≤ 2 ^ 48) (hv : v = vaSeen (ownCore s / 64) space va 128 s) : ∃ left fresh, registerStart c (admHeld c s) =
      pinPages (ownCore v / 64) 7 (2 * c.id) (rangeKeys v space va n) (ends .ok (admPins c left fresh v)) := by
  have hqueue : (admHeld c s).adm.queue.any (fun x => aOp x.desc == 3 && aTin x.desc == space && x.stage == 1) = false := by
    rw [show (admHeld c s).adm.queue = [c] from rfl, List.any_cons, h0]
    simp
  have hown (u : State) : ownCore (admHeld c u) = ownCore u := rfl
  have hkeys : rangeKeys (admHeld c v) space va n = rangeKeys v space va n := rfl
  have hbytes : (decide (n < 128) || decide (2 ^ 48 < va + n)) = false := by
    rw [decide_eq_false (Nat.not_lt.2 hmin), decide_eq_false (Nat.not_lt.2 hmax)]
    rfl
  refine ⟨(pageRuns (rangeKeys v space va n)).length, (rangeKeys v space va n).filter (fun k => !(getPte (admHeld c v) k).pinned), ?_⟩
  simp only [registerStart, hspace, hva]
  rw [if_neg (Nat.not_lt.2 hlow), hqueue, if_neg Bool.false_ne_true, readSpace_held, hb]
  simp only [hown, vaSeen_held, ← hv, ← hn, hbytes, Bool.false_eq_true, if_false, hkeys]
  rw [admPins_eq]

theorem ends_ok_self {u : State} (h : u.lastCode = .ok) : ends .ok u = u := by
  rw [ends, ← h]

theorem registerKernel_pins (h : AdmRuns 3 rq d s) (hrq : aTin d ≠ 0 ∨ rq = .keeper) (hq : (getRes s (ownCore s / 64)).queue = []) {b : List Byte}
    {n : Nat} (hlow : fld d.w1 47 0 + 128 ≤ 2 ^ 48) (hb : readSpace s (aTin d) (fld d.w1 47 0) 128 = .ready b)
    (hn : n = (imageOf (aTin d) (fld d.w1 47 0) b).imageBytes) (hmin : 128 ≤ n) (hmax : fld d.w1 47 0 + n ≤ 2 ^ 48) :
    ∃ u c r, Does (.admRegisterKernel rq d) s (ends .ok u) ∧ u.adm.queue = [c] ∧ c.id = s.nextId ∧ c.stage = 1 ∧
      r ∈ (getRes u (ownCore s / 64)).queue ∧ r.admin = some (2 * s.nextId) ∧ PinsRange (aTin d) (fld d.w1 47 0 + n) r.desc := by
  obtain ⟨c, hc⟩ : ∃ c, c = admCmd rq (admDesc 3 d) ⟨0, 0, 0⟩ s := ⟨_, rfl⟩
  have hdesc : c.desc = admDesc 3 d := by rw [hc, desc_admCmd]
  have hid : c.id = s.nextId := congrArg AdmCmd.id hc
  obtain ⟨v, hv⟩ : ∃ v, v = vaSeen (ownCore s / 64) (aTin d) (fld d.w1 47 0) 128 s := ⟨_, rfl⟩
  have htouched : Touched s v := hv ▸ touched_vaSeen _ _ _ _ s
  have hown : ownCore v = ownCore s := by rw [htouched.eq]; rfl
  obtain ⟨left, fresh, hstart⟩ := registerStart_pins (c := c) (by rw [hdesc, aTin_admDesc]) (by rw [hdesc, w1_admDesc]) (congrArg AdmCmd.stage hc)
    hlow hb hn hmin hmax hv
  rw [hown] at hstart
  obtain ⟨w, hw⟩ : ∃ w : Shelf, w = { shelfOf (ends .ok (admPins c left fresh v)) with
    tile := ownCore s / 64, cmd := some (2 * c.id, PinsRange (aTin d) (fld d.w1 47 0 + n)) } := ⟨_, rfl⟩
  have htile : w.tile = ownCore s / 64 := by rw [hw]
  have hcmd : w.cmd = some (2 * c.id, PinsRange (aTin d) (fld d.w1 47 0 + n)) := by rw [hw]
  have hfits : ∀ r ∈ pageRuns (rangeKeys v (aTin d) (fld d.w1 47 0) n), FitsIn w (some (2 * c.id)) (runDesc 7 r) := fun r hr x hx => by
    rw [hcmd, Option.some_inj] at hx
    subst hx
    exact ⟨rfl, pinsRange_runDesc (fld_lt d.w0 43 32) hmax r hr⟩
  have hempty : (getRes (ends .ok (admPins c left fresh v)) w.tile).queue = [] := htile ▸ (htouched.queues _).trans hq
  have hkeeps := keeps_pinPages_first (rangeKeys_ne_nil (by omega)) hfits hempty
    (hw ▸ ⟨rfl, rfl, rfl, rfl, rfl, fun _ => rfl, fun _ _ _ hx => absurd hx nofun, fun hx => absurd rfl hx⟩)
  rw [htile, ← hstart] at hkeeps
  obtain ⟨r, l, hqueue⟩ := List.exists_cons_of_ne_nil (hkeeps.waits (by rw [hcmd]; exact nofun))
  have hr : r ∈ (tget resInit (registerStart c (admHeld c s)).res w.tile).queue := hqueue ▸ List.mem_cons_self
  obtain ⟨hmark, hpins⟩ := hkeeps.fits r hr _ hcmd
  have hcode : (registerStart c (admHeld c s)).lastCode = .ok := hkeeps.code.trans (by rw [hw]; rfl)
  have hadm : (registerStart c (admHeld c s)).adm = (admPins c left fresh v).adm := hkeeps.adm.trans (by rw [hw]; rfl)
  refine ⟨registerStart c (admHeld c s), _, r, does_of_runs h rfl (by decide) (fun _ => hrq) (hc ▸ ?_), congrArg Adm.queue hadm, hid, rfl,
    htile ▸ hr, hid ▸ hmark, hpins⟩
  rw [ends_ok_self hcode]
  exact runAdm_registerKernel hdesc (by simp [admEarlier, aOp_admDesc]) h.fields (aOp_admDesc 3 d (by decide))

end

end Sys2Proof.Proofs

namespace Sys2Proof.Proofs

open Sys2Proof Sys2Proof.Machine Sys2Proof.Spec

/-! ## The job steps of a MEASURE (R237, Table 7.11) -/

section
variable {s u v : State} {c : AdmCmd}

/-- How many positions the job step of a MEASURE has. -/
def calSize (row : Nat) : Nat := if row = 9 then 1 else 2 ^ row

theorem calRelease_unsteady (h : calSteady s (aModel c.desc) = false) : calRelease c s = s := by
  refine if_pos ?_
  rw [show calSteady s (fld c.desc.w0 55 50) = false from h]
  rfl

/-- No job of this state is a step of the command. -/
def NoStepOf (id : Nat) (s : State) : Prop := ∀ j ∈ s.jobs, ∀ q, j.cal = some q → q.1 ≠ id

theorem noStepOf_any {id : Nat} (h : NoStepOf id s) : s.jobs.any (fun j => j.cal.any (fun q => q.1 == id)) = false := by
  rw [List.any_eq_false]
  intro j hj hany
  cases hq : j.cal with
  | none => simp [hq] at hany
  | some q => exact h j hj q hq (by simpa [hq] using hany)

theorem calRelease_steady (h : calSteady s (aModel c.desc) = true) (hj : NoStepOf c.id s) : ∃ j v, Released j v (calRelease c s) ∧
    Keeps (shelfOf s) v ∧ brief j = (s.adm.nextJob, aModel c.desc, if aRow c.desc = 9 then 1 else 0, none,
      List.replicate (calSize (aRow c.desc)) ⟨0, aTin c.desc, .ok, false⟩, some (c.id, c.ran)) := by
  have hgoes : (!calSteady s (fld c.desc.w0 55 50) || s.jobs.any (fun j => j.cal.any (fun q => q.1 == c.id))) = false := by
    rw [show calSteady s (fld c.desc.w0 55 50) = true from h, noStepOf_any hj]
    rfl
  have hrun : calRelease c s = addJob { newJob s (aModel c.desc) (if aRow c.desc = 9 then 1 else 0)
      (List.replicate (calSize (aRow c.desc)) ⟨0, aTin c.desc, .ok, false⟩) with cal := some (c.id, c.ran) }
      (calGrow (aTin c.desc) (calSize (aRow c.desc)) s) := if_neg (by rw [hgoes]; exact Bool.false_ne_true)
  rw [hrun]
  exact ⟨_, _, released_addJob _ _, keeps_calGrow (keeps_self s), rfl⟩

/-- The release leaves models and the controller's queue as they are. -/
theorem calRelease_leaves (c : AdmCmd) (s : State) (hj : NoStepOf c.id s) :
    (calRelease c s).models = s.models ∧ (calRelease c s).adm.queue = s.adm.queue := by
  cases h : calSteady s (aModel c.desc) with
  | false =>
    rw [calRelease_unsteady h]
    exact ⟨rfl, rfl⟩
  | true =>
    obtain ⟨j, v, hrel, hkeeps, -⟩ := calRelease_steady h hj
    exact ⟨hrel.models.trans hkeeps.models, by rw [hrel.adm, hkeeps.adm]; rfl⟩

/-! ### MEASURE -/

/-- A row's own values under a floor: what an older floor measured is cleared. -/
def floorRow (floor : Nat) (b : BakeRow) : BakeRow :=
  { (if b.measMhz = floor then b else { b with measStepNs := 0, measRerunNs := 0 }) with measMhz := floor }

/-- A model whose row measures at a floor. -/
def atFloor (row floor : Nat) (x : Model) : Model := { x with rows := tput x.rows row (floorRow floor (getRow x row)) }

theorem getRow_atFloor (row floor : Nat) (x : Model) : getRow (atFloor row floor x) row = floorRow floor (getRow x row) :=
  Laws.tget_tput_same _ _ _ _

theorem measStepNs_floorRow (floor : Nat) (b : BakeRow) :
    (floorRow floor b).measStepNs = if b.measMhz = floor then b.measStepNs else 0 := by
  unfold floorRow
  dsimp only
  split <;> rfl

theorem calStart_eq (m : Nat) (s : State) : calStart m s = { s with tiles := (calStart m s).tiles } :=
  foldl_related (R := fun s u : State => u = { s with tiles := u.tiles }) (fun _ => rfl) (fun h g => by rw [g, h]) (fun _ _ => rfl) _ _

/-- The state in which a MEASURE's conditions are asked for. -/
def measuring (c : AdmCmd) (m row : Nat) (s : State) : State := calStart m (ends .ok (admAt 3 c (modModel s m (atFloor row (committedFloor s)))))

theorem measuring_eq (c : AdmCmd) (m row : Nat) (s : State) : measuring c m row s =
    { ends .ok (admAt 3 c (modModel s m (atFloor row (committedFloor s)))) with tiles := (measuring c m row s).tiles } := calStart_eq _ _

theorem calSteady_measuring (c : AdmCmd) (m row : Nat) (s : State) : calSteady (measuring c m row s) m = calSteady s m := by
  have hmodel : getModel (measuring c m row s) m = atFloor row (committedFloor s) (getModel s m) := by
    rw [measuring_eq]
    exact Laws.tget_tput_same _ _ _ _
  have hmask : maskTiles (getModel (measuring c m row s) m) = maskTiles (getModel s m) := by
    rw [hmodel]
    rfl
  have hgroup (t g : Nat) : getGroup (measuring c m row s) t g = getGroup s t g := by
    rw [measuring_eq]
    rfl
  have hfloor : committedFloor (measuring c m row s) = committedFloor s := by
    rw [measuring_eq]
    rfl
  simp only [calSteady, hmask, hgroup, hfloor]

theorem measureCmd_starts {m row : Nat} {tin : Nat} (hmodel : aModel c.desc = m) (hrow : aRow c.desc = row) (htin : aTin c.desc = tin)
    (hstate : (getModel s m).state = 1) (h9 : row ≤ 9) (hn : fld c.desc.w1 15 0 ≠ 0) (ht : (getTin s tin).state = .active) (h0 : c.stage = 0) :
    measureCmd c (admHeld c s) = calRelease c (measuring c m row s) := by
  have hpass : ((getModel (admHeld c s) m).state != 1 || decide (9 < row) || fld c.desc.w1 15 0 == 0 || (getTin (admHeld c s) tin).state != .active) =
      false := by
    rw [show (getModel (admHeld c s) m).state = 1 from hstate, show (getTin (admHeld c s) tin).state = .active from ht,
      decide_eq_false (Nat.not_lt.2 h9), beq_eq_false_iff_ne.2 hn]
    rfl
  have hqueue : (admHeld c s).adm.queue.any (fun x => x.stage == 3) = false := by
    rw [show (admHeld c s).adm.queue = [c] from rfl, List.any_cons, h0]
    rfl
  have hmod (f : Model → Model) : modModel (admHeld c s) m f = admHeld c (modModel s m f) := rfl
  have hfloor : committedFloor (admHeld c s) = committedFloor s := rfl
  unfold measureCmd
  simp only [hmodel, hrow, htin]
  rw [hpass, hqueue, if_neg Bool.false_ne_true, if_neg Bool.false_ne_true, hfloor, hmod, admAt_eq]
  rfl

end

section
variable {rq : Requester} {d : CmdDesc} {found : MeasureFound} {s : State}

theorem admEarlier_measure (h : groupPromised s (aModel d) = false) : admEarlier (admDesc 7 d) s = none := by
  simp [admEarlier, aOp_admDesc, h]

theorem measure_starts {m row tin : Nat} (h : AdmRuns 7 rq d s) (hmodel : aModel d = m) (hrow : aRow d = row) (htin : aTin d = tin)
    (hstate : (getModel s m).state = 1) (h9 : row ≤ 9) (hn : fld d.w1 15 0 ≠ 0) (ht : (getTin s tin).state = .active)
    (hg : groupPromised s m = false) (hj : NoStepOf s.nextId s) : ∃ u, Does (.measure rq d found) s u ∧
      (∃ c, u.adm.queue = [c] ∧ c.id = s.nextId ∧ c.stage = 3 ∧ c.found = found ∧ c.ran = 0) ∧
      getRow (getModel u m) row = floorRow (committedFloor s) (getRow (getModel s m) row) ∧
      (calSteady s m = false → u.jobs = s.jobs) ∧
      (calSteady s m = true → ∃ j ∈ u.jobs, brief j = (s.adm.nextJob, m, if row = 9 then 1 else 0, none,
        List.replicate (calSize row) ⟨0, tin, .ok, false⟩, some (s.nextId, 0))) := by
  obtain ⟨c, hc⟩ : ∃ c, c = admCmd rq (admDesc 7 d) found s := ⟨_, rfl⟩
  have hdesc : c.desc = admDesc 7 d := by rw [hc, desc_admCmd]
  have hid : c.id = s.nextId := congrArg AdmCmd.id hc
  have hran : c.ran = 0 := congrArg AdmCmd.ran hc
  have hm : aModel c.desc = m := by rw [hdesc, aModel_admDesc, hmodel]
  have hr : aRow c.desc = row := by rw [hdesc, aRow_admDesc, hrow]
  have ht' : aTin c.desc = tin := by rw [hdesc, aTin_admDesc, htin]
  have hrun := measureCmd_starts hm hr ht' hstate h9 (by rw [hdesc, w1_admDesc]; exact hn) ht (congrArg AdmCmd.stage hc)
  obtain ⟨v, hv⟩ : ∃ v, v = measuring c m row s := ⟨_, rfl⟩
  have hjobs : v.jobs = s.jobs := by rw [hv, measuring_eq]; rfl
  have hadm : v.adm = { s.adm with queue := [{ c with stage := 3 }] } := by rw [hv, measuring_eq]; rfl
  have hmodels : getModel v m = atFloor row (committedFloor s) (getModel s m) := by
    rw [hv, measuring_eq]
    exact Laws.tget_tput_same _ _ _ _
  have hsteady : calSteady v (aModel c.desc) = calSteady s m := by rw [hv, hm, calSteady_measuring]
  have hnone : NoStepOf c.id v := by rw [NoStepOf, hjobs, hid]; exact hj
  obtain ⟨hleft, hqueue⟩ := calRelease_leaves c v hnone
  refine ⟨calRelease c v, does_of_runs h rfl (by decide) nofun (hc ▸ ?_), ⟨{ c with stage := 3 }, ?_, hid, rfl, congrArg AdmCmd.found hc, hran⟩, ?_,
    fun hs => ?_, fun hs => ?_⟩
  · rw [runAdm_measure hdesc (admEarlier_measure (by rwa [hmodel])) h.fields (aOp_admDesc 7 d (by decide)), hrun, hv]
  · rw [hqueue, hadm]
  · rw [getModel, hleft, ← getModel, hmodels, getRow_atFloor]
  · rw [calRelease_unsteady (hsteady.trans hs), hjobs]
  · obtain ⟨j, w, hrel, hkeeps, hbrief⟩ := calRelease_steady (hsteady.trans hs) hnone
    obtain ⟨q, hq, hqj⟩ := hrel.mem
    refine ⟨q, hq, hqj.trans (hbrief.trans ?_)⟩
    rw [hadm, hm, hr, ht', hid, hran]

end

end Sys2Proof.Proofs

namespace Sys2Proof.Proofs

open Sys2Proof Sys2Proof.Machine Sys2Proof.Spec

/-! ## The end of a MEASURE's job step (R237) -/

/-- The controller's queue in which command `c` stands for the one of its number. -/
def putCmd (c : AdmCmd) (l : List AdmCmd) : List AdmCmd := l.map (fun x => if x.id = c.id then c else x)

theorem find_putCmd {c : AdmCmd} {l : List AdmCmd} (h : ∃ x ∈ l, x.id = c.id) : (putCmd c l).find? (fun x => x.id == c.id) = some c := by
  induction l with
  | nil => exact absurd h (by simp)
  | cons x l ih =>
    rw [putCmd, List.map_cons]
    split
    · next hx => simp
    · next hx =>
      rw [List.find?_cons_of_neg (by simpa using hx)]
      exact ih (by simpa [hx] using h)

theorem filter_putCmd (c : AdmCmd) (l : List AdmCmd) : (putCmd c l).filter (fun x => x.id != c.id) = l.filter (fun x => x.id != c.id) := by
  induction l with
  | nil => rfl
  | cons x l ih =>
    rw [putCmd, List.map_cons]
    split
    · next hx =>
      rw [List.filter_cons_of_neg (by simp), List.filter_cons_of_neg (by simp [hx])]
      exact ih
    · next hx =>
      rw [List.filter_cons_of_pos (by simpa using hx), List.filter_cons_of_pos (by simpa using hx)]
      exact congrArg _ ih

theorem codeMergeAll_ok {l : List Code} (h : ∀ x ∈ l, x = .ok) : codeMergeAll l = .ok := by
  rw [List.eq_replicate_iff.2 ⟨rfl, h⟩]
  generalize l.length = n
  induction n with
  | zero => rfl
  | succ n ih => exact ih

section
variable {s u : State} {c : AdmCmd} {j : Job}

/-- The command has run one more step. -/
def stepRan (c : AdmCmd) : AdmCmd := { c with ran := c.ran + 1 }

/-- The controller has counted a step of command `c`. -/
def stepCounted (c : AdmCmd) (s : State) : State := { s with adm := { s.adm with queue := putCmd (stepRan c) s.adm.queue } }

theorem calStepEnd_ok (hc : s.adm.queue.find? (fun x => x.id == c.id) = some c) (ht : (getTin s (aTin c.desc)).state = .active) :
    calStepEnd c.id .ok s = if fld c.desc.w1 15 0 ≤ c.ran + 1 then calDone (stepRan c) (stepCounted c s) else calRelease (stepRan c) (stepCounted c s) := by
  have htin : ((getTin (stepCounted c s) (fld c.desc.w0 43 32)).state != .active) = false := by
    rw [show (getTin (stepCounted c s) (fld c.desc.w0 43 32)).state = .active from ht]
    rfl
  unfold calStepEnd
  rw [hc]
  exact (if_neg (by decide)).trans (if_neg (Bool.eq_false_iff.1 htin))

theorem jobEndOp_step {n k : Nat} (hj : getJob s n = some j) (ho : jobOver j = true) (hc : j.cal = some (c.id, k)) (hcodes : ∀ x ∈ j.codes, x = .ok)
    (hp : ∀ q ∈ j.positions, q.code = .ok) (hr : j.rerun = false) : jobEndOp n s = calStepEnd c.id .ok (jobGone j s) := by
  have hbase : codeMerge (codeMergeAll j.codes) (if j.rerun then .wideRerun else .ok) = .ok := by
    rw [codeMergeAll_ok hcodes, hr]
    rfl
  have hcode : codeMergeAll (.ok :: j.positions.map (·.code)) = .ok :=
    codeMergeAll_ok (by simpa using hp)
  simp only [jobEndOp, hj, ho, hc, hbase, hcode, Option.isNone_some, Bool.not_true, Bool.false_and, Bool.or_false, Bool.false_eq_true, if_false]
  rfl

/-! ### The state that the job leaves -/

theorem logged_jobGone (j : Job) (s : State) : Logged { s with jobs := s.jobs.filter (fun q => q.num != j.num) } (jobGone j s) :=
  foldl_related Logged.refl Logged.trans (fun u _ => logged_count _ _ u) _ _

theorem calSteady_jobGone (j : Job) (s : State) (c : AdmCmd) (m : Nat) : calSteady (stepCounted c (jobGone j s)) m = calSteady s m := by
  have hlogged := logged_jobGone j s
  have hmodel : getModel (stepCounted c (jobGone j s)) m = getModel s m := by
    unfold stepCounted
    rw [hlogged]
    rfl
  have hgroup (t g : Nat) : getGroup (stepCounted c (jobGone j s)) t g = getGroup s t g := by
    unfold stepCounted
    rw [hlogged]
    rfl
  have hfloor : committedFloor (stepCounted c (jobGone j s)) = committedFloor s := by
    unfold stepCounted
    rw [hlogged]
    rfl
  simp only [calSteady, hmodel, hgroup, hfloor]

theorem mem_jobGone {x : Job} (hx : x ∈ (jobGone j s).jobs) : x.num ≠ j.num ∧ ∃ y ∈ s.jobs, y.num ≠ j.num ∧ x.cal = y.cal := by
  obtain ⟨y, hy, hxy⟩ := exists_unmarked (keeps_jobGone j s) hx
  have hnum : y.num ≠ j.num := by simpa using (List.mem_filter.1 hy).2
  exact ⟨jobGone_jobs hx, y, (List.mem_filter.1 hy).1, hnum, (congrArg Job.cal hxy).symm⟩

theorem admFinish_found {id : Nat} {code : Code} (h : s.adm.queue.find? (fun x => x.id == id) = some c) :
    (admFinish id code s).adm = { s.adm with
      queue := s.adm.queue.filter (fun x => x.id != id), statTag := BitVec.ofNat 16 c.tag, statCode := code, statSeq := s.adm.statSeq + 1 } ∧
    (admFinish id code s).models = s.models ∧ (admFinish id code s).jobs = s.jobs := by
  unfold admFinish
  rw [h]
  exact ⟨rfl, rfl, rfl⟩

/-- A model that keeps the largest values that a MEASURE found. -/
def keepFound (row : Nat) (f : MeasureFound) (x : Model) : Model :=
  { x with opMaxNs := max x.opMaxNs f.opMaxNs, rows := tput x.rows row { getRow x row with
    measStepNs := max (getRow x row).measStepNs f.stepNs, measRerunNs := max (getRow x row).measRerunNs f.rerunNs } }

theorem calDone_ends (hc : s.adm.queue.find? (fun x => x.id == c.id) = some c) : (calDone c s).jobs = s.jobs ∧
    (calDone c s).adm = { s.adm with
      queue := s.adm.queue.filter (fun x => x.id != c.id), statTag := BitVec.ofNat 16 c.tag, statCode := .ok, statSeq := s.adm.statSeq + 1 } ∧
    getModel (calDone c s) (aModel c.desc) = keepFound (aRow c.desc) c.found (getModel s (aModel c.desc)) := by
  obtain ⟨hadm, hmodels, hjobs⟩ := admFinish_found (code := .ok)
    (s := modModel s (aModel c.desc) (keepFound (aRow c.desc) c.found)) (c := c) hc
  have hdone : calDone c s = admFinish c.id .ok (modModel s (aModel c.desc) (keepFound (aRow c.desc) c.found)) := rfl
  rw [hdone]
  refine ⟨hjobs, hadm, ?_⟩
  rw [getModel, hmodels]
  exact Laws.tget_tput_same _ _ _ _

/-- After a release each job was there before, or is the released one. -/
theorem Released.mem_old_or_new {v : State} {y : Job} (h : Released j v u) (hv : Keeps (shelfOf s) v) (hy : y ∈ u.jobs) :
    (∃ o ∈ s.jobs, y.num = o.num) ∨ brief y = brief j := by
  have hmem : brief y ∈ v.jobs.map brief ++ [brief j] := h.jobs ▸ List.mem_map_of_mem hy
  refine (List.mem_append.1 hmem).imp (fun hold => ?_) List.mem_singleton.1
  obtain ⟨z, hz, hzy⟩ := List.mem_map.1 hold
  obtain ⟨o, ho, hoz⟩ := exists_unmarked hv hz
  simp only [brief, Prod.mk.injEq] at hzy
  obtain ⟨hnum, -⟩ := hzy
  exact ⟨o, ho, hnum.symm.trans (num_of_unmarked hoz)⟩

theorem calSteps_end {num : BitVec 32} {k : Nat} (hj : getJob s num.toNat = some j) (ho : jobOver j = true) (hc : j.cal = some (c.id, k))
    (hq : s.adm.queue.find? (fun x => x.id == c.id) = some c) (hcodes : ∀ x ∈ j.codes, x = .ok) (hp : ∀ q ∈ j.positions, q.code = .ok)
    (hr : j.rerun = false) (hothers : ∀ x ∈ s.jobs, x.num ≠ num → ∀ q, x.cal = some q → q.1 ≠ c.id) (hsteady : calSteady s (aModel c.desc) = true)
    (ht : (getTin s (aTin c.desc)).state = .active) :
    (∀ x ∈ (jobEndOp num.toNat s).jobs, x.num ≠ num ∨ x.cal = some (c.id, c.ran + 1)) ∧
    (fld c.desc.w1 15 0 ≤ c.ran + 1 → (jobEndOp num.toNat s).adm = { s.adm with
        queue := s.adm.queue.filter (fun x => x.id != c.id), statTag := BitVec.ofNat 16 c.tag, statCode := .ok, statSeq := s.adm.statSeq + 1 } ∧
      getModel (jobEndOp num.toNat s) (aModel c.desc) = keepFound (aRow c.desc) c.found (getModel s (aModel c.desc))) ∧
    (c.ran + 1 < fld c.desc.w1 15 0 → ∃ x ∈ (jobEndOp num.toNat s).jobs, x.num = s.adm.nextJob ∧ x.cal = some (c.id, c.ran + 1) ∧
      x.slot = aModel c.desc) := by
  have hnum : j.num = num := BitVec.eq_of_toNat_eq (getJob_num hj)
  have hkeeps := keeps_jobGone j s
  have hadm : (jobGone j s).adm = s.adm := hkeeps.adm
  have hjobs : ∀ x ∈ (jobGone j s).jobs, x.num ≠ num := fun x hx => hnum ▸ jobGone_jobs hx
  have hactive : (getTin (jobGone j s) (aTin c.desc)).state = .active :=
    (congrArg Tin.state (a₁ := staying _) (a₂ := staying _) (staying_of_keeps hkeeps (aTin c.desc))).trans ht
  have hstep := calStepEnd_ok (c := c) (s := jobGone j s) (by rw [hadm]; exact hq) hactive
  rw [jobEndOp_step hj ho hc hcodes hp hr, hstep]
  by_cases hlast : fld c.desc.w1 15 0 ≤ c.ran + 1
  · have hfound : (stepCounted c (jobGone j s)).adm.queue.find? (fun x => x.id == (stepRan c).id) = some (stepRan c) :=
      find_putCmd ⟨c, hadm ▸ List.mem_of_find?_eq_some hq, rfl⟩
    obtain ⟨hdone, hposted, hkept⟩ := calDone_ends hfound
    rw [if_pos hlast]
    refine ⟨fun x hx => .inl (hjobs x (hdone ▸ hx)), fun _ => ⟨hposted.trans ?_, hkept.trans ?_⟩, fun h => absurd h (Nat.not_lt.2 hlast)⟩
    · unfold stepCounted
      rw [hadm]
      exact congrArg (fun l => { s.adm with queue := l, statTag := BitVec.ofNat 16 c.tag, statCode := .ok, statSeq := s.adm.statSeq + 1 })
        (filter_putCmd (stepRan c) s.adm.queue)
    · rw [show getModel (stepCounted c (jobGone j s)) (aModel (stepRan c).desc) = getModel s (aModel c.desc) from
        congrArg (fun l => tget modelInit l (aModel c.desc)) hkeeps.models]
      rfl
  · have hnone : NoStepOf (stepRan c).id (stepCounted c (jobGone j s)) := fun x hx q hxq => by
      obtain ⟨-, y, hy, hynum, hcal⟩ := mem_jobGone hx
      exact hothers y hy (hnum ▸ hynum) q (hcal ▸ hxq)
    obtain ⟨x, v, hrel, hv, hbrief⟩ := calRelease_steady (c := stepRan c) (s := stepCounted c (jobGone j s))
      ((calSteady_jobGone j s c _).trans hsteady) hnone
    simp only [brief, Prod.mk.injEq] at hbrief
    obtain ⟨bnum, bslot, -, -, -, bcal⟩ := hbrief
    rw [if_neg hlast]
    refine ⟨fun y hy => ?_, fun h => absurd h hlast, fun _ => ?_⟩
    · rcases hrel.mem_old_or_new hv hy with ⟨o, ho, hoy⟩ | hnew
      · exact .inl (hoy ▸ hjobs o ho)
      · simp only [brief, Prod.mk.injEq] at hnew
        obtain ⟨-, -, -, -, -, hcal⟩ := hnew
        exact .inr (hcal.trans bcal)
    · obtain ⟨y, hy, hyx⟩ := hrel.mem
      simp only [brief, Prod.mk.injEq] at hyx
      obtain ⟨ynum, yslot, -, -, -, ycal⟩ := hyx
      exact ⟨y, hy, (ynum.trans bnum).trans (hadm ▸ rfl), ycal.trans bcal, yslot.trans bslot⟩

end

/-! ## The admission commands (O53) -/

theorem commandsOfAdmission : Spec.CommandsOfAdmission := by
  intro rq d found s
  refine ⟨fun h h0 hs hm ha hv hg ho => setTin_ends h h0 hs hm ha hv hg ho, fun h ha => withdrawTin_begins rfl h ha, ?_, ?_,
    fun h hm ha hj => unloadModel_ends h hm ha hj, fun h hm hrow hns => loadRow_ends h hm hrow hns, ?_, ?_, fun h ht => admUnpin_ends h ht,
    fun h ha ht hst => closeStream_waits rfl h ha ht hst⟩
  · intro h hrq hq b hlow hb hmin hmax
    obtain ⟨u, c, r, hdoes, hqueue, hid, hstage, hr, hmark, hop, hspace⟩ := registerKernel_pins h hrq hq hlow hb rfl hmin hmax
    exact ⟨u, c, r, hdoes, hqueue, hid, hstage, hr, hmark, hop, hspace⟩
  · intro c b h i hh hi hb hbad hk hn ht ht' v hv
    exact registerEnd_ok hh hi hb hbad hk hn ht ht' hv
  · intro h hstate h9 hn ht hg hj
    obtain ⟨u, hdoes, hcmd, hrow, hwaits, hruns⟩ := measure_starts (found := found) h rfl rfl rfl hstate h9 hn ht hg hj
    refine ⟨u, hdoes, hcmd, by rw [hrow]; rfl, by rw [hrow, measStepNs_floorRow], hwaits, fun hs => ?_⟩
    obtain ⟨j, hj, hbrief⟩ := hruns hs
    simp only [brief, Prod.mk.injEq] at hbrief
    obtain ⟨hnum, hslot, hcls, -, hpos, hcal⟩ := hbrief
    exact ⟨j, hj, hnum, hslot, hcls, hcal, hpos⟩
  · intro num j c n hm hj ho hc hq hcodes hp hr hothers hsteady ht
    obtain ⟨hleft, hdone, hnext⟩ := calSteps_end hj ho hc hq hcodes hp hr hothers hsteady ht
    refine ⟨jobEndOp num.toNat s, does_onMain rfl hm rfl, hleft, fun hl => ?_, hnext⟩
    obtain ⟨hadm, hmodel⟩ := hdone hl
    have hrow : getRow (keepFound (aRow c.desc) c.found (getModel s (aModel c.desc))) (aRow c.desc) = _ := Laws.tget_tput_same _ _ _ _
    rw [hadm, hmodel, hrow]
    exact ⟨rfl, rfl, rfl, rfl, rfl, rfl⟩

/-- Settles O53: each command from its operation, followed to its end. -/
theorem admissionCommands : Obligations.AdmissionCommands := ⟨commandsOfAdmission, loadModelCommand⟩

end Sys2Proof.Proofs
